-- ==== Sys2Proof/Word.lean ====
section
/-! DEFINITION. The word types of the BK5120 (R5, R7): a register word is 16 bits, a sample word or a binary32 value
is 32 bits, and payloads are lists of bytes. -/

namespace Sys2Proof

/-- A register word or a window word (R5). -/
abbrev Word := BitVec 16

/-- One byte of a payload or of an NVM page. -/
abbrev Byte := BitVec 8

/-- A sample word, or the bits of a binary32 value (R5, R6). -/
abbrev DWord := BitVec 32

end Sys2Proof
end

