-- ==== Sys2Proof/Syntax.lean ====
section
/-! DEFINITION. The commands of the BK5120: one constructor of `Instr` per row of spec/opcode_table.json, in the
table's order. A command is a bus access of a master, a frame on a CAN port, an edge on a land, or an event that the
device's own sequencers reach; its operands are what comes from outside the device (values written, physical signals,
measurement means), and everything else is in the state. -/

namespace Sys2Proof

/-- The five masters of R418. -/
inductive Master where
  | host | mp | canA | canB | debug
deriving DecidableEq, Repr

/-- The signals at one facet's lands over one tick (R30, R53, R96). On a Z-facet `cm` is the DC level of ZSNS_m,
`sense` and `force` are the amplitudes at ZDRS_m and ZDRV_m, and `iw`, `qw` the latest clean tick or base-rate words. -/
structure Analog where
  /-- both input lands lie in −5.0 V to +10.0 V (R30, R70) -/
  inSpan : Bool := true
  /-- common mode averaged over the tick, µV (R55) -/
  cm : Int := 0
  /-- sensed excitation: µV at EXS_n (in current mode the load voltage), or µV peak at ZDRS_m -/
  sense : Int := 0
  /-- µV at EXF_n, or µV peak at ZDRV_m -/
  force : Int := 0
  /-- delivered current, nA -/
  cur : Int := 0
  /-- the driver is at its current limit (30 mA, or 40 mA peak on a Z drive) -/
  limit : Bool := false
  /-- the current driver is at its compliance (R38) -/
  comply : Bool := false
  /-- in-phase base-rate or tick word (Z-facets, R96 SNS_OPEN) -/
  iw : Int := 0
  /-- quadrature base-rate or tick word (Z-facets, R96 SNS_OPEN) -/
  qw : Int := 0
deriving DecidableEq, Repr

/-- What reaches the device's monitors with one tick boundary. -/
structure TickIn where
  /-- facets whose land signals changed, with the signals of the tick that ends -/
  lands : List (Fin 512 × Analog) := []
  /-- total delivered excitation current, mA (R52) -/
  railMa : Nat := 0
  /-- EXVDD, mV (R52) -/
  exvdd : Nat := 12000
  /-- difference of VREF_A and VREF_B, ppm (R400) -/
  refDiff : Int := 0
  /-- deviation of VREF_A from the coarse monitor, ppm (R401) -/
  devA : Nat := 0
  /-- deviation of VREF_B from the coarse monitor, ppm (R401) -/
  devB : Nat := 0
  /-- level of TRIG_IN at the boundary (R259) -/
  trigIn : Bool := false
deriving DecidableEq, Repr

/-- What one converter chain gives for one output. -/
inductive ChainIn where
  /-- the input as R34 reads it: the differential input in V (or the current amplitude in A on a Z chain), before the
  base-rate corrections, and whether a stage saturated or the overload detector fired in the output interval (R35) -/
  | level (v : Rat) (ovl : Bool)
  /-- the modulator bits up to the end of the output's window, oldest first (R123, R124): the whole chain is computed from
  them. Where a notch is enabled they go back to the last clear of the chain, or as far as its memory counts -/
  | bits (b : List Bool) (ovl : Bool)
deriving DecidableEq, Repr

/-- What arrives for one output sample of a facet (R134). -/
structure OutIn where
  /-- the B-facet's chain, or the I chain -/
  i : ChainIn := .level 0 false
  /-- the Q chain of a Z-facet -/
  q : ChainIn := .level 0 false
  /-- sensed excitation over the output interval: V (voltage mode), A (current mode), V peak (drive of a Z-facet), in the
  sign of the normal phase -/
  sense : Rat := 0
  /-- sensed excitation of the base-rate samples up to the end of the output's window, oldest first (R44); `sense` stands
  for the samples that the list does not reach -/
  senses : List Rat := []
deriving DecidableEq, Repr

/-- A frame on a CAN port (R298, R302). -/
structure Frame where
  /-- identifier, 29 bits, or 11 bits when `ide` is clear -/
  ident : BitVec 29 := 0
  /-- extended format -/
  ide : Bool := true
  /-- FD format -/
  fdf : Bool := true
  /-- bit rate switch -/
  brs : Bool := false
  /-- error state indicator -/
  esi : Bool := false
  /-- remote frame (classical only) -/
  rtr : Bool := false
  /-- data length code -/
  dlc : Nat := 0
  /-- data bytes -/
  data : List Byte := []
deriving DecidableEq, Repr

/-- How an attempt to send a frame ends without success (R305 to R309). -/
inductive BusError where
  | bitDom | bitRec | stuff | form | crcSeq | crcCount | ack
  /-- the res bit of an FD frame read recessive: a protocol exception or a form error (R279) -/
  | resBit
deriving DecidableEq, Repr

/-- What follows an error: the further increments of 8 (ISO 11898-1), and, where the attempt has got past the res bit of an FD
frame with BRS, the loop delay measured in it, in CANCLK periods (R292). -/
structure ErrTail where
  extra : Nat := 0
  delay : Option Nat := none
deriving DecidableEq, Repr

/-- A filter pair is enabled or disabled, so many ns after the last tick boundary (R300). -/
structure FilterSwitch where
  en : Bool
  ns : Nat := 0
deriving DecidableEq, Repr

/-- The means of the measurement that a calibration step or a path check delivers (R357 to R371, R394). All
values are in the unit of their procedure. -/
structure MeasIn where
  /-- the means, in the order of the procedure's row of R363 (range order for OFFSET and SELFTEST) -/
  vals : List Rat := []
  /-- the two half-means of a measurement differ by more than 0.01 % of FS (R358, NOISE) -/
  noisy : Bool := false
deriving DecidableEq, Repr

/-- A fault cause of R53, R96 and R397, in the bit order of R458. -/
inductive Cause where
  | cmwLo | cmwHi | excOpen | excShort | excDev | senseLost | cmr | overvolt | tone | snsOpen | path
deriving DecidableEq, Repr

/-- The supplies and grounds (R497). -/
inductive Supply where
  | dvdd | avdd5 | avdd18 | exvdd | iovdd | agnd | dgnd
deriving DecidableEq, Repr

/-- The failure classes of R489; SUPPLY with the supply whose level is the error's detail. -/
inductive FatalClass where
  | refclk | reference | sram | mpFail | supply (v : Supply) | boot | thermal
deriving DecidableEq, Repr

/-- A pulse on nRESET: for how many ns it is low, and whether REFCLK stayed present throughout (R470, R472, R512). -/
structure ResetPulse where
  lowNs : Nat
  refclk : Bool
deriving DecidableEq, Repr

/-- What the end of a reset finds on the lands: IOSEL, high when tied to IOVDD, and the supplies in mV (R503, R504). -/
structure ResetEnd where
  iosel : Bool
  dvdd : Nat
  avdd5 : Nat
  avdd18 : Nat
  iovdd : Nat
deriving DecidableEq, Repr

/-- A change of the quadrature inputs: one channel, PA_p or PB_p, takes a level, or both change at once (R188). -/
inductive QuadEdge where
  | edge (b : Bool) (level : Bool)
  | both (pa pb : Bool)
deriving DecidableEq, Repr

/-- A change of the quadrature inputs, how long the new levels last in ns (R187), and when, in ns after the last tick
boundary. -/
structure QuadIn where
  change : QuadEdge
  width : Nat
  ns : Nat
deriving DecidableEq, Repr

/-- An edge of PZ_p: its polarity, and how long the new level lasts in ns (R187). -/
structure MarkerIn where
  falling : Bool
  width : Nat
deriving DecidableEq, Repr

/-- A value of a B path, or of the I and the Q chain of a Z pair (R394). -/
structure IQ where
  i : Rat
  q : Rat := 0
deriving DecidableEq, Repr

/-- What tells against a controller of port A or B (R402): an error that it signals on a frame which completes on the bus with no
error frame and which port C receives as valid, or no progress of its protocol state for so many µs. -/
inductive CtrlFail where
  | falseError
  | stall (us : Nat)
deriving DecidableEq, Repr

/-- The head and arguments of an RREQ frame (R342). -/
structure Req where
  /-- STATION of the identifier -/
  station : BitVec 8 := 0
  /-- requester node, SUB bits 12:5 -/
  node : BitVec 8 := 0
  /-- tag, SUB bits 4:0 -/
  tag : BitVec 5 := 0
  /-- SPACE -/
  space : BitVec 8 := 0
  /-- COUNT -/
  count : Nat := 0
  /-- ADDR -/
  addr : BitVec 32 := 0
  /-- bytes 8 to 63 -/
  data : List Byte := []
  /-- ns after the last tick boundary at which the MP serves it -/
  ns : Nat := 0
deriving DecidableEq, Repr

/-- The commands, one constructor per row of spec/opcode_table.json. -/
inductive Instr where
  /-- TICK_BOUNDARY, R11 -/
  | tickBoundary (i : TickIn)
  /-- FRAME_BOUNDARY, R433: the fabric rate of the frame (transfers) and the CANCLK measurement (kHz, 0 when absent) -/
  | frameBoundary (fabric canclk : Nat)
  /-- MODE_CHANGE, R220 -/
  | modeChange
  /-- OUTPUT_FORMATION, R134 -/
  | outputFormation (f : Fin 512) (o : OutIn)
  /-- Z_SLOT_SWITCH, R81 -/
  | zSlotSwitch (f : Fin 512)
  /-- CYCLE_OUTPUT, R84: the sensed drive amplitude over the clean ticks of each slot, V -/
  | cycleOutput (f : Fin 512) (sense : List Rat)
  /-- BEAD_CLOSE, R245 -/
  | beadClose (p : Fin 4) (rev idx : Nat)
  /-- BEAD_LATE_OPEN, R230 -/
  | beadLateOpen (p : Fin 4)
  /-- ACQ_OUTPUT_LOST, R438 -/
  | acqOutputLost (f : Fin 512)
  /-- GAP_RECORD, R277 -/
  | gapRecord
  /-- GAP_HELD_RECORD_QUEUE, R277 -/
  | gapHeldRecordQueue (p : Fin 2)
  /-- POWER_ON_RESET, R470 -/
  | powerOnReset
  /-- WARM_RESET, R470: a pulse on nRESET (R512) -/
  | warmReset (refclk : ResetPulse)
  /-- RESET_KEY, R470 -/
  | resetKey (m : Master) (v : Word) (refclk : Bool)
  /-- BOOT_SEQUENCE, R473: rows that failed the SRAM test, factory trim good, patch area good, IOSEL and the supplies (R503,
  R504) -/
  | bootSequence (badRows : List Nat) (trimOk patchOk : Bool) (iosel : ResetEnd)
  /-- PROFILE_LOAD, R478 -/
  | profileLoad
  /-- PROFILE_FALLBACK_LOAD, R478 -/
  | profileFallbackLoad
  /-- REFERENCES_SETTLED, R473 -/
  | referencesSettled
  /-- ACQUISITION_START, R475 -/
  | acquisitionStart
  /-- FATAL_ERROR, R490 -/
  | fatalError (c : FatalClass) (detail : BitVec 32)
  /-- LOUPE_DUMP_COMPLETE, R490: written by the hardware sequencer (R491), the failure lies in the loupe unit (R491) -/
  | loupeDumpComplete (hwSeq inLoupe : Bool)
  /-- FATAL_HBEAT, R490 -/
  | fatalHbeat
  /-- LOUPE_RELEASE, R493 -/
  | loupeRelease (m : Master)
  /-- DBG_LOCK, R431 -/
  | dbgLock (m : Master)
  /-- PROF_SAVE, R480 -/
  | profSave (m : Master)
  /-- PROFILE_SAVE_DONE, R480: the bank read back intact -/
  | profileSaveDone (ok : Bool)
  /-- HOST_ALIVE, R483 -/
  | hostAlive (m : Master) (v : Word)
  /-- HOST_WDT_WRITE, R483 -/
  | hostWdtWrite (m : Master) (v : Word)
  /-- WATCHDOG_EXPIRY, R483 -/
  | watchdogExpiry
  /-- STANDALONE_SERVICE_BEGIN, R484 -/
  | standaloneServiceBegin
  /-- SVC_RELEASE, R487 -/
  | svcRelease (m : Master)
  /-- STANDALONE_SERVICE_END, R487 -/
  | standaloneServiceEnd
  /-- REGISTER_WRITE, R8: a write cycle of a master to a register word -/
  | registerWrite (m : Master) (off : BitVec 7) (v : Word)
  /-- RC_READ, R8: a read cycle of a register word -/
  | rcRead (m : Master) (off : BitVec 7)
  /-- LATCHED_GROUP_READ, R9: a read cycle of a register word, `ns` after the last tick boundary -/
  | latchedGroupRead (m : Master) (off : BitVec 7) (ns : Nat)
  /-- FCT_FAULT_NEXT_READ, R58 -/
  | fctFaultNextRead (m : Master)
  /-- WIN_DATA_READ, R413 -/
  | winDataRead (m : Master)
  /-- WIN_DATA_WRITE, R413 -/
  | winDataWrite (m : Master) (v : Word)
  /-- STREAM_QUEUE_READ, R275 -/
  | streamQueueRead (m : Master)
  /-- CYCLE_CUT_SHORT, R412 -/
  | cycleCutShort (m : Master) (off : BitVec 7)
  /-- DOUBLE_STROBE_CYCLE, R412 -/
  | doubleStrobeCycle
  /-- CLASP_BEGIN, R419 -/
  | claspBegin (m : Master)
  /-- CLASP_COMMIT, R422 -/
  | claspCommit (m : Master)
  /-- CLASP_APPLY, R422 -/
  | claspApply (m : Master)
  /-- CLASP_ROLLBACK, R424 -/
  | claspRollback (m : Master)
  /-- CLASP_TIMEOUT, R424 -/
  | claspTimeout (m : Master)
  /-- FCT_APPLY_GO, R46 -/
  | fctApplyGo (m : Master) (needSpare : Bool)
  /-- FCT_APPLY_ALL, R46 -/
  | fctApplyAll (m : Master) (needSpare : Bool)
  /-- APPLY_EFFECT, R49 -/
  | applyEffect
  /-- RANGE_CHANGE_SWAP, R61 -/
  | rangeChangeSwap (f : Fin 512)
  /-- RANGE_CHANGE_SWAP_BACK, R61 -/
  | rangeChangeSwapBack (f : Fin 512)
  /-- FCT_READ_GO, R59 -/
  | fctReadGo (m : Master) (f : Fin 512) (kind : BitVec 3)
  /-- FCT_READ_READY, R59 -/
  | fctReadReady
  /-- PROTECTION_ISOLATION, R30 -/
  | protectionIsolation (f : Fin 512)
  /-- ISOLATION_END, R30 -/
  | isolationEnd (f : Fin 512)
  /-- FAULT_ENTER, R53 -/
  | faultEnter (f : Fin 512) (c : Cause)
  /-- FAULT_LEAVE, R53 -/
  | faultLeave (f : Fin 512) (c : Cause)
  /-- ALARM_WINDOW_END, R327 -/
  | alarmWindowEnd (f : Fin 512)
  /-- EXC_RAIL_OVER, R52 -/
  | excRailOver
  /-- EXC_RAIL_OVER_CLEAR, R448 -/
  | excRailOverClear
  /-- EXC_RAIL_FOLD, R52 -/
  | excRailFold
  /-- EXC_HEADROOM, R52 -/
  | excHeadroom
  /-- TONE_LOCK_LOSS, R75 -/
  | toneLockLoss
  /-- TONE_LOCK_RETURN, R75 -/
  | toneLockReturn
  /-- Z_DRIVES_RESUME, R75 -/
  | zDrivesResume
  /-- ODEC_WRITE, R125 -/
  | odecWrite (m : Master) (code : BitVec 4) (scope : BitVec 2)
  /-- BANK_SEL_GO, R139 -/
  | bankSelGo (m : Master) (target atSync : Bool)
  /-- FADE_START, R140 -/
  | fadeStart
  /-- FADE_END, R142 -/
  | fadeEnd
  /-- SYNC_RESET, R147 -/
  | syncReset
  /-- SYNC_NOW, R179 -/
  | syncNow (m : Master)
  /-- SYNC_ARM, R180 -/
  | syncArm (m : Master)
  /-- SYNC_CANCEL, R180 -/
  | syncCancel (m : Master)
  /-- SYNC_LAND_EDGE, R181: polarity, width in ns, ns after the last tick boundary -/
  | syncLandEdge (falling : Bool) (width ns : Nat)
  /-- PPS_EDGE, R163: polarity, width in ns, ns after the last tick boundary -/
  | ppsEdge (falling : Bool) (width ns : Nat)
  /-- PPS_LOST, R163 -/
  | ppsLost
  /-- REF_FRAME_RECEIVE, R167: the REF frame, its start-of-frame instant, and the instant at which it is valid and its
  pair is measured (R160, R302), in ns of the local count -/
  | refFrameReceive (p : Fin 3) (fr : Frame) (ns valid : Nat)
  /-- REF_SEND, R171: the start-of-frame instant of the last REF frame sent on the port is in the state -/
  | refSend (p : Fin 2)
  /-- REF_PERIOD_MISSED, R171 -/
  | refPeriodMissed (p : Fin 3)
  /-- REF_SENDER_START, R172 -/
  | refSenderStart (p : Fin 2)
  /-- FREE_ENTRY, R161 -/
  | freeEntry
  /-- TIMEBASE_CONTINUATION, R160 -/
  | timebaseContinuation
  /-- TIME_STEP, R176 -/
  | timeStep
  /-- QUADRATURE_EDGE, R188 -/
  | quadratureEdge (p : Fin 4) (e : QuadIn)
  /-- MARKER_PULSE, R199 -/
  | markerPulse (p : Fin 4) (x : MarkerIn)
  /-- MARKER_MISSED, R203 -/
  | markerMissed (p : Fin 4)
  /-- POS_CFG_APPLY, R195 -/
  | posCfgApply (m : Master) (cfg : BitVec 5)
  /-- PORT_ACTIVATION, R195 -/
  | portActivation (p : Fin 4)
  /-- POS_REV_WRITE, R211 -/
  | posRevWrite (m : Master) (v : Word)
  /-- BEAD_PORTS_WRITE, R229 -/
  | beadPortsWrite (m : Master) (ports : BitVec 4) (pub : Bool)
  /-- TARE_GO, R237 -/
  | tareGo (m : Master) (p : BitVec 2) (revs : BitVec 3) (tol : BitVec 2)
  /-- TARE_ABORT, R237 -/
  | tareAbort (m : Master)
  /-- TARE_LEARN_START, R237 -/
  | tareLearnStart
  /-- TARE_RUN_END, R238 -/
  | tareRunEnd
  /-- PB_TARE_LOAD, R462 -/
  | pbTareLoad (m : Master) (p : Fin 4)
  /-- TARE_LOAD_ACTIVATION, R462 -/
  | tareLoadActivation (p : Fin 4)
  /-- TRG_ENABLE, R258 -/
  | trgEnable (m : Master)
  /-- TRG_FORCE, R261 -/
  | trgForce (m : Master)
  /-- TRIG_IN_EDGE, R259: polarity and width in ns -/
  | trigInEdge (falling : Bool) (width : Nat)
  /-- AUTO_TRIGGER, R262 -/
  | autoTrigger
  /-- CAP_ARM, R264 -/
  | capArm (m : Master)
  /-- FILL_START, R264 -/
  | fillStart
  /-- CAPTURE_HOLD, R267 -/
  | captureHold
  /-- CAP_RELEASE, R267 -/
  | capRelease (m : Master)
  /-- CAP_ABORT, R272 -/
  | capAbort (m : Master)
  /-- LINE_DRAIN, R270 -/
  | lineDrain
  /-- MEM_PART_GO, R256 -/
  | memPartGo (m : Master) (capt : BitVec 7)
  /-- PARTITION_EFFECT, R257 -/
  | partitionEffect
  /-- HS_ENABLE_WRITE, R275 -/
  | hsEnableWrite (m : Master) (en rearm can : Bool)
  /-- HOST_STREAM_START, R275 -/
  | hostStreamStart
  /-- HOST_STREAM_END, R275 -/
  | hostStreamEnd
  /-- TICK_PACKET, R275 -/
  | tickPacket
  /-- CAN_INIT_SET, R285 -/
  | canInitSet (m : Master)
  /-- CAN_INIT_CLEAR, R285 -/
  | canInitClear (m : Master)
  /-- CAN_MODE_WRITE, R286 -/
  | canModeWrite (m : Master) (mode : BitVec 3)
  /-- CAN_MODE_EFFECT, R286 -/
  | canModeEffect (p : Fin 3)
  /-- CAN_RECOVER, R307 -/
  | canRecover (m : Master)
  /-- BUS_INTEGRATION_DONE, R285 -/
  | busIntegrationDone (p : Fin 3)
  /-- CAN_FRAME_START, R295: the start-of-frame instant in ns of the local count -/
  | canFrameStart (p : Fin 3) (ns : Nat)
  /-- FRAME_TRANSMITTED, R294: the loop delay measured in CANCLK periods (R292) -/
  | frameTransmitted (p : Fin 3) (tdc : Nat)
  /-- FRAME_RECEIVED, R302: the start-of-frame instant in ns of the local count -/
  | frameReceived (p : Fin 3) (fr : Frame) (ns : Nat)
  /-- BUS_ERROR, R305: the error, its phase and direction; `excused`: ISO 11898-1 excuses it from the first increment;
  `x`: what follows it -/
  | busError (p : Fin 3) (e : BusError) (dataPhase tx excused : Bool) (x : ErrTail)
  /-- BUS_OFF_RECOVERY_DONE, R307 -/
  | busOffRecoveryDone (p : Fin 3)
  /-- LONE_PACED_ATTEMPT, R310 -/
  | lonePacedAttempt (p : Fin 3) (ns : Nat)
  /-- DEFERRED_FAILOVER, R313 -/
  | deferredFailover
  /-- FAILOVER_RETURN, R314 -/
  | failoverReturn
  /-- FAILOVER_HOME, R314 -/
  | failoverHome (m : Master)
  /-- FAILOVER_DISABLE, R521 -/
  | failoverDisable (m : Master)
  /-- CANCLK_LOSS, R283 -/
  | canclkLoss
  /-- CANCLK_RETURN, R283 -/
  | canclkReturn (khz : Nat)
  /-- TXREQ, R296 -/
  | txreq (m : Master) (req : BitVec 8)
  /-- TXREQ_ABORT, R296 -/
  | txreqAbort (m : Master) (ab : BitVec 8)
  /-- RXQ_POP, R304 -/
  | rxqPop (m : Master) (q : Fin 2)
  /-- FILTER_ENABLE, R300 -/
  | filterEnable (m : Master) (idx : BitVec 5) (sw : FilterSwitch)
  /-- EGRESS_STAGING, R274 -/
  | egressStaging
  /-- EGRESS_MAILBOX_LOAD, R294 -/
  | egressMailboxLoad (p : Fin 2)
  /-- PORT_C_SHADOW_SWITCH, R402 -/
  | portCShadowSwitch
  /-- CONTROLLER_FAILURE, R402 -/
  | controllerFailure (p : Fin 2) (x : CtrlFail)
  /-- HBEAT_SEND, R336 -/
  | hbeatSend
  /-- RREQ_OPEN, R345 -/
  | rreqOpen (p : Fin 2) (r : Req)
  /-- RREQ_CLOSE, R345 -/
  | rreqClose (p : Fin 2) (r : Req)
  /-- RREQ_KEEP, R343 -/
  | rreqKeep (p : Fin 2) (r : Req)
  /-- RREQ_SET_KEY, R345 -/
  | rreqSetKey (p : Fin 2) (r : Req)
  /-- RREQ_REG_READ, R343 -/
  | rreqRegRead (p : Fin 2) (r : Req)
  /-- RREQ_REG_WRITE, R343 -/
  | rreqRegWrite (p : Fin 2) (r : Req)
  /-- RREQ_WIN_READ, R343 -/
  | rreqWinRead (p : Fin 2) (r : Req)
  /-- RREQ_WIN_WRITE, R343 -/
  | rreqWinWrite (p : Fin 2) (r : Req)
  /-- RREQ_CLASP_BEGIN, R343 -/
  | rreqClaspBegin (p : Fin 2) (r : Req)
  /-- RREQ_CLASP_COMMIT, R343 -/
  | rreqClaspCommit (p : Fin 2) (r : Req)
  /-- RREQ_CLASP_ROLLBACK, R343 -/
  | rreqClaspRollback (p : Fin 2) (r : Req)
  /-- RREQ_FACET_READ, R343 -/
  | rreqFacetRead (p : Fin 2) (r : Req)
  /-- RREQ_UNKNOWN_OP, R343 -/
  | rreqUnknownOp (p : Fin 2) (op : BitVec 8) (r : Req)
  /-- SESSION_TIMEOUT, R345 -/
  | sessionTimeout (p : Fin 2)
  /-- OPEN_LOCK_EXPIRY, R345 -/
  | openLockExpiry (p : Fin 2)
  /-- CAL_GO, R355: the fields of CAL_CTL written with GO -/
  | calGo (m : Master) (proc : BitVec 4) (scope allowGap sysOnly : Bool)
  /-- CAL_NEXT, R366 -/
  | calNext (m : Master)
  /-- CAL_ABORT, R356 -/
  | calAbort (m : Master)
  /-- CAL_RUN_START, R359 -/
  | calRunStart
  /-- CAL_STANDIN_SWAP, R359 -/
  | calStandinSwap
  /-- CAL_MEASUREMENT_DONE, R359 -/
  | calMeasurementDone (x : MeasIn)
  /-- CAL_RESULT_APPLY, R376 -/
  | calResultApply
  /-- CAL_SWAP_BACK, R359 -/
  | calSwapBack
  /-- REF_SCALE_STEP, R364 -/
  | refScaleStep
  /-- Z_CELL_WAIT_TIMEOUT, R367 -/
  | zCellWaitTimeout
  /-- BELT_CAL_REVOLUTION_END, R369 -/
  | beltCalRevolutionEnd
  /-- RESTORE_APPLY, R384 -/
  | restoreApply
  /-- SPARE_PIN, R390 -/
  | sparePin
  /-- SPARE_UNPIN, R390 -/
  | spareUnpin
  /-- SPARE_SUBSTITUTE, R398 -/
  | spareSubstitute
  /-- SPARE_RELEASE, R399 -/
  | spareRelease
  /-- SPARE_CHECK, R393 -/
  | spareCheck
  /-- SPARE_REF_SWITCH, R401 -/
  | spareRefSwitch
  /-- SPARE_FORBID, R403 -/
  | spareForbid
  /-- SPARE_ALLOW, R403 -/
  | spareAllow
  /-- BACKGROUND_CHECK_START, R392: SB paths, or SZ pairs -/
  | backgroundCheckStart (z : Bool)
  /-- SHADOW_DECISION, R394: the two means and the rms of the difference, as shares of FS -/
  | shadowDecision (z : Bool) (own spare rms : IQ)
  /-- REFEREE_DECISION, R395: the SELFTEST measurements of the path under test at the active range -/
  | refereeDecision (z : Bool) (offs gain : IQ)
  /-- DRIVER_CHECK_RESULT, R396: of the check of a facet's driver by a spare driver -/
  | driverCheckResult (f : Fin 512) (spare : Fin 8)
  /-- REFERENCE_FAILURE, R401 -/
  | referenceFailure (b : Bool)
  /-- REFERENCE_WARNING, R400 -/
  | referenceWarning
  /-- SRAM_SCRUB, R404: rows in which a word was corrected, uncorrectable byte address -/
  | sramScrub (rows : List Nat) (bad : Option Nat)
  /-- UC_CTL_ACT, R117 -/
  | ucCtlAct (m : Master) (c : Fin 16)
  /-- USER_CURVE_ACTIVATION, R117 -/
  | userCurveActivation (c : Fin 16)
  /-- BUDGET_SET_WRITE, R435 -/
  | budgetSetWrite (m : Master) (v : Word)
  /-- NVM_PAGE_PROGRAMMED, R466 -/
  | nvmPageProgrammed
  /-- SHED_JUDGEMENT, R440: the MP load of the last 100 frames, % -/
  | shedJudgement (load : Fin 101)
  /-- EXC_FOLD_CLEAR, R448 -/
  | excFoldClear
  /-- EXC_HEADROOM_CLEAR, R52 -/
  | excHeadroomClear
  /-- EXTEST_SELECTED, R431: EXTEST selected or left on the IEEE 1149.1 port -/
  | extestSelected (sel : Bool)
deriving DecidableEq, Repr

end Sys2Proof
end

