-- ==== Sys2Proof/Decode.lean ====
section
/-! DEFINITION. The commands that words spell. The table gives no row any bits: a command of the BK5120 is an access or
an event, and no word of any kind stands for one. -/

namespace Sys2Proof

/-- No word spells a command: every row of spec/opcode_table.json has an empty list of fields. -/
def decodeTableWord (_nbits _w : Nat) : Option Instr := none

end Sys2Proof
end

