-- ==== Sys2Proof/Machine/Lands.lean ====
section
/-! DEFINITION. The land array of the package, the levels of the supplies, and the junction temperature (chapter 17). Nothing
here has state: a land's function never changes, and a supply's level is an input of the device. -/

namespace Sys2Proof.Machine

open Sys2Proof

/-! ## The array (R496) -/

/-- The nineteen letters of the row names, in order (R496). -/
def rowLetters : List Char :=
  ['A', 'B', 'C', 'D', 'E', 'F', 'G', 'H', 'J', 'K', 'L', 'M', 'N', 'P', 'T', 'U', 'V', 'W', 'Y']

/-- The name of row index `i`, from 0 at row A to 56 at row BY; none beyond. -/
def rowName (i : Nat) : Option (List Char) :=
  let c := rowLetters.getD (i % 19) 'A'
  match i / 19 with
  | 0 => some [c]
  | 1 => some ['A', c]
  | 2 => some ['B', c]
  | _ => none

/-- The row index of a name. -/
def rowIndex (name : List Char) : Option Nat := (List.range 57).find? fun i => rowName i == some name

/-! ## The groups (R497) -/

/-- What a land is, by the groups of R497. -/
inductive Land where
  | inp (n : Nat) | inn (n : Nat) | exs (n : Nat) | exf (n : Nat)
  | exret (g : Nat)
  | zdrv (m : Nat) | zdrs (m : Nat) | zgrd (m : Nat) | zsns (m : Nat)
  | calP | calN | calR | calRt
  | refclk | canclk | pps | sync | trigIn
  | pa (p : Nat) | pb (p : Nat) | pz (p : Nat)
  | tx (p : Nat) | rx (p : Nat)
  | addr (i : Nat) | data (i : Nat) | nCs | nRd | nWr | nAck | nIrq | nAlert
  | nReset | ioSel
  | tck | tms | tdi | tdo | trstn
  | tdp | tdn
  | power (s : Supply)
deriving DecidableEq, Repr

/-- The return group of a B-facet (R27). -/
def exretOf (n : Nat) : Nat := n / 8

/-- The lands of row BW (R500). -/
def landBW (c : Nat) : Land :=
  if c ∈ [1, 18, 34, 40, 43, 52, 55, 57] then .power .dgnd
  else if c ∈ [9, 27, 37, 46, 56] then .power .iovdd
  else if c ≤ 8 then .addr (c - 1)
  else if c ≤ 17 then .data (c - 10)
  else if c ≤ 26 then .data (c - 11)
  else ([.nCs, .nRd, .nWr, .nAck, .nIrq, .nAlert, .power .dgnd, .nReset, .ioSel, .power .iovdd, .tx 0, .rx 0, .power .dgnd,
    .tx 1, .rx 1, .power .dgnd, .tx 2, .rx 2, .power .iovdd, .tck, .tms, .tdi, .tdo, .trstn, .power .dgnd, .tdp, .tdn] :
    List Land).getD (c - 28) (.power .dgnd)

/-- The lands of row BY (R500). -/
def landBY (c : Nat) : Land :=
  if c ≤ 10 then
    if c % 2 = 1 then .power .dgnd
    else ([.refclk, .canclk, .pps, .sync, .trigIn] : List Land).getD (c / 2 - 1) (.power .dgnd)
  else if c = 11 then .power .iovdd
  else if c ≤ 31 then
    let p := (c - 12) / 5
    match (c - 12) % 5 with
    | 0 => .pa p | 1 => .pb p | 2 => .pz p | 3 => .power .iovdd | _ => .power .dgnd
  else if c = 57 then .power .iovdd
  else if c % 2 = 0 then .power .iovdd else .power .dgnd

/-- The land at row index `i` and column `c`, from 1 to 57 (R498 to R500). -/
def landAt (i c : Nat) : Land :=
  if i < 32 then
    let n := 14 * i + (c - 1) / 4
    if 57 ≤ c then .power .agnd
    else match (c - 1) % 4 with
      | 0 => .inp n | 1 => .inn n | 2 => .exs n | _ => .exf n
  else if i < 38 then
    let m := 11 * (i - 32) + (c - 1) / 5
    if 56 ≤ c ∨ 64 ≤ m then .power .agnd
    else match (c - 1) % 5 with
      | 0 => .zdrv m | 1 => .zdrs m | 2 => .zgrd m | 3 => .zsns m | _ => .power .agnd
  else match i with
    | 38 => if c ≤ 56 then .exret (c - 1) else .power .agnd                                   -- BA
    | 39 => if c ≤ 48 then .power .exvdd else .power .agnd                                    -- BB
    | 40 => if c ≤ 48 then .power .avdd5 else .power .agnd                                    -- BC
    | 41 => if c ≤ 48 then .power .avdd5 else .power .agnd                                    -- BD
    | 42 => .power .avdd18                                                                    -- BE
    | 43 => if c ≤ 7 then .power .avdd18 else .power .agnd                                    -- BF
    | 44 => .power .agnd | 45 => .power .agnd | 46 => .power .agnd                            -- BG, BH, BJ
    | 47 => ([.calP, .calN, .calR, .calRt] : List Land).getD (c - 1) (.power .agnd)           -- BK
    | 48 => if c ≤ 40 then .power .dvdd else .power .dgnd                                     -- BL
    | 49 => .power .dgnd                                                                      -- BM
    | 50 => if c ≤ 40 then .power .dvdd else .power .dgnd                                     -- BN
    | 51 => .power .dgnd                                                                      -- BP
    | 52 => if c ≤ 40 then .power .dvdd else .power .dgnd                                     -- BT
    | 53 => .power .dgnd                                                                      -- BU
    | 54 => if c ≤ 40 then .power .dvdd else .power .dgnd                                     -- BV
    | 55 => landBW c
    | _ => landBY c

/-- Row index and column of the land INP_n of B-facet `n`; INN_n, EXS_n and EXF_n lie in the next three columns (R498). -/
def facetPlace (n : Nat) : Nat × Nat := (n / 14, 4 * (n % 14) + 1)

/-- Row index and column of ZDRV_m of Z-facet `m`; ZDRS_m, ZGRD_m and ZSNS_m lie in the next three columns (R499). -/
def cellPlace (m : Nat) : Nat × Nat := (32 + m / 11, 5 * (m % 11) + 1)

/-- Lands of the array whose function satisfies `p`. -/
def countLands (p : Land → Bool) : Nat :=
  ((List.range 57).map fun i => ((List.range 57).filter fun c => p (landAt i (c + 1))).length).foldl (· + ·) 0

/-! ## The supplies (R502 to R505) -/

/-- What the level of a supply does to the device. -/
inductive SupplyEffect where
  | reset      -- below the power-on threshold: the power-on reset acts
  | fatal      -- outside the operating range for 1 ms: a fatal error of class SUPPLY (R489)
  | runs       -- the device runs, with its characteristics guaranteed or not
deriving DecidableEq, Repr

/-- Falling power-on threshold and rising release level of a supply, mV; `high` is IOSEL tied to IOVDD (R503, R504). -/
def thresholds (s : Supply) (high : Bool) : Option (Nat × Nat) :=
  match s with
  | .dvdd => some (620, 660)
  | .avdd5 => some (4300, 4500)
  | .avdd18 => some (1500, 1620)
  | .iovdd => if high then some (2700, 2950) else some (1450, 1600)
  | _ => none

/-- Operating range of a supply, mV (R502). -/
def operatingRange (s : Supply) (high : Bool) : Nat × Nat :=
  match s with
  | .dvdd => (720, 880)
  | .avdd5 => (4750, 5250)
  | .avdd18 => (1710, 1890)
  | .exvdd => (6000, 12000)
  | .iovdd => if high then (3135, 3465) else (1710, 1890)
  | _ => (0, 0)

/-- What a supply that stays at `mv` mV for 1 ms does; `held` while the power-on reset acts, which the supply then ends only above
its release level (R504, R505). -/
def supplyEffect (s : Supply) (high held : Bool) (mv : Nat) : SupplyEffect :=
  match thresholds s high with
  | none => .runs
  | some (por, rel) =>
    let (lo, hi) := operatingRange s high
    if mv < por ∨ (held = true ∧ mv ≤ rel) then .reset
    else match s with
      | .avdd5 => if mv < lo ∨ hi < mv then .fatal else .runs
      | .avdd18 => if mv < lo ∨ hi < mv then .fatal else .runs
      | _ => .runs

/-- The power-on reset does not act: no supply is below its threshold, nor, where it has acted, at or below its release level
(R504). -/
def resetReleased (held : Bool) (e : ResetEnd) : Bool :=
  [(Supply.dvdd, e.dvdd), (.avdd5, e.avdd5), (.avdd18, e.avdd18), (.iovdd, e.iovdd)].all fun (v, mv) =>
    supplyEffect v e.iosel held mv != .reset

/-- V_IH minimum and V_IL maximum of the digital inputs, mV, at IOVDD in mV (R503, R510). -/
def inputLevels (high : Bool) (iovdd : Nat) : Rat × Rat :=
  if high then (2000, 800) else (7 / 10 * iovdd, 3 / 10 * iovdd)

/-! ## Power and temperature (R516) -/

/-- The loss of one excitation driver, W: (EXVDD − |V_EXF|) × I, in V and A. -/
def driverLoss (exvdd vexf i : Rat) : Rat := (exvdd - |vexf|) * i

/-- The power dissipated in the module, W. -/
def modulePower (ps : Rat) (drivers : List (Rat × Rat)) (exvdd pz : Rat) : Rat :=
  ps + (drivers.foldl (fun a d => a + driverLoss exvdd d.1 d.2) 0) + pz

/-- Junction temperature from ambient, °C, with θ_JC = 0.08 K/W. -/
def junctionTemp (ta p thetaCs thetaSa : Rat) : Rat := ta + p * (8 / 100 + thetaCs + thetaSa)

end Sys2Proof.Machine
end

