-- ==== Sys2Proof/Config.lean ====
section
/-! DEFINITION. What an implementation fixes and the spec leaves open: constants with no body, so that no proof can
see a value of theirs (log 10 to 15). -/

namespace Sys2Proof.Config

/-- `DEV_REV`, set at manufacture (R446; log 10). -/
opaque devRev : Word

/-- `FW_VER` of the ROM firmware, and of the ROM with patches (R446, R474; log 10). -/
opaque fwRom : Word
opaque fwPatched : Word

/-- The device serial of factory trim (R380; log 10). -/
opaque serial : BitVec 64

/-- Words of the factory-trim pages of the NVM (R465; log 10). -/
opaque trimWord : Nat → Word

/-- Words of the firmware patch area of the NVM (R465; log 10). -/
opaque patchWord : Nat → Word

/-- Words of the reserved part of the calibration image's factory values (R384, R482; log 11). -/
opaque factoryImage : Nat → Word

/-- Coefficients that default sets of both banks may hold, by index in a bank: a set of them that has the properties of R138
is the default set (log 12). -/
opaque defCoef : Nat → BitVec 24

/-- The content of an SRAM word that nothing has written since power-on (log 15). -/
opaque sram : Nat → DWord

/-- The receive error counter above 119 that ISO 11898-1 lets a controller take after a reception in error passive, by
draw (R305; log 25). -/
opaque recAfter : Nat → Fin 9

/-- A word of an NVM page whose programming a reset has cut off, or that the page buffer did not hold when its last
word was written, by draw (R466; log 30). -/
opaque nvmFill : Nat → Word

/-- Words of the loupe dump that report what no command brings to the model: the MP's registers and stack, DVDD and Tj,
by dump and word (R494; log 32). -/
opaque loupeWord : Nat → Nat → Word

/-- Whether an nRESET pulse of 1 µs or more, but less than 10 µs, resets the device, by draw (R470, R512; log 241). -/
opaque shortReset : Nat → Bool

/-- `UC_STAT.ERR` when the check of R117 refuses a staged table for a reserved encoding of `UC_CTL`, by draw (R10, R117;
log 31). -/
opaque ucErr : Nat → BitVec 2

end Sys2Proof.Config
end

