-- ==== Sys2Proof/Machine/State.lean ====
section
/-! DEFINITION. The whole state of the BK5120 as plain data, the reasons a step can stop, and the state after reset.
Tables are lists of (key, value) pairs in one canonical form (`Store`); a register that software reads or writes whole
is a `Word`; ticks, counts and sequence numbers are `Nat`; physical quantities that the spec keeps to more than a
register's precision are exact rationals. The default of a field is its value after reset. -/

namespace Sys2Proof.Machine

open Sys2Proof

/-- A sparse table: keys strictly rising, and no entry equal to what an unlisted key reads as. -/
abbrev Store (α : Type) := List (Nat × α)

/-- Sparse memory of 16-bit words by word address. -/
abbrev Mem16 := Store Word

/-- Sparse memory of 32-bit sample words by index. -/
abbrev Mem32 := Store DWord

/-! ## Masters, clasps -/

/-- The resolved target of a staged or direct write (R420). -/
inductive Target where
  /-- a register word, with the selector that applies (port, activity or facet; 0 where none does) -/
  | reg (off sel : Nat)
  /-- a window word; `port` is the CAN port of space 0xA -/
  | win (space addr port : Nat)
deriving DecidableEq, Repr

/-- One staged write of a clasp (R420). -/
structure StagedWrite where
  tgt : Target
  val : Word
deriving DecidableEq, Repr

/-- The units of the conflict rule R423. -/
inductive CUnit where
  | reg (off sel : Nat) | facet (n : Nat) | portBlock (p : Nat) | tare (p : Nat) | bank (b : Nat)
  | corr (k : Nat) | refScale (r : Nat) | restoreArea | curve (c : Nat) | trgTable | canSpace (p : Nat)
  | bezel (t : Nat) | nvmPage (n : Nat)
deriving DecidableEq, Repr

/-- The last commit that took effect on a unit by one master (R423). -/
structure CommitRec where
  unit : CUnit
  master : Master
  stamp : Nat
deriving DecidableEq, Repr

/-- A clasp of one master (R418 to R425). -/
structure Clasp where
  /-- CLASP_STAT.OPEN: from BEGIN until commit or roll-back -/
  isOpen : Bool := false
  /-- CLASP_STAT.PEND: from an accepted commit until its frame boundary -/
  pend : Bool := false
  /-- CLASP_STAT.FULL -/
  full : Bool := false
  /-- staged writes in staging order -/
  writes : List StagedWrite := []
  /-- CLASP_STAT.RESULT, R425 -/
  result : Nat := 0
  /-- CLASP_FAIL -/
  fail : Nat := 0
  /-- tick of BEGIN (R424) -/
  beginTick : Nat := 0
  /-- order stamp of BEGIN's acceptance (R423) -/
  beginStamp : Nat := 0
  /-- order stamp of the commit's acceptance (R19) -/
  acceptStamp : Nat := 0
deriving DecidableEq, Repr

/-- What each master holds of its own (R346, R518, R58). -/
structure MasterSt where
  /-- FCT_SEL.FACET -/
  fctSel : Nat := 0
  /-- POS_SEL.PORT -/
  posSel : Nat := 0
  /-- BUDGET_SEL.ACT -/
  budgetSel : Nat := 0
  /-- BUDGET_SEL.CAUSE -/
  budgetCause : Nat := 0
  /-- CAN_SEL.PORT -/
  canSel : Nat := 0
  /-- TRG_SEQ_SEL: 16 × STATE + WORD -/
  trgSel : Nat := 0
  /-- WIN_SPACE.SPACE -/
  winSpace : Nat := 0
  /-- WIN_SPACE.ERR -/
  winErr : Bool := false
  /-- WIN_SPACE.STALL -/
  winStall : Bool := false
  /-- WIN_ADDR_W1:WIN_ADDR_W0 -/
  winAddr : Nat := 0
  /-- WIN_ADDR_W0 as written, until WIN_ADDR_W1 is written (R9) -/
  winLo : Word := 0
  /-- the captured TIME_W0 to TIME_W3 (R9, R157) -/
  latchTime : Nat := 0
  /-- the captured POS_COORD_W0, POS_COORD_W1, POS_SPEED, POS_REV (R193) -/
  latchPos : List Word := [0, 0, 0, 0]
  /-- the captured CAL_LAST_W1:CAL_LAST_W0 (R455) -/
  latchCal : Nat := 0
  /-- the facet last returned by FCT_FAULT_NEXT, none before the first and after END (R58) -/
  faultPos : Option Nat := none
  /-- the window word last charged to the HOST budget: space and 64-bit word (R415) -/
  lastCharged : Option (Nat × Nat) := none
  /-- the word that the last read of this master returned (D[15:0] at the fall of nACK, R410) -/
  rdata : Word := 0
  clasp : Clasp := {}
deriving DecidableEq, Repr

/-! ## Facets -/

/-- The path or driver that serves (R61, R398): the facet's own, or a spare by number. -/
abbrev PathId := Option Nat

/-- A fade from bank to bank (R140 to R142). -/
structure Fade where
  start : Nat
  source : Nat
  target : Nat
  len : Nat
  /-- coefficient writes up to its start: the coefficients that it blends (R137) -/
  gen : Nat := 0
deriving DecidableEq, Repr

/-- An output whose aperture has passed and that is not formed yet (R134, R146). -/
structure PendOut where
  aperture : Nat
  /-- N_out at its aperture -/
  nout : Nat
  /-- its formation tick (R134) -/
  formTick : Nat
  settle : Bool := false
  spare : Bool := false
  excrev : Bool := false
  /-- range code of B-facets, sense range of the active slot of Z-facets, at which the words are taken (R88) -/
  range : Nat := 0
  /-- the path whose corrections apply (R352) -/
  path : PathId := none
  /-- fade position j of R141 at this output, with its fade -/
  fade : Option (Nat × Fade) := none
  /-- a fade that started after the aperture, within the window (R141), in the count of the aperture -/
  later : Option Fade := none
  /-- the active bank -/
  bank : Nat := 0
  /-- coefficient writes up to its aperture: the coefficients that the bank held (R137) -/
  gen : Nat := 0
  /-- `CHN_SHIFT` and `NOTCH_CTL.TRAC` in force at its aperture, with which it is completed (R128, R146) -/
  sh : Word := 0x000B
  trac : Bool := false
  /-- notches enabled at the end of its window, and those enabled before earlier ticks, latest first (R148) -/
  notch : Nat := 0
  notchOld : List (Nat × Nat) := []
  /-- a later clear has cut its window off from the running chain: later notches do not reach it (R146) -/
  frozen : Bool := false
  /-- bits before this tick count as 0 (R146) -/
  zeroBefore : Option Nat := none
  /-- range changes after the aperture rescale the stage-1 outputs after their ticks: tick, exponent of 4, in order (R146) -/
  rescale : List (Nat × Int) := []
  /-- the driver that excites the sensor (R37, R44) -/
  driver : PathId := none
  /-- the active slot of a Z-facet (R88) -/
  slot : Nat := 0
  /-- selected for time records (R330) -/
  trec : Bool := false
  /-- completed, its ACQ transfer stalled: the tick of its completion (R152, R438) -/
  formed : Option Nat := none
  /-- withheld by calibration (R360) -/
  withheld : Bool := false
  /-- the front end sees its internal short: type 0, or isolated (R30, R31, R71) -/
  short : Bool := false
  /-- an output sample, which a device that does not acquire yet has none of (R159, R475) -/
  live : Bool := true
deriving DecidableEq, Repr

/-- A tick word of scheduled operation that is not formed yet (R81): what its tick fixes. -/
structure TickPend where
  aperture : Nat
  /-- the boundary that ends its tick -/
  formTick : Nat
  slot : Nat
  /-- the first tick of its dwell: a transition word -/
  first : Bool := false
  range : Nat := 0
  path : PathId := none
  spare : Bool := false
  settle : Bool := false
  short : Bool := false
  zeroBefore : Option Nat := none
  /-- it reaches capture and the host stream (R159, R360) -/
  live : Bool := true
  /-- completed, its ACQ transfer stalled: the tick of its completion (R438) -/
  formed : Option Nat := none
deriving DecidableEq, Repr

/-- A cycle of scheduled operation whose aperture has passed: what its aperture fixes (R66, R84, R330, R360). -/
structure CycMark where
  /-- number of the cycle, from 1 at the anchor -/
  cyc : Nat
  settle : Bool := false
  withheld : Bool := false
  /-- selected for time records -/
  trec : Bool := false
deriving DecidableEq, Repr

/-- An output as every consumer receives it (R16): the sample word or words, the engineering value, its aperture. -/
structure OutRec where
  /-- the sample word of a B-facet; the I word of a Z-facet -/
  i : DWord := 0
  /-- the Q word of a Z-facet -/
  q : DWord := 0
  eng : DWord := 0x7FC00000
  aperture : Nat := 0
  /-- its formation tick (R134) -/
  formTick : Nat := 0
  /-- an output has been published since reset -/
  valid : Bool := false
deriving DecidableEq, Repr

/-- One SETTLE window (R63, R66, R67, R85, R146, R148, R522). -/
structure SettleWin where
  /-- outputs still to carry SETTLE once counting -/
  left : Nat
  /-- the window waits for the instant S of R66 -/
  waitS : Bool := false
  /-- consecutive stable ticks since T (R66) -/
  stable : Nat := 0
  /-- started by an excitation change, which a further one replaces (R67) -/
  exc : Bool := false
deriving DecidableEq, Repr

/-- A range change through a spare (R61, R79). -/
structure RangeChg where
  spare : Nat
  /-- 1: the spare settles; 2: the path serving the facet settles -/
  phase : Nat
  /-- unpublished outputs still to come in this phase -/
  left : Nat
  /-- the words of the block that carry the new range: word index and value -/
  new : List (Nat × Word)
  /-- tick at which the spare disconnects, once swapped back (R61 step 4) -/
  freeAt : Option Nat := none
deriving DecidableEq, Repr

/-- A substitution or a release on its way (R398, R399). -/
structure Swap where
  /-- kind of the spare: 0 SB, 1 SZ, 2 EB, 3 EZ -/
  kind : Nat
  spare : Nat
  /-- the own part returns -/
  back : Bool := false
  /-- it returns from a temporary stand-in of a check -/
  temp : Bool := false
  /-- the spare stays with its check when the own part is back -/
  keep : Bool := false
  /-- unpublished outputs still to come -/
  left : Nat
  /-- the spare serves the facet, after step 2 of R359 -/
  swapped : Bool := false
  /-- tick at which the spare disconnects, once the own part serves again -/
  freeAt : Option Nat := none
  /-- `SL_CAUSE` of the substitution -/
  cause : Nat := 0
deriving DecidableEq, Repr

/-- Sums of one slot over the cycle in progress (R83). -/
structure SlotAcc where
  /-- the path of its latest clean word, whose slot gain and phase apply (R352) -/
  path : PathId := none
  n : Nat := 0
  i : Int := 0
  q : Int := 0
  clip : Bool := false
  spare : Bool := false
deriving DecidableEq, Repr

/-- The Z result block (R99). -/
structure ZRes where
  seqLead : Nat := 0
  seqTrail : Nat := 0
  aperture : Nat := 0
  anchor : Nat := 0
  zstat : Word := 0
  m : DWord := 0
  eng : DWord := 0
  t : DWord := 0
  /-- per slot: I, Q, G, B, ε′, ε″, ρ -/
  slots : List (List DWord) := []
deriving DecidableEq, Repr

/-- What a facet holds beside its parameter blocks. -/
structure FacetRT where
  /-- FP_FAULT.NOW -/
  faultNow : Word := 0
  /-- FP_FAULT.SEEN -/
  faultSeen : Word := 0
  /-- spans of ticks in fault: first tick, first tick after (none while in fault) (R57) -/
  faultSpans : List (Nat × Option Nat) := []
  /-- consecutive ticks of each cause's entry condition, by bit number; of its second alternative by 16 + bit number (R53) -/
  enterCnt : Store Nat := []
  /-- consecutive ticks of each cause's exit condition, by bit number (R53) -/
  leaveCnt : Store Nat := []
  /-- SNS_OPEN by slot: consecutive words below 50 %, consecutive words at or above it, and whether the slot's sense line is
  judged broken (R96) -/
  sns : Store (Nat × Nat × Bool) := []
  /-- the protection network isolates the front end (R30) -/
  isolated : Bool := false
  /-- consecutive ticks with both lands in span (R30) -/
  inSpanCnt : Nat := 0
  /-- consecutive stable ticks of the excitation monitor (R53, R54) -/
  stableCnt : Nat := 0
  /-- the land signals now -/
  sig : Analog := {}
  /-- the land signals of the last judged tick (R98) -/
  sigJudged : Analog := {}
  settle : List SettleWin := []
  pend : List PendOut := []
  last : OutRec := {}
  /-- the output before `last` (R259) -/
  prev : OutRec := {}
  /-- outputs before `prev`, latest first: an output whose transfer stalls takes the temperature published by its own formation
  tick (R93, R108) -/
  older : List OutRec := []
  /-- FP_ENGSTAT -/
  engStat : Word := 0
  /-- FP_ZSTAT without SCHED -/
  zStat : Word := 0
  /-- the spare path that has permanently replaced the facet's own (R398) -/
  subst : Option Nat := none
  /-- the spare driver that has permanently replaced the facet's own (R398) -/
  excSubst : Option Nat := none
  /-- the temporary stand-in path that serves (R61, R359, R394) -/
  standin : Option Nat := none
  /-- the temporary stand-in driver that serves (R359, R396) -/
  excStandin : Option Nat := none
  rangeChg : Option RangeChg := none
  swap : Option Swap := none
  /-- the own path has failed and is marked so in the spare map (R398) -/
  pathFailed : Bool := false
  /-- the own driver has failed and is marked so in the spare map (R398) -/
  excFailed : Bool := false
  /-- the path, or the driver, that serves has failed and is not substituted (R397) -/
  needPath : Bool := false
  needExc : Bool := false
  /-- the next delivered output carries GAP_EDGE (R151) -/
  gapEdge : Bool := false
  /-- the next delivered tick word carries GAP_EDGE: tick words before it were lost (R149, R438) -/
  tickEdge : Bool := false
  /-- tick of the last clear of the facet's chain (R146) -/
  clearTick : Option Nat := none
  /-- ticks of the last clears of single paths: 0 the facet's own, i + 1 spare i (R61, R359, R394) -/
  pathClear : Store (Option Nat) := []
  /-- notches enabled before ticks since the last clear, latest first (R148) -/
  notchOld : List (Nat × Nat) := []
  /-- active words before ticks at which an apply changed them, latest first: tick, word, value (R42, R44) -/
  blkOld : List (Nat × Nat × Word) := []
  /-- fade position: outputs numbered so far since the start of the last fade (R141) -/
  fadeJ : Option Nat := none
  /-- bead duty counts from this tick (R227, R244) -/
  beadFrom : Nat := 0
  /-- first tick of the open alarm window (R327) -/
  alarmFrom : Option Nat := none
  /-- alarms sent in the window -/
  alarmSent : Nat := 0
  /-- alarms counted and not sent in the window -/
  alarmHeld : Nat := 0
  /-- a driver check is barred until the fault clears (R396) -/
  checkBarred : Bool := false
  /-- anchor tick A of scheduled operation (R80) -/
  anchor : Nat := 0
  /-- cycle outputs formed since the anchor (R330) -/
  cycles : Nat := 0
  /-- cycles whose aperture has passed and whose output is not formed (R66, R84, R87) -/
  cycMarks : List CycMark := []
  /-- slot whose tone runs (R81) -/
  slot : Nat := 0
  /-- tick at which the running dwell began (R81) -/
  slotFrom : Nat := 0
  /-- tick words of scheduled operation that are not formed yet, oldest first (R81) -/
  tickPend : List TickPend := []
  /-- the dwells' sums, by 4 × number of the cycle (from 0) + slot (R83) -/
  acc : Store SlotAcc := []
  zres : ZRes := {}
  /-- tone drive held off until the drives resume (R75) -/
  driveOff : Bool := false
deriving DecidableEq, Repr

/-- An accepted apply waiting for its frame boundary (R47). -/
structure ApplyReq where
  facets : List Nat
  /-- the staged parameters that it carries, by facet × 32 + word -/
  words : Mem16
  stamp : Nat
  needSpare : Bool
  master : Master
deriving DecidableEq, Repr

/-- The value request of FCT_READ_CTL (R59). -/
structure FctRead where
  /-- FCT_READ_CTL without GO -/
  ctl : Word := 0
  /-- facet and kind of the request, which a write of the fields alone leaves as it is -/
  facet : Nat := 0
  kind : Nat := 0
  /-- FCT_READ_W1:FCT_READ_W0 -/
  result : DWord := 0
  ready : Bool := false
  age : Nat := 0
  pend : Bool := false
deriving DecidableEq, Repr

/-! ## Excitation, tones, references, spares -/

/-- Device-level excitation and tone state (R52, R55, R75). -/
structure ExcSt where
  /-- EXC_CTL -/
  ctl : Word := 2
  /-- EXC_STAT.RAIL_MA -/
  railMa : Nat := 0
  /-- rail current of the ticks of this frame (R52) -/
  railFrame : List Nat := []
  /-- rail current of the last tick, mA -/
  railNow : Nat := 0
  railOver : Bool := false
  fold : Bool := false
  headroom : Bool := false
  /-- consecutive ticks above 2,000 mA -/
  overCnt : Nat := 0
  /-- consecutive ticks at or below 2,000 mA -/
  underCnt : Nat := 0
  /-- EXVDD, mV -/
  exvdd : Nat := 12000
  /-- CMW_CTL -/
  cmw : Word := 0x47
  /-- ZTONE_CTL -/
  ztone : Word := 1
  /-- ZTONE_STAT.LOCK -/
  lock : Bool := false
  /-- lock has returned and the drives wait for the next frame boundary (R75), with the order stamp of the return -/
  resume : Bool := false
  resumeStamp : Nat := 0
deriving DecidableEq, Repr

/-- One spare (R387). -/
structure SpareSt where
  /-- SPARE_STAT.STATE codes 0 FREE to 5 FAILED -/
  state : Nat := 0
  target : Nat := 0
  /-- the target it is pinned to, kept while it serves -/
  pin : Option Nat := none
deriving DecidableEq, Repr

/-- A path check in progress (R394). -/
structure Check where
  facet : Nat
  spare : Nat
  /-- 1 shadow, 2 referee on the own path, 3 referee on the spare, 4 agreed: the spare disconnects at the next frame
  boundary -/
  phase : Nat := 1
  triggered : Bool := false
  /-- tick from which the measurements of the phase count -/
  from_ : Nat := 0
  /-- the referee's phase waits for the swap -/
  waiting : Bool := false
deriving DecidableEq, Repr

/-- A triggered check that waits for its frame boundary (R389, R393, R394): of the facet's driver, or of its path. -/
structure CheckReq where
  facet : Nat
  driver : Bool
  /-- order stamp of the trigger -/
  stamp : Nat
deriving DecidableEq, Repr

/-- A driver check: its facet, the spare driver, the tick of the handover, and whether the monitor has been stable for 8
consecutive ticks within 2,080 ticks of it (R396). -/
structure DrvCheck where
  facet : Nat
  spare : Nat
  from_ : Nat
  ok : Bool := false
deriving DecidableEq, Repr

/-- Spares and references (chapter 13). -/
structure SpareUnit where
  /-- SPARE_CTL without GO -/
  ctl : Word := 0x0007
  /-- SPARE_STAT.CAUSE -/
  cause : Nat := 0
  /-- a command waits for its frame boundary (R390): CMD, KIND, INDEX, facet, port, master -/
  cmd : Option (Nat × Nat × Nat × Nat × Nat) := none
  /-- order stamp of its acceptance -/
  cmdStamp : Nat := 0
  sb : Store SpareSt := []
  sz : Store SpareSt := []
  eb : Store SpareSt := []
  ez : Store SpareSt := []
  /-- port C as a spare (kind CAN) -/
  portC : SpareSt := {}
  /-- FORBID in force for port A, port B (R403) -/
  forbid : List Bool := [false, false]
  /-- path checks in progress, oldest first -/
  chks : List Check := []
  /-- facet at which the background sweep continues, B and Z (R392) -/
  sweepB : Nat := 0
  sweepZ : Nat := 448
  /-- triggered driver checks in progress -/
  drv : List DrvCheck := []
  /-- triggered checks that wait for their frame boundary -/
  wanted : List CheckReq := []
  /-- the standby becomes active at the next tick boundary (R401) -/
  refSwitch : Bool := false
  /-- REF_STAT.ACTIVE: 0 VREF_A, 1 VREF_B -/
  refActive : Nat := 0
  refWarn : Bool := false
  /-- failed references: A, B -/
  failA : Bool := false
  failB : Bool := false
  refDiff : Int := 0
  devA : Nat := 0
  devB : Nat := 0
  /-- consecutive ticks of the difference above its limit (R400) -/
  warnCnt : Nat := 0
  /-- consecutive ticks of each reference above 0.5 % (R401) -/
  failCntA : Nat := 0
  failCntB : Nat := 0
  /-- SRAM rows in use as spares (R405) -/
  rowsUsed : Nat := 0
  /-- rows newly repaired at boots, announced after UNSET (R405) -/
  rowsNew : Nat := 0
  /-- rows repaired so far, as the spare-map log says -/
  rowsDone : List Nat := []
  /-- rows corrected once, with the tick of the correction (R404) -/
  rowHits : Store Nat := []
  /-- the scrub's reading of the array: frames of its 600 s interval that have run, and words read (R404, R441) -/
  scrubFrames : Nat := 0
  scrubRead : Nat := 0
  /-- rows marked for repair in the log (R404) -/
  rowsMarked : List Nat := []
  /-- entry number of the spare-map log (R406) -/
  logSeq : Nat := 0
  /-- kinds already reported exhausted (R408) -/
  exhausted : List Nat := []
  /-- port that port C shadows, tick of the switch, false errors of its controller in this shadow period (R402) -/
  shadow : Nat := 0
  shadowFrom : Nat := 0
  shadowErrs : Nat := 0
deriving DecidableEq, Repr

/-! ## Chain -/

/-- A request to BANK_SEL (R139). -/
structure FadeReq where
  target : Nat
  len : Nat
  atSync : Bool := false
deriving DecidableEq, Repr

/-- Device-level chain state (chapter 5). -/
structure ChainSt where
  /-- CHN_CTL -/
  ctl : Word := 1
  /-- CHN_SHIFT staged, active -/
  shStaged : Word := 0x000B
  shActive : Word := 0x000B
  shRej : Bool := false
  /-- NOTCH_CTL.TRAC staged, active, pending -/
  tracStaged : Bool := false
  trac : Bool := false
  trPend : Bool := false
  /-- ODEC.SCOPE -/
  odecScope : Nat := 0
  /-- BANK_SEL without GO -/
  bankSel : Word := 0
  /-- BANK_ACTIVE.BANK -/
  bank : Nat := 0
  /-- XFADE_CTL -/
  xfadeLen : Word := 64
  fade : Option Fade := none
  /-- the fade that started last, whose blends the outputs still to be formed need (R141) -/
  lastFade : Option Fade := none
  /-- tick at which a fade ended or a synchronising reset acted: a queued request starts after it (R143, R147) -/
  fadeBar : Option Nat := none
  queue : Option FadeReq := none
  /-- order stamp of the queued request's acceptance -/
  queueStamp : Nat := 0
  /-- XFADE_STAT.REPLACED -/
  replaced : Bool := false
  /-- XFADE_STAT.CAUSE -/
  cause : Nat := 0
  /-- coefficients written since reset, by bank × 4,142 + index (R136) -/
  coef : Store (Option (BitVec 24)) := []
  /-- what coefficients were before their writes, latest first: key and value, which pending outputs may need (R137) -/
  coefOld : List (Nat × Option (BitVec 24)) := []
deriving DecidableEq, Repr

/-- Activity budgets and the fabric (R432 to R438). -/
structure BudgetSt where
  /-- budgets in force, transfers, in the order of R432 -/
  set : List Nat := [12000, 8000, 40000, 4000, 8000, 20000, 4000, 2000]
  /-- staged BUDGET_SET values, transfers -/
  staged : Store Nat := []
  /-- transfers used in this frame -/
  used : List Nat := [0, 0, 0, 0, 0, 0, 0, 0]
  /-- transfers used in the last complete frame -/
  usedLast : List Nat := [0, 0, 0, 0, 0, 0, 0, 0]
  /-- activities that have stalled in this frame -/
  stalled : List Bool := [false, false, false, false, false, false, false, false]
  /-- BUDGET_OVR -/
  ovr : List Nat := [0, 0, 0, 0, 0, 0, 0, 0]
  /-- fabric rate of the last complete frame, transfers -/
  fabric : Nat := 0
  /-- number of the event-log entry up to which the MP's accesses are charged -/
  logMark : Nat := 0
deriving DecidableEq, Repr

/-! ## Timebase -/

/-- TB_STAT.STATE (R158). -/
inductive TbState where
  | unset | acquiring | lockedPps | lockedRef | holdover | free
deriving DecidableEq, Repr

/-- What a receiver holds of the REF frames of one port (R167, R168, R171). -/
structure RefRx where
  /-- sequence number and local start-of-frame instant of the last REF frame -/
  last : Option (Nat × Nat) := none
  /-- `slewed` at that instant -/
  mark : Rat := 0
  /-- period of the sender, ms -/
  period : Nat := 0
  /-- missed periods since the last valid frame, saturating at 3 -/
  missed : Nat := 0
  /-- consecutive valid pairs -/
  pairs : Nat := 0
  mprio : Nat := 0
  mstation : Nat := 0
  /-- ERR_NS of the sender -/
  err : Nat := 0
  /-- a master has been followed on this port and lost (backup, R172) -/
  lost : Bool := false
deriving DecidableEq, Repr

/-- What a sender holds for one port (R171, R172, R323). -/
structure RefTx where
  sending : Bool := false
  /-- REF_SEQ of the next frame -/
  seq : Nat := 0
  /-- start-of-frame instant of the last frame sent, with its sequence number -/
  prev : Option (Nat × Nat) := none
  /-- tick since which no REF of higher rank has been heard (R172) -/
  quietFrom : Nat := 0
  /-- the port listens again after a bus-off (R173) -/
  listen : Bool := false
  /-- tick of the last REF_SEND -/
  sentAt : Option Nat := none
deriving DecidableEq, Repr

/-- The timebase and synchronising resets (chapter 6). -/
structure TimeSt where
  /-- tick number of the last tick boundary; the provisional count in UNSET -/
  tick : Nat := 0
  state : TbState := .unset
  /-- TB_STAT.SRC -/
  src : Nat := 0
  /-- TB_CTL -/
  ctl : Word := 0x0150
  /-- offset still to be slewed, and offset slewed so far, ns (R175) -/
  slew : Rat := 0
  slewed : Rat := 0
  /-- last measured offset, ns -/
  offset : Int := 0
  /-- frequency correction, ns per s (R165) -/
  freq : Rat := 0
  /-- last 64 frequency corrections, latest first (R177) -/
  freqs : List Rat := []
  /-- consecutive measurements within the lock window, outside twice the window (R165) -/
  inWin : Nat := 0
  outWin : Nat := 0
  ppsRej : Nat := 0
  /-- instant of the last accepted PPS edge, ns -/
  ppsLast : Option Nat := none
  /-- tick at which holdover began, and its E0 in ns -/
  holdFrom : Nat := 0
  holdE0 : Nat := 0
  /-- error reported by the master followed, ns -/
  masterErr : Nat := 0
  /-- tick since which the timebase is UNSET -/
  unsetFrom : Nat := 0
  /-- a continuation decided under R160 or R161: tick Y of the new count, tick of the old count at which it acts,
  state entered, source -/
  cont : Option (Nat × Nat × TbState × Nat) := none
  /-- offset that the continuation removes, ns -/
  contX : Int := 0
  /-- the first valid measurement, made before A: offset and source (R475) -/
  early : Option (Int × Nat) := none
  /-- REF port that the device follows (R168) -/
  refPort : Nat := 0
  /-- sync target last armed from REF frames (R182) -/
  refTgt : Option Nat := none
  /-- a step decided under R176: Y in the new count, tick of the old count at which it acts, size in ns -/
  step : Option (Nat × Nat × Int) := none
  /-- scheduled resets that were resolved before that decision (R179) -/
  stepReq : List (Nat × Nat) := []
  /-- apertures at or below this tick are not delivered again (R176 step 4) -/
  noRepeat : Option Nat := none
  /-- corridor time was carried across a reset and acquisition waits for Y (R475) -/
  carried : Bool := false
  /-- acquisition runs: outputs are output samples (R159, R475) -/
  acquiring : Bool := false
  /-- REFM_CTL -/
  refCtl : Word := 0x007C
  /-- REFM_PERIOD in force, and one written that waits for its first multiple (R171) -/
  refPeriod : Word := 100
  refPeriodNew : Option Word := none
  rx : Store RefRx := []
  tx : Store RefTx := []
  /-- SYNC_CTL bits 3 to 6 -/
  syncCtl : Word := 0
  syncAt : Nat := 0
  /-- SYNC_AT_W0 as written, until SYNC_AT_W1 is written (R9) -/
  syncAtLo : Word := 0
  armed : Option Nat := none
  syncLate : Bool := false
  syncMulti : Bool := false
  /-- SYNC_STAT.SRC -/
  syncSrc : Nat := 0
  syncCount : Nat := 0
  /-- requested resets: Y and source code, in the order in which they were resolved -/
  syncReq : List (Nat × Nat) := []
  /-- instant of the last accepted SYNC edge, ns -/
  syncEdge : Option Nat := none
deriving DecidableEq, Repr

/-! ## Position -/

/-- POS_STAT.STATE (R200). -/
inductive PosState where
  | off | seeking | valid
deriving DecidableEq, Repr

/-- The latch of one tick boundary (R193). -/
structure Latch where
  tick : Nat
  u : Rat
  rev : Nat
  odo : Rat
  st : PosState
  /-- the stretch in force (R215) -/
  s : Rat
deriving DecidableEq, Repr

/-- One position port (chapter 7) with its port block in space 0x4. -/
structure PosPort where
  /-- staged port-block words 0 to 16 and 64 to 191 -/
  staged : Mem16 := []
  /-- active port-block words, at the offsets of their staged copies -/
  active : Mem16 := []
  lenStaged : Nat := 0
  /-- BELT_LEN_W0 as written, until BELT_LEN_W1 is written (R9) -/
  lenLo : Word := 0
  /-- active loop length, mm -/
  len : Nat := 0
  /-- POS_CFG as written (EN, DIR staged, ZPOL, FILT) -/
  cfg : Word := 8
  /-- EN, DIR, ZPOL, FILT in force -/
  cfgAct : Word := 8
  /-- EN, ZPOL, FILT written and waiting for the frame boundary -/
  cfgPend : Bool := false
  /-- an accepted activation waits for the frame boundary: its order stamp and its master -/
  actPend : Option (Nat × Master) := none
  /-- PB_STRETCH has been written since the last activation -/
  strWritten : Bool := false
  st : PosState := .off
  /-- state entered at the next tick boundary (R200) -/
  next : Option PosState := none
  /-- levels of PA_p and PB_p, and the instants of their last edges, ns (R188) -/
  pa : Bool := false
  pb : Bool := false
  edgeA : Option Nat := none
  edgeB : Option Nat := none
  /-- u_ref, nominal mm -/
  u : Rat := 0
  rev : Nat := 0
  /-- encoder travel since reset, physical mm -/
  odo : Rat := 0
  /-- stretch factor in force -/
  s : Rat := 1
  /-- slew of R207: nominal mm left, e, and the `PB_SLEW_LEN` with which it began -/
  slew : Option (Rat × Rat × Rat) := none
  /-- step of R207 waiting for the next tick boundary: e and marker -/
  stepPend : Option (Rat × Nat) := none
  /-- odometer at the last accepted pulse (R199) -/
  pulse : Option Rat := none
  /-- measured intervals, nominal mm, latest first, at most 3 -/
  ivals : List Rat := []
  /-- odometer at the last active edge, until 50 mm have passed since (R199) -/
  dead : Option Rat := none
  /-- the direction of an edge of PZ_p that the glitch filter has rejected, until its level returns (R187) -/
  pzGlitch : Option Bool := none
  /-- the marker predicted next (R202) -/
  want : Nat := 0
  /-- nominal mm by which its predicted position lies ahead of u_ref (R202, R203) -/
  ahead : Rat := 0
  lastMark : Nat := 0
  /-- odometer at the last identified marker, none when forgotten (R210) -/
  idOdo : Option Rat := none
  /-- per marker: odometer at its last identification, valid for R209 -/
  idAt : Store Rat := []
  /-- consecutive missed or spurious events (R204) -/
  events : Nat := 0
  /-- quadrature errors since the last identified marker (R204) -/
  qerrs : Nat := 0
  qerrCnt : Nat := 0
  spurCnt : Nat := 0
  missCnt : Nat := 0
  stretchRej : Nat := 0
  /-- PB_SLIP_LAST, 0.1 mm -/
  slipLast : Int := 0
  /-- |e| of the markers of the last full revolution, by marker, mm (R206) -/
  slips : Store Rat := []
  /-- physical travel in this frame, mm -/
  frameOdo : Rat := 0
  /-- POS_SPEED, mm/s -/
  speed : Int := 0
  overspeed : Bool := false
  qerr : Bool := false
  stepFlag : Bool := false
  revOk : Bool := false
  revAdj : Bool := false
  tableDiff : Bool := false
  /-- POS_STAT.CAUSE -/
  cause : Nat := 0
  latches : List Latch := []
  /-- a POS_REV write waits for the frame boundary (R211) -/
  revPend : Option Nat := none
  /-- most recent MARK messages of the source station, by marker: revolution (R212) -/
  srcMarks : Store Nat := []
  /-- frame boundary since which the port is VALID at or above the minimum speed (R218) -/
  fastFrom : Option Nat := none
  /-- frame boundary since which the speed is below the minimum (R218) -/
  slowFrom : Option Nat := none
  /-- active tare profile, g/m by entry -/
  tare : Store Int := []
  /-- loop length for which the profile was activated, none without a profile (R240) -/
  tareLen : Option Nat := none
  /-- PB_TARE_GEN -/
  tareGen : Nat := 0
  /-- PB_TARE_MEAN, g/m -/
  tareMean : Int := 0
  /-- staged tare profile -/
  tareStg : Mem16 := []
  /-- PB_TARE_STG_MEAN -/
  tareStgMean : BitVec 32 := 0
  /-- PB_TARE_LOAD requested (R462) -/
  tareLoad : Bool := false
  /-- PB_SCALE_SPAN, PB_SCALE_ZERO in force, and written values waiting for the frame boundary (R225) -/
  span : DWord := 0x3F800000
  zero : DWord := 0
  spanPend : Option DWord := none
  zeroPend : Option DWord := none
  /-- tick of the last successful BELT_ZERO (R358) -/
  zeroAt : Option Nat := none
deriving DecidableEq, Repr

/-! ## Beads -/

/-- One 50 mm bin of a bead (R235): exact sums. -/
structure Bin where
  mass : Rat := 0
  cov : Rat := 0
  obs : Rat := 0
  moist : Rat := 0
  moistCov : Rat := 0
  temp : Rat := 0
  tempCov : Rat := 0
  /-- parts of the bin that moisture, and temperature, functions cover, mm from its start (R243) -/
  moistSpan : List (Rat × Rat) := []
  tempSpan : List (Rat × Rat) := []
deriving DecidableEq, Repr

/-- An open bead (R222 to R252). -/
structure Bead where
  port : Nat
  rev : Nat
  idx : Nat
  /-- entry of the bead table -/
  entry : Nat
  openTick : Nat
  /-- flags of R250 that already apply -/
  flags : Word := 0
  bins : Store Bin := []
  nContrib : Nat := 0
  nSettle : Nat := 0
  nGap : Nat := 0
  nReject : Nat := 0
  nMoist : Nat := 0
  nMoistX : Nat := 0
  mid : Option Nat := none
  tareGen : Nat := 0
  /-- `PB_BELT_ID`, bead length in 250 mm, loop length and whether the port has a load facet, at its opening -/
  beltId : Nat := 0
  len : Nat := 2
  loop : Nat := 0
  hasLoad : Bool := true
  /-- `PB_EMPTY_Q` in force at the aperture of its latest scale sample (R224) -/
  emptyQ : Nat := 500
  /-- lowest and highest bead-duty facet of the port as it opens: a change of duty closes it (R248, R252) -/
  lo : Nat := 0
  hi : Nat := 511
  /-- the close cause that R221, R224, R227 or R248 has already given it, with its tick -/
  forced : Option (Nat × Nat) := none
deriving DecidableEq, Repr

/-- A scale sample, or one output of a moisture or temperature facet, placed on the belt (R228, R231, R232). -/
structure Placed where
  aperture : Nat
  /-- its instant t_a − D_n, in ticks (R231) -/
  at_ : Rat
  /-- unwrapped coordinate revolution × B + u, nominal mm -/
  x : Rat
  /-- encoder travel at its instant, physical mm -/
  odo : Rat
  /-- q_load in kg/m, or the engineering value -/
  val : Rat := 0
  /-- t(u) ÷ 1,000 of a scale sample, kg/m -/
  tare : Rat := 0
  /-- 0 gap, 1 SETTLE, 2 rejected, 3 contributing (R232) -/
  cat : Nat
  /-- it counts as a gap sample in a bead that opened after it (R230) -/
  late : Bool := false
deriving DecidableEq, Repr

/-- A bead that waits for a place (R230), with the outputs of its span so far. -/
structure WaitBead where
  rev : Nat
  idx : Nat
  /-- first tick of the outputs that it has lost so far (R230) -/
  tick : Nat
  nGap : Nat := 0
  nMoistX : Nat := 0
  /-- observed length by bin, m (R230, R234) -/
  obs : Store Rat := []
deriving DecidableEq, Repr

/-- Settings of the belt scale that held for apertures before tick `upto` (R224, R225). -/
structure BeadSet where
  upto : Nat
  closeMargin : Nat
  emptyQ : Nat
  scaleLen : Nat
  tareEn : Bool
  span : DWord
  zero : DWord
deriving DecidableEq, Repr

/-- Engine state of one port (R228 to R248). -/
structure BeadPort where
  /-- outputs of load facets that wait for the rest of their aperture: aperture, then facet, eng bits, flags, category -/
  gather : Store (List (Nat × DWord × Word × Nat)) := []
  lastScale : Option Placed := none
  /-- the scale sample before it -/
  prevScale : Option Placed := none
  /-- last coordinate of each bead-duty facet, with the odometer there -/
  lastX : Store (Option (Rat × Rat)) := []
  /-- coordinate of the most upstream sensor when duty last began (R244) -/
  startX : Option Rat := none
  /-- outputs with apertures before this tick still count after the port was cleared in `BEAD_CTL.PORTS` -/
  until_ : Nat := 0
  /-- a wrap crossing has been seen since `PB_TARE_LOAD` (R462) -/
  wrapSeen : Bool := false
  /-- settings of earlier boundaries, latest first -/
  oldSets : List BeadSet := []
  /-- last placed output of each moisture or temperature facet -/
  lastOut : Store (Option Placed) := []
  /-- largest unwrapped coordinate delivered less the closing margin at its aperture, by bead-duty facet -/
  reach : Store (Option Rat) := []
  /-- closed beads, latest first: unwrapped start and end (R246) -/
  closed : List (Rat × Rat) := []
  /-- tick boundaries of steps under R207, latest first: segments across them follow the travel -/
  stepAt : List Nat := []
  /-- apertures at or after this tick count (R220, R244) -/
  from_ : Nat := 0
  wait : List WaitBead := []
deriving DecidableEq, Repr

/-- The bead engine and the tare learner (chapter 8). -/
structure BeadSt where
  /-- BEAD_CTL -/
  ctl : Word := 0x1F
  /-- `BEAD_CTL.PORTS` in force -/
  portsAct : Nat := 15
  rej : Bool := false
  late : Bool := false
  backtrack : Bool := false
  seq : Nat := 0
  beads : List Bead := []
  /-- closed beads whose records wait for the BEAD budget, oldest first: bead, close cause, closing tick (R253, R434) -/
  closing : List (Bead × Nat × Nat) := []
  port : Store BeadPort := []
  /-- last 16 closed records by SEQ mod 16: sequence words and 64 bytes -/
  closed : Store (Nat × List Byte) := []
  /-- sequence words of the open entries of the table, kept while an entry is empty -/
  entrySeq : Store Nat := []
  /-- TARE_CTL without GO and ABORT -/
  tareCtl : Word := 0x20
  /-- TARE_STAT.STATE: 0 IDLE, 1 WAIT, 2 LEARN, 3 DONE, 4 FAIL -/
  tareState : Nat := 0
  tareDone : Nat := 0
  tareCause : Nat := 0
  tarePort : Nat := 0
  tareRevs : Nat := 1
  tareTol : Nat := 1
  /-- learned sums by revolution × 2^20 + entry: covered length (m) and mass (kg) -/
  tareAcc : Store (Rat × Rat) := []
  /-- the wrap crossing that starts or ends a revolution has been seen at this aperture -/
  tareWrap : Option Nat := none
deriving DecidableEq, Repr

/-! ## Trigger, capture, streams, gaps -/

/-- A fresh output as the sequencer sees it (R259). -/
structure Fresh where
  facet : Nat
  aperture : Nat
  v : DWord
  settle : Bool
  /-- previous value and whether it counts -/
  vPrev : Option DWord
  /-- Δt in ticks -/
  dt : Nat
deriving DecidableEq, Repr

/-- The trigger sequencer (R258 to R262). -/
structure TrgSt where
  en : Bool := false
  /-- enabled and waiting for the frame boundary -/
  startPend : Bool := false
  running : Bool := false
  cause : Nat := 0
  count : Nat := 0
  st : Nat := 0
  cnt : Nat := 0
  tmr : Nat := 0
  /-- TRG_AUTO -/
  auto : Word := 0
  /-- TRG_MISSED -/
  missed : Nat := 0
  /-- the next missed trigger is logged (R269) -/
  logMiss : Bool := false
  /-- words of space 0xB -/
  table : Mem16 := []
  fresh : List Fresh := []
  /-- TRIG_IN edges accepted since the last tick boundary: rising, falling -/
  edgeR : Bool := false
  edgeF : Bool := false
  level : Bool := false
  /-- bead records since the last tick boundary: port, flags, CLOSE_TICK -/
  beads : List (Nat × Word × Nat) := []
  /-- a forced trigger waits for the next tick boundary -/
  force : Bool := false
  /-- the edges and the forced trigger that were accepted before the present boundary -/
  pastR : Bool := false
  pastF : Bool := false
  pastForce : Bool := false
  /-- the present boundary has been judged (R260) -/
  judged : Bool := true
deriving DecidableEq, Repr

/-- CAP_STAT.STATE (R452). -/
inductive CapState where
  | idle | fill | post | stream | hold | rearm
deriving DecidableEq, Repr

/-- A loss that is not yet recorded (R276, R277). -/
structure Loss where
  first : Nat
  last : Nat
  start : Nat
  len : Nat
  cause : Nat
  cons : Nat
  /-- a piece that continues it comes by this tick; it has ended after it (R277) -/
  until_ : Nat := 0
deriving DecidableEq, Repr

/-- A run of the host stream: apertures from its start to its end, and its span (R275). -/
structure HsRun where
  from_ : Nat
  until_ : Option Nat := none
  first : Nat
  last : Nat
deriving DecidableEq, Repr

/-- The capture (R263 to R273). -/
structure CapSt where
  st : CapState := .idle
  cause : Nat := 0
  clamp : Bool := false
  /-- CAP_CTL bits 3 to 5 -/
  ctl : Word := 0
  pre : Word := 0
  post : Word := 1
  grant : Nat := 0
  armPend : Bool := false
  /-- order stamp of the accepted arm, or of the entry into REARM -/
  armStamp : Nat := 0
  abortPend : Bool := false
  /-- first tick of the fill -/
  f : Nat := 0
  p : Nat := 1
  /-- ring capacity, ticks -/
  c : Nat := 0
  preReq : Nat := 0
  t : Nat := 0
  preAct : Nat := 0
  /-- header flags of R273 -/
  flags : Word := 0
  evid : Nat := 0
  srcState : Nat := 0
  srcCond : Nat := 0
  /-- last tick of the capture (T + P − 1, or the cut) -/
  endTick : Nat := 0
  dropped : Nat := 0
  seq : Nat := 0
  /-- auto-trigger period latched at the fill, ms -/
  autoMs : Nat := 0
  /-- the capture region -/
  mem : Mem32 := []
  /-- ring lines: places of the words written in it, and the tick that they belong to -/
  lines : Store (List Nat × Nat) := []
  /-- ticks whose words were dropped (R270) -/
  drops : List Nat := []
  /-- next tick to drain in a streamed capture -/
  drain : Nat := 0
  /-- the held capture is being sent as CAPT messages (R267) -/
  sending : Bool := false
  /-- MEM_PART staged: CAPT, TARE, STAGE -/
  partStaged : List Nat := [104, 6, 16]
  /-- partition in force -/
  part : List Nat := [104, 6, 16]
  partCause : Nat := 0
  /-- an accepted partition, with the order stamp of its acceptance -/
  partPend : Option (List Nat × Nat) := none
  /-- host stream runs (R275) -/
  hsRun : Bool := false
  /-- order stamp of the last change of `CAP_CTL.HS_EN` -/
  hsStamp : Nat := 0
  /-- spans of the host stream, latest first -/
  hsRuns : List HsRun := []
  /-- no line before this tick is still to be packed -/
  hsNext : Nat := 0
  /-- words gathered for host-stream lines, by tick: facet × 2 + chain, word -/
  hsLines : Store (List (Nat × DWord)) := []
  /-- stream staging: the queue of space 0xD -/
  queue : List Word := []
  /-- packets of the queue, oldest first: words left in it, and the loss that their discard would be (R257) -/
  packets : List (Nat × Loss) := []
  /-- gap records that wait for room in the queue, oldest first: loss, body (R275, R277) -/
  gapWait : List (Loss × List Word) := []
  /-- the header packet of a streamed capture is still to be queued (R273) -/
  headPend : Bool := false
  /-- the capture's header frame has been formed (R334) -/
  headSent : Bool := false
  /-- the last data frame of the last line drained, which waits for what follows it: tick, payload (R335) -/
  tail : Option (Nat × List Byte) := none
deriving DecidableEq, Repr

/-- The merged gap record that waits for the reserve of one port (R277). -/
structure HeldGap where
  gap : Loss
  seq : Nat
  made : Nat
deriving DecidableEq, Repr

/-! ## CAN, messages -/

/-- The Enkidun types the device stages (R320). -/
inductive MsgType where
  | alarm | gap | bead | trec | capt | hbeat | rrsp | mark | calev | sparev
deriving DecidableEq, Repr

/-- A record awaiting transmission (R274), with what a gap record states when it is lost (R276). -/
structure Rec where
  ty : MsgType
  ident : BitVec 29
  data : List Byte
  first : Nat := 0
  last : Nat := 511
  start : Nat := 0
  len : Nat := 1
  /-- frame in which it was formed (R434) -/
  frame : Nat := 0
deriving DecidableEq, Repr

/-- A transmit mailbox (R293 to R297). -/
structure Mailbox where
  frame : Frame := { ide := false, fdf := false }
  /-- the record that a device mailbox carries, with its type for R313 -/
  record : Option Rec := none
  /-- it holds a frame -/
  full : Bool := false
  /-- released for arbitration -/
  released : Bool := false
  oneshot : Bool := false
  ts : Nat := 0
  /-- ABORT set while the frame was on the bus (R296) -/
  abort : Bool := false
  /-- REF_SEQ of a REF frame (R323) -/
  refSeq : Nat := 0
deriving DecidableEq, Repr

/-- A received frame as its queue holds it (R302). -/
structure RxFrame where
  frame : Frame
  ts : Nat
  pair : Nat
deriving DecidableEq, Repr

/-- A receive queue with its shadow buffer (R303). -/
structure RxQueue where
  q : List RxFrame := []
  ovr : Bool := false
  lost : Nat := 0
deriving DecidableEq, Repr

/-- CAN_STAT.STATE (R284). -/
inductive CanState where
  | init | integrating | errorActive | errorPassive | busOff | recovering
deriving DecidableEq, Repr

/-- One CAN FD port (chapter 10). -/
structure CanPort where
  /-- CAN_CTL without RECOVER -/
  ctl : Word := 1
  /-- mode in force, and a mode waiting for bus idle (R286) -/
  mode : Nat := 0
  modePend : Option Nat := none
  st : CanState := .init
  cause : Nat := 0
  lone : Bool := false
  subst : Bool := false
  tdcSat : Bool := false
  nbtp0 : Word := 0x0F00
  nbtp1 : Word := 0x0F3E
  dbtp0 : Word := 0x0100
  dbtp1 : Word := 0x0106
  tdc : Word := 0x000F
  meas : Nat := 0
  tec : Nat := 0
  recCnt : Nat := 0
  /-- CAN_ERR -/
  err : Word := 0
  mb : Store Mailbox := []
  /-- CP_MB_DONE -/
  done : Word := 0
  /-- CP_MB_RES -/
  res : Word := 0
  rx0 : RxQueue := {}
  rx1 : RxQueue := {}
  /-- filter words 0x500 to 0x5FF without EN -/
  flt : Mem16 := []
  /-- enabled pairs -/
  fltEn : BitVec 32 := 0
  /-- filter words and enabled pairs that were in force up to an instant, in ns, latest first (R300) -/
  fltOld : List (Nat × Mem16 × BitVec 32) := []
  /-- CAN_FLT_SEL without GO -/
  fltSel : Word := 0
  /-- CAN_LONE.LIMIT -/
  loneLim : Word := 64
  loneCnt : Nat := 0
  noMatch : Nat := 0
  badLen : Nat := 0
  /-- CP_ERR_CNT by LEC − 1 + 7 × phase -/
  errCnt : Store Nat := []
  refDelay : Word := 0
  /-- mailbox whose frame is on the bus, with its start-of-frame instant -/
  onBus : Option (Nat × Nat) := none
  /-- mailbox whose frame goes first after recovery (R308) -/
  kept : Option Nat := none
  /-- tick since which the port is ERROR_ACTIVE without a break (R314) -/
  activeFrom : Nat := 0
  /-- state the port resumes when CANCLK returns (R283) or INIT clears (R285) -/
  wasOff : Bool := false
  /-- the controller of the port has failed and is out of service (R318) -/
  failed : Bool := false
  /-- tick of the last paced attempt (R310) -/
  paceFrom : Nat := 0
  /-- egress staging, oldest first -/
  staging : List Rec := []
  /-- the held merged gap record -/
  held : Option HeldGap := none
  /-- H_SEQ of the next HBEAT -/
  hSeq : Nat := 0
deriving DecidableEq, Repr

/-- CANCLK, routing and failover (R283, R312 to R314). -/
structure CanDev where
  clkOk : Bool := false
  /-- CANCLK, kHz -/
  clkKhz : Nat := 0
  /-- CAN_FAILOVER bits 0 to 2 -/
  ctl : Word := 5
  /-- port whose traffic has moved -/
  active : Option Nat := none
  /-- ports whose failover waits for the other to become available, oldest first (R313) -/
  waiting : List Nat := []
deriving DecidableEq, Repr

/-- The response kept for a requester (R347). -/
structure Resp where
  node : Nat
  tag : Nat
  op : Nat
  req : Req
  data : List Byte
  tick : Nat
deriving DecidableEq, Repr

/-- The remote session of a port (R345, R347). -/
structure Session where
  holder : Option Nat := none
  lastTick : Nat := 0
  badKeys : Nat := 0
  /-- OPEN is locked since this tick -/
  lockFrom : Option Nat := none
  recent : List Resp := []
  /-- a CLASP_COMMIT whose response waits for the frame boundary -/
  commitReq : Option Req := none
  /-- requests that await service, behind a CLASP_COMMIT or for want of the MP's budget, oldest first, with their operation (R347,
  R434) -/
  waiting : List (Nat × Req) := []
deriving DecidableEq, Repr

/-- Sequence numbers of the messages (R348). -/
structure SeqSt where
  a : Nat := 0
  t : Nat := 0
  m : Nat := 0
  c : Nat := 0
  sp : Nat := 0
  /-- GAP_COUNT -/
  gap : Nat := 0
deriving DecidableEq, Repr

/-- An entry of a time record (R332), with the ticks that its output stands for. -/
structure TrecEntry where
  facet : Nat
  word : DWord
  eng : DWord
  unit : Nat := 1
deriving DecidableEq, Repr

/-- Records formed and not yet staged (R434), losses and gap records. -/
structure MsgSt where
  seq : SeqSt := {}
  /-- records formed, waiting for EGRESS_STAGING, each with its port: 0 A, 1 B, 2 the home port of its type -/
  out : List (Nat × Rec) := []
  losses : List Loss := []
  /-- outputs that form a group of time records: aperture, formation tick, entries (R331) -/
  group : List (Nat × Nat × List TrecEntry) := []
deriving DecidableEq, Repr

/-! ## Calibration -/

/-- A calibration run (R355 to R371). -/
structure CalRun where
  proc : Nat
  scope : Bool
  allowGap : Bool
  sysOnly : Bool
  /-- CD_TARGET of the target in progress -/
  target : Nat
  /-- targets of a batch still to come -/
  todo : List Nat := []
  /-- reason of the first failed target of a batch -/
  firstFail : Nat := 0
  /-- 0 waiting for T, 1 stand-in settling, 2 measuring, 3 result waiting for H, 4 own path settling, 5 WAIT_NEXT,
  6 belt run -/
  phase : Nat := 0
  /-- the stand-in lent to the run -/
  standin : Option Nat := none
  /-- the target is away without a stand-in, since tick T (R360) -/
  gapFrom : Option Nat := none
  /-- unpublished outputs still to come -/
  left : Nat := 0
  /-- the result: image writes by byte offset -/
  result : List (Nat × DWord) := []
  /-- reason when the result is a failure -/
  fail : Nat := 0
  /-- first tick of the measurement in progress -/
  measFrom : Nat := 0
  /-- tick of WAIT_NEXT (R367) -/
  waitFrom : Nat := 0
  /-- B_air / G_air of each slot (R366) -/
  air : List (Rat × Rat) := []
  /-- BLOCK step in progress -/
  block : Bool := false
  /-- declarations read at GO (R353): the words of the block, `CAL_REF_MV`, then REF in V, CALR, RANGE, BLK_EPS, SYS_KIND, SYS_REF, REVS -/
  decl : Store Word := []
  refMv : Word := 0
  vDecl : Rat := 0
  calR : Rat := 0
  range : Nat := 0
  blkEps : Rat := 0
  sysKind : Nat := 0
  sysRef : Rat := 0
  revs : Nat := 1
  /-- belt run: waiting for the wrap, revolutions done, covered length and mass by revolution and entry -/
  wait : Bool := true
  revDone : Nat := 0
  acc : Store (Rat × Rat) := []
  /-- belt run: a moisture-duty facet delivered a valid value -/
  loaded : Bool := false
  /-- contributing scale samples of the AIR step of Z_CELL, and the sum of their q in kg/m (R366) -/
  qN : Nat := 0
  qSum : Rat := 0
  /-- a facet that the measurement uses was in fault in it (R358 code 12, R369) -/
  faulted : Bool := false
  /-- belt run: the wrap crossing has been seen -/
  wrap : Bool := false
  /-- limits in force when the run started (R374) -/
  limits : Word := 0x2222
  aborted : Bool := false
  /-- the static checks of the target have passed -/
  checked : Bool := false
  /-- the result has taken effect and counts (R378) -/
  counted : Bool := false
  /-- the run has ended; its own path still returns -/
  closed : Bool := false
  /-- order stamp of the acceptance that the next phase waits for -/
  stamp : Nat := 0
  /-- first aperture withheld (R360) -/
  gapFirst : Nat := 0
  /-- tick at which the stand-in disconnects (R359 step 5) -/
  freeAt : Option Nat := none
  /-- transfers of the result's image update that the CAL budget still owes; H waits for them (R379, R432) -/
  owed : Nat := 0
deriving DecidableEq, Repr

/-- Calibration (chapter 12). -/
structure CalSt where
  /-- CAL_CTL without GO, NEXT and ABORT -/
  ctl : Word := 0
  /-- CAL_STAT.STATE: 0 IDLE, 1 RUN, 2 WAIT_NEXT, 3 DONE, 4 FAIL -/
  state : Nat := 0
  proc : Nat := 0
  reason : Nat := 0
  count : Nat := 0
  last : Nat := 0
  /-- CAL_REF_MV -/
  refMv : Word := 0
  limits : Word := 0x2222
  /-- image in force, by word; what is not listed is the factory image -/
  image : Store (Option Word) := []
  /-- CI_GEN -/
  gen : Nat := 0
  restore : Mem16 := []
  decl : Mem16 := []
  run : Option CalRun := none
  /-- corrections that changed: tick, byte offset in the image, value before; latest first (R126, R150) -/
  imgHist : List (Nat × Nat × DWord) := []
  /-- changes of the active reference: tick, reference before; latest first (R126, R150) -/
  refHist : List (Nat × Nat) := []
deriving DecidableEq, Repr

/-! ## Control, NVM, log -/

/-- One event-log entry (R467). -/
structure LogEntry where
  seq : Nat
  tick : Nat
  code : Nat
  /-- 0 to 4 the masters, 7 none -/
  master : Nat
  repeats : Nat := 0
  object : Nat
  detail : BitVec 32
deriving DecidableEq, Repr

/-- Phases of start-up (R473). -/
inductive Phase where
  /-- the reset has ended; the MP has not started (BOOT_SEQUENCE comes next) -/
  | reset
  /-- boot checks done; the configuration commits at L -/
  | booting
  /-- from L -/
  | ready
  /-- from A -/
  | settled
  /-- the fatal state (R490) -/
  | fatal
deriving DecidableEq, Repr

/-- The life of the device from reset to reset: what resets, the boot, the start of acquisition, a fatal error, the release
of the loupe and DBG_LOCK change, and no other command does (R431, R470 to R475, R490, R493). -/
structure LifeSt where
  phase : Phase := .reset
  /-- kind of the last reset: 0 power-on, 1 warm by nRESET, 2 warm by RESET_CTL -/
  resetKind : Nat := 0
  /-- tick at which the references settled (A) -/
  aTick : Nat := 0
  /-- tick of L -/
  lTick : Nat := 0
  /-- excitation and Z drives run (from A of R473 to a fatal error) -/
  drivesOn : Bool := false
  /-- RUN_CTL.DBG_LOCK -/
  dbgLock : Bool := false
  /-- LOUPE_STAT -/
  loupeValid : Bool := false
  loupeClass : Nat := 0
  /-- class and detail of the fatal error in force, and the tick of its detection -/
  fatalClass : Nat := 0
  fatalDetail : BitVec 32 := 0
  fatalTick : Nat := 0
  /-- the dump of the error in force is complete (R490) -/
  fatalDone : Bool := false
  /-- stall flags of the frame of the detection, once that frame has ended (R494) -/
  fatalStall : Option (List Bool) := none
  /-- nALERT is asserted (low) -/
  alert : Bool := false
  /-- IOSEL as read at the end of the reset (R503) -/
  iosel : Bool := false
  /-- firmware patches are loaded (R475) -/
  patched : Bool := true
deriving DecidableEq, Repr

/-- Device control and standalone service (chapters 14, 16). -/
structure CtlSt where
  /-- STATION -/
  station : Nat := 0
  /-- MODE_CTL.SEL, and whether Tally runs, and MODE_STAT.CAUSE -/
  modeSel : Nat := 0
  modePend : Option Nat := none
  tally : Bool := false
  modeCause : Nat := 0
  tallyCtl : Word := 0x3C32
  /-- TALLY_STAT -/
  tallyEntry : Nat := 0
  tallyHold : Nat := 0
  /-- mode evaluation has started (R217) -/
  modeRun : Bool := false
  profBusy : Bool := false
  hostWdt : Word := 100
  /-- tick at which the watchdog last restarted; none before L -/
  wdtFrom : Option Nat := none
  /-- standalone service; begins and ends at frame boundaries -/
  svc : Bool := false
  /-- it begins, or ends, at the next frame boundary: the order stamp of the expiry, or of the release -/
  svcPend : Option Nat := none
  svcEndPend : Option Nat := none
  /-- HOST has written HOST_ALIVE since service began -/
  aliveInSvc : Bool := false
  load : Nat := 0
  shed : Nat := 0
  /-- consecutive judgements at 60 % or less -/
  lowRun : Nat := 0
  /-- frames since the last judgement of the load was due (R440) -/
  loadFrames : Nat := 0
  /-- EXTEST has the lands (R431) -/
  extest : Bool := false
  /-- nACK has fallen for the last cycle: the cycle was acknowledged (R412) -/
  acked : Bool := false
  irq0 : Word := 0
  irq1 : Word := 0
  mask0 : Word := 0
  mask1 : Word := 0
  /-- bezel words of space 0x7, and words written directly that wait for the frame boundary: target, value, master -/
  bezel : Mem16 := []
  bezelPend : List (Nat × Word × Master) := []
  /-- commits that have taken effect (R423) -/
  commits : List CommitRec := []
  /-- order of acceptances -/
  stamp : Nat := 0
  /-- the last acceptance before the last frame boundary: what it carries is due there (R12) -/
  frameStamp : Nat := 0
  /-- tick of the last frame boundary whose work has run -/
  frameAt : Option Nat := none
  /-- tick of the last HBEAT_SEND -/
  hbeatAt : Option Nat := none
deriving DecidableEq, Repr

/-- NVM and profile banks (R465, R466, R476 to R482). -/
structure NvmSt where
  /-- words of space 0x8 but factory trim and the key -/
  words : Mem16 := []
  /-- the station key (R345) -/
  key : DWord := 0
  /-- page buffer: page number and words (R466) -/
  buf : Option (Nat × List (Nat × Word)) := none
  /-- page being programmed -/
  prog : Option (Nat × List (Nat × Word)) := none
  /-- bank in force, none for the factory configuration (R476) -/
  bank : Option Nat := none
  /-- bank chosen at boot, the other valid bank, commits refused so far -/
  chosen : Option Nat := none
  refused : Nat := 0
  /-- frame boundary at which the last commit was tried -/
  triedAt : Nat := 0
  /-- bank that a save writes -/
  saving : Option Nat := none
  /-- BR_SEQ of the next bank record -/
  brSeq : Nat := 0
  /-- the image in force is the factory image; cell constants only (R482) -/
  factoryImg : Bool := true
  cellsOnly : Bool := false
deriving DecidableEq, Repr

/-- A fabric trace entry of the loupe (R494). -/
structure FrameTrace where
  tick : Nat
  fabric : Nat
  used : List Nat
  stalled : List Bool
deriving DecidableEq, Repr

/-- The whole state. -/
@[ext]
structure State where
  /-- commands waiting, first in, first out -/
  pending : List Instr := []
  /-- the model's own counter of free values drawn -/
  free : Nat := 0
  host : MasterSt := {}
  mp : MasterSt := {}
  canA : MasterSt := {}
  canB : MasterSt := {}
  debug : MasterSt := {}
  /-- staged facet blocks, by n × 32 + word (space 0x0) -/
  fpStaged : Mem16 := []
  /-- active facet blocks, by n × 32 + word -/
  fpActive : Mem16 := []
  facets : Store FacetRT := []
  applies : List ApplyReq := []
  /-- FCT_APPLY.NEED_SPARE and FCT_APPLY.CAUSE -/
  needSpare : Bool := false
  applyCause : Nat := 0
  /-- FCT_FAULT_SUM.COUNT -/
  faultSum : Nat := 0
  fctRead : FctRead := {}
  exc : ExcSt := {}
  spare : SpareUnit := {}
  chain : ChainSt := {}
  budget : BudgetSt := {}
  time : TimeSt := {}
  ports : Store PosPort := []
  bead : BeadSt := {}
  trg : TrgSt := {}
  cap : CapSt := {}
  msg : MsgSt := {}
  can : Store CanPort := []
  candev : CanDev := {}
  /-- remote sessions of ports A and B -/
  sess : Store Session := []
  cal : CalSt := {}
  /-- staged and active user curves, by word of space 0xC -/
  curves : Mem16 := []
  /-- words of active user curves before activations, latest first: tick, curve 0 to 15, words (R102, R117) -/
  curveOld : List (Nat × Nat × List Word) := []
  /-- user curves checked and waiting for the frame boundary, each with the order stamp of its acceptance and its master -/
  curvePend : List (Nat × Nat × Master) := []
  life : LifeSt := {}
  ctl : CtlSt := {}
  nvm : NvmSt := {}
  /-- event log ring by E_SEQ mod 256, and the next E_SEQ -/
  log : Store (Option LogEntry) := []
  logSeq : Nat := 0
  /-- low words of window values written and waiting for their highest word (R444), by space × 2^24 + address -/
  winHold : Store (Option Word) := []
  /-- the loupe dump, by word of space 0x6 -/
  loupe : Mem16 := []
  /-- the last 256 frames -/
  trace : List FrameTrace := []
deriving DecidableEq, Repr

/-! ## How a step can stop -/

/-- The faults of the model. No command of the BK5120 stops the device's step: a fatal error is a state of the device
(R490), reached by a next state. -/
inductive Fault where
  /-- raised by nothing: it is named so that the type has a value; safe -/
  | stuck
deriving DecidableEq, Repr

/-- Refusals of the model. -/
inductive Refusal where
  /-- raised by an arm of `exec` whose command has no meaning yet; safe -/
  | notModelled (mnemonic : String)
deriving DecidableEq, Repr

/-- The device right after a power-on reset, before the MP starts: every field at its value of the reference chapter
(R443), no command waiting. -/
def State.reset : State := {}

end Sys2Proof.Machine
end

