-- ==== Sys2Proof/Machine/Store.lean ====
section
/-! DEFINITION. Sparse tables in one canonical form: keys strictly rising, no entry equal to what an unlisted key
reads as. Every table of the state is read and written through `Store.get` and `Store.set`. -/

namespace Sys2Proof.Machine

variable {α : Type}

/-- What key `k` reads as; `d` is what an unlisted key reads as. -/
def Store.get (d : α) : Store α → Nat → α
  | [], _ => d
  | (j, v) :: m, k => if k = j then v else Store.get d m k

/-- Remove key `k`. -/
def Store.erase : Store α → Nat → Store α
  | [], _ => []
  | (j, v) :: m, k => if j = k then Store.erase m k else (j, v) :: Store.erase m k

/-- List `v` under key `k`, keeping the keys rising. -/
def Store.insert : Store α → Nat → α → Store α
  | [], k, v => [(k, v)]
  | (j, w) :: m, k, v =>
    if k < j then (k, v) :: (j, w) :: m else if k = j then (k, v) :: m else (j, w) :: Store.insert m k v

/-- Write `v` under key `k`: the entry goes when `v` is what an unlisted key reads as. -/
def Store.set [DecidableEq α] (d : α) (m : Store α) (k : Nat) (v : α) : Store α :=
  if v = d then Store.erase m k else Store.insert m k v

/-- Change the value under key `k`. -/
def Store.mod [DecidableEq α] (d : α) (m : Store α) (k : Nat) (f : α → α) : Store α :=
  Store.set d m k (f (Store.get d m k))

/-- Keys strictly rising, each above `lo`. -/
def Store.rising (lo : Option Nat) : Store α → Bool
  | [] => true
  | (j, _) :: m => (match lo with | none => true | some l => decide (l < j)) && Store.rising (some j) m

/-- The canonical form: keys strictly rising, and no entry equal to its default. -/
def Store.wf [DecidableEq α] (d : Nat → α) (m : Store α) : Bool :=
  Store.rising none m && m.all (fun e => decide (e.2 ≠ d e.1))

/-- Write a run of values from key `k` on; `d` gives what each unlisted key reads as. -/
def Store.setRun [DecidableEq α] (d : Nat → α) : Store α → Nat → List α → Store α
  | m, _, [] => m
  | m, k, v :: vs => Store.setRun d (Store.set (d k) m k v) (k + 1) vs

/-- Change every listed value; an entry that becomes its default goes. -/
def Store.mapV [DecidableEq α] (d : α) (f : Nat → α → α) (m : Store α) : Store α :=
  (m.map fun e => (e.1, f e.1 e.2)).filter fun e => decide (e.2 ≠ d)

/-- The table of the values of `f` at keys 0 to `n` − 1. -/
def Store.build [DecidableEq α] (d : α) (n : Nat) (f : Nat → α) : Store α :=
  ((List.range n).map fun k => (k, f k)).filter fun e => decide (e.2 ≠ d)

/-- Keep only the entries whose key passes the test. -/
def Store.keep (p : Nat → Bool) (m : Store α) : Store α := m.filter (fun e => p e.1)

/-! ## Words and fields -/

/-- Bits `lo` to `lo + n - 1` of a number. -/
def bits (x lo n : Nat) : Nat := x / 2 ^ lo % 2 ^ n

/-- Field `lo`, `n` of a word. -/
def fld (w : Word) (lo n : Nat) : Nat := bits w.toNat lo n

/-- Word `w` with its field `lo`, `n` set to the low bits of `v`. -/
def setFld (w : Word) (lo n v : Nat) : Word :=
  BitVec.ofNat 16 (w.toNat - bits w.toNat lo n * 2 ^ lo + v % 2 ^ n * 2 ^ lo)

/-- A word from a number. -/
def w16 (n : Nat) : Word := BitVec.ofNat 16 n

/-- A word from a signed number. -/
def w16i (n : Int) : Word := BitVec.ofInt 16 n

/-- 0 or 1. -/
def b2n (b : Bool) : Nat := if b then 1 else 0

/-- The 32-bit value of two words, low first. -/
def dw (lo hi : Word) : DWord := hi ++ lo

/-- The low and high words of a 32-bit value. -/
def lo16 (d : DWord) : Word := d.setWidth 16
def hi16 (d : DWord) : Word := (d >>> 16).setWidth 16

/-- The `i`-th word of a number, least significant first. -/
def wordOf (n i : Nat) : Word := w16 (n / 65536 ^ i)

/-- `n` little-endian bytes of a number. -/
def leBytes (n : Nat) (v : Nat) : List Byte := (List.range n).map fun i => BitVec.ofNat 8 (v / 256 ^ i)

/-- The number that little-endian bytes spell. -/
def leNat : List Byte → Nat
  | [] => 0
  | b :: bs => b.toNat + 256 * leNat bs

/-- Words of a byte list, two bytes to a word, the lower byte in bits 7:0. -/
def wordsOfBytes : List Byte → List Word
  | a :: b :: bs => (b ++ a : Word) :: wordsOfBytes bs
  | [a] => [a.setWidth 16]
  | [] => []

/-- The bytes of a word list. -/
def bytesOfWords : List Word → List Byte
  | [] => []
  | w :: ws => w.setWidth 8 :: (w >>> 8).setWidth 8 :: bytesOfWords ws

/-- Saturating increment of a 16-bit counter. -/
def satInc (n : Nat) : Nat := if n < 65535 then n + 1 else 65535

/-- Saturate a signed value to `n` bits. -/
def satS (n : Nat) (x : Int) : Int := max (-(2 ^ (n - 1) : Int)) (min (2 ^ (n - 1) - 1) x)

end Sys2Proof.Machine
end

