-- ==== Sys2Proof/Machine/Num.lean ====
section
/-! DEFINITION. Numbers: rounding, the binary32 format (R6), and the elementary functions that the spec's formulas
use, computed on exact rationals to well beyond a binary32 value's precision (R120, log 8). -/

namespace Sys2Proof.Machine

/-- Round to the nearest integer, ties to even. -/
def roundEven (q : Rat) : Int :=
  let f := q.floor
  let r := q - f
  if r < 1 / 2 then f else if 1 / 2 < r then f + 1 else if f % 2 = 0 then f else f + 1

/-- Round to the nearest integer, ties away from zero. -/
def roundHalf (q : Rat) : Int :=
  if 0 ≤ q then (q + 1 / 2).floor else -((-q + 1 / 2).floor)

/-- Powers of two with a signed exponent. -/
def pow2 (e : Int) : Rat := if 0 ≤ e then (2 ^ e.toNat : Nat) else 1 / ((2 ^ (-e).toNat : Nat) : Rat)

/-- The exponent of a positive rational: the largest e with 2^e at most q. -/
def expOf (q : Rat) : Int :=
  let e : Int := (Nat.log2 q.num.natAbs : Int) - Nat.log2 q.den
  if q < pow2 e then e - 1 else e

/-- The quiet NaN of the device (R6). -/
def qnan : DWord := 0x7FC00000

/-- Round a rational once to binary32, nearest, ties to even; beyond the largest finite value it is an infinity. -/
def f32OfRat (q : Rat) : DWord :=
  if q = 0 then 0 else
  let a := if q < 0 then -q else q
  let e := max (expOf a) (-126)
  let m := (roundEven (a * pow2 (23 - e))).toNat
  let b := (e + 126).toNat * 2 ^ 23 + m
  let b := if b < 0x7F800000 then b else 0x7F800000
  BitVec.ofNat 32 (if q < 0 then b + 2 ^ 31 else b)

/-- The rational that a finite binary32 value states; none for an infinity or a NaN. -/
def f32ToRat (d : DWord) : Option Rat :=
  let n := d.toNat
  let e := bits n 23 8
  let f := bits n 0 23
  if e = 255 then none else
  let a : Rat := if e = 0 then f * pow2 (-149) else (2 ^ 23 + f : Nat) * pow2 ((e : Int) - 150)
  some (if n < 2 ^ 31 then a else -a)

/-- A finite value, 0 where the bits are no finite value. -/
def f32R (d : DWord) : Rat := (f32ToRat d).getD 0

/-- A binary32 value is finite. -/
def f32Finite (d : DWord) : Bool := bits d.toNat 23 8 != 255

/-- A binary32 value is a NaN. -/
def f32NaN (d : DWord) : Bool := bits d.toNat 23 8 == 255 && bits d.toNat 0 23 != 0

/-- Round to a multiple of 2^−n, which bounds the size of intermediate rationals. -/
def rd (n : Nat) (q : Rat) : Rat := (roundEven (q * (2 ^ n : Nat)) : Rat) / (2 ^ n : Nat)

/-- Bits kept after the point by the elementary functions. -/
def fixBits : Nat := 96

/-- Square root of a non-negative rational, to 2^−96. -/
def sqrtR (q : Rat) : Rat :=
  if q ≤ 0 then 0 else ((q * (4 ^ fixBits : Nat)).floor.toNat.sqrt : Rat) / (2 ^ fixBits : Nat)

/-- Sum of terms t_0 = t, t_{i+1} = t_i · x / den i, over `n` terms. -/
def serSum (x : Rat) (den : Nat → Rat) : Nat → Nat → Rat → Rat
  | 0, _, _ => 0
  | n + 1, i, t => t + serSum x den n (i + 1) (rd (2 * fixBits) (t * x / den i))

/-- The term of arctan (1/k) with index `i`. -/
def arcTerm (k i : Nat) : Rat :=
  (if i % 2 = 0 then (1 : Rat) else -1) / ((((2 * i + 1) * k ^ (2 * i + 1) : Nat)) : Rat)

/-- arctan (1/k), to 2^−192 for k at least 5. -/
def arcInv (k : Nat) : Rat := (List.range 80).foldl (fun a i => rd (2 * fixBits) (a + arcTerm k i)) 0

/-- π to 2^−96, by Machin's formula. -/
def piR : Rat := rd fixBits (4 * (4 * arcInv 5 - arcInv 239))

/-- e^x for |x| at most 1. -/
def expSmall (x : Rat) : Rat := serSum x (fun i => (i + 1 : Nat)) 40 0 1

/-- ln m for m in [1, 2]: 2 artanh((m − 1)/(m + 1)). -/
def lnSmall (m : Rat) : Rat :=
  let y := rd (2 * fixBits) ((m - 1) / (m + 1))
  let y2 := rd (2 * fixBits) (y * y)
  2 * (List.range 64).foldr (fun i a => rd (2 * fixBits) (1 / ((2 * i + 1 : Nat) : Rat) + y2 * a)) 0 * y

/-- ln 2 to 2^−96. -/
def ln2R : Rat := rd fixBits (lnSmall 2)

/-- Natural logarithm of a positive rational. -/
def lnR (q : Rat) : Rat :=
  if q ≤ 0 then 0 else
  let e := expOf q
  rd fixBits (lnSmall (q * pow2 (-e)) + e * ln2R)

/-- e^x, for |x| below 2^10. -/
def expR (x : Rat) : Rat :=
  let k := (x / ln2R).floor
  expSmall (rd (2 * fixBits) (x - k * ln2R)) * pow2 k

/-- sin x and cos x, reduced to |x| at most π. -/
def sincos (x : Rat) : Rat × Rat :=
  let k := roundEven (x / (2 * piR))
  let y := rd (2 * fixBits) (x - k * (2 * piR))
  let y2 := rd (2 * fixBits) (-(y * y))
  (rd fixBits (serSum y2 (fun i => ((2 * i + 2) * (2 * i + 3) : Nat)) 40 0 y),
   rd fixBits (serSum y2 (fun i => ((2 * i + 1) * (2 * i + 2) : Nat)) 40 0 1))

/-- x^n. -/
def ratPow (x : Rat) : Nat → Rat
  | 0 => 1
  | n + 1 => x * ratPow x n

/-- Σ c_i x^i. -/
def poly (cs : List Rat) (x : Rat) : Rat := cs.foldr (fun c a => c + x * a) 0

/-- Absolute value of a rational. -/
def rabs (q : Rat) : Rat := if q < 0 then -q else q

/-- Root in [lo, hi] of a function that rises, by bisection over `n` halvings. -/
def bisect (f : Rat → Rat) : Nat → Rat → Rat → Rat
  | 0, lo, hi => (lo + hi) / 2
  | n + 1, lo, hi => let m := (lo + hi) / 2; if f m ≤ 0 then bisect f n m hi else bisect f n lo m

/-! ## Cyclic redundancy checks -/

/-- One byte of a reflected CRC. -/
def crcStep (poly : Nat) : Nat → Nat → Nat
  | 0, c => c
  | n + 1, c => crcStep poly n (if c % 2 = 1 then (c / 2) ^^^ poly else c / 2)

/-- CRC-32 (IEEE 802.3, reflected, initial and final all ones) over bytes. -/
def crc32 (bs : List Byte) : Nat :=
  (bs.foldl (fun c b => crcStep 0xEDB88320 8 (c ^^^ b.toNat)) 0xFFFFFFFF) ^^^ 0xFFFFFFFF

/-- One byte of the CRC-16 of R406, most significant bit first. -/
def crc16Byte (c : Nat) (b : Byte) : Nat :=
  (List.range 8).foldl (fun c _ => if 32768 ≤ c then (c * 2 % 65536) ^^^ 0x1021 else c * 2) (c ^^^ (b.toNat * 256))

/-- CRC-16 with polynomial 0x1021 and initial value 0xFFFF (R406, log 9). -/
def crc16 (bs : List Byte) : Nat := bs.foldl crc16Byte 0xFFFF

end Sys2Proof.Machine
end

