-- ==== Sys2Proof/Machine/Defaults.lean ====
section
/-! DEFINITION. The default coefficient sets (R138). The spec gives their properties and not their coefficients: a set is
free (Config.defCoef) where it has the properties, and otherwise one that has them stands in its place, so that every set
that runs by default has unity DC gain and the response of R138 (DESIGN CHOICE, log 12). The response is judged on a grid of
frequencies. -/

namespace Sys2Proof.Machine

open Sys2Proof

/-- First coefficient of the output-decimator set of code `c` (R461). -/
def odecBase (c : Nat) : Nat := 48 + 2 * (2 ^ c - 1)

/-- The code of the output-decimator set that holds coefficient `i`, from 48 on (R461). -/
def odecCode (i : Nat) : Nat := Nat.log2 ((i - 48) / 2 + 1)

/-! ## Sets that have the properties -/

/-- The unique half of a stage-2 set with the response of R138. -/
def fine2 : List Int :=
  [-9, -47, -88, -63, 96, 356, 522, 312, -415, -1380, -1852, -1024, 1267, 3982, 5070, 2679, -3156, -9557, -11749,
   -6022, 6832, 20172, 24190, 12145, -13345, -38749, -45672, -22647, 24166, 69572, 81187, 40118, -41582, -119927,
   -139873, -69809, 70050, 206039, 244336, 126612, -121530, -380713, -480743, -281899, 244412, 979753, 1692328,
   2129959]

/-- Unique halves of short output-decimator sets with the response of R138, by code. -/
def fineShort : Nat → List Int
  | 0 => [895568, 6597472]
  | 1 => [-69872, 380615, 2166049, 3435024]
  | _ => [-18507, -42865, -1836, 193339, 582320, 1091238, 1534770, 1711690]

/-- Weight at a distance `d` from the centre of a long set of code `c`: four cosines over its span. -/
def fineWeight (c d : Nat) : Rat :=
  let m (k : Nat) : Rat := (sincos (piR * (k * d : Nat) / (2 * 2 ^ c : Nat))).2
  10000 + 15996 * m 1 + 5906 * m 2 + 410 * m 3

/-- Sum of the weights of a long set over its 4 · 2^c − 1 taps. -/
def fineTotal (c : Nat) : Rat := 10000 * (4 * 2 ^ c - 1 : Nat) + 15996 - 5906 + 410

/-- Coefficient at a distance from the centre, the centre excepted. -/
def fineSide (c d : Nat) : Int := roundEven (8388608 * fineWeight c d / fineTotal c)

/-- Coefficient `i` of the set of code `c` in the order of R461; the centre makes the DC gain exactly 1. -/
def fineOdec (c i : Nat) : Int :=
  if c ≤ 2 then (fineShort c).getD i 0
  else if i = 2 * 2 ^ c - 1 then
    8388608 - 2 * (List.range (2 * 2 ^ c - 1)).foldl (fun a j => a + fineSide c (2 * 2 ^ c - 1 - j)) 0
  else fineSide c (2 * 2 ^ c - 1 - i)

/-! ## The properties of R138 -/

/-- Amplitude at `f` Hz of a symmetric set at the rate `fs`: pairs of weight × 2^23 and distance from the centre in half
samples, each standing for both sides; `mid` is the centre tap. -/
def amplitude (fs : Nat) (mid : Int) (side : List (Int × Nat)) (f : Rat) : Rat :=
  (side.foldl (fun a (w, d) => a + 2 * w * (sincos (piR * f * d / fs)).2) (mid : Rat)) / 8388608

/-- The response of stage 1 relative to DC (R123). -/
def droop (f : Rat) : Rat :=
  if f = 0 then 1 else ratPow ((sincos (piR * f / 16000)).1 / (128 * (sincos (piR * f / 2048000)).1)) 5

/-- Unity DC gain and the response of stages 1 and 2, every 10 Hz. -/
def stage2Fine (h : List Int) : Bool :=
  let amp := amplitude 16000 0 (h.mapIdx fun i w => (w, 95 - 2 * i))
  decide (2 * h.foldl (· + ·) 0 = 8388608)
    && (List.range 141).all (fun i => let g := amp (10 * i : Nat) * droop (10 * i : Nat)
      decide (99942453 / 100000000 ≤ g ∧ g ≤ 100057580 / 100000000))
    && (List.range 541).all (fun i => let f : Rat := (2600 + 10 * i : Nat)
      decide (rabs (amp f * droop f) ≤ 1 / 100000))

/-- Unity DC gain and the response of an output decimator of code `c`, every f_o ÷ 20 in the stopband. -/
def odecFine (c : Nat) (h : List Int) : Bool :=
  let n := 2 * 2 ^ c
  let side := (h.take (n - 1)).mapIdx fun i w => (w, 2 * (n - 1 - i))
  let amp := amplitude 4000 (h.getLastD 0) side
  let fo : Rat := 4000 / (2 ^ c : Nat)
  decide (2 * (h.take (n - 1)).foldl (· + ·) 0 + h.getLastD 0 = 8388608)
    && (List.range 6).all (fun i => let g := amp (fo * i / 100)
      decide (98855310 / 100000000 ≤ g ∧ g ≤ 101157945 / 100000000))
    && decide (amp (fo * 28 / 100) ≥ 7079458 / 10000000 ∧ amp (fo * 32 / 100) ≤ 7079458 / 10000000)
    && (List.range (20 * 2 ^ c)).all (fun i => let f := fo * (18 + i : Nat) / 20
      decide (2000 < f) || decide (rabs (amp f) ≤ 316227 / 100000000))

/-! ## The sets that run -/

/-- The free set of stage 2, and of a code. -/
def free2 : List Int := (List.range 48).map fun i => (Config.defCoef i).toInt
def freeOdec (c : Nat) : List Int := (List.range (2 * 2 ^ c)).map fun i => (Config.defCoef (odecBase c + i)).toInt

/-- The default stage-2 set, and the default set of a code (R138). -/
def default2 : List Int := if stage2Fine free2 then free2 else fine2
def defaultOdec (c : Nat) : List Int :=
  if odecFine c (freeOdec c) then freeOdec c else (List.range (2 * 2 ^ c)).map (fineOdec c)

/-- Default coefficient `i` of a bank (R138). -/
def defaultCoef (i : Nat) : BitVec 24 :=
  if i < 48 then BitVec.ofInt 24 (default2.getD i 0)
  else BitVec.ofInt 24 ((defaultOdec (odecCode i)).getD (i - odecBase (odecCode i)) 0)

end Sys2Proof.Machine
end

