-- ==== Sys2Proof/Machine/Ops.lean ====
section
/-! DEFINITION. The named operations over the state that every family shares: the masters, the facets and their blocks,
the event log (R467), interrupts (R416), budgets (R433 to R435), records and their sequence numbers (R319 to R348). -/

namespace Sys2Proof.Machine

open Sys2Proof

/-! ## Masters -/

/-- `E_MASTER` of R467. -/
def masterCode : Master → Nat
  | .host => 0 | .mp => 1 | .canA => 2 | .canB => 3 | .debug => 4

/-- `E_MASTER` of no master. -/
def noMaster : Nat := 7

/-- A remote master (R346). -/
def isRemote : Master → Bool
  | .canA => true | .canB => true | _ => false

def State.master (s : State) : Master → MasterSt
  | .host => s.host | .mp => s.mp | .canA => s.canA | .canB => s.canB | .debug => s.debug

def State.setMaster (s : State) (m : Master) (v : MasterSt) : State :=
  match m with
  | .host => { s with host := v }
  | .mp => { s with mp := v }
  | .canA => { s with canA := v }
  | .canB => { s with canB := v }
  | .debug => { s with debug := v }

def State.modMaster (s : State) (m : Master) (f : MasterSt → MasterSt) : State := s.setMaster m (f (s.master m))

def State.modClasp (s : State) (m : Master) (f : Clasp → Clasp) : State :=
  s.modMaster m fun x => { x with clasp := f x.clasp }

/-- The five masters. -/
def masters : List Master := [.host, .mp, .canA, .canB, .debug]

/-- The remote master of port A or B (R341). -/
def remoteOf (p : Fin 2) : Master := if p = 0 then .canA else .canB

/-! ## Time -/

/-- The tick number of the last tick boundary (R11), the provisional count in UNSET (R159). -/
def State.tick (s : State) : Nat := s.time.tick

/-- The last tick boundary is a frame boundary (R11). -/
def State.isFrame (s : State) : Bool := s.time.tick % 4 == 0

/-- The frame boundary at or after a tick. -/
def frameAtOrAfter (t : Nat) : Nat := (t + 3) / 4 * 4

/-- A request accepted with this stamp is due: its frame boundary is the last one, and its tick is not over (R12). -/
def State.due (s : State) (stamp : Nat) : Bool :=
  s.ctl.frameAt == some s.time.tick && decide (stamp ≤ s.ctl.frameStamp)

/-- The timebase is in UNSET (R158). -/
def State.unset (s : State) : Bool := s.time.state == .unset

/-- A tick as a message carries it: 48 bits, all ones in UNSET (R336). -/
def State.msgTick (s : State) (t : Nat) : Nat := if s.unset then 2 ^ 48 - 1 else t % 2 ^ 48

/-! ## Facets -/

/-- F448 to F511 (R1). -/
def isZ (n : Nat) : Bool := 448 ≤ n

def State.facet (s : State) (n : Nat) : FacetRT := Store.get {} s.facets n

def State.setFacet (s : State) (n : Nat) (f : FacetRT) : State := { s with facets := Store.set {} s.facets n f }

def State.modFacet (s : State) (n : Nat) (f : FacetRT → FacetRT) : State := s.setFacet n (f (s.facet n))

/-- Apply an operation to each facet of a list. -/
def State.forFacets (s : State) (ns : List Nat) (f : Nat → State → State) : State := ns.foldl (fun t n => f n t) s

/-- F0 to F511. -/
def allFacets : List Nat := List.range 512

/-- What a parameter of a facet's block holds at reset (R460). -/
def fpReset (n w : Nat) : Word :=
  if isZ n then
    match w with
    | 13 => 1500 | 14 => 200
    | 16 => 10000 | 17 => w16 (1 + 4 * 256)
    | 18 => 10000 | 19 => w16 (4 * 256)
    | 20 => 10000 | 21 => w16 (4 * 256)
    | 22 => 10000 | 23 => w16 (4 * 256)
    | _ => 0
  else
    match w with
    | 1 => 5 | 4 => w16i (-2500) | 5 => w16i 7500 | 14 => 200 | 27 => 0x3F80
    | _ => 0

/-- The staged and the active block of facet `n`, word `w` (R458). -/
def State.fpS (s : State) (n w : Nat) : Word := Store.get (fpReset n w) s.fpStaged (n * 32 + w)
def State.fpA (s : State) (n w : Nat) : Word := Store.get (fpReset n w) s.fpActive (n * 32 + w)

def State.setFpS (s : State) (n w : Nat) (v : Word) : State :=
  { s with fpStaged := Store.set (fpReset n w) s.fpStaged (n * 32 + w) v }

def State.setFpA (s : State) (n w : Nat) (v : Word) : State :=
  { s with fpActive := Store.set (fpReset n w) s.fpActive (n * 32 + w) v }

/-- The local count in ns, `ns` after the last tick boundary (R157). -/
def State.nowNs (s : State) (ns : Nat) : Nat := s.tick * 250000 + ns

/-- Ports. -/
def State.port (s : State) (p : Nat) : PosPort := Store.get {} s.ports p
def State.setPort (s : State) (p : Nat) (v : PosPort) : State := { s with ports := Store.set {} s.ports p v }
def State.modPort (s : State) (p : Nat) (f : PosPort → PosPort) : State := s.setPort p (f (s.port p))

/-! ## The order of commits (R19 step 3) -/

/-- Ticks by which the MP starts each phase and measurement later under shedding (R441). -/
def State.calSlow (s : State) : Nat := if 4 ≤ s.ctl.shed then 64 else 0

/-- Stamps of the commits that wait: clasps, applies, activations, and the MP's results (R19, R423). -/
def State.commitStamps (s : State) : List Nat :=
  (masters.filterMap fun m => let c := (s.master m).clasp; if c.pend then some c.acceptStamp else none)
    ++ s.applies.map (fun (r : ApplyReq) => r.stamp)
    ++ ((List.range 4).filterMap fun p => (s.port p).actPend.map Prod.fst)
    ++ s.curvePend.map (fun (x : Nat × Nat × Master) => x.2.1)
    ++ (match s.cal.run with
        | some r => if r.phase = 3 ∧ (r.proc ≠ 2 ∨ r.fail ≠ 0) ∧ r.waitFrom + s.calSlow ≤ s.tick ∧ r.owed = 0 then [r.stamp] else []
        | none => [])

/-- The bead engine's state of a port. -/
def State.beadPort (s : State) (p : Nat) : BeadPort := Store.get {} s.bead.port p
def State.setBeadPort (s : State) (p : Nat) (v : BeadPort) : State :=
  { s with bead := { s.bead with port := Store.set {} s.bead.port p v } }
def State.modBeadPort (s : State) (p : Nat) (f : BeadPort → BeadPort) : State := s.setBeadPort p (f (s.beadPort p))

/-- CAN ports. -/
def State.canPort (s : State) (p : Nat) : CanPort := Store.get {} s.can p
def State.setCanPort (s : State) (p : Nat) (v : CanPort) : State := { s with can := Store.set {} s.can p v }
def State.modCanPort (s : State) (p : Nat) (f : CanPort → CanPort) : State := s.setCanPort p (f (s.canPort p))

/-- The remote session of port A or B. -/
def State.session (s : State) (p : Nat) : Session := Store.get {} s.sess p
def State.setSession (s : State) (p : Nat) (v : Session) : State := { s with sess := Store.set {} s.sess p v }
def State.modSession (s : State) (p : Nat) (f : Session → Session) : State := s.setSession p (f (s.session p))

/-! ## Interrupts and the event log -/

/-- Set bit `b` of `IRQ_STAT0` (R416, R456). -/
def State.irq0 (s : State) (b : Nat) : State := { s with ctl := { s.ctl with irq0 := s.ctl.irq0 ||| w16 (2 ^ b) } }

/-- Set bit `b` of `IRQ_STAT1`. -/
def State.irq1 (s : State) (b : Nat) : State := { s with ctl := { s.ctl with irq1 := s.ctl.irq1 ||| w16 (2 ^ b) } }

/-- nIRQ is low (R416); it is high impedance's default while the device is in reset (R23). -/
def State.nIrqLow (s : State) : Bool :=
  (s.ctl.irq0 &&& s.ctl.mask0) != 0 || (s.ctl.irq1 &&& s.ctl.mask1) != 0

/-- Enter an event of the log at a stated tick, merging it into the newest entry where R467 merges it. -/
def State.logT (s : State) (t code mcode object : Nat) (detail : BitVec 32) : State :=
  let new : LogEntry := { seq := s.logSeq, tick := t % 2 ^ 48, code, master := mcode, object, detail }
  let fresh : State := { s with log := Store.set none s.log (s.logSeq % 256) (some new), logSeq := (s.logSeq + 1) % 65536 }
  let last := (s.logSeq + 65535) % 65536 % 256
  match Store.get none s.log last with
  | none => fresh
  | some e =>
    if s.ctl.shed < 2 ∧ e.code = code ∧ e.master = mcode ∧ e.object = object then
      { s with log := Store.set none s.log last (some { e with repeats := min 31 (e.repeats + 1) }) }
    else fresh

/-- Enter an event of the log at the present tick. -/
def State.logE (s : State) (code mcode object : Nat) (detail : BitVec 32) : State := s.logT s.tick code mcode object detail

/-- The entry of an ignored write (code 0x01 of R467). -/
def State.logIgnored (s : State) (m : Master) (object addr : Nat) : State :=
  s.logE 1 (masterCode m) object (BitVec.ofNat 32 addr)

/-! ## Budgets -/

/-- The activities of R432, by their codes. -/
def actAcq : Nat := 0
def actBead : Nat := 1
def actCapt : Nat := 2
def actEgr : Nat := 3
def actHost : Nat := 4
def actMp : Nat := 5
def actCal : Nat := 6
def actScrub : Nat := 7

/-- Serving order of R433: ACQ, BEAD, EGR, CAPT, HOST, CAL, MP, SCRUB. -/
def serveOrder : List Nat := [0, 1, 3, 2, 4, 6, 5, 7]

/-- What an activity may use in this frame: its budget, as far as the last measured fabric rate reaches in the order of
R433 (R437; log 16). -/
def BudgetSt.limit (b : BudgetSt) (act : Nat) : Nat :=
  let mine := b.set.getD act 0
  if b.fabric = 0 then mine else
  let before := (serveOrder.takeWhile (· != act)).foldl (fun a j => a + b.set.getD j 0) 0
  min mine (b.fabric - before)

/-- Count a stall of an activity, once a frame (R434). -/
def State.stall (s : State) (act : Nat) : State :=
  if s.budget.stalled.getD act false then s else
  { s with budget := { s.budget with
      stalled := s.budget.stalled.set act true
      ovr := s.budget.ovr.set act (satInc (s.budget.ovr.getD act 0)) } }.irq0 10

/-- The fabric rate lies below the sum of the budgets in force; a rate of 0 stands for no measurement yet. -/
def BudgetSt.low (b : BudgetSt) : Bool := b.fabric != 0 && decide (b.fabric < b.set.foldl (· + ·) 0)

/-- `IRQ_STAT0.FABRIC` and the log, as the fabric rate falls below the budgets: by a measurement or by a commit (R437). -/
def State.fabricEdge (s : State) (was : Bool) : State :=
  if s.budget.low && !was then (s.irq0 11).logE 0x10 noMaster 0 (BitVec.ofNat 32 (min 65535 (s.budget.fabric / 4))) else s

/-- Use `n` transfers of an activity's budget; none when it has not got them. -/
def State.spend (s : State) (act n : Nat) : Option State :=
  let used := s.budget.used.getD act 0
  if used + n ≤ s.budget.limit act then
    some { s with budget := { s.budget with used := s.budget.used.set act (used + n) } }
  else none

/-- Use up to what is left: for work that waits and is never lost. -/
def State.spendAll (s : State) (act n : Nat) : State :=
  match s.spend act n with
  | some t => t
  | none => s.stall act

/-! ## Records (R319 to R340) -/

/-- TYPE, PRIO and home port with `SPLIT` clear and set (R312, R320). -/
def MsgType.code : MsgType → Nat
  | .alarm => 1 | .gap => 2 | .bead => 3 | .trec => 4 | .capt => 5 | .hbeat => 6 | .rrsp => 8 | .mark => 9
  | .calev => 10 | .sparev => 11

def MsgType.prio : MsgType → Nat
  | .alarm => 1 | .gap => 2 | .bead => 3 | .trec => 4 | .capt => 6 | .hbeat => 5 | .rrsp => 5 | .mark => 3
  | .calev => 5 | .sparev => 5

/-- `G_CONS` of a lost record of the type (R276, R252). -/
def MsgType.consumer : MsgType → Nat
  | .trec => 3 | .bead => 4 | .capt => 1 | _ => 5

/-- The identifier of R319. -/
def mkIdent (prio ty station sub : Nat) : BitVec 29 :=
  BitVec.ofNat 29 (prio % 8 * 2 ^ 26 + ty % 32 * 2 ^ 21 + station % 256 * 2 ^ 13 + sub % 8192)

/-- Form a record: it waits for EGRESS_STAGING (R274). `port` is 0, 1, or 2 for the home port of its type. -/
def State.emit (s : State) (ty : MsgType) (port sub : Nat) (data : List Byte)
    (first : Nat := 0) (last : Nat := 511) (start : Nat := 0) (len : Nat := 1) : State :=
  let r : Rec := { ty, ident := mkIdent ty.prio ty.code s.ctl.station sub, data, first, last, start, len,
                   frame := s.tick / 4 }
  { s with msg := { s.msg with out := s.msg.out ++ [(port, r)] } }

/-- Form an ALARM of R325. -/
def State.alarmAt (s : State) (t code object : Nat) (detail : Nat) : State :=
  let a := (s.msg.seq.a + 1) % 65536
  let s := { s with msg := { s.msg with seq := { s.msg.seq with a } } }
  s.emit .alarm 2 (object % 8192)
    (leBytes 2 a ++ leBytes 6 (s.msgTick t) ++ leBytes 1 code ++ [0] ++ leBytes 2 object ++ leBytes 4 detail)
    (if object < 512 ∧ code ≤ 2 then object else 0) (if object < 512 ∧ code ≤ 2 then object else 511) t 1

def State.alarm (s : State) (code object detail : Nat) : State := s.alarmAt s.tick code object detail

/-- `OBJECT` of the device. -/
def objDevice : Nat := 0x1FFF

/-- An ALARM of code 1 or 2 of a facet under the limit of R327. -/
def State.facetAlarm (s : State) (n code detail : Nat) : State :=
  let f := s.facet n
  match f.alarmFrom with
  | none => (s.setFacet n { f with alarmFrom := some s.tick, alarmSent := 1, alarmHeld := 0 }).alarm code n detail
  | some _ =>
    if f.alarmSent < 4 then (s.setFacet n { f with alarmSent := f.alarmSent + 1 }).alarm code n detail
    else s.setFacet n { f with alarmHeld := f.alarmHeld + 1 }

/-- A signed value as 32-bit two's complement, as a number. -/
def s32 (x : Int) : Nat := (BitVec.ofInt 32 (satS 32 x)).toNat

/-! ## Losses (R276 to R278) -/

/-- A loss that a record of its own states, whatever follows it: a step, a calibration, a bead without a place (R176, R230,
R360). -/
def ownRecord (cause : Nat) : Bool := cause == 2 || cause == 6 || cause == 7

/-- Add lost ticks: they extend a loss of the same span, cause and consumer that they continue, or start one. The next
piece of a loss of outputs comes after the ticks of one output, that of another loss at the next tick. No gap record arises
in UNSET (R159, R276, R277). -/
def State.lose (s : State) (first last start len cause cons : Nat) : State :=
  if len = 0 ∨ s.unset then s else
  let by_ := if ownRecord cause then 0 else s.tick + (if cause = 1 ∨ (cause = 5 ∧ cons = 4) ∨ ((cause = 4 ∨ cause = 5) ∧ cons = 3) then len else 1)
  let same (l : Loss) : Bool :=
    l.first == first && l.last == last && l.cause == cause && l.cons == cons && !ownRecord cause
      && decide (l.start ≤ start ∧ start ≤ l.start + l.len)
  let ext (l : Loss) : Loss := { l with len := max l.len (start + len - l.start), until_ := max l.until_ by_ }
  let ls :=
    if s.msg.losses.any same then s.msg.losses.map (fun l => if same l then ext l else l)
    else s.msg.losses ++ [{ first := first, last := last, start := start, len := len, cause := cause, cons := cons, until_ := by_ : Loss }]
  { s with msg := { s.msg with losses := ls } }

/-! ## Clasp order -/

/-- The next order stamp of an acceptance (R19, R423). -/
def State.nextStamp (s : State) : State := { s with ctl := { s.ctl with stamp := s.ctl.stamp + 1 } }

/-- A commit of `m` took effect on a unit (R423). -/
def State.committed (s : State) (m : Master) (u : CUnit) : State :=
  let s := s.nextStamp
  { s with ctl := { s.ctl with
      commits := { unit := u, master := m, stamp := s.ctl.stamp } ::
        s.ctl.commits.filter (fun c => !(c.unit == u && c.master == m)) } }

/-- Another master's commit took effect on the unit after the stamp (R423). -/
def State.conflicts (s : State) (m : Master) (stamp : Nat) (u : CUnit) : Bool :=
  s.ctl.commits.any fun c => c.unit == u && c.master != m && decide (stamp < c.stamp)

/-! ## The MP runs and the device acquires -/

/-- From L of R473, outside the fatal state. -/
def State.ready (s : State) : Bool := s.life.phase == .ready || s.life.phase == .settled

/-- Each update of an entry steps both sequence words (R463). -/
def State.touchEntry (s : State) (e : Nat) : State :=
  { s with bead := { s.bead with entrySeq := Store.mod 0 s.bead.entrySeq e (fun v => (v + 1) % 65536) } }

/-- Flags of every open bead of a port; an entry that gains one is updated (R246, R250, R463). -/
def State.flagBeads (s : State) (p : Nat) (m : Word) : State :=
  let hit := s.bead.beads.filter fun (b : Bead) => b.port == p && (b.flags &&& m) != m
  let s := { s with bead := { s.bead with beads := s.bead.beads.map fun (b : Bead) =>
    if b.port = p then { b with flags := b.flags ||| m } else b } }
  hit.foldl (fun s b => s.touchEntry b.entry) s

end Sys2Proof.Machine
end

