-- ==== Sys2Proof/Machine/Operands.lean ====
section
/-! DEFINITION. The fields of the parameter blocks as the commands use them (R31 to R56, R71 to R76, R100 to R107,
R125, R131, R330, R391, R458), and the figures derived from them. A block is read through a function from word number
to word, so that the same definitions serve the staged and the active block. -/

namespace Sys2Proof.Machine

open Sys2Proof

/-- A facet's block. -/
abbrev Blk := Nat → Word

def State.blkS (s : State) (n : Nat) : Blk := s.fpS n
def State.blkA (s : State) (n : Nat) : Blk := s.fpA n

/-- The active block of a facet as it stood in tick `k`: applies since then are set aside (R42, R44). -/
def State.blkAt (s : State) (n k : Nat) : Blk := fun w =>
  match ((s.facet n).blkOld.filter fun e => decide (k < e.1) && e.2.1 == w).getLast? with
  | some e => e.2.2
  | none => s.fpA n w

/-- A binary32 parameter at words `w`, `w` + 1. -/
def Blk.f32 (b : Blk) (w : Nat) : DWord := dw (b w) (b (w + 1))

def Blk.type (b : Blk) : Nat := fld (b 0) 0 4
def Blk.curve (b : Blk) : Nat := fld (b 0) 4 6
def Blk.range (b : Blk) : Nat := fld (b 1) 0 3
def Blk.ratio (b : Blk) : Bool := fld (b 1) 4 1 == 1
def Blk.bias (b : Blk) : Nat := fld (b 1) 8 2
def Blk.mode (b : Blk) : Nat := fld (b 2) 0 4
def Blk.revPer (b : Blk) : Nat := fld (b 2) 4 7
def Blk.load (b : Blk) : Nat := (b 3).toNat
def Blk.cmwLo (b : Blk) : Int := (b 4).toInt
def Blk.cmwHi (b : Blk) : Int := (b 5).toInt
def Blk.noutCode (b : Blk) : Nat := fld (b 6) 0 4
def Blk.nout (b : Blk) : Nat := 2 ^ b.noutCode
def Blk.notch (b : Blk) : Nat := fld (b 6) 4 3
def Blk.beltEn (b : Blk) : Bool := fld (b 7) 0 1 == 1
def Blk.beltPort (b : Blk) : Nat := fld (b 7) 1 2
def Blk.beltOfs (b : Blk) : Int := (b 8).toInt
def Blk.role (b : Blk) : Nat := fld (b 9) 0 3
def Blk.policy (b : Blk) : Nat := fld (b 9) 8 2
def Blk.trecDiv (b : Blk) : Nat := fld (b 10) 0 13
def Blk.cjSrc (b : Blk) : Nat := fld (b 13) 0 1
def Blk.cjFacet (b : Blk) : Nat := fld (b 13) 1 9
def Blk.cjDefault (b : Blk) : Int := (b 14).toInt
def Blk.curveP (b : Blk) (i : Nat) : DWord := b.f32 (18 + 2 * i)
def Blk.engGain (b : Blk) : DWord := b.f32 26
def Blk.engOfs (b : Blk) : DWord := b.f32 28

def Blk.zLevel (b : Blk) : Nat := fld (b 1) 0 4
def Blk.zCoefSrc (b : Blk) : Nat := fld (b 1) 4 1
def Blk.zTempEn (b : Blk) : Bool := fld (b 1) 5 1 == 1
def Blk.zTempFacet (b : Blk) : Nat := fld (b 1) 6 9
def Blk.zW (b : Blk) (j : Nat) : Int := (b (2 + j)).toInt
def Blk.zFill (b : Blk) : Nat := (b 13).toNat
def Blk.zTempDefault (b : Blk) : Int := (b 14).toInt
def Blk.zFreq (b : Blk) (j : Nat) : Nat := (b (16 + 2 * j)).toNat
def Blk.zDwell (b : Blk) (j : Nat) : Nat := fld (b (17 + 2 * j)) 0 7
def Blk.zRange (b : Blk) (j : Nat) : Nat := fld (b (17 + 2 * j)) 8 3
def Blk.zMc (b : Blk) (j : Nat) : DWord := b.f32 (24 + 2 * j)

/-- The bits that the layout of R458 gives a word of a block; the other bits are reserved and read 0 (R10). -/
def fpMask (n w : Nat) : Word :=
  if isZ n then
    match w with
    | 0 => 0x03FF | 1 => 0x7FFF | 6 => 0x007F | 7 => 0x0007 | 9 => 0x0307 | 10 => 0x1FFF
    | 17 => 0x077F | 19 => 0x077F | 21 => 0x077F | 23 => 0x077F
    | 11 => 0 | 12 => 0 | 15 => 0
    | _ => 0xFFFF
  else
    match w with
    | 0 => 0x03FF | 1 => 0x0317 | 2 => 0x07FF | 6 => 0x007F | 7 => 0x0007 | 9 => 0x0307 | 10 => 0x1FFF
    | 13 => 0x03FF | 11 => 0 | 12 => 0 | 15 => 0 | 16 => 0 | 17 => 0 | 30 => 0 | 31 => 0
    | _ => 0xFFFF

/-- Words of a block that hold parameters (R458). -/
def fpIsParam (n w : Nat) : Bool := fpMask n w != 0

/-! ## Ranges and excitation -/

/-- Full scale of a B-facet range, V (R33). -/
def fsB (r : Nat) : Rat := ([1 / 100, 4 / 100, 16 / 100, 64 / 100, 256 / 100, 1024 / 100] : List Rat).getD r (1024 / 100)

/-- Full scale of a sense range, A (R76). -/
def fsZ (r : Nat) : Rat :=
  ([10 / 1000000, 40 / 1000000, 160 / 1000000, 640 / 1000000, 2560 / 1000000] : List Rat).getD r (2560 / 1000000)

def fsOf (n r : Nat) : Rat := if isZ n then fsZ r else fsB r

/-- Nominal excitation voltage of a mode, µV; 0 where it is none (R36). -/
def excUv (mode : Nat) : Nat :=
  match mode with
  | 1 => 1000000 | 2 => 2500000 | 3 => 5000000 | 4 => 10000000 | _ => 0

/-- Nominal excitation current of a mode, nA; 0 where it is none (R36). -/
def excNa (mode : Nat) : Nat :=
  match mode with
  | 8 => 100000 | 9 => 250000 | 10 => 1000000 | 11 => 4000000 | _ => 0

def modeListed (mode : Nat) : Bool := mode ≤ 4 || (8 ≤ mode && mode ≤ 11)

/-- The measurement class is excited (R31, R71). -/
def excitedClass (n ty : Nat) : Bool := if isZ n then ty == 1 else 4 ≤ ty

/-- The excitation of a facet is on. -/
def excOn (n : Nat) (b : Blk) : Bool := if isZ n then b.zLevel != 0 else b.mode != 0

/-- The excitation monitor judges the facet (R32). -/
def monitorJudges (n : Nat) (b : Blk) : Bool := excitedClass n b.type && excOn n b

/-- The common-mode window judges the facet (R32). -/
def windowJudges (n : Nat) (b : Blk) : Bool := !isZ n && (b.type != 0 && !excitedClass n b.type)

/-- Expected current of a facet, nA, as an exact rational (R51). R51 gives none for a voltage-excited facet of another type than
4, 5 or 6; the model takes E ÷ `FP_LOAD` there as well, so that such an apply, which code 5 refuses in any case, may be
refused with code 1 or 2 instead (DESIGN CHOICE, log 193). -/
def expectedNa (b : Blk) : Rat :=
  let e : Rat := excUv b.mode
  if e = 0 then excNa b.mode else
  (if b.load = 0 then 0 else e * 1000 / (b.load : Rat)) + (if b.type = 5 ∨ b.type = 6 then e / 20 else 0)

/-- The excitation is in its reversed phase in tick `k` (R41). -/
def reversed (b : Blk) (k : Nat) : Bool := b.revPer != 0 && decide (k / b.revPer % 2 = 1)

/-- `EXC_CTL.TOL` as a share (R54). -/
def excTol (code : Nat) : Rat := ([5 / 1000, 1 / 100, 2 / 100, 4 / 100, 8 / 100] : List Rat).getD code (8 / 100)

/-! ## Z schedules -/

/-- Active slots, ascending (R78). -/
def activeSlots (b : Blk) : List Nat := (List.range 4).filter (fun j => b.zDwell j != 0)

/-- A Z-facet in scheduled operation (R78); an unassigned one runs in continuous operation (R71). -/
def scheduled (n : Nat) (b : Blk) : Bool := isZ n && (b.type != 0 && decide (2 ≤ (activeSlots b).length))

/-- Cycle length C (R80). -/
def cycleLen (b : Blk) : Nat := (activeSlots b).foldl (fun a j => a + b.zDwell j) 0

/-- The active slot of continuous operation: the lowest active one. -/
def contSlot (b : Blk) : Nat := (activeSlots b).headD 0

/-- The active slot at an offset within a cycle, and the offset within its dwell (R80, R81). -/
def slotAt (b : Blk) (o : Nat) : Nat × Nat :=
  let rec go : List Nat → Nat → Nat × Nat
    | [], x => (0, x)
    | j :: js, x => if x < b.zDwell j then (j, x) else go js (x - b.zDwell j)
  go (activeSlots b) o

/-- The range code that a facet's words use: the active slot's on a continuous Z-facet. -/
def rangeOf (n : Nat) (b : Blk) : Nat :=
  if isZ n then (if b.type = 0 then 4 else b.zRange (contSlot b)) else b.range

/-! ## Delays and lengths -/

/-- Formation tick of an output (R134). -/
def formationTick (aperture nout : Nat) : Nat := aperture + 2 * nout + 13

/-- Nominal formation instant in units of 1/2048 tick: aperture + 12.4951… + 2·N_out − 1 ticks (R134). -/
def nominalForm2048 (aperture nout : Nat) : Nat := (aperture + 2 * nout - 1) * 2048 + 25590

/-- Group delay in units of 10 µs, rounded (R134, R84). -/
def grpDly (n : Nat) (b : Blk) : Nat :=
  if scheduled n b then ((cycleLen b - cycleLen b / 2) * 25)
  else ((312378 + (2 * b.nout - 1) * 25000 + 500) / 1000)

/-- Notch allowance, ticks (R135). -/
def notchAllow (en : Nat) : Nat := if 4 ≤ en then 2200 else if en ≠ 0 then 1100 else 0

/-- `SETTLE_LEN` (R135, R84): L in ns is 6,247,559.…, as 6,397.5·2 modulator periods. -/
def settleLen (n : Nat) (b : Blk) : Nat :=
  if scheduled n b then 1 else
  let num := 624756 + (4 * b.nout - 2) * 25000 + notchAllow b.notch * 25000
  (num + b.nout * 25000 - 1) / (b.nout * 25000)

/-- `CHN_STAT.NDLY`: delay of the enabled notches in units of 10 µs, rounded (R133). -/
def notchDly (en : Nat) (trac : Bool) : Nat :=
  let d := (if en % 2 = 1 then 6357 else 0) + (if en / 2 % 2 = 1 then 4424 else 0)
    + (if 4 ≤ en then (if trac then 28346 else 28232) else 0)
  (d + 50) / 100

/-! ## Reserved encodings of a block (code 10 of R50; R55, R72, R104, R107) -/

/-- The listed curves (R100). -/
def curveListed (c : Nat) : Bool := c ≤ 16 || (20 ≤ c && c ≤ 27) || 48 ≤ c

/-- A parameter of the block holds a reserved encoding. -/
def reservedEnc (n : Nat) (b : Blk) : Bool :=
  !curveListed b.curve || decide (10 < b.noutCode) || decide (4096 < b.trecDiv) || b.policy == 3 || decide (3 < b.role)
  || (if isZ n then
        decide (1 < b.type) || decide (10 < b.zLevel)
        || (List.range 4).any (fun j => decide (b.zFreq j < 500 ∨ 40000 < b.zFreq j) || decide (64 < b.zDwell j)
              || decide (4 < b.zRange j))
        || decide (447 < b.zTempFacet) || decide (b.zTempDefault < -400 ∨ 850 < b.zTempDefault)
        || decide (b.zFill < 1050 ∨ 10000 < b.zFill)
        || (b.curve != 0 && !(20 ≤ b.curve && b.curve ≤ 27) && !(48 ≤ b.curve))
      else
        decide (8 < b.type) || decide (5 < b.range) || b.bias == 3 || !modeListed b.mode || decide (64 < b.revPer)
        || decide (b.cmwHi < b.cmwLo) || decide (b.cmwLo < -2500 ∨ 7500 < b.cmwLo)
        || decide (b.cmwHi < -2500 ∨ 7500 < b.cmwHi)
        || decide (447 < b.cjFacet) || decide (b.cjDefault < -400 ∨ 850 < b.cjDefault)
        || (List.range 4).any (fun i => !f32Finite (b.curveP i))
        || !f32Finite b.engGain || f32R b.engGain == 0 || !f32Finite b.engOfs)

/-- The curves that a sensor type admits (R101). -/
def curvePermitted (n ty c : Nat) : Bool :=
  c == 0 || 48 ≤ c ||
  (if isZ n then 20 ≤ c && c ≤ 27 else
   match ty with
   | 2 => 1 ≤ c && c ≤ 8
   | 3 => c == 16
   | 4 => c == 15
   | 5 => c == 14 || c == 15
   | 6 => c == 13
   | 7 => 9 ≤ c && c ≤ 11
   | 8 => c == 12
   | _ => false)

/-- Excitation permitted for the sensor type (R31). -/
def excPermitted (ty mode : Nat) : Bool :=
  mode == 0 ||
  (match ty with
   | 4 => mode ≤ 4
   | 5 => mode ≤ 4
   | 6 => mode ≤ 4
   | 7 => 8 ≤ mode && mode ≤ 11
   | 8 => mode == 8 || mode == 9
   | _ => false)

/-! ## The order of one boundary (R19) -/

/-- Step 1 waits: the target of a synchronising reset is reached and its command has not come yet. -/
def State.syncDue (s : State) : Bool := s.time.syncReq.any fun (r : Nat × Nat) => decide (r.1 ≤ s.tick)

/-- Step 2 waits on facet `n`: its spare has settled and an output boundary stands (R61 step 3). -/
def State.swapDue (s : State) (n : Nat) : Bool :=
  match (s.facet n).rangeChg with
  | some r => r.phase == 1 && r.left == 0 && s.tick % (s.blkA n).nout == 0
  | none => false

/-- Steps 1 and 2 of the boundary have been done. -/
def State.stepsDone (s : State) : Bool :=
  !s.syncDue && s.facets.all fun (e : Nat × FacetRT) => !s.swapDue e.1

/-- A command of `SPARE_CTL` with one of these codes is due (R390). -/
def State.spareDue (s : State) (codes : List Nat) : Bool :=
  match s.spare.cmd with
  | some (c, _) => codes.contains c && s.due s.spare.cmdStamp
  | none => false

/-- A rolling run is due to start (R359). -/
def State.calDue (s : State) : Bool :=
  match s.cal.run with
  | some r => r.phase == 0 && !r.closed && s.due r.stamp && decide (r.waitFrom + s.calSlow ≤ s.tick)
  | none => false

/-- The direct write that starts a fade is due: a queued request not bound to a synchronising reset, with no fade running
(R140, R143). -/
def State.fadeDue (s : State) : Bool :=
  s.due s.chain.queueStamp && s.chain.fade.isNone && s.chain.fadeBar != some s.tick &&
    (match s.chain.queue with | some q => !q.atSync | none => false)

/-- The host stream is due to start or to end (R275). -/
def State.streamDue (s : State) : Bool := s.due s.cap.hsStamp && (fld s.cap.ctl 5 1 == 1) != s.cap.hsRun

/-- A fill is due to start (R264, R268). -/
def State.fillDue (s : State) : Bool :=
  s.due s.cap.armStamp && !s.unset && ((s.cap.st == .idle && s.cap.armPend) || s.cap.st == .rearm)

/-- A partition of the SRAM is due (R256). -/
def State.partDue (s : State) : Bool := match s.cap.partPend with | some (_, stamp) => s.due stamp | none => false

/-- Standalone service is due to end (R487). -/
def State.serviceDue (s : State) : Bool := match s.ctl.svcEndPend with | some stamp => s.due stamp | none => false

/-- A direct write that takes effect at the present frame boundary by a command of its own has not done so yet: step 3 takes the
direct writes before the commits (R19). -/
def State.directDue (s : State) : Bool :=
  s.fadeDue || s.streamDue || s.fillDue || s.partDue || s.serviceDue || s.spareDue [1, 2, 3, 4, 6, 7, 8]

/-- A commit with this stamp is due, and none accepted before it still waits: step 3 follows steps 1 and 2, and commits follow in
the order of their acceptance, behind the direct writes of the boundary (R19). -/
def State.turn (s : State) (stamp : Nat) : Bool :=
  s.due stamp && s.stepsDone && !s.directDue && s.commitStamps.all fun t => decide (stamp ≤ t)

end Sys2Proof.Machine
end

