-- ==== Sys2Proof/Machine/Spare.lean ====
section
/-! DEFINITION. The spares as every family uses them: their states, which are free for a facet, taking and freeing one
(R386 to R389, R520), the spare-map log (R406, R407) and the SPAREV message (R340). -/

namespace Sys2Proof.Machine

open Sys2Proof

/-- Kinds with facets: 0 SB, 1 SZ, 2 EB, 3 EZ (R386). -/
def kindCount : Nat → Nat
  | 0 => 8 | 1 => 4 | 2 => 8 | 3 => 4 | _ => 0

def SpareUnit.table (u : SpareUnit) (kind : Nat) : Store SpareSt :=
  match kind with
  | 0 => u.sb | 1 => u.sz | 2 => u.eb | _ => u.ez

def State.spareAt (s : State) (kind i : Nat) : SpareSt := Store.get {} (s.spare.table kind) i

def State.setSpare (s : State) (kind i : Nat) (v : SpareSt) : State :=
  let u := s.spare
  let t := Store.set {} (u.table kind) i v
  { s with spare :=
      match kind with
      | 0 => { u with sb := t } | 1 => { u with sz := t } | 2 => { u with eb := t } | _ => { u with ez := t } }

/-- State codes of R387. -/
def spFree : Nat := 0
def spPinned : Nat := 1
def spLent : Nat := 2
def spChecking : Nat := 3
def spSubst : Nat := 4
def spFailed : Nat := 5
def spAbsent : Nat := 6

/-- The spare is free for the facet (R388). -/
def SpareSt.freeFor (x : SpareSt) (n : Nat) : Bool :=
  x.state == spFree || x.state == spChecking || (x.state == spPinned && x.pin == some n)

/-- Spares of a kind that are free for a facet: those pinned to it first, then in ascending order (R389). -/
def State.freeList (s : State) (kind n : Nat) : List Nat :=
  let ok := (List.range (kindCount kind)).filter fun i => (s.spareAt kind i).freeFor n
  let pinned := ok.filter fun i => (s.spareAt kind i).state == spPinned
  pinned ++ ok.filter fun i => (s.spareAt kind i).state != spPinned

/-- The spare a need of the facet takes, none with policy 2 (R389, R391). -/
def State.pickSpare (s : State) (kind n : Nat) : Option Nat :=
  if (s.blkA n).policy = 2 then none else (s.freeList kind n).head?

/-- A check that the spare shadows ends without a result when the spare is taken (R389). -/
def State.endCheckOn (s : State) (kind i : Nat) : State :=
  { s with spare := { s.spare with chks := s.spare.chks.filter fun c => !(c.spare == i && isZ c.facet == (kind == 1)) } }

/-- A spare that serves no longer: PINNED when it is pinned, FREE otherwise; it serves no target (R387). -/
def SpareSt.freed (x : SpareSt) : SpareSt := { x with state := if x.pin.isSome then spPinned else spFree, target := 0 }

def State.freeSpare (s : State) (kind i : Nat) : State := s.setSpare kind i (s.spareAt kind i).freed

/-- A spare that RELEASE ends: FREE, a pin included (R399). -/
def SpareSt.released (x : SpareSt) : SpareSt := { x with state := spFree, target := 0, pin := none }

/-- The kind of a facet's path, and of its driver (R386). -/
def pathKind (n : Nat) : Nat := if isZ n then 1 else 0
def drvKind (n : Nat) : Nat := if isZ n then 3 else 2

/-- Spares of a kind counted free in SPAREV and HBEAT: FREE or CHECKING (R388). -/
def State.freeMask (s : State) (kind : Nat) : Nat :=
  (List.range (kindCount kind)).foldl (fun a i =>
    let st := (s.spareAt kind i).state
    if st = spFree ∨ st = spChecking then a + 2 ^ i else a) 0

def State.freeCount (s : State) (kind : Nat) : Nat :=
  ((List.range (kindCount kind)).filter fun i =>
    let st := (s.spareAt kind i).state; st == spFree || st == spChecking).length

/-- The standby reference is healthy (R401). -/
def State.stbyOk (s : State) : Bool := if s.spare.refActive = 0 then !s.spare.failB else !s.spare.failA

/-- The FREE field of SPAREV (R340). -/
def State.freeWord (s : State) : Nat :=
  s.freeMask 0 + s.freeMask 1 * 2 ^ 8 + s.freeMask 2 * 2 ^ 12 + s.freeMask 3 * 2 ^ 20
    + b2n s.stbyOk * 2 ^ 24 + b2n (s.spare.portC.state == spFree) * 2 ^ 25

/-- Whole seconds of corridor time, modulo 2^32 (R378, R406). -/
def State.seconds (s : State) : Nat := if s.unset then 0 else s.tick / 4000 % 2 ^ 32

/-- Bytes of the spare-map log, as words of space 0x8 from 0x2000 (R406, R465). -/
def State.setNvmBytes (s : State) (byte : Nat) (bs : List Byte) : State :=
  { s with nvm := { s.nvm with words := Store.setRun (fun _ => 0xFFFF) s.nvm.words (byte / 2) (wordsOfBytes bs) } }

/-- One entry of the spare-map log: event, kind, index, cause, target (R406). -/
def slEntry (seq time ev kind index cause target : Nat) : List Byte :=
  let body := leBytes 4 seq ++ leBytes 4 time ++ leBytes 1 ev ++ leBytes 1 kind ++ leBytes 1 index ++ leBytes 1 cause
    ++ leBytes 2 target
  body ++ leBytes 2 (crc16 body)

/-- Byte address of entry `seq` of the spare-map log: two halves of 512 entries in turn (R406, R407). -/
def slAddr (seq : Nat) : Nat := 0x4000 + seq % 1024 * 16

/-- What the map holds that its reset does not, each with the code that its SNAPSHOT entry carries in `SL_CAUSE`: the event of
R340 that states it, 0 a substitution, 2 a failed spare or, at index 0xFF, a failed own part, 3 a pin, 6 the active
reference, 7 a row marked for repair; 0xFE stands for FORBID. R407 asks that the entries state the whole map and gives them
no layout (DESIGN CHOICE, log 230). Kind, index, code, target. -/
def State.mapFacts (s : State) : List (Nat × Nat × Nat × Nat) :=
  let u := s.spare
  let fact (k i : Nat) (x : SpareSt) : List (Nat × Nat × Nat × Nat) :=
    (if x.state = spSubst then [(k, i, 0, x.target)] else if x.state = spFailed then [(k, i, 2, 0x1FFF)] else [])
      ++ (match x.pin with | some t => [(k, i, 3, t)] | none => [])
  let own (n : Nat) (f : FacetRT) : List (Nat × Nat × Nat × Nat) :=
    (if f.pathFailed && f.subst.isNone then [(pathKind n, 0xFF, 2, n)] else [])
      ++ (if f.excFailed && f.excSubst.isNone then [(drvKind n, 0xFF, 2, n)] else [])
  ((List.range 4).flatMap fun k => (List.range (kindCount k)).flatMap fun i => fact k i (s.spareAt k i))
    ++ fact 5 2 u.portC
    ++ ([0, 1].filter fun p => u.forbid.getD p false).map (fun p => (5, 2, 0xFE, p))
    ++ ([0, 1].filter fun p => (s.canPort p).failed).map (fun p => (5, 0xFF, 2, p))
    ++ (if u.failA then [(4, 0, 2, 0x1FFF)] else []) ++ (if u.failB then [(4, 1, 2, 0x1FFF)] else [])
    ++ (if u.refActive = 0 then [] else [(4, u.refActive, 6, 0x1FFF)])
    ++ s.facets.flatMap (fun (e : Nat × FacetRT) => own e.1 e.2)
    ++ u.rowsMarked.map fun _ => (6, 0, 7, 0x1FFF)

/-- Append one entry without regard to the half's end; `time` is its `SL_TIME`. -/
def State.slPut (s : State) (time ev kind index cause target : Nat) : State :=
  let seq := s.spare.logSeq
  let s := s.setNvmBytes (slAddr seq) (slEntry seq time ev kind index cause target)
  { s with spare := { s.spare with logSeq := seq + 1 } }

/-- Append one entry; at the start of a half, erase it and write SNAPSHOT entries of the whole map first (R407). -/
def State.slAppendAt (s : State) (time ev kind index cause target : Nat) : State :=
  let s :=
    if s.spare.logSeq % 512 = 0 ∧ s.spare.logSeq ≠ 0 then
      let base := slAddr s.spare.logSeq
      let s := { s with nvm := { s.nvm with words := Store.keep (fun k => !(decide (base ≤ k * 2 ∧ k * 2 < base + 8192))) s.nvm.words } }
      s.mapFacts.foldl (fun t (k, i, code, tg) => t.slPut time 8 k i code tg) s
    else s
  s.slPut time ev kind index cause target

/-- Append one entry at the present corridor time (R406). -/
def State.slAppend (s : State) (ev kind index cause target : Nat) : State :=
  s.slAppendAt s.seconds ev kind index cause target

/-- Form a SPAREV (R340) with the log entry that R407 writes; `t0` is set for a repair at boot, whose TICK and `SL_TIME` are 0
(R340, R406). -/
def State.sparev (s : State) (ev kind index target cause : Nat) (logged t0 : Bool) : State :=
  let s := if logged then s.slAppendAt (if t0 then 0 else s.seconds) ev kind index cause target else s
  let entry := if logged then s.spare.logSeq - 1 else 0xFFFFFFFF
  let sp := (s.msg.seq.sp + 1) % 65536
  let s := { s with msg := { s.msg with seq := { s.msg.seq with sp } } }
  s.emit .sparev 2 0
    (leBytes 2 sp ++ leBytes 6 (if t0 then 0 else s.msgTick s.tick) ++ leBytes 1 ev ++ leBytes 1 kind ++ leBytes 1 index
      ++ [0] ++ leBytes 2 target ++ [0, 0] ++ leBytes 4 s.freeWord ++ leBytes 4 entry)
    (if target < 512 then target else 0) (if target < 512 then target else 511) s.tick 1

/-- A kind has no spare left FREE, PINNED or CHECKING: SPAREV EXHAUSTED, once (R408); of the SRAM, no row that is unused
(R520). -/
def State.checkExhausted (s : State) (kind : Nat) : State :=
  let left (x : SpareSt) : Bool := x.state == spFree || x.state == spPinned || x.state == spChecking
  let any := if kind = 5 then left s.spare.portC
    else if kind = 6 then decide (s.spare.rowsUsed < 160)
    else (List.range (kindCount kind)).any fun i => left (s.spareAt kind i)
  if any then { s with spare := { s.spare with exhausted := s.spare.exhausted.filter (· != kind) } }
  else if s.spare.exhausted.contains kind then s
  else
    let s := { s with spare := { s.spare with exhausted := kind :: s.spare.exhausted } }
    -- the index of port C is 2; of the other kinds no one spare is exhausted (log 67)
    s.sparev 5 kind (if kind = 5 then 2 else 0) objDevice 3 true false

/-- A spare frees, and what its kind then has left (R408). -/
def State.returnSpare (s : State) (kind i : Nat) : State := (s.freeSpare kind i).checkExhausted kind

/-- Put a spare into service for a facet. -/
def State.takeSpare (s : State) (kind i n state : Nat) : State :=
  let s := if (s.spareAt kind i).state = spChecking then s.endCheckOn kind i else s
  (s.setSpare kind i { s.spareAt kind i with state, target := n }).checkExhausted kind

/-- The path that serves a facet: its stand-in, its substitute, or its own (R61, R398). -/
def FacetRT.serving (f : FacetRT) : PathId :=
  match f.standin with
  | some i => some i
  | none => f.subst

/-- The facet's outputs carry SPARE (R149, R359). -/
def FacetRT.spareNow (f : FacetRT) : Bool := f.standin.isSome || f.excStandin.isSome

end Sys2Proof.Machine
end

