-- ==== Sys2Proof/Machine/Chain.lean ====
section
/-! DEFINITION. The decimation chain: its stages over modulator bits (R123 to R128, R131, R141, R146), the coefficient
banks and their checks (R128, R136 to R139), cross-fades (R139 to R145), the windows of SETTLE (R66, R67). -/

namespace Sys2Proof.Machine

open Sys2Proof

/-! ## Banks -/

/-- Coefficients in a bank (R136). -/
def bankSize : Nat := 4142

/-- Coefficient `i` of bank `k`. -/
def State.coef (s : State) (k i : Nat) : BitVec 24 :=
  (Store.get none s.chain.coef (k * bankSize + i)).getD (defaultCoef i)

/-- Coefficient writes since reset (R137). -/
def State.coefGen (s : State) : Nat := s.chain.coefOld.length

/-- Coefficient `i` of bank `k` as it stood after the first `gen` writes: a write has no effect on an output that a bank which
is no longer active or fading still completes (R137). -/
def State.coefAt (s : State) (gen k i : Nat) : BitVec 24 :=
  match ((s.chain.coefOld.take (s.coefGen - gen)).filter fun e => e.1 == k * bankSize + i).getLast? with
  | some e => e.2.getD (defaultCoef i)
  | none => s.coef k i

/-- Write a coefficient (R136, R461). -/
def State.setCoef (s : State) (k i : Nat) (v : BitVec 24) : State :=
  let key := k * bankSize + i
  { s with chain := { s.chain with
      coef := Store.set none s.chain.coef key (some v)
      coefOld := (key, Store.get none s.chain.coef key) :: s.chain.coefOld } }

/-- A coefficient of the run has been written since reset. -/
def State.setWritten (s : State) (k lo n : Nat) : Bool :=
  s.chain.coef.any fun e => decide (k * bankSize + lo ≤ e.1 ∧ e.1 < k * bankSize + lo + n)

/-- Sum of the weights × 2^23 of the stage-2 set of a bank; a default set has unity DC gain, which `stage2Fine` and
`odecFine` hold it to (R138). -/
def State.sum2 (s : State) (k : Nat) : Int :=
  if s.setWritten k 0 48 then 2 * (List.range 48).foldl (fun a i => a + (s.coef k i).toInt) 0 else 2 ^ 23

/-- The same of the output-decimator set of code `c`: its last stored tap is the centre (R461). -/
def State.sumO (s : State) (k c : Nat) : Int :=
  let n := 2 * 2 ^ c
  if s.setWritten k (odecBase c) n then
    2 * (List.range (n - 1)).foldl (fun a i => a + (s.coef k (odecBase c + i)).toInt) 0
      + (s.coef k (odecBase c + n - 1)).toInt
  else 2 ^ 23

/-- A DC gain lies within 2^−20 of 2^sh, in relative terms (R128). -/
def gainOk (sum : Int) (sh : Nat) : Bool := decide ((sum - 2 ^ (23 + sh)).natAbs ≤ 2 ^ (3 + sh))

/-- Fields of `CHN_SHIFT`. -/
def sh1 (w : Word) : Nat := fld w 0 4
def sh2 (w : Word) : Nat := fld w 4 4
def shN (w : Word) : Nat := fld w 8 4
def shO (w : Word) : Nat := fld w 12 4

/-- The N_out codes that are active or staged on any facet (R128). -/
def State.usedCodes (s : State) : List Nat :=
  let codes (m : Mem16) : List Nat := (m.filter fun e => e.1 % 32 == 6).map fun e => fld e.2 0 4
  let listed := (codes s.fpStaged ++ codes s.fpActive).filter fun c => c ≤ 10
  let nz (m : Mem16) : Nat := ((codes m).filter (· != 0)).length
  (if nz s.fpStaged = 512 ∧ nz s.fpActive = 512 then listed else 0 :: listed).dedup

/-- The first two conditions of R128 for a bank and shifts. -/
def State.stage2Ok (s : State) (k : Nat) (sh : Word) : Bool :=
  decide (5 ≤ sh1 sh ∧ sh1 sh ≤ 11 ∧ sh1 sh + shN sh = 11) && gainOk (s.sum2 k) (sh2 sh)

/-- The third condition of R128. -/
def State.odecOk (s : State) (k : Nat) (sh : Word) : Bool := s.usedCodes.all fun c => gainOk (s.sumO k c) (shO sh)

/-- R128 holds. -/
def State.chainOk (s : State) (k : Nat) (sh : Word) : Bool := s.stage2Ok k sh && s.odecOk k sh

/-- `XFADE_STAT.CAUSE` of a request that would run a bank with the shifts (R139). -/
def State.bankCause (s : State) (k : Nat) (sh : Word) : Nat :=
  if !s.stage2Ok k sh then 1 else if !s.odecOk k sh then 2 else 0

/-! ## Arithmetic of the stages (R123, R127) -/

/-- A right shift that rounds to nearest, ties toward +∞ (R127). -/
def rshift (x : Int) (n : Nat) : Int := if n = 0 then x else (x + 2 ^ (n - 1)) / 2 ^ n

/-- Saturate to a width, and say whether it did. -/
def satF (w : Nat) (x : Int) : Int × Bool := let y := satS w x; (y, y != x)

/-- Coefficients of (1 + z + … + z^127)^n as a list. -/
def boxPow : Nat → List Int
  | 0 => [1]
  | n + 1 =>
    let p := boxPow n
    (List.range (p.length + 127)).map fun i =>
      (List.range 128).foldl (fun a j => if j ≤ i then a + p.getD (i - j) 0 else a) 0

/-- The 636 taps of the sinc⁵ stage (R123). -/
def sinc5 : List Int := boxPow 5

/-- Scalar product. -/
def dot : List Int → List Int → Int
  | a :: as, b :: bs => a * b + dot as bs
  | _, _ => 0

/-- Windows of length `n` at stride `d`, oldest first. -/
def windows (n d : Nat) (x : List Int) : List (List Int) :=
  (List.range ((x.length - n) / d + 1)).filterMap fun i =>
    let w := (x.drop (i * d)).take n
    if w.length = n then some w else none

/-- Run a linear stage over windows: accumulate, saturate to the accumulator's width, shift, saturate to 32 bits. -/
def stage (taps : List Int) (d accW shift : Nat) (x : List Int) : List (Int × Bool) :=
  (windows taps.length d x).map fun w =>
    let a := satF accW (dot taps w)
    let b := satF 32 (rshift a.1 shift)
    (b.1, a.2 || b.2)

/-- Full taps of a symmetric set of even length from its unique half (R461). -/
def mirrorEven (h : List Int) : List Int := h ++ h.reverse

/-- Full taps of a symmetric set of odd length: the last stored tap is the centre. -/
def mirrorOdd (h : List Int) : List Int := h ++ (h.dropLast).reverse

/-- Blend of two sets with α = j ÷ len, kept × len so that it stays whole (R141). -/
def blend (a b : List Int) (j len : Nat) : List Int :=
  (a.zip b).map fun (x, y) => x * ((len : Int) - j) + y * j

/-- The corrections of the base rate that act on a sample (R126), with its excitation ratio. -/
structure Corr where
  offs : Rat := 0
  gain : Rat := 1
  scale : Rat := 1
  ratio : Rat := 1
deriving DecidableEq, Repr

/-- Correct a value in LSB of its range (R126). -/
def Corr.apply (c : Corr) (x : Rat) : Rat := (x + c.offs) * c.gain * c.scale * c.ratio

/-! ## The notch stage (R131, R132, R148) -/

/-- Centre frequencies in ascending order, Hz, with the enable bit and the pole radius × 10^8 of each (R131, R132). The widths
of R131 give radii near 1 − π · width ÷ 4,000, and these are the ones that give the delays of R133 as well. At 16.7 Hz and
16.667 Hz those delays and the 20 dB of R131 over ±0.2 Hz exclude each other: the delays are kept, and the attenuation at
the edges of that band is 19.95 dB (DESIGN CHOICE, log 13). -/
def notchTable (trac : Bool) : List (Rat × Nat × Nat) :=
  [(if trac then 16667 / 1000 else 167 / 10, 2, if trac then 99685850 else 99685895),
    (if trac then 33333 / 1000 else 334 / 10, 2, 99685841),
    (50, 0, 99371681), (60, 1, 99371681), (100, 0, 99371681), (120, 1, 99371681)]

/-- The 32-bit coefficients of a notch, × 2^30: 2 cos θ of its zeros, 2 r cos θ and r² of its poles, at the angle θ of the
centre and the radius r of `notchTable`. -/
structure Notch where
  b1 : Int
  a1 : Int
  a2 : Int
deriving DecidableEq, Repr

/-- The notch of a centre and a pole radius × 10^8 (log 13). -/
def notchOf (centre : Rat) (radius : Nat) : Notch :=
  let c := (sincos (2 * piR * centre / 4000)).2
  let r : Rat := (radius : Rat) / 100000000
  let q (x : Rat) : Int := roundEven (x * 1073741824)
  { b1 := q (2 * c), a1 := q (2 * r * c), a2 := q (r * r) }

/-- The state of a biquad: two inputs, and two outputs × 2^30 in 64 bits (R127). -/
structure NotchSt where
  x1 : Int := 0
  x2 : Int := 0
  y1 : Int := 0
  y2 : Int := 0
deriving DecidableEq, Repr

/-- One sample through a notch: the new state, the output and whether a width saturated. The scale of the zeros makes the DC
gain exactly 1 (R131). Its products return to the scale of the state with ties toward +∞ (R127). -/
def Notch.step (m : Notch) (z : NotchSt) (x : Int) : NotchSt × Int × Bool :=
  let one : Int := 1073741824
  let zeros : Rat := (x - (m.b1 : Rat) / one * z.x1 + z.x2) * ((one - m.a1 + m.a2 : Int) : Rat) / ((2 * one - m.b1 : Int) : Rat)
  let y := satF 64 (zeros * one + ((m.a1 * z.y1 - m.a2 * z.y2 : Int) : Rat) / one + 1 / 2).floor
  let o := satF 32 (rshift y.1 30)
  ({ x1 := x, x2 := z.x1, y1 := y.1, y2 := z.y1 }, o.1, y.2 || o.2)

/-- A base-rate value, and whether a width saturated in computing it. -/
abbrev Val := Int × Bool

/-- A notch over base-rate values: for each whether the notch is enabled and whether its state is zero at it. A notch that is
not enabled passes its input and keeps no state (R146, R148). -/
def Notch.run (m : Notch) (z : NotchSt) : List (Val × Bool × Bool) → List Val
  | [] => []
  | (x, en, zero) :: xs =>
    if en then
      let (z', y, sat) := m.step (if zero then {} else z) x.1
      (y, x.2 || sat) :: m.run z' xs
    else x :: m.run {} xs

/-- The notch stage over base-rate values, oldest first: enables of each sample, and whether the states are zero at it. -/
def notchStage (trac : Bool) (on : List (Nat × Bool)) (xs : List Val) : List Val :=
  (notchTable trac).foldl (fun acc (f, bit, r) =>
    if on.all (fun e => !e.1.testBit bit) then acc else
    (notchOf f r).run {} ((acc.zip on).map fun (x, en, zero) => (x, en.testBit bit, zero))) xs

/-- The coefficients of a sample or an output: a bank, or a blend of two with α = j ÷ len (R141), as they stood after `gen`
writes (R137). -/
structure Mix where
  src : Nat
  tgt : Nat
  gen : Nat
  j : Nat := 0
  len : Nat := 1
deriving DecidableEq, Repr

/-- What the whole chain needs to know of one output. An argument `d` is the aperture of a base-rate sample, in ticks after
the output's. -/
structure ChainCfg where
  nout : Nat
  sh : Word
  trac : Bool
  /-- the coefficients of the output decimator, and of stage 2 at a sample (R141) -/
  out : Mix
  mix : Int → Mix
  /-- the corrections of a sample (R126) -/
  corr : Int → Corr := fun _ => {}
  /-- notches enabled at a sample (R148) -/
  notch : Int → Nat := fun _ => 0
  /-- the sample at which the notch states are zero (R146) -/
  zeroAt : Option Int := none
  /-- leading modulator bits, those before a clear, which count as 0 (R146) -/
  zeroBits : Nat := 0
  /-- the excitation is reversed in the tick so many ticks after the aperture: its bits are inverted (R42) -/
  rev : Int → Bool := fun _ => false
  /-- range changes: leading modulator bits before each, and the exponent of 4 that rescales later stage-1 outputs (R146) -/
  rescale : List (Nat × Int) := []

/-- The tick, after the output's aperture, in which the modulator bit lies that is the `e`-th from the end of the window: the
response of stages 1 and 2 ends 6,397.5 periods after its centre, and the last centre lies 2·N_out − 1 ticks after the
aperture (R124). -/
def bitTick (nout e : Nat) : Int := (2 * nout - 1 : Int) + (6398 - (e : Int)) / 512

/-- Full taps × len of a blend from the unique halves of its two sets (R141). -/
def State.mixTaps (s : State) (m : Mix) (full : List Int → List Int) (lo n : Nat) : List Int :=
  let half (k : Nat) : List Int := full ((List.range n).map fun i => (s.coefAt m.gen k (lo + i)).toInt)
  if m.src = m.tgt ∧ m.len = 1 then half m.src else blend (half m.src) (half m.tgt) m.j m.len

/-- Rescale a stage-1 output whose window starts at bit `i`: each range change before it counts (R146). An output whose
window lies across the change stays as it is: R146 names the outputs after Y, and an output is taken to be after Y when no
bit of its window is earlier (DESIGN CHOICE, log 224). -/
def rescaled (rs : List (Nat × Int)) (i : Nat) (v : Int) : Int × Bool :=
  let e := (rs.filter fun r => decide (r.1 ≤ i)).foldl (fun a r => a + r.2) (0 : Int)
  if 0 ≤ e then satF 32 (v * 4 ^ e.toNat) else (rshift v (2 * (-e).toNat), false)

/-- The last `n` values of a list. -/
def lastN (n : Nat) (l : List Val) : List Val := l.drop (l.length - n)

/-- The chain over the modulator bits up to the end of the output's window, oldest first: the 24-bit value before
saturation of the word, and whether a stage saturated in the output's own window, which bits further back, given for the
notches' state, do not belong to (R35, R123 to R128, R141, R146). The four corrections of a sample are rounded once, after
the last, with ties toward +∞ (DESIGN CHOICE, log 225: R127 does not say how many roundings they make). -/
def State.runChain (s : State) (c : ChainCfg) (bs : List Bool) : Int × Bool :=
  let x : List Int := bs.mapIdx fun i b =>
    if i < c.zeroBits then 0 else if b != c.rev (bitTick c.nout (bs.length - i)) then 1 else -1
  let y1 := (stage sinc5 128 36 (sh1 c.sh) x).mapIdx fun i v =>
    let r := rescaled c.rescale (i * 128) v.1
    (r.1, v.2 || r.2)
  let w2 := windows 96 4 (y1.map (·.1))
  -- the last base-rate sample of the window lies 2·N_out − 1 ticks after the aperture (R124)
  let after (i : Nat) : Int := (2 * c.nout - 1 : Int) - ((w2.length : Int) - 1 - i)
  let r2 := w2.mapIdx fun i w =>
    let m := c.mix (after i)
    let a := satF 64 (dot (s.mixTaps m mirrorEven 0 48) w / m.len)
    let b := satF 32 (rshift a.1 (23 + sh2 c.sh))
    (b.1, a.2 || b.2)
  let base := r2.mapIdx fun i v =>
    -- one LSB of the range is 2^(11 − SH1) units at this point (R127)
    let u := (2 ^ (11 - sh1 c.sh) : Nat)
    let r := satF 32 (((c.corr (after i)).apply ((v.1 : Rat) / u) * u + 1 / 2).floor)
    (r.1, v.2 || r.2)
  let nt := notchStage c.trac ((List.range base.length).map fun i => (c.notch (after i), c.zeroAt == some (after i))) base
  let rn := nt.map fun v =>
    let r := satF 32 (rshift v.1 (shN c.sh))
    (r.1, v.2 || r.2)
  -- 4·N_out − 1 base-rate samples make the output, and each takes 96 stage-1 outputs, 4 further than the one before it
  let own := 4 * c.nout - 1
  let win := lastN own rn
  let tO := s.mixTaps c.out mirrorOdd (odecBase (Nat.log2 c.nout)) (2 * c.nout)
  let a := satF 72 (dot tO (win.map (·.1)) / c.out.len)
  let b := satF 32 (rshift a.1 (23 + shO c.sh))
  let w := satF 24 b.1
  (w.1, (lastN ((own - 1) * 4 + 96) y1).any (·.2) || win.any (·.2) || a.2 || b.2 || w.2)

/-! ## SETTLE windows -/

/-- Open a SETTLE window of `len` outputs on a facet (R67). -/
def FacetRT.openSettle (f : FacetRT) (len : Nat) (waitS : Bool := false) : FacetRT :=
  { f with settle := f.settle ++ [{ left := len, waitS := waitS }] }

/-- An output passes: each counting window counts it, and closes after its last. -/
def passWindows (ws : List SettleWin) : List SettleWin :=
  ws.filterMap fun w => if w.waitS then some w else if w.left ≤ 1 then none else some { w with left := w.left - 1 }

/-- The earliest aperture among pending outputs. -/
def firstPend (l : List PendOut) : Option Nat :=
  l.foldl (fun a (p : PendOut) => some (match a with | none => p.aperture | some x => min x p.aperture)) none

/-- Pending outputs are completed on their own after a clear: no later notch reaches them (R146). -/
def freezePend (ps : List PendOut) : List PendOut := ps.map fun p => { p with frozen := true }

/-- A clear of the facet's chain at tick `y` without a SETTLE window (R146). -/
def FacetRT.cutChain (f : FacetRT) (y : Nat) : FacetRT :=
  { f with clearTick := some y, notchOld := [], pend := freezePend f.pend }

/-- A clear of the facet's chain at tick `y` (R146). -/
def FacetRT.clearChain (f : FacetRT) (y len : Nat) : FacetRT := (f.openSettle len).cutChain y

/-- A clear of the chain of one path of the facet at tick `y`, which outputs from that path alone feel (R61, R359, R394). -/
def FacetRT.clearPath (f : FacetRT) (path : PathId) (y : Nat) : FacetRT :=
  { f with pathClear := Store.set none f.pathClear (match path with | none => 0 | some i => i + 1) (some y) }

/-- The last clear that outputs from a path feel. -/
def FacetRT.clearOf (f : FacetRT) (path : PathId) : Option Nat :=
  match f.clearTick, Store.get none f.pathClear (match path with | none => 0 | some i => i + 1) with
  | some a, some b => some (max a b)
  | none, b => b
  | a, none => a

/-- A tick of the present count in the count of a pending output's aperture, which a change of the count may have parted
(R176). -/
def PendOut.inCount (p : PendOut) (t : Nat) : Nat := t + formationTick p.aperture p.nout - p.formTick

/-- A path of the facet changes its range at tick `t`: its pending outputs are completed with the later stage-1 outputs
rescaled by the ratio of the full scales, a power of 4 (R146). -/
def FacetRT.rescalePend (f : FacetRT) (path : PathId) (t old new : Nat) : FacetRT :=
  { f with pend := f.pend.map fun p =>
      if p.path = path then { p with rescale := p.rescale ++ [(p.inCount t, (new : Int) - old)] } else p }

/-! ## Fades -/

/-- Accept or refuse the request of BANK_SEL.GO (R139, R140, R143). -/
def State.bankRequest (s : State) (target len : Nat) (atSync : Bool) : State :=
  let c := s.chain
  let cause := s.bankCause target (if atSync then c.shStaged else c.shActive)
  if cause ≠ 0 then { s with chain := { c with cause } } else
  { s with chain := { c with cause := 0, queue := some { target, len, atSync }, queueStamp := s.ctl.stamp + 1,
                             replaced := c.replaced || c.queue.isSome } }.nextStamp

/-- FADE_START: the queued request starts at a frame boundary, after steps 1 and 2 of the boundary (R19); a fade whose target
is active completes at once (R140, R143). -/
def State.fadeStart (s : State) : State :=
  match s.chain.fade, s.chain.queue with
  | none, some q =>
    if s.fadeDue ∧ s.stepsDone then
      if q.target = s.chain.bank then ({ s with chain := { s.chain with queue := none } }).irq1 4
      else
        let fd : Fade := { start := s.tick, source := s.chain.bank, target := q.target, len := q.len, gen := s.coefGen }
        { s with
        chain := { s.chain with queue := none, fade := some fd, lastFade := some fd }
        facets := Store.mapV {} (fun _ f => { f with
          fadeJ := none
          pend := f.pend.map fun p => { p with later := some { fd with start := p.inCount s.tick } } })
          s.facets }
    else s
  | _, _ => s

/-- The tick of a facet's output j = LEN: counted from what it has numbered so far, or from the start (R141, R142). -/
def State.fadeDoneOn (s : State) (fd : Fade) (n : Nat) : Bool :=
  let nout := (s.blkA n).nout
  match (s.facet n).fadeJ with
  | some j => decide (fd.len ≤ j + (if s.tick % nout = 0 then 1 else 0))
  | none => decide ((fd.start + nout - 1) / nout * nout + (fd.len - 1) * nout ≤ s.tick)

/-- FADE_END: at the last aperture of output j = LEN over all facets (R142). -/
def State.fadeEnd (s : State) : State :=
  match s.chain.fade with
  | none => s
  | some fd =>
    if (allFacets.filter fun n => !scheduled n (s.blkA n)).all (s.fadeDoneOn fd) then
      ({ s with chain := { s.chain with bank := fd.target, fade := none, fadeBar := some s.tick } }).irq1 4
    else s

/-- Writes to the bank are ignored: active, target of the running fade, or of the queued request (R137). -/
def State.bankLocked (s : State) (k : Nat) : Bool :=
  s.chain.bank == k || (match s.chain.fade with | some f => f.target == k | none => false)
    || (match s.chain.queue with | some q => q.target == k | none => false)

/-- Steps 1 to 3 of R147 at a synchronising reset. -/
def State.chainSync (s : State) : State :=
  -- 1: any running fade ends at its target
  let s := match s.chain.fade with
    | some f => ({ s with chain := { s.chain with bank := f.target, fade := none } }).irq1 4
    | none => s
  let c := s.chain
  -- 2 and 3: a queued AT_SYNC request and the staged shifts (R129, R144)
  let q := match c.queue with
    | some q => if q.atSync then some q else none
    | none => none
  let bank := match q with | some q => q.target | none => c.bank
  let queue := if q.isSome then none else c.queue
  let ok := s.chainOk bank c.shStaged
  let s :=
    if c.shStaged = c.shActive ∧ q.isNone then s
    else if ok then { s with chain := { c with bank, queue, shActive := c.shStaged } }
    else
      let cause := s.bankCause bank c.shStaged
      ({ s with chain := { c with queue, shStaged := c.shActive, shRej := true } }).logE 0x13 noMaster 0
        (BitVec.ofNat 32 cause)
  { s with chain := { s.chain with trac := s.chain.tracStaged, trPend := false, fadeBar := some s.tick } }

end Sys2Proof.Machine
end

