-- ==== Sys2Proof/Machine/Checks.lean ====
section
/-! DEFINITION. The refusal rules of a configuration: facet blocks (R50, R73, R101, R104, R107, R130, R227, R229, R271,
R333, R361), port settings (R196, R197, R229) and user curves (R117). A candidate is the configuration that would
result. -/

namespace Sys2Proof.Machine

open Sys2Proof

/-! ## Port blocks -/

/-- Reset values of a port block (R462). -/
def pbReset (w : Nat) : Word :=
  match w with
  | 0 => 50000 | 6 => 8 | 7 => 10000 | 8 => 3 | 9 => 16 | 12 => 2 | 13 => 1000 | 14 => 500 | 15 => 500 | 16 => 1
  | _ => 0

def PosPort.pbS (p : PosPort) (w : Nat) : Word := Store.get (pbReset w) p.staged w
def PosPort.pbA (p : PosPort) (w : Nat) : Word := Store.get (pbReset w) p.active w

/-- Settings of a port, staged or active, as R194 and R224 name them. -/
structure PortCfg where
  w : Nat → Word
  len : Nat
  dir : Bool

def PosPort.cfgS (p : PosPort) : PortCfg := { w := p.pbS, len := p.lenStaged, dir := fld p.cfg 1 1 == 1 }
def PosPort.cfgA (p : PosPort) : PortCfg := { w := p.pbA, len := p.len, dir := fld p.cfgAct 1 1 == 1 }


def PortCfg.res (c : PortCfg) : Nat := (dw (c.w 0) (c.w 1)).toNat
def PortCfg.nmark (c : PortCfg) : Nat := (c.w 2).toNat
def PortCfg.beltId (c : PortCfg) : Nat := (c.w 3).toNat
def PortCfg.stretch (c : PortCfg) : Int := (dw (c.w 4) (c.w 5)).toInt
def PortCfg.stretchTc (c : PortCfg) : Nat := (c.w 6).toNat
def PortCfg.slewLen (c : PortCfg) : Nat := (c.w 7).toNat
def PortCfg.missLim (c : PortCfg) : Nat := (c.w 8).toNat
def PortCfg.qerrLim (c : PortCfg) : Nat := (c.w 9).toNat
def PortCfg.revSrc (c : PortCfg) : Nat := (c.w 10).toNat
def PortCfg.revStation (c : PortCfg) : Nat := (c.w 11).toNat
def PortCfg.beadLen (c : PortCfg) : Nat := (c.w 12).toNat
def PortCfg.scaleLen (c : PortCfg) : Nat := (c.w 13).toNat
def PortCfg.closeMargin (c : PortCfg) : Nat := (c.w 14).toNat
def PortCfg.emptyQ (c : PortCfg) : Nat := (c.w 15).toNat
def PortCfg.tareEn (c : PortCfg) : Bool := (c.w 16).toNat == 1
/-- Marker `j`, mm. -/
def PortCfg.mark (c : PortCfg) (j : Nat) : Nat := (dw (c.w (64 + 2 * j)) (c.w (65 + 2 * j))).toNat
/-- Markers 0 to N − 1. -/
def PortCfg.marks (c : PortCfg) : List Nat := (List.range (min c.nmark 64)).map c.mark

/-- The table interval I_j (R197). -/
def PortCfg.ival (c : PortCfg) (j : Nat) : Int :=
  let n := c.nmark
  if n = 0 then 0 else
  let j := j % n
  if j = 0 then (c.mark 0 : Int) + c.len - c.mark (n - 1) else (c.mark j : Int) - c.mark (j - 1)

/-- The signature of marker `j` (R197). -/
def PortCfg.sig (c : PortCfg) (j : Nat) : List Int :=
  let n := c.nmark
  [c.ival (j + 2 * n - 2), c.ival (j + n - 1), c.ival j]

/-- Two intervals differ by 1.0 % or less of the smaller (R197). -/
def closeIval (a b : Int) : Bool := decide (|a - b| * 100 ≤ min a b)

/-- Two signatures of different markers are ambiguous (R197). -/
def PortCfg.ambiguous (c : PortCfg) : Bool :=
  let ks := List.range (min c.nmark 64)
  ks.any fun i => ks.any fun j => decide (i < j) && ((c.sig i).zip (c.sig j)).all fun (a, b) => closeIval a b

def strictlyRising : List Nat → Bool
  | a :: b :: l => decide (a < b) && strictlyRising (b :: l)
  | _ => true

/-- A value outside the ranges of R194 and R224. -/
def PortCfg.rangeBad (c : PortCfg) : Bool :=
  decide (c.len < 10000 ∨ 30000000 < c.len) || decide (c.res < 1000 ∨ 10000000 < c.res)
  || decide (64 < c.nmark) || decide (c.stretch < -20000 ∨ 50000 < c.stretch)
  || decide (c.stretchTc < 1 ∨ 64 < c.stretchTc) || decide (c.slewLen < 1000)
  || decide (c.missLim < 1 ∨ 8 < c.missLim) || decide (c.qerrLim < 1 ∨ 255 < c.qerrLim)
  || decide (1 < c.revSrc) || decide (255 < c.revStation)
  || decide (c.beadLen < 1 ∨ 16 < c.beadLen) || decide (c.scaleLen < 100 ∨ 10000 < c.scaleLen)
  || decide (4000 < c.closeMargin) || decide (1 < (c.w 16).toNat)
  || (List.range 64).any fun j => decide (c.len ≤ c.mark j)

/-- Codes 1 to 6 of R196; 0 when none applies. -/
def PortCfg.cause (c : PortCfg) (station : Nat) : Nat :=
  if c.nmark < 4 then 1
  else if !strictlyRising c.marks || c.marks.any (fun m => decide (c.len ≤ m)) then 2
  else if (List.range (min c.nmark 64)).any (fun j => decide (c.ival j < 1000)) then 3
  else if c.ambiguous then 4
  else if c.rangeBad then 5
  else if c.revSrc = 1 ∧ c.revStation = station then 6
  else 0

/-! ## Candidates -/

/-- A configuration that would result. -/
structure Cand where
  /-- active facet blocks -/
  blk : Nat → Blk
  /-- facets whose block may differ from the reset block -/
  listed : List Nat
  /-- port settings -/
  port : Nat → PortCfg
  /-- `BEAD_CTL.PORTS` -/
  mask : Nat
  /-- anchors of scheduled operation -/
  anchor : Nat → Nat

/-- Facets with an active or staged word that is not its reset value. -/
def State.listedFacets (s : State) : List Nat :=
  let keys (m : Mem16) : List Nat := List.map (fun (e : Nat × Word) => e.1 / 32) m
  (keys s.fpActive ++ keys s.fpStaged).dedup

/-- The configuration in force. -/
def State.cand (s : State) : Cand :=
  { blk := s.blkA, listed := s.listedFacets, port := fun p => (s.port p).cfgA, mask := fld s.bead.ctl 0 4
    anchor := fun n => (s.facet n).anchor }

/-- The anchor that a facet's schedule has with a block: a change of the schedule sets it at the boundary `y` at which it takes
effect (R80). -/
def State.anchorWith (s : State) (n : Nat) (b : Blk) (y : Nat) : Nat :=
  let a := s.blkA n
  let change := !scheduled n a || (List.range 8).any fun i => a (16 + i) != b (16 + i)
  if scheduled n b && change then y else (s.facet n).anchor

/-- Words of facet blocks that accepted applies carry, in the order of their acceptance: stamp, facet × 32 + word, value. -/
def State.appliedWords (s : State) : List (Nat × Nat × Word) :=
  s.applies.flatMap fun r => r.words.map fun e => (r.stamp, e)

/-- Words of facet blocks that accepted clasps carry. -/
def State.claspedWords (s : State) : List (Nat × Nat × Word) :=
  masters.flatMap fun m =>
    let c := (s.master m).clasp
    if !c.pend then [] else
    c.writes.filterMap fun w => match w.tgt with
      | .win 0 a _ => some (c.acceptStamp, a, w.val &&& fpMask (a / 32) (a % 32))
      | _ => none

/-- The block of a facet once such words have taken effect. -/
def State.blkAfter (s : State) (ws : List (Nat × Nat × Word)) (n : Nat) : Blk := fun w =>
  match (ws.filter fun e => e.2.1 == n * 32 + w).getLast? with
  | some e => e.2.2
  | none => s.fpA n w

/-- A parameter has a staged change: its staged value is not its active one, or not the one that applies accepted for the
coming boundary leave (R46). -/
def State.stagedChange (s : State) (n w : Nat) : Bool :=
  fpIsParam n w && (s.fpS n w != s.fpA n w || s.fpS n w != s.blkAfter s.appliedWords n w)

/-- Facets with staged changes (R46). A facet whose accepted range change has not reached its swap is one of them, since its
active range is still the old one (R62); an ALL that meets it is refused with code 8 (DESIGN CHOICE, log 191: R46 does not
say whether ALL carries it). -/
def State.changedFacets (s : State) : List Nat :=
  (s.listedFacets.filter fun n => (List.range 32).any (s.stagedChange n)).mergeSort (· ≤ ·)

/-- The staged parameters that an apply to the facets carries: each staged change, as it is staged at the acceptance (R46). -/
def State.applyWords (s : State) (ns : List Nat) : Mem16 :=
  ns.flatMap fun n => ((List.range 32).filter (s.stagedChange n)).map fun w => (n * 32 + w, s.fpS n w)

/-- The configuration that would result of an apply to some facets: its words after those of the applies and clasps that are
accepted for the same boundary (R46, R50). -/
def State.candApply (s : State) (ns : List Nat) : Cand :=
  let mine : List (Nat × Nat × Word) := (s.applyWords ns).map fun e => (s.ctl.stamp + 1, e)
  let ws : List (Nat × Nat × Word) := (s.appliedWords ++ s.claspedWords).mergeSort (fun a b => a.1 ≤ b.1) ++ mine
  let y := (s.tick / 4 + 1) * 4
  { s.cand with
    blk := s.blkAfter ws
    listed := (s.listedFacets ++ ws.map fun (e : Nat × Nat × Word) => e.2.1 / 32).dedup
    anchor := fun n => s.anchorWith n (s.blkAfter ws n) y }

/-! ## Codes of one facet -/

/-- The facet's own path or driver is away, which it is no longer once it returns at H of R359, or a Z_CELL run or a referee
phase is on it (R361, R394). -/
def State.calBusy (s : State) (n : Nat) : Bool :=
  (match s.cal.run with
   | some r => r.target == n && (r.proc == 6 || ((decide (r.proc ≤ 5) || r.proc == 9) && (decide (2 ≤ r.phase ∧ r.phase ≤ 3) || r.gapFrom.isSome)))
   | none => false)
  || s.spare.chks.any (fun c => c.facet == n && (c.phase == 2 || c.phase == 3))

/-- Words of R361 that may not change while the facet is busy: type, range, excitation, N_out, drive, slots. -/
def calFieldsDiffer (n : Nat) (a b : Blk) : Bool :=
  a.type != b.type || a.noutCode != b.noutCode ||
  (if isZ n then a.zLevel != b.zLevel || (List.range 8).any (fun i => a (16 + i) != b (16 + i))
   else a.range != b.range || a 2 != b 2)

/-- The capture holds its geometry (R271). -/
def State.captureHolds (s : State) (n : Nat) : Bool :=
  (match s.cap.st with | .fill => true | .post => true | .stream => true | .hold => true | _ => false)
  && decide ((Store.get 0 s.trg.table 128).toNat ≤ n ∧ n ≤ (Store.get 511 s.trg.table 129).toNat)

/-- The range words of a block: the word whose change is a range change (R61, R79). -/
def rangeWord (n : Nat) (b : Blk) : Nat := if isZ n then 17 + 2 * contSlot b else 1

/-- The two blocks differ in the range alone, and it does differ (R61, R79). -/
def onlyRange (n : Nat) (a b : Blk) : Bool :=
  !scheduled n a && !scheduled n b && (!isZ n || contSlot a == contSlot b) && rangeOf n a != rangeOf n b
  && (List.range 32).all fun w =>
      if w = rangeWord n b then
        (if isZ n then fld (a w) 0 7 == fld (b w) 0 7 else setFld (a w) 0 3 0 == setFld (b w) 0 3 0)
      else !fpIsParam n w || a w == b w

/-- The range differs on a facet whose operation is continuous before and after. A type change of a Z-facet between 0 and 1
moves its sense range between 4 and its slot's (R71) with no `FP_ZSLOTj.RANGE` changed, and counts as a range change: its
chain clears, and NEED_SPARE meets code 9 (DESIGN CHOICE, log 226: R72 names a change of RANGE alone). -/
def rangeDiffers (n : Nat) (a b : Blk) : Bool :=
  !scheduled n a && !scheduled n b && (!isZ n || contSlot a == contSlot b) && rangeOf n a != rangeOf n b

/-- Codes that concern one facet: `a` its block in force, `b` the block that would result. Code 9 arises from range changes
alone: an apply with NEED_SPARE that leaves every range as it is needs no spare (DESIGN CHOICE, log 192). -/
def State.facetCodes (s : State) (c : Cand) (n : Nat) (a b : Blk) (needSpare noFree : Bool) : List Nat :=
  let i : Rat := (excNa b.mode : Rat) / 1000000000
  let v : Rat := i * (b.load : Rat)
  let ev : Rat := (s.exc.exvdd : Rat) / 1000
  let z := isZ n
  (if !z && decide (30000000 < expectedNa b) then [1] else [])
  ++ (if !z && b.mode == 4 && a.mode != 4 && decide (s.exc.exvdd < 11500) then [3] else [])
  ++ (if !z && b.revPer != 0 && !((1 ≤ b.mode && b.mode ≤ 3)
        || (excNa b.mode != 0 && b.load != 0 && decide (v ≤ 5))) then [4] else [])
  ++ (if z then (if (b.type == 1 && b.zLevel == 0) || (b.type == 0 && b.zLevel != 0) then [5] else [])
      else if !excPermitted b.type b.mode || (b.ratio && (b.type < 4 || b.mode == 0)) then [5] else [])
  ++ (if !z && excUv b.mode != 0 && b.load == 0 then [6] else [])
  ++ (if !z && excNa b.mode != 0 && decide (ev - 3 / 2 < v) then [7] else [])
  ++ (if (s.facet n).rangeChg.isSome then [8] else [])
  ++ (if needSpare && rangeDiffers n a b && (noFree || !onlyRange n a b) then [9] else [])
  ++ (if reservedEnc n b then [10] else [])
  ++ (if z && decide (2 ≤ (activeSlots b).length) && (activeSlots b).any (fun j => b.zDwell j == 1) then [11] else [])
  ++ (if z && b.zTempEn && b.zTempFacet < 448 &&
        !(1 ≤ (c.blk b.zTempFacet).curve && (c.blk b.zTempFacet).curve ≤ 12) then [12] else [])
  ++ (if z && b.type == 1 && ((activeSlots b).all (fun j => b.zW j == 0)
        || (List.range 4).any (fun j => b.zDwell j == 0 && b.zW j != 0)) then [13] else [])
  ++ (if !curvePermitted n b.type b.curve then [14] else [])
  ++ (if !z && b.cjSrc == 1 && b.cjFacet < 448 &&
        !((c.blk b.cjFacet).type == 7 && 9 ≤ (c.blk b.cjFacet).curve && (c.blk b.cjFacet).curve ≤ 11) then [16] else [])
  ++ (if b.noutCode ≤ 10 && !gainOk (s.sumO s.chain.bank b.noutCode) (shO s.chain.shActive) then [17] else [])
  ++ (if s.captureHolds n && (a.noutCode != b.noutCode || a.type != b.type || scheduled n a != scheduled n b)
      then [21] else [])
  ++ (if s.calBusy n && calFieldsDiffer n a b then [24] else [])

/-! ## Codes that facets make together -/

/-- A facet's role meets its row of R226. -/
def roleOk (n : Nat) (b : Blk) : Bool :=
  b.role == 0 ||
  (b.beltEn &&
   (match b.role with
    | 1 => !isZ n && (b.type == 4 || b.type == 5) && (b.curve == 15 || 48 ≤ b.curve)
    | 2 => isZ n && b.type == 1 && ((20 ≤ b.curve && b.curve ≤ 27) || 48 ≤ b.curve)
    | 3 => !isZ n && 1 ≤ b.curve && b.curve ≤ 12
    | _ => false))

/-- Facets of a role on a port. -/
def Cand.duty (c : Cand) (p role : Nat) : List Nat :=
  c.listed.filter fun n => (c.blk n).role == role && (c.blk n).beltPort == p

/-- Code 19 holds (R227). -/
def Cand.roleBad (c : Cand) : Bool :=
  c.listed.any (fun n => !roleOk n (c.blk n)) ||
  (List.range 4).any fun p =>
    [1, 2, 3].any (fun r => decide (16 < (c.duty p r).length)) ||
    (match c.duty p 1 with
     | [] => false
     | n :: ns => ns.any fun m =>
        let a := c.blk n; let b := c.blk m
        a.beltOfs != b.beltOfs || a.noutCode != b.noutCode || a.notch != b.notch)

/-- Group delay in ns × 1000, and the longest notch delay of R229 in the same unit. -/
def delayPs (n : Nat) (b : Blk) : Nat :=
  let g := if scheduled n b then (cycleLen b - cycleLen b / 2) * 250000000
    else 3123779297 + (2 * b.nout - 1) * 250000000
  let d := if scheduled n b then 0 else
    (if b.notch % 2 = 1 then 635700000 else 0) + (if b.notch / 2 % 2 = 1 then 442400000 else 0)
      + (if 4 ≤ b.notch then 2834600000 else 0)
  g + d

/-- W_p of R229; G and A_n are each the largest over the duty facets. -/
def Cand.need (c : Cand) (p : Nat) : Nat :=
  let ds := c.listed.filter fun n => let b := c.blk n; 1 ≤ b.role && b.role ≤ 3 && b.beltPort == p
  if ds = [] ∨ bits c.mask p 1 = 0 then 0 else
  let ofs := ds.map fun n => (c.blk n).beltOfs
  let z := ofs.foldl max (-32768) - ofs.foldl min 32767
  let g := (ds.map fun n => if scheduled n (c.blk n) then (cycleLen (c.blk n) - cycleLen (c.blk n) / 2) * 250000000
    else 3123779297 + (2 * (c.blk n).nout - 1) * 250000000).foldl max 0
  let a := (ds.map fun n => let b := c.blk n; if scheduled n b then 0 else
    (if b.notch % 2 = 1 then 635700000 else 0) + (if b.notch / 2 % 2 = 1 then 442400000 else 0)
      + (if 4 ≤ b.notch then 2834600000 else 0)).foldl max 0
  -- 10 mm/ms over ps: 1 mm each 100 µs
  let d := (g + a + 1000000000 + 99999999) / 100000000
  let l := 250 * max (c.port p).beadLen 1
  (z.toNat + (c.port p).closeMargin + d + l - 1) / l + 1

/-- Sum of the needs (R229). -/
def Cand.needSum (c : Cand) : Nat := (List.range 4).foldl (fun a p => a + c.need p) 0

/-- Code 2 holds (R50). -/
def Cand.excSum (c : Cand) : Rat :=
  (c.listed.filter (fun n => !isZ n)).foldl (fun a n => a + expectedNa (c.blk n)) 0

/-- Time records: unit of a facet's outputs in ticks. -/
def trecUnit (n : Nat) (b : Blk) : Nat := if scheduled n b then cycleLen b else b.nout

/-- TREC entries per second (R330, R333). -/
def Cand.trecEntries (c : Cand) : Rat :=
  (c.listed.filter fun n => (c.blk n).trecDiv != 0).foldl (fun a n =>
    a + 4000 / ((trecUnit n (c.blk n) * (c.blk n).trecDiv : Nat) : Rat)) 0

/-- A facet's selected outputs: ticks from one to the next, an aperture of theirs, and the ticks from aperture to formation. In
scheduled operation the first of them is the cycle output of number `DIV` after the anchor (R84, R124, R134, R330). -/
def Cand.trecRun (c : Cand) (n : Nat) : Nat × Nat × Nat :=
  let b := c.blk n
  let u := trecUnit n b
  if scheduled n b then (u * b.trecDiv, c.anchor n + (b.trecDiv - 1) * u + u / 2, u - u / 2)
  else (u * b.trecDiv, 0, formationTick 0 u)

/-- TREC frames per second: outputs of one aperture and one formation tick form a group, five to a frame; counted over the
common period of the facets that form their outputs equally late (R331). -/
def Cand.trecFrames (c : Cand) : Rat :=
  let rs := (c.listed.filter fun n => (c.blk n).trecDiv != 0).map c.trecRun
  ((rs.map fun r => r.2.2).dedup).foldl (fun a delay =>
    let rs := rs.filter fun r => r.2.2 == delay
    let span := rs.foldl (fun l r => Nat.lcm l r.1) 1
    let fr := (List.range span).foldl (fun t i =>
      t + ((rs.filter fun (p, o, _) => i % p == o % p).length + 4) / 5) 0
    a + (fr : Rat) * 4000 / (span : Rat)) 0

/-- Code 23 holds (R333); no more than 4,000 entries cannot make more than 4,000 frames. -/
def Cand.trecBad (c : Cand) : Bool :=
  decide (25000 < c.trecEntries) || (decide (4000 < c.trecEntries) && decide (4000 < c.trecFrames))

/-- The lowest facet of the list for which the condition holds, else the lowest of the list (R47). -/
def enters (ns : List Nat) (p : Nat → Bool) : Nat := ((ns.filter p).head?).getD (ns.headD 0)

/-- A facet enters the condition of code 19: it breaks its row, or belongs to a role that is too large on its port, or is one
of load facets that differ (R226, R227). -/
def Cand.entersRole (c : Cand) (n : Nat) : Bool :=
  let b := c.blk n
  !roleOk n b ||
  (b.role != 0 && decide (16 < (c.duty b.beltPort b.role).length)) ||
  (b.role == 1 && (c.duty b.beltPort 1).any fun m =>
    let a := c.blk m
    a.beltOfs != b.beltOfs || a.noutCode != b.noutCode || a.notch != b.notch)

/-- A facet enters the condition of code 20: it has duty on a port that needs places (R229). -/
def Cand.entersZone (c : Cand) (n : Nat) : Bool :=
  let b := c.blk n
  decide (1 ≤ b.role ∧ b.role ≤ 3) && decide (0 < c.need b.beltPort)

/-- The lowest refusal code and the facet at fault, none when the configuration is accepted (R47, R50). `ns` are the
facets carried, ascending. -/
def State.refusal (s : State) (c : Cand) (ns : List Nat) (needSpare : Bool) : Option (Nat × Nat) :=
  -- one spare for each range change of the apply, in facet order (R389)
  let wants := ns.filter fun n => needSpare && onlyRange n (s.blkA n) (c.blk n)
  let noFree (n : Nat) : Bool :=
    let before := (wants.takeWhile (· != n)).filter fun m => isZ m == isZ n
    if (s.blkA n).policy = 2 then true else decide ((s.freeList (pathKind n) n).length ≤ before.length)
  let per := ns.flatMap fun n =>
    (s.facetCodes c n (s.blkA n) (c.blk n) needSpare (noFree n)).map fun k => (k, n)
  let all := per
    ++ (if 2000000000 < c.excSum then [(2, enters ns fun n => decide (0 < expectedNa (c.blk n)) && !isZ n)] else [])
    ++ (if c.roleBad then [(19, enters ns c.entersRole)] else [])
    ++ (if 48 < c.needSum then [(20, enters ns c.entersZone)] else [])
    ++ (if c.trecBad then [(23, enters ns fun n => (c.blk n).trecDiv != 0)] else [])
  all.foldl (fun best x =>
    match best with
    | none => some x
    | some y => if x.1 < y.1 ∨ (x.1 = y.1 ∧ x.2 < y.2) then some x else some y) none

/-- The cause of a port activation: R196, then ZONE of R229. -/
def State.portCause (s : State) (p : Nat) (c : PortCfg) (cand : Cand) : Nat :=
  let k := c.cause s.ctl.station
  if k ≠ 0 then k
  else if 48 < ({ cand with port := fun q => if q = p then c else cand.port q } : Cand).needSum then 7 else 0

end Sys2Proof.Machine
end

