-- ==== Sys2Proof/Machine/Image.lean ====
section
/-! DEFINITION. The calibration image in force (R351, R352, R377, R380, R455) and the corrections that it holds. -/

namespace Sys2Proof.Machine

open Sys2Proof

/-- Bytes of the image (R380). -/
def imageLen : Nat := 41964

/-- Words of the image. -/
def imageWords : Nat := 20982

/-- Byte offsets of the sections (space 0x2 of the reference chapter). -/
def offB (n : Nat) : Nat := 40 + 68 * n
def offZ (m : Nat) : Nat := 30504 + 168 * m
def offZSlot (m j : Nat) : Nat := offZ m + 40 + 32 * j
def offSB (i : Nat) : Nat := 41256 + 48 * i
def offSZ (i : Nat) : Nat := 41640 + 40 * i
def offEB (i : Nat) : Nat := 41800 + 20 * i

/-- The word is half of some K_j, which the factory image holds at 0. -/
def isKWord (k : Nat) : Bool :=
  let b := 2 * k
  decide (30504 ≤ b ∧ b < 41256) &&
    (let r := (b - 30504) % 168
     decide (40 ≤ r) && (let q := (r - 40) % 32; q == 8 || q == 10))

/-- The factory image: K_j at 0, the rest from factory trim (R479). -/
def factoryWord (k : Nat) : Word := if isKWord k then 0 else Config.factoryImage k

/-- A body word of the image in force. -/
def State.bodyWord (s : State) (k : Nat) : Word := (Store.get none s.cal.image k).getD (factoryWord k)

/-- A word of the image with `CI_CRC` taken as zero. -/
def State.imageWord0 (s : State) (k : Nat) : Word :=
  match k with
  | 0 => 1 | 1 => 0
  | 2 => w16 imageLen | 3 => w16 (imageLen / 65536)
  | 4 => wordOf s.cal.gen 0 | 5 => wordOf s.cal.gen 1
  | 6 => w16 s.cal.count | 7 => 0
  | 8 => wordOf s.cal.last 0 | 9 => wordOf s.cal.last 1
  | 10 => wordOf Config.serial.toNat 0 | 11 => wordOf Config.serial.toNat 1
  | 12 => wordOf Config.serial.toNat 2 | 13 => wordOf Config.serial.toNat 3
  | 14 => 0 | 15 => 0
  | 20980 => wordOf s.cal.gen 0 | 20981 => wordOf s.cal.gen 1
  | k => s.bodyWord k

/-- `CI_CRC` of the image in force (R380). -/
def State.imageCrc (s : State) : Nat := crc32 (bytesOfWords ((List.range imageWords).map s.imageWord0))

/-- A word of the image in force as a reader sees it. -/
def State.imageWord (s : State) (k : Nat) : Word :=
  if k = 14 then wordOf s.imageCrc 0 else if k = 15 then wordOf s.imageCrc 1 else s.imageWord0 k

/-- A binary32 value of the image at a byte offset. -/
def State.img (s : State) (b : Nat) : DWord := dw (s.bodyWord (b / 2)) (s.bodyWord (b / 2 + 1))

def State.imgR (s : State) (b : Nat) : Rat := f32R (s.img b)

/-- Ticks for which a change of a correction is kept: no output still to be formed holds an older sample (R124, R134). -/
def histLen : Nat := 4200

/-- A correction changes at the present tick from the value that it holds (R126, R150). -/
def CalSt.remember (c : CalSt) (tick b : Nat) (old : DWord) : CalSt :=
  { c with imgHist := (tick, b, old) :: c.imgHist.filter fun e => decide (tick < e.1 + histLen) }

/-- Write a 32-bit value of the image. -/
def State.setImg (s : State) (b : Nat) (v : DWord) : State :=
  let c := if s.img b = v then s.cal else s.cal.remember s.tick b (s.img b)
  let m := Store.set none c.image (b / 2) (some (lo16 v))
  { s with cal := { c with image := Store.set none m (b / 2 + 1) (some (hi16 v)) } }

/-- A value of the image as it was in force for the base-rate sample of tick `k` (R126). -/
def State.imgAt (s : State) (k b : Nat) : DWord :=
  match (s.cal.imgHist.filter fun e => e.2.1 == b && decide (k < e.1)).getLast? with
  | some e => e.2.2
  | none => s.img b

/-- The reference that served the base-rate sample of tick `k`. -/
def State.refAt (s : State) (k : Nat) : Nat :=
  match (s.cal.refHist.filter fun (e : Nat × Nat) => decide (k < e.1)).getLast? with
  | some e => e.2
  | none => s.spare.refActive

/-- Byte offset of a path's offset at a range; `q` is the Q chain of a Z-facet (R351, R352). -/
def offsAddr (n : Nat) (path : PathId) (r : Nat) (q : Bool) : Nat :=
  match path with
  | none => if isZ n then offZ (n - 448) + 4 * r + (if q then 20 else 0) else offB n + 4 * r
  | some i => if isZ n then offSZ i + 4 * r + (if q then 20 else 0) else offSB i + 4 * r

/-- Byte offset of a B path's gain at a range. -/
def gainAddr (n : Nat) (path : PathId) (r : Nat) : Nat :=
  match path with
  | none => offB n + 24 + 4 * r
  | some i => offSB i + 24 + 4 * r

/-- Byte offset of a driver's sense gain. -/
def senseAddr (n : Nat) (drv : PathId) : Nat :=
  match drv with
  | none => offB n + 48
  | some i => offEB i

/-- Byte offset of a driver's trim of current code `c`, 8 to 11. -/
def trimAddr (n : Nat) (drv : PathId) (c : Nat) : Nat :=
  match drv with
  | none => offB n + 52 + 4 * (c - 8)
  | some i => offEB i + 4 + 4 * (c - 8)

/-- The driver that excites a facet. -/
def FacetRT.driver (f : FacetRT) : PathId :=
  match f.excStandin with
  | some i => some i
  | none => f.excSubst

/-- The corrections of the base-rate sample of tick `k` of a facet, taken on a path at a range (R126, R351, R352, R364). -/
def State.corrAt (s : State) (n : Nat) (path : PathId) (r : Nat) (q : Bool) (ratio : Rat) (k : Nat) : Corr :=
  { offs := f32R (s.imgAt k (offsAddr n path r q))
    gain := if isZ n then 1 else f32R (s.imgAt k (gainAddr n path r))
    scale := f32R (s.imgAt k (32 + 4 * s.refAt k))
    ratio }

/-- The slot data of the image: a_j, φ_j, K_j, CS_j, GA_j and the recorded frequency (R88 to R91). -/
structure SlotCal where
  a : Rat
  phi : Rat
  k : Rat
  cs : Rat
  ga : Rat
  freq : Nat
deriving DecidableEq, Repr

/-- Slot `j` of Z-facet `n` as it was in force at tick `k` (R19); on a stand-in the facet's own gain and phase do not act
(R352; log 24). -/
def State.slotCal (s : State) (n j : Nat) (path : PathId) (k : Nat) : SlotCal :=
  let b := offZSlot (n - 448) j
  let v (o : Nat) : Rat := f32R (s.imgAt k (b + o))
  { a := if path.isNone then v 0 else 1
    phi := if path.isNone then v 4 else 0
    k := v 8, cs := v 12, ga := v 16, freq := (s.imgAt k (b + 20)).toNat }

/-- A slot is calibrated: K_j is not 0 and the frequency lies within 1 % of the recorded one (R91). -/
def SlotCal.calibrated (c : SlotCal) (freq : Nat) : Bool :=
  c.k != 0 && decide (100 * ((freq : Int) - c.freq).natAbs ≤ c.freq)

/-- Every image change: a new generation (R377). -/
def State.bumpGen (s : State) : State := { s with cal := { s.cal with gen := (s.cal.gen + 1) % 2 ^ 32 } }

/-! ## The end of a run (R356, R378, R379) -/

/-- Form a CALEV (R339). -/
def State.calev (s : State) (ev proc reason obj : Nat) : State :=
  let c := (s.msg.seq.c + 1) % 65536
  let s := { s with msg := { s.msg with seq := { s.msg.seq with c } } }
  s.emit .calev 2 0
    (leBytes 2 c ++ leBytes 6 (s.msgTick s.tick) ++ leBytes 1 ev ++ leBytes 1 proc ++ leBytes 1 reason ++ [0]
      ++ leBytes 2 obj ++ leBytes 2 s.cal.count ++ leBytes 4 s.cal.last ++ leBytes 4 s.imageCrc)
    (if obj < 512 then obj else 0) (if obj < 512 then obj else 511) s.tick 1

/-- `OBJECT` of a run: `CD_TARGET`, or the device for REF_SCALE and RESTORE (R339). -/
def calObject (proc target : Nat) : Nat := if proc = 2 ∨ proc = 10 then objDevice else target

/-- The run's target ends with a reason, 0 on success: CALEV, log, then the START of the batch's next target, which an ABORT
already written still reaches, or DONE or FAIL (R355, R356, R379). -/
def State.calEndTarget (s : State) (reason : Nat) : State :=
  match s.cal.run with
  | none => s
  | some r =>
    let ev := if r.proc = 10 then (if reason = 0 then 3 else 4) else (if reason = 0 then 1 else 2)
    let obj := calObject r.proc r.target
    let s := s.calev ev r.proc reason obj
    let s := if reason = 0 then s else s.logE 0x0D noMaster obj (BitVec.ofNat 32 reason)
    let first := if r.firstFail = 0 then reason else r.firstFail
    match r.todo, decide (reason = 16) with
    | t :: ts, false =>
      let s := s.calev 0 r.proc 0 (calObject r.proc t)
      { s with cal := { s.cal with run := some { r with
          target := t, todo := ts, firstFail := first, phase := 0, standin := none, gapFrom := none, left := 0,
          result := [], owed := 0, fail := 0, checked := false, counted := false, freeAt := none
          waitFrom := s.tick } } }
    | _, _ =>
      ({ s with cal := { s.cal with run := none, state := if first = 0 then 3 else 4, proc := r.proc,
                                    reason := first } }).irq1 10

/-- The kind of stand-in that a procedure borrows for a facet (R359). -/
def calKind (proc target : Nat) : Nat := if proc = 3 ∨ proc = 4 then 2 else pathKind target

/-- A run ends while its stand-in settles: the stand-in goes back, and a driver lets the sensor go (R359). -/
def State.calLetGo (s : State) (r : CalRun) : State :=
  match r.standin with
  | some i =>
    let s := if calKind r.proc r.target = 2 then s.modFacet r.target fun f => { f with excStandin := none } else s
    s.returnSpare (calKind r.proc r.target) i
  | none => s

/-- The target's configuration changes: the run fails with INTERRUPTED, at once while nothing of the target is away, at H
otherwise (R358 code 13, R359 step 4). -/
def State.calConfig (s : State) (n : Nat) (differ : Bool) : State :=
  match s.cal.run with
  | some r =>
    if !differ ∨ r.target ≠ n ∨ r.closed then s
    else if r.phase = 1 then (s.calLetGo r).calEndTarget 13
    else if r.phase = 5 then s.calEndTarget 13
    else if r.phase = 2 ∨ (r.phase = 3 ∧ r.fail = 0) then
      let s := s.nextStamp
      { s with cal := { s.cal with run := some { r with
          phase := 3, fail := 13, result := [], stamp := s.ctl.stamp, waitFrom := s.tick } } }
    else s
  | none => s

/-- Something disturbs a belt-scale run on a port: it ends with the reason (R368). -/
def State.calDisturb (s : State) (p reason : Nat) : State :=
  match s.cal.run with
  | some r => if (r.proc = 7 ∨ r.proc = 8) ∧ r.target = 0x240 + p then s.calEndTarget reason else s
  | none => s

end Sys2Proof.Machine
end

