-- ==== Sys2Proof/Machine/Thermo.lean ====
section
/-! DEFINITION. The reference functions of IEC 60584-1 for curves 1 to 8 (R100, R105, R106). The spec cites the standard
and does not print its coefficients: they are the standard's own, taken from outside the spec (PRESUMED, log 14). -/

namespace Sys2Proof.Machine

open Sys2Proof

/-- The polynomial Σ m_i · 10^(−e_i) · t^i of coefficients (m_i, e_i). -/
def refPoly (cs : List (Int × Nat)) (t : Rat) : Rat :=
  poly (cs.map fun c => (c.1 : Rat) / ((10 ^ c.2 : Nat) : Rat)) t

/-- Type B, mV, segment by segment. -/
def typeB1 : List (Int × Nat) :=
  [(0, 0), (-24650818346, 14), (59040421171, 16), (-13257931636, 19), (15668291901, 22), (-1694452924, 24),
   (62990347094, 29)]

def typeB2 : List (Int × Nat) :=
  [(-38938168621, 10), (2857174747, 11), (-84885104785, 15), (15785280164, 17), (-16835344864, 20), (11109794013, 23),
   (-44515431033, 27), (98975640821, 31), (-93791330289, 35)]

/-- Type E, mV, segment by segment. -/
def typeE1 : List (Int × Nat) :=
  [(0, 0), (58665508708, 12), (45410977124, 15), (-77998048686, 17), (-25800160843, 18), (-59452583057, 20),
   (-93214058667, 22), (-10287605534, 23), (-80370123621, 26), (-43979497391, 28), (-16414776355, 30),
   (-39673619516, 33), (-55827328721, 36), (-34657842013, 39)]

def typeE2 : List (Int × Nat) :=
  [(0, 0), (5866550871, 11), (45032275582, 15), (28908407212, 18), (-33056896652, 20), (6502440327, 22),
   (-19197495504, 26), (-12536600497, 28), (21489217569, 31), (-14388041782, 34), (35960899481, 38)]

/-- Type J, mV, segment by segment. -/
def typeJ1 : List (Int × Nat) :=
  [(0, 0), (50381187815, 12), (3047583693, 14), (-8568106572, 17), (13228195295, 20), (-17052958337, 23),
   (20948090697, 26), (-12538395336, 29), (15631725697, 33)]

def typeJ2 : List (Int × Nat) :=
  [(29645625681, 8), (-14976127786, 10), (31787103924, 13), (-31847686701, 16), (15720819004, 19), (-30691369056, 23)]

/-- Type K, mV, segment by segment. -/
def typeK1 : List (Int × Nat) :=
  [(0, 0), (39450128025, 12), (23622373598, 15), (-32858906784, 17), (-49904828777, 19), (-67509059173, 21),
   (-57410327428, 23), (-31088872894, 25), (-10451609365, 27), (-19889266878, 30), (-16322697486, 33)]

def typeK2 : List (Int × Nat) :=
  [(-17600413686, 12), (38921204975, 12), (18558770032, 15), (-99457592874, 18), (31840945719, 20), (-56072844889, 23),
   (56075059059, 26), (-32020720003, 29), (97151147152, 33), (-12104721275, 36)]

/-- Type N, mV, segment by segment. -/
def typeN1 : List (Int × Nat) :=
  [(0, 0), (26159105962, 12), (10957484228, 15), (-93841111554, 18), (-46412039759, 21), (-26303357716, 22),
   (-22653438003, 24), (-76089300791, 27), (-93419667835, 30)]

def typeN2 : List (Int × Nat) :=
  [(0, 0), (25929394601, 12), (1571014188, 14), (43825627237, 18), (-25261169794, 20), (64311819339, 23),
   (-10063471519, 25), (99745338992, 29), (-60863245607, 32), (20849229339, 35), (-30682196151, 39)]

/-- Type R, mV, segment by segment. -/
def typeR1 : List (Int × Nat) :=
  [(0, 0), (528961729765, 14), (139166589782, 16), (-238855693017, 19), (356916001063, 22), (-462347666298, 25),
   (500777441034, 28), (-373105886191, 31), (157716482367, 34), (-281038625251, 38)]

def typeR2 : List (Int × Nat) :=
  [(295157925316, 11), (-252061251332, 14), (159564501865, 16), (-764085947576, 20), (205305291024, 23),
   (-293359668173, 27)]

def typeR3 : List (Int × Nat) :=
  [(152232118209, 9), (-268819888545, 12), (171280280471, 15), (-345895706453, 19), (-934633971046, 26)]

/-- Type S, mV, segment by segment. -/
def typeS1 : List (Int × Nat) :=
  [(0, 0), (540313308631, 14), (12593428974, 15), (-232477968689, 19), (322028823036, 22), (-331465196389, 25),
   (255744251786, 28), (-125068871393, 31), (271443176145, 35)]

def typeS2 : List (Int × Nat) :=
  [(132900444085, 11), (334509311344, 14), (654805192818, 17), (-164856259209, 20), (129989605174, 25)]

def typeS3 : List (Int × Nat) :=
  [(146628232636, 9), (-258430516752, 12), (163693574641, 15), (-330439046987, 19), (-943223690612, 26)]

/-- Type T, mV, segment by segment. -/
def typeT1 : List (Int × Nat) :=
  [(0, 0), (38748106364, 12), (44194434347, 15), (11844323105, 17), (20032973554, 18), (90138019559, 20),
   (22651156593, 21), (36071154205, 23), (38493939883, 25), (28213521925, 27), (14251594779, 29), (48768662286, 32),
   (1079553927, 33), (13945027062, 37), (79795153927, 41)]

def typeT2 : List (Int × Nat) :=
  [(0, 0), (38748106364, 12), (3329222788, 14), (20618243404, 17), (-21882256846, 19), (10996880928, 21),
   (-30815758772, 24), (4547913529, 26), (-27512901673, 30)]

/-- The emf of a thermocouple at `t` °C against 0 °C, in mV: curves 1 to 8 are types B, E, J, K, N, R, S, T (R100). A cold
junction outside the type's reference function takes the polynomial of the outermost segment beyond its end (DESIGN CHOICE,
log 227: R106 gives no value there). -/
def eType (curve : Nat) (t : Rat) : Rat :=
  match curve with
  | 1 => if t ≤ 630615 / 1000 then refPoly typeB1 t else refPoly typeB2 t
  | 2 => if t ≤ 0 then refPoly typeE1 t else refPoly typeE2 t
  | 3 => if t ≤ 760 then refPoly typeJ1 t else refPoly typeJ2 t
  | 4 =>
    if t ≤ 0 then refPoly typeK1 t else
    let x := t - 1269686 / 10000
    refPoly typeK2 t + 1185976 / 10000000 * expR (-(1183432 / 10000000000) * x * x)
  | 5 => if t ≤ 0 then refPoly typeN1 t else refPoly typeN2 t
  | 6 => if t ≤ 106418 / 100 then refPoly typeR1 t else if t ≤ 16645 / 10 then refPoly typeR2 t else refPoly typeR3 t
  | 7 => if t ≤ 106418 / 100 then refPoly typeS1 t else if t ≤ 16645 / 10 then refPoly typeS2 t else refPoly typeS3 t
  | 8 => if t ≤ 0 then refPoly typeT1 t else refPoly typeT2 t
  | _ => 0

end Sys2Proof.Machine
end

