-- ==== Sys2Proof/Machine/Curves.lean ====
section
/-! DEFINITION. Engineering values: the curves of R100 to R122 on B-facets, the user curves (R115 to R119), and the
admittance, permittivity and moisture of Z-facets (R88 to R95). Every value is computed exactly, or to 2^−60 where a
formula is transcendental, and rounded once (R120). -/

namespace Sys2Proof.Machine

open Sys2Proof

/-- Deliver a value: one rounding, no subnormal, no −0.0; beyond binary32 it is none (R120, R122). -/
def deliver (q : Rat) : Option DWord :=
  if rabs q < pow2 (-126) then some 0 else
  let d := f32OfRat q
  if f32Finite d then some d else none

/-- Deliver a value that may be missing: the one NaN of R120. -/
def deliverO (q : Option Rat) : DWord := (q.bind deliver).getD qnan

/-- Reasons of R122. -/
inductive EngReason where
  | valid | below | above | noTable | overflow
deriving DecidableEq, Repr

def EngReason.code : EngReason → Nat
  | .valid => 0 | .below => 1 | .above => 2 | .noTable => 3 | .overflow => 4

/-- What a curve gives: a result or the reason for none, and whether it was clamped (R118). -/
structure CurveRes where
  y : Rat := 0
  reason : EngReason := .valid
  clamped : Bool := false
deriving DecidableEq, Repr

def CurveRes.bad (r : EngReason) : CurveRes := { reason := r }

/-! ## User curves -/

/-- Word of the active copy of curve `c` (R469). -/
def State.ucA (s : State) (c w : Nat) : Word := Store.get 0 s.curves (0x1000 + (c - 48) * 256 + w)

/-- The active copy of curve `c` as it stood at tick `k`: activations since then are set aside (R102, R117). -/
def State.ucAt (s : State) (c k w : Nat) : Word :=
  match (s.curveOld.filter fun e => e.2.1 == c - 48 && decide (k < e.1)).getLast? with
  | some e => e.2.2.getD w 0
  | none => s.ucA c w

def State.ucS (s : State) (c w : Nat) : Word := Store.get 0 s.curves ((c - 48) * 256 + w)

/-- Breakpoints of the active copy at tick `k`. -/
def State.ucX (s : State) (c k i : Nat) : Rat := f32R (dw (s.ucAt c k (4 + 2 * i)) (s.ucAt c k (5 + 2 * i)))
def State.ucY (s : State) (c k i : Nat) : Rat := f32R (dw (s.ucAt c k (70 + 2 * i)) (s.ucAt c k (71 + 2 * i)))

/-- The segment that encloses x: the largest index at most 31 with x[i] ≤ x (R118). -/
def segment (xs : Nat → Rat) (x : Rat) : Nat :=
  (List.range 32).foldl (fun a i => if xs i ≤ x then i else a) 0

def interp (xs ys : Nat → Rat) (i : Nat) (x : Rat) : Rat :=
  ys i + (x - xs i) * (ys (i + 1) - ys i) / (xs (i + 1) - xs i)

/-- A user curve at x, by the table in force at tick `k`, the formation tick of the output (R102, R118, R119). -/
def State.userCurve (s : State) (c k : Nat) (x : Rat) : CurveRes :=
  if fld (s.ucAt c k 1) 0 1 = 0 then .bad .noTable else
  let xs := s.ucX c k
  let ys := s.ucY c k
  let out := fld (s.ucAt c k 0) 4 2
  if x < xs 0 then
    (if out = 0 then .bad .below else if out = 1 then { y := ys 0, clamped := true } else { y := interp xs ys 0 x })
  else if xs 32 < x then
    (if out = 0 then .bad .above else if out = 1 then { y := ys 32, clamped := true } else { y := interp xs ys 31 x })
  else { y := interp xs ys (segment xs x) x }

/-! ## B-facet curves -/

/-- Domains of curves 1 to 12, °C (R105). -/
def curveDomain : Nat → Rat × Rat
  | 1 => (250, 1820) | 2 => (-270, 1000) | 3 => (-210, 1200) | 4 => (-270, 1372) | 5 => (-270, 1300)
  | 6 => (-50, 1768) | 7 => (-50, 1768) | 8 => (-270, 400) | 12 => (-80, 200) | _ => (-200, 850)

/-- The temperature whose reference emf is `e` mV, by iteration on the reference function (R106). -/
def thermocouple (k : Nat) (e : Rat) : CurveRes :=
  let (lo, hi) := curveDomain k
  if e < eType k lo then .bad .below
  else if eType k hi < e then .bad .above
  else { y := bisect (fun t => eType k t - e) 60 lo hi }

/-- R ÷ R0 of IEC 60751 at T (R109). -/
def pt (t : Rat) : Rat :=
  let a : Rat := 39083 / 10000000
  let b : Rat := -5775 / 10000000000
  let c : Rat := if t < 0 then -4183 / 1000000000000000 else 0
  1 + a * t + b * t * t + c * (t - 100) * t * t * t

/-- The temperature of an RTD at R ÷ R0 (R109, R105). -/
def rtd (x : Rat) : CurveRes :=
  if x < pt (-200) then .bad .below
  else if pt 850 < x then .bad .above
  else { y := bisect (fun t => pt t - x) 60 (-200) 850 }

/-- A thermistor of R ohms (R110); a zero denominator lies above every domain (log 17). -/
def ntc (a b c r : Rat) : CurveRes :=
  if r ≤ 0 then .bad .below else
  let l := lnR r
  let d := a + b * l + c * (l * l * l)
  if d = 0 then .bad .above else
  let t := 1 / d - 27315 / 100
  if t < -80 then .bad .below else if 200 < t then .bad .above else { y := t }

/-- A parameter, or its default where it holds 0.0 (R103). -/
def paramOr (d : DWord) (q : Rat) : Rat := let v := f32R d; if v = 0 then q else v

/-- The latest output of a facet published at or before tick `form`; one that is not valid where it keeps none (R93,
R108). -/
def FacetRT.publishedBy (f : FacetRT) (form : Nat) : OutRec :=
  ((f.last :: f.prev :: f.older).find? fun o => decide (o.formTick ≤ form)).getD {}

/-- Outputs that a facet keeps beside its last two: an output that takes its temperature stalls for a frame at most (R438). -/
def olderKept : Nat := 8

/-- What an output of a temperature facet gives to an output formed at tick `form`: a value, or none where R93 or R108
substitutes. A facet that has published no output yet gives none (DESIGN CHOICE, log 185: the rules list no such
condition). -/
def State.tempOf (s : State) (src aperture form : Nat) : Option Rat :=
  let o := (s.facet src).publishedBy form
  let fl := bits o.i.toNat 5 3
  if !o.valid || fl != 0 || !f32Finite o.eng || decide (o.aperture + 4000 < aperture) then none
  else some (f32R o.eng)

/-- The cold-junction temperature of an output formed at tick `form`, and whether the default was substituted (R107, R108). -/
def State.coldJunction (s : State) (b : Blk) (aperture form : Nat) : Rat × Bool :=
  let dflt : Rat := (b.cjDefault : Rat) / 10
  if b.cjSrc = 0 then (dflt, false) else
  let c := s.blkAt b.cjFacet form
  if c.type = 7 ∧ 9 ≤ c.curve ∧ c.curve ≤ 11 then
    match s.tempOf b.cjFacet aperture form with
    | some t => (t, false)
    | none => (dflt, true)
  else (dflt, true)

/-- Nominal excitation, V or A. -/
def eNom (b : Blk) : Rat := (excUv b.mode : Rat) / 1000000
def iNom (b : Blk) : Rat := (excNa b.mode : Rat) / 1000000000

/-- The curve's result for V volts on a B-facet at formation tick `form`, before the post-scale; `tcj` is the cold junction
(R100 to R112). -/
def State.curveB (s : State) (b : Blk) (v tcj : Rat) (form : Nat) : CurveRes :=
  let c := b.curve
  if c = 0 then { y := v }
  else if 1 ≤ c ∧ c ≤ 8 then thermocouple c (v * 1000 + eType c tcj)
  else if 9 ≤ c ∧ c ≤ 12 then
    if iNom b = 0 then .bad .noTable else
    let r := v / iNom b
    if c = 12 then ntc (f32R (b.curveP 0)) (f32R (b.curveP 1)) (f32R (b.curveP 2)) r
    else rtd (r / paramOr (b.curveP 0) (if c = 9 then 100 else if c = 10 then 500 else 1000))
  else if 13 ≤ c ∧ c ≤ 15 then
    if eNom b = 0 then .bad .noTable else
    let vr := v / eNom b
    if c = 15 then { y := 1000 * vr - f32R (b.curveP 1) }
    else
      let w := vr - f32R (b.curveP 1)
      let gf := paramOr (b.curveP 0) 2
      if w ≤ -1 / 4 then .bad .below
      else if 1 / 4 ≤ w then .bad .above
      else if c = 13 then { y := 4 * w / (gf * (1 - 2 * w)) * 1000000 }
      else { y := 2 * w / gf * 1000000 }
  else if c = 16 then
    let i := v / paramOr (b.curveP 0) 100
    if i < 36 / 10000 then .bad .below
    else if 21 / 1000 < i then .bad .above
    else { y := (i - 4 / 1000) / (16 / 1000) * 100 }
  else
    let xsrc := fld (s.ucAt c form 0) 0 2
    if xsrc = 0 then s.userCurve c form v
    else if xsrc = 1 then (if eNom b = 0 then .bad .noTable else s.userCurve c form (1000 * v / eNom b))
    else if xsrc = 2 then (if iNom b = 0 then .bad .noTable else s.userCurve c form (v / iNom b))
    else .bad .noTable

/-- The engineering value of a B-facet's 24-bit value and its `FP_ENGSTAT` (R104, R120 to R122). The curve and its parameters
are those in force at the formation tick (R102); the nominal excitation is that of the same setting (DESIGN CHOICE, log 186:
R100 does not say which setting counts for an output pending across a change). -/
def State.engB (s : State) (n : Nat) (range : Nat) (val : Int) (aperture form : Nat) : DWord × Word :=
  let b := s.blkAt n form
  let v : Rat := (val : Rat) * fsB range / 8388608
  let (tcj, sub) := if 1 ≤ b.curve ∧ b.curve ≤ 8 then s.coldJunction b aperture form else (0, false)
  let r := s.curveB b v tcj form
  let post := b.curve = 0 ∨ 13 ≤ b.curve
  let y := if post then f32R b.engGain * r.y + f32R b.engOfs else r.y
  let out := if r.reason = .valid then deliver y else none
  let reason := if r.reason = .valid ∧ out.isNone then EngReason.overflow else r.reason
  (out.getD qnan, w16 (reason.code + (if sub then 8 else 0) + (if r.clamped then 16 else 0)))

/-! ## Z-facets -/

/-- Built-in grain coefficients c0 to c3 (R113). -/
def grain (c : Nat) : List Rat :=
  match c with
  | 20 => [18 / 10, 535 / 10, -112 / 10, -45 / 1000]
  | 21 => [24 / 10, 49, -85 / 10, -50 / 1000]
  | 22 => [2, 51, -104 / 10, -48 / 1000]
  | 23 => [12 / 10, 46, -9, -40 / 1000]
  | 24 => [8 / 10, 385 / 10, -72 / 10, -35 / 1000]
  | 25 => [3, 505 / 10, -98 / 10, -55 / 1000]
  | 26 => [22 / 10, 50, -96 / 10, -50 / 1000]
  | 27 => [26 / 10, 55, -12, -46 / 1000]
  | _ => [0, 0, 0, 0]

/-- One slot's result of an output: its words' values, its range and flags, and the sensed amplitude in V. -/
structure SlotIn where
  j : Nat
  i : Int
  q : Int
  range : Nat
  /-- flags of the slot word -/
  flags : Nat
  v : Rat
  path : PathId
  /-- frequency of the slot at the aperture, kHz -/
  freq : Nat
deriving DecidableEq, Repr

/-- What a slot's words become (R88, R89, R92); none where a value has no finite result (log 18). -/
structure SlotOut where
  j : Nat
  g : Option Rat
  b : Option Rat
  e1 : Option Rat
  e2 : Option Rat
  rho : Option Rat
  /-- sensed amplitude below 10 % of the set amplitude (R94 code 1) -/
  low : Bool
  cal : Bool
deriving DecidableEq, Repr

/-- Admittance of corrected words (R88). -/
def admittance (c : SlotCal) (i q : Int) (range : Nat) (v : Rat) : Rat × Rat :=
  let (sn, cs) := if c.phi = 0 then (0, 1) else sincos c.phi
  let re := c.a * (cs * i - sn * q)
  let im := c.a * (sn * i + cs * q)
  let k := fsZ range / (8388608 * v)
  (re * k, im * k)

/-- The slot's permittivity and loss ratio (R89, R92, R94): by the corrections and the set amplitude of the output's aperture
`k` (R19). -/
def State.slotOut (s : State) (n : Nat) (blk : Blk) (k : Nat) (x : SlotIn) : SlotOut :=
  let c := s.slotCal n x.j x.path k
  let freq := x.freq
  let w := 2 * piR * 1000 * (freq : Rat)
  let low := blk.type == 1 && decide (x.v < ((s.blkAt n k).zLevel : Rat) / 100)
  let cal := c.calibrated freq
  if (low ∧ blk.zW x.j ≠ 0) ∨ x.v ≤ 0 then { j := x.j, g := none, b := none, e1 := none, e2 := none, rho := none, low, cal } else
  let (g, b) := admittance c x.i x.q x.range x.v
  let e1 := if c.k = 0 ∨ w = 0 then none else some ((b / w - c.cs) / c.k)
  let e2 := if c.k = 0 ∨ w = 0 then none else some ((g - c.ga) / (w * c.k))
  let rho := match e1, e2 with
    | some a, some d => if a = 1 then none else some (d / (a - 1))
    | _, _ => none
  { j := x.j, g := some g, b := some b, e1, e2, rho, low, cal }

/-- The moisture of an output (R92 to R95, R119, R367). -/
structure Moist where
  m : Option Rat
  eng : DWord
  t : Rat
  zstat : Word
  /-- union of the weighted slot words' flags -/
  flags : Nat
deriving DecidableEq, Repr

/-- Bitwise union of flag bytes. -/
def flagsOr (a b : Nat) : Nat := Nat.lor a b

/-- Sum of w_j · ρ_j over the weighted slots; none where one of them has no value (R92). -/
def indexM (blk : Blk) (os : List SlotOut) : Option Rat :=
  os.foldl (fun a o =>
    if blk.zW o.j = 0 then a else
    match a, o.rho with
    | some x, some r => some (x + (blk.zW o.j : Rat) / 8192 * r)
    | _, _ => none) (some 0)

def State.moisture (s : State) (n : Nat) (xs : List SlotIn) (fault : Bool) (aperture form : Nat) : Moist × List SlotOut :=
  -- the settings in force at the formation tick (R102)
  let blk := s.blkAt n form
  let os := xs.map (s.slotOut n blk aperture)
  let weighted (j : Nat) : Bool := blk.zW j != 0
  let wo := os.filter fun o => weighted o.j
  let wx := xs.filter fun x => weighted x.j
  let m := indexM blk os
  -- the temperature of R93
  let dflt : Rat := (blk.zTempDefault : Rat) / 10
  let tc := (s.blkAt blk.zTempFacet form).curve
  let tv := if blk.zTempEn ∧ 1 ≤ tc ∧ tc ≤ 12 then s.tempOf blk.zTempFacet aperture form else none
  let t := tv.getD dflt
  let cfs := if blk.zCoefSrc = 1 then (List.range 4).map fun j => f32ToRat (blk.zMc j)
    else (grain blk.curve).map some
  let c (k : Nat) : Option Rat := (cfs.getD k none)
  let uc := if 48 ≤ blk.curve then (match m with | some x => s.userCurve blk.curve form x | none => .bad .noTable)
    else { y := 0 }
  let y : Option Rat :=
    if blk.curve = 0 then m
    else if 48 ≤ blk.curve then
      (match f32ToRat (blk.zMc 3) with
       | some c3 => if uc.reason = .valid then some (uc.y + c3 * (t - 20)) else none
       | none => none)
    else match m, c 0, c 1, c 2, c 3 with
      | some m, some c0, some c1, some c2, some c3 => some (c0 + c1 * m + c2 * m * m + c3 * (t - 20))
      | _, _, _, _, _ => none
  let calib := match s.cal.run with
    | some r => r.proc == 6 && r.target == n
    | none => false
  let ucNan := decide (48 ≤ blk.curve) && m.isSome && uc.reason != .valid
  let reason :=
    if fault ∨ wo.any (·.low) then 1
    else if wx.any (fun x => bits x.flags 6 1 == 1) then 2
    else if wo.any (fun o => !o.cal) then 3
    else if wo.any (fun o => match o.e1 with | some e => decide (e < (blk.zFill : Rat) / 1000) | none => false) then 4
    else if !ucNan && blk.curve != 0 && (match y with | some y => decide (y < 0 ∨ 50 < y) | none => blk.type != 0) then 5
    else if blk.type = 0 then 6
    else if ucNan then 7
    else if calib then 8 else 0
  let flags := wx.foldl (fun a x => flagsOr a x.flags) 0
  let eng := if reason = 0 then deliverO y else qnan
  ({ m, eng, t, flags
     zstat := w16 ((if scheduled n blk then 1 else 0) + (if tv.isNone then 2 else 0)
       + (if 48 ≤ blk.curve ∧ uc.clamped then 4 else 0) + reason * 16) }, os)

end Sys2Proof.Machine
end

