-- ==== Sys2Proof/Machine/Facets.lean ====
section
/-! DEFINITION. Facets: their monitors and faults (R30, R32, R37, R53 to R58, R96, R97, R519), applies (R46 to R50,
R61 to R68, R72, R78 to R80, R85 to R87, R148, R522), reads on request (R59, R60, R98), the excitation rail and the
tones (R52, R75). -/

namespace Sys2Proof.Machine

open Sys2Proof

/-! ## Causes -/

def causeBit : Cause → Nat
  | .cmwLo => 0 | .cmwHi => 1 | .excOpen => 2 | .excShort => 3 | .excDev => 4 | .senseLost => 5 | .cmr => 6
  | .overvolt => 7 | .tone => 8 | .snsOpen => 9 | .path => 10

/-- Causes of the excitation monitor alone (R519). -/
def monitorMask : Nat := 4 + 8 + 16 + 32 + 256 + 512

/-- Causes of the common-mode window alone. -/
def windowMask : Nat := 3

/-- `CMW_CTL.DEBOUNCE` in ticks, and `CMW_CTL.HYST` in mV (R55). -/
def State.debounce (s : State) : Nat := fld s.exc.cmw 0 6 + 1
def State.hyst (s : State) : Int := ([0, 25, 50, 100] : List Int).getD (fld s.exc.cmw 6 2) 0

/-- Consecutive ticks that a cause needs to enter (R53, R96). -/
def State.enterNeed (s : State) (c : Cause) : Nat :=
  match c with
  | .cmwLo => s.debounce | .cmwHi => s.debounce | .cmr => s.debounce
  | .excOpen => 4 | .excShort => 4 | .excDev => 4 | .senseLost => 4 | .snsOpen => 4
  | _ => 1

/-- Consecutive ticks that a cause needs to leave. -/
def State.leaveNeed (s : State) (c : Cause) : Nat :=
  match c with
  | .cmwLo => s.debounce | .cmwHi => s.debounce | .cmr => s.debounce
  | .excOpen => 8 | .excShort => 8 | .excDev => 8 | .senseLost => 8 | .snsOpen => 8
  | _ => 1

/-- Every cause. -/
def causes : List Cause :=
  [.cmwLo, .cmwHi, .excOpen, .excShort, .excDev, .senseLost, .cmr, .overvolt, .tone, .snsOpen, .path]

/-! ## What the monitors see in one tick -/

/-- Sensed excitation of a voltage driver, corrected by its sense gain, µV, in the sign of the normal phase (R37, R351,
R42). -/
def State.sensedUv (s : State) (n : Nat) (b : Blk) (a : Analog) (k : Nat) : Rat :=
  let g := s.imgR (senseAddr n (s.facet n).driver)
  let v : Rat := (a.sense : Rat) * g
  if reversed b k then -v else v

/-- Delivered current in the sign of the normal phase, nA. -/
def deliveredNa (b : Blk) (a : Analog) (k : Nat) : Rat := if reversed b k then -(a.cur : Rat) else (a.cur : Rat)

/-- A word of a slot lies below half of the admittance of air (R96 SNS_OPEN); none where no such word is measured: the slot is
uncalibrated, or the drive has no amplitude. -/
def State.senseBelow (s : State) (n : Nat) (b : Blk) (a : Analog) (j : Nat) : Option Bool :=
  let amp : Rat := a.sense
  let sc := s.slotCal n j (s.facet n).serving s.tick
  let w := 2 * piR * 1000 * (b.zFreq j : Rat)
  if !sc.calibrated (b.zFreq j) || decide (amp ≤ 0) then none else
  let (_, bb) := admittance sc a.iw a.qw (b.zRange j) (amp / 1000000)
  some (decide (bb / w < (sc.cs + sc.k) / 2))

/-- Entry condition of a cause in tick `k` (R53, R96). EXC_OPEN and EXC_SHORT have alternatives, each of which must hold for
its own consecutive ticks: `alt` chooses one. SNS_OPEN is judged slot by slot (`FacetRT.senseWord`). -/
def State.entryAlt (s : State) (n : Nat) (b : Blk) (a : Analog) (k : Nat) (alt : Bool) (c : Cause) : Bool :=
  let cm : Rat := (a.cm : Rat) / 1000
  let v := s.sensedUv n b a k
  let cur := deliveredNa b a k
  let tol := excTol (fld s.exc.ctl 0 3)
  if b.type = 0 then false else
  if isZ n then
    let set' : Rat := (b.zLevel : Rat) * 100000
    let amp : Rat := a.sense
    !alt && (match c with
    | .excOpen => decide (amp < set' / 10)
    | .excShort => a.limit
    | .excDev => decide (tol * set' < rabs (amp - set'))
    | .senseLost => decide (set' / 2 < rabs ((a.force : Rat) - amp))
    | .cmr => decide (cm < -2500 ∨ 7500 < cm)
    | .overvolt => (s.facet n).isolated
    | .tone => !s.exc.lock
    | .path => (s.facet n).needPath || (s.facet n).needExc
    | _ => false)
  else
    let e : Rat := excUv b.mode
    let i : Rat := excNa b.mode
    match c, alt with
    | .excOpen, false => monitorJudges n b && (if e ≠ 0 then decide (cur < expectedNa b / 10) else a.comply)
    | .excOpen, true => monitorJudges n b && (if e ≠ 0 then decide (v < e / 10) else decide (cur < i / 10))
    | .excShort, false => monitorJudges n b && (if e ≠ 0 then decide (expectedNa b * 13 / 10 < cur)
        else b.load != 0 && decide (rabs (a.sense : Rat) < i * b.load / 1000 / 10))
    | .excShort, true => monitorJudges n b && (e ≠ 0 && a.limit)
    | _, true => false
    | .cmwLo, _ => windowJudges n b && decide (cm < b.cmwLo)
    | .cmwHi, _ => windowJudges n b && decide ((b.cmwHi : Rat) < cm)
    | .cmr, _ => decide (cm < -2500 ∨ 7500 < cm)
    | .overvolt, _ => (s.facet n).isolated
    | .path, _ => (s.facet n).needPath || (s.facet n).needExc
    | .excDev, _ => monitorJudges n b &&
        (if e ≠ 0 then decide (tol * e < rabs (v - e)) else decide (tol * i < rabs (cur - i)))
    | .senseLost, _ => monitorJudges n b && (e ≠ 0 &&
        decide (500000 < rabs ((a.force : Rat) - a.sense * s.imgR (senseAddr n (s.facet n).driver))))
    | _, _ => false

/-- The entry condition of a cause holds in tick `k`, by either alternative (R53, R54). -/
def State.entryCond (s : State) (n : Nat) (b : Blk) (a : Analog) (k : Nat) (c : Cause) : Bool :=
  s.entryAlt n b a k false c || s.entryAlt n b a k true c

/-- The monitor is stable in tick `k` (R54). -/
def State.stableTick (s : State) (n : Nat) (b : Blk) (a : Analog) (k : Nat) : Bool :=
  monitorJudges n b && !([Cause.excOpen, .excShort, .excDev, .senseLost].any (s.entryCond n b a k))

/-- Exit condition of a cause in tick `k`; the excitation causes leave on stability (R53). -/
def State.exitCond (s : State) (n : Nat) (b : Blk) (a : Analog) (k : Nat) (c : Cause) : Bool :=
  let cm : Rat := (a.cm : Rat) / 1000
  match c with
  | .cmwLo => decide ((b.cmwLo : Rat) + s.hyst ≤ cm)
  | .cmwHi => decide (cm ≤ (b.cmwHi : Rat) - s.hyst)
  | .cmr => decide (-2450 ≤ cm ∧ cm ≤ 7450)
  | .excOpen => s.stableTick n b a k
  | .excShort => s.stableTick n b a k
  | .excDev => s.stableTick n b a k
  | .senseLost => s.stableTick n b a k
  | .overvolt => !(s.facet n).isolated
  | .tone => s.exc.lock
  | .snsOpen => false
  | .path => !((s.facet n).needPath || (s.facet n).needExc)

/-- Tick `k` is a judged tick of the facet: its excitation may run (R474), a Z drive is not off for want of the tones (R32, R75),
and it is no transition tick of scheduled operation (R87, R97). -/
def State.judged (s : State) (n : Nat) (b : Blk) (k : Nat) : Bool :=
  s.life.drivesOn && (!isZ n || (s.exc.lock && !s.exc.resume)) && (!scheduled n b || k != (s.facet n).slotFrom)

/-- Causes that a transition tick does not judge: those of the excitation monitor. -/
def causeOfMonitor : Cause → Bool
  | .excOpen => true | .excShort => true | .excDev => true | .senseLost => true | .snsOpen => true | _ => false

/-- A word of slot `j` counts toward SNS_OPEN: 4 consecutive ones below half break the slot's sense line, 8 consecutive ones
at or above it mend it (R96). -/
def FacetRT.senseWord (f : FacetRT) (j : Nat) (below : Option Bool) : FacetRT :=
  match below with
  | none => f
  | some b =>
    let (lo, ok, broken) := Store.get (0, 0, false) f.sns j
    let lo := if b then min 100 (lo + 1) else 0
    let ok := if b then 0 else min 100 (ok + 1)
    { f with sns := Store.set (0, 0, false) f.sns j (lo, ok, decide (4 ≤ lo) || (broken && decide (ok < 8))) }

/-- Count the ticks of conditions: a condition that fails starts again from 0. -/
def countTicks (old : Store Nat) (key : Cause → Nat) (skip p : Cause → Bool) : Store Nat :=
  causes.foldl (fun m c => if skip c then m else
    Store.set 0 m (key c) (if p c then min 100 (Store.get 0 old (key c) + 1) else 0)) old

/-- The monitors of one facet judge the tick `k` that has ended (R30, R53, R54, R66, R96). -/
def State.judgeFacet (s : State) (n k : Nat) : State :=
  let b := s.blkA n
  let f := s.facet n
  let a := f.sig
  let jd := s.judged n b k
  let skip (c : Cause) : Bool := !jd && causeOfMonitor c
  let st := s.stableTick n b a k
  let wins := if !jd then f.settle else f.settle.map fun w =>
    if w.waitS then
      let m := if st then w.stable + 1 else 0
      if 8 ≤ m then { w with waitS := false, stable := m } else { w with stable := m }
    else w
  let j := if scheduled n b then f.slot else contSlot b
  let f := if jd && isZ n && b.type == 1 then f.senseWord j (s.senseBelow n b a j) else f
  s.setFacet n { f with
    enterCnt := countTicks (countTicks f.enterCnt causeBit skip (s.entryAlt n b a k false))
      (fun c => 16 + causeBit c) (fun c => skip c || !(c == .excOpen || c == .excShort)) (s.entryAlt n b a k true)
    leaveCnt := countTicks f.leaveCnt causeBit skip (s.exitCond n b a k)
    stableCnt := if jd then (if st then min 100 (f.stableCnt + 1) else 0) else f.stableCnt
    sigJudged := if scheduled n b && k == f.slotFrom then f.sigJudged else a
    inSpanCnt := if f.isolated then (if a.inSpan then f.inSpanCnt + 1 else 0) else 0
    settle := wins }

/-- Driver checks whose facets' monitors have been stable for 8 consecutive ticks with tick `k`, one of the 2,080 that follow
the handover (R396). -/
def State.judgeDrivers (s : State) (k : Nat) : State :=
  { s with spare := { s.spare with drv := s.spare.drv.map fun (d : DrvCheck) =>
      if 8 ≤ (s.facet d.facet).stableCnt ∧ k < d.from_ + 2080 then { d with ok := true } else d } }

/-- Facets that a tick's monitors have anything to judge on. -/
def State.watched (s : State) : List Nat :=
  (s.listedFacets ++ (s.facets.map fun (e : Nat × FacetRT) => e.1)).dedup

/-! ## Entering and leaving fault -/

/-- The facet is in fault while `FP_FAULT.NOW` is non-zero (R53). -/
def FacetRT.inFault (f : FacetRT) : Bool := f.faultNow != 0

/-- The facet was in fault at some tick boundary from `a` to `b` (R57). -/
def FacetRT.faultIn (f : FacetRT) (a b : Nat) : Bool :=
  f.faultSpans.any fun x => decide (x.1 ≤ b) && (match x.2 with | none => true | some e => decide (a < e))

/-- Spans of fault that an output, or a cycle, whose output is still to be formed may need: those that ended more than an
output interval before the earliest aperture that is due are dropped (R57). -/
def FacetRT.keptSpans (f : FacetRT) (tick : Nat) : List (Nat × Option Nat) :=
  let first := min ((firstPend f.pend).getD tick) tick
  f.faultSpans.filter fun x => match x.2 with
    | none => true
    | some e => decide (first < e + 2048)

/-- A cause enters at the present tick boundary (R53, R58, R326). -/
def State.enterCause (s : State) (n bit : Nat) : State :=
  let f := s.facet n
  let m := w16 (2 ^ bit)
  if (f.faultNow &&& m) ≠ 0 then s else
  let was := f.inFault
  let f' := { f with
    faultNow := f.faultNow ||| m, faultSeen := f.faultSeen ||| m
    faultSpans := if was then f.faultSpans else (s.tick, none) :: f.keptSpans s.tick }
  let s := s.setFacet n f'
  let s := if was then s else s.irq0 0
  s.facetAlarm n 1 f'.faultNow.toNat

/-- Causes leave at the present tick boundary; leaving fault sends FAULT_OUT (R53, R519). -/
def State.leaveCauses (s : State) (n mask : Nat) : State :=
  let f := s.facet n
  let now := f.faultNow &&& ~~~(w16 mask)
  if now = f.faultNow then s else
  let spans := if now = 0 then f.faultSpans.map (fun x => if x.2.isNone then (x.1, some s.tick) else x) else f.faultSpans
  let s := s.setFacet n { f with faultNow := now, faultSpans := spans, checkBarred := f.checkBarred && now != 0 }
  if now = 0 then s.facetAlarm n 2 0 else s

/-- A check of the facet's driver, or of its path, is triggered: it starts at the next frame boundary, after the other needs
for its spare (R389, R393). -/
def State.wantCheck (s : State) (n : Nat) (driver : Bool) : State :=
  if s.spare.wanted.any fun w => w.facet == n && w.driver == driver then s else
  let s := s.nextStamp
  { s with spare := { s.spare with wanted := s.spare.wanted ++ [{ facet := n, driver, stamp := s.ctl.stamp }] } }

/-- A driver check starts: the spare driver takes over the sensor by make-before-break (R396). -/
def State.driverCheckStart (s : State) (n i : Nat) : State :=
  let s := s.takeSpare (drvKind n) i n spLent
  let s := s.setFacet n { s.facet n with excStandin := some i, stableCnt := 0 }
  { s with spare := { s.spare with drv := s.spare.drv ++ [{ facet := n, spare := i, from_ := s.tick : DrvCheck }] } }

def causeIsExc : Cause → Bool
  | .excOpen => true | .excShort => true | .excDev => true | .senseLost => true | _ => false

/-- The entry condition of a cause has held for its count: by one alternative throughout (R53), or on one slot (R96). -/
def State.enterDue (s : State) (n : Nat) (c : Cause) : Bool :=
  let f := s.facet n
  match c with
  | .snsOpen => (activeSlots (s.blkA n)).any fun j => (Store.get (0, 0, false) f.sns j).2.2
  | _ => decide (s.enterNeed c ≤ Store.get 0 f.enterCnt (causeBit c))
      || decide (s.enterNeed c ≤ Store.get 0 f.enterCnt (16 + causeBit c))

/-- An excited facet that enters an excitation cause triggers a driver check, unless its policy or an earlier check bars it
(R391, R393, R396). -/
def State.wantsDriver (s : State) (n : Nat) : Bool :=
  excitedClass n (s.blkA n).type && (s.blkA n).policy != 2 && !(s.facet n).checkBarred

/-- FAULT_ENTER: the cause's entry condition has held for its count (R53, R96). -/
def State.faultEnter (s : State) (n : Nat) (c : Cause) : State :=
  if s.enterDue n c = true ∧ (s.blkA n).type ≠ 0 then
    let new := bits (s.facet n).faultNow.toNat (causeBit c) 1 == 0
    let s := s.enterCause n (causeBit c)
    if causeIsExc c && new && s.wantsDriver n then s.wantCheck n true else s
  else s

/-- Causes that stand with a condition of the device: isolation, loss of the tones, a failed path or driver (R30, R53, R79). -/
def State.standsNow (s : State) (n : Nat) (c : Cause) : Bool :=
  match c with
  | .overvolt => (s.facet n).isolated
  | .tone => !s.exc.lock
  | .path => (s.facet n).needPath || (s.facet n).needExc
  | _ => false

/-- The exit condition of a cause has held for its count, and the device's condition that it stands for is gone. SNS_OPEN leaves
when no active slot is broken and one has delivered 8 consecutive words at or above 50 % (R53, R96). -/
def State.leaveDue (s : State) (n : Nat) (c : Cause) : Bool :=
  let f := s.facet n
  match c with
  | .snsOpen =>
    let js := activeSlots (s.blkA n)
    (js.all fun j => !(Store.get (0, 0, false) f.sns j).2.2) && js.any fun j => decide (8 ≤ (Store.get (0, 0, false) f.sns j).2.1)
  | _ => decide (s.leaveNeed c ≤ Store.get 0 f.leaveCnt (causeBit c)) && !s.standsNow n c

/-- FAULT_LEAVE: its exit condition has held for its count. -/
def State.faultLeave (s : State) (n : Nat) (c : Cause) : State :=
  if s.leaveDue n c then s.leaveCauses n (2 ^ (causeBit c)) else s

/-- PROTECTION_ISOLATION (R30, R53): the lands have left the span. -/
def State.isolate (s : State) (n : Nat) : State :=
  let f := s.facet n
  if f.sig.inSpan ∨ f.isolated then s else
  let s := s.setFacet n { f with isolated := true, inSpanCnt := 0 }
  if (s.blkA n).type = 0 then s else s.enterCause n 7

/-- ISOLATION_END: both lands have stayed inside for 8 consecutive ticks; a SETTLE window starts (R30). -/
def State.isolationEnd (s : State) (n : Nat) : State :=
  let f := s.facet n
  if f.isolated ∧ 8 ≤ f.inSpanCnt then
    let s := s.setFacet n { f.openSettle (settleLen n (s.blkA n)) with isolated := false, inSpanCnt := 0 }
    s.leaveCauses n 128
  else s

/-- ALARM_WINDOW_END (R327): 4,000 ticks after the window's first alarm. -/
def State.alarmWindowEnd (s : State) (n : Nat) : State :=
  let f := s.facet n
  match f.alarmFrom with
  | none => s
  | some t =>
    if t + 4000 ≤ s.tick then
      let held := f.alarmHeld
      let s := s.setFacet n { f with alarmFrom := none, alarmSent := 0, alarmHeld := 0 }
      if held = 0 then s else
        s.alarmAt (t + 4000) 12 n (min held 65535 + f.faultNow.toNat * 65536)
    else s

/-! ## Applies -/

/-- FCT_APPLY accepted or refused (R46, R47, R50): `ns` the facets it carries. -/
def State.applyRequest (s : State) (m : Master) (ns : List Nat) (needSpare : Bool) : State :=
  match s.refusal (s.candApply ns) ns needSpare with
  | some (code, n) => { s with applyCause := code }.logE 2 (masterCode m) n (BitVec.ofNat 32 code)
  | none =>
    let words := s.applyWords ns
    let facets := ns.filter s.changedFacets.contains
    let s := s.nextStamp
    { s with applyCause := 0, applies := s.applies ++ [{ facets, words, stamp := s.ctl.stamp, needSpare, master := m }] }

/-- Bead duty on a port begins now: outputs from this tick on count (R220, R221, R244). -/
def State.dutyFrom (s : State) (p : Nat) : State :=
  s.modBeadPort p fun b => { b with from_ := s.tick, startX := none, reach := [], lastX := [] }

/-- The open beads of a port take a close cause at the present boundary (R221, R227, R248). Beads that wait for a
place are lost with it (R230). -/
def State.forceBeads (s : State) (p cause : Nat) : State :=
  let s := (s.beadPort p).wait.foldl (fun s w => s.lose 0 511 w.tick (max 1 (s.tick - w.tick)) 7 4) s
  let s := s.modBeadPort p fun b => { b with wait := [], gather := if cause = 3 then [] else b.gather }
  let s := if cause = 2 then s else s.dutyFrom p
  { s with bead := { s.bead with beads := s.bead.beads.map fun b =>
      if b.port = p ∧ b.forced.isNone then { b with forced := some (cause, s.tick) } else b } }

/-- Pending outputs at a change from continuous to scheduled operation carry SETTLE, and are completed on their own (R85). -/
def settlePending (ps : List PendOut) : List PendOut := ps.map fun p => { p with settle := true, frozen := true }

/-- Make words of a facet's block active; what they replace stays known to the outputs of earlier ticks (R42, R44). -/
def State.setActive (s : State) (n : Nat) (ws : List (Nat × Word)) : State :=
  let old := (ws.filter fun x => s.fpA n x.1 != x.2).map fun x => (s.tick, x.1, s.fpA n x.1)
  let s := ws.foldl (fun t (w, v) => t.setFpA n w v) s
  s.modFacet n fun f => { f with blkOld := old ++ f.blkOld }

/-- Write the active words of a facet from the candidate block. -/
def State.activate (s : State) (n : Nat) (b : Blk) (ws : List Nat) : State :=
  s.setActive n ((ws.filter (fpIsParam n)).map fun w => (w, b w))

/-- A change of the notches without a clear: the samples from tick `t` on go through the new set, those of pending outputs
too, and before `t` a newly enabled notch has zero state (R148). -/
def FacetRT.changeNotch (f : FacetRT) (t old new : Nat) : FacetRT :=
  { f with
    notchOld := (t, old) :: f.notchOld
    pend := f.pend.map fun p => if p.frozen then p else { p with notch := new, notchOld := (p.inCount t, old) :: p.notchOld } }

/-- Facets whose block a clasp writes, ascending. -/
def claspFacets (ws : List StagedWrite) : List Nat :=
  let ns := ws.filterMap fun w => match w.tgt with
    | .win 0 a _ => some (a / 32)
    | _ => none
  allFacets.filter fun n => ns.contains n

/-- The block that a facet would have: the staged words of the clasp over the words in force. -/
def State.claspBlk (s : State) (ws : List StagedWrite) (n : Nat) : Blk :=
  let mine := ws.filterMap fun w => match w.tgt with
    | .win 0 a _ => if a / 32 = n then some (a % 32, w.val) else none
    | _ => none
  fun k => match (mine.reverse.find? fun e => e.1 == k) with
    | some (_, v) => v &&& fpMask n k
    | none => s.fpA n k

/-- Blocks of facets that other applies and accepted clasps of the present boundary will leave, in the order in which they
act. -/
def State.waitingBlks (s : State) : List (Nat × Blk) :=
  ((s.applies.filter fun r => s.due r.stamp).flatMap fun r =>
    r.facets.map fun n => (n, (fun w => Store.get (s.fpA n w) r.words (n * 32 + w) : Blk)))
  ++ (masters.filter fun m => (s.master m).clasp.pend && s.due (s.master m).clasp.acceptStamp).flatMap fun m =>
    (claspFacets (s.master m).clasp.writes).map fun n => (n, s.claspBlk (s.master m).clasp.writes n)

/-- The spare of a range change (R61): that of one which the same boundary has begun, else the one that is left to the facet
once the facets below it, with their own range changes at the boundary, have been served (R389). -/
def State.rangeSpare (s : State) (n : Nat) : Option Nat :=
  match (s.facet n).rangeChg with
  | some r => some r.spare
  | none =>
    let k := pathKind n
    let needs := (s.waitingBlks.filter fun e => decide (e.1 < n) && pathKind e.1 == k && (s.facet e.1).rangeChg.isNone
      && onlyRange e.1 (s.blkA e.1) e.2).map Prod.fst
    (((List.range n).filter needs.contains).foldl (fun s m =>
      match s.pickSpare k m with
      | some i => s.takeSpare k i m spLent
      | none => s) s).pickSpare k n

/-- A shadow phase of a check on the facet ends without a result when an apply takes effect (R394). -/
def State.endShadow (s : State) (n : Nat) : State :=
  let (ended, rest) := s.spare.chks.partition fun c => c.facet == n && c.phase == 1
  let s := { s with spare := { s.spare with chks := rest } }
  ended.foldl (fun s c => s.returnSpare (pathKind n) c.spare) s

/-- A Z drive stays off while the tones are not locked, and after their return until the drives resume; a facet that becomes of
type 1 meanwhile is in fault with cause TONE while they are not locked (R75). -/
def State.toneHolds (s : State) (n : Nat) : State :=
  if !isZ n then s else
  let on := (s.blkA n).type == 1
  let s := s.modFacet n fun f => { f with driveOff := on && (!s.exc.lock || s.exc.resume) }
  if on && !s.exc.lock then s.enterCause n 8 else s

/-- What a change to block `b` does to a facet at the frame boundary T (R49, R61, R63, R66, R85, R148, R519, R522). Where these
rules leave a point open, the model's choices are (DESIGN CHOICE): a window of R66 keeps the `SETTLE_LEN` of its T when a
later apply changes N_out or the notches (log 188); an apply of more than the range that takes effect at the boundary at
which an earlier one has lent a spare for a range change leaves that change running, and changes the own path at T (log
189); in continuous operation a move of the only active slot opens a window of `SETTLE_LEN` outputs without a clear, as a
change of its frequency does (log 190). -/
def State.applyFacet (s : State) (n : Nat) (b : Blk) : State :=
  let a := s.blkA n
  let t := s.tick
  let av := fun w => a w
  let spare := if onlyRange n a b then s.rangeSpare n else none
  match spare with
  | some i =>
    -- make-before-break: the new range becomes active at the swap (R61, R62)
    let s := (s.endShadow n).takeSpare (pathKind n) i n spLent
    let w := rangeWord n b
    (s.setFacet n { (s.facet n).clearPath (some i) t with
      rangeChg := some { spare := i, phase := 1, left := settleLen n a, new := [(w, b w)] } }).calConfig n true
  | none =>
    let old := (List.range 32).map av
    let a : Blk := fun w => old.getD w 0
    let sch := scheduled n a
    let sch' := scheduled n b
    let slotsDiffer := isZ n && (List.range 8).any fun i => a (16 + i) != b (16 + i)
    let s := s.activate n b (List.range 32)
    let b := s.blkA n
    let f := s.facet n
    let sl := settleLen n b
    -- excitation change (R49, R66, R87)
    let excChange := if isZ n then a.zLevel != b.zLevel
      else a.mode != b.mode || a.revPer != b.revPer || (a.type != b.type && (excOn n a || excOn n b))
    let f := if excChange then
        { f with settle := f.settle.filter (fun w => !w.exc) ++
            [{ left := sl, waitS := monitorJudges n b, exc := true }] }
      else f
    -- range change without a spare (R63)
    let f := if rangeDiffers n a b then
        (f.rescalePend f.serving t (rangeOf n a) (rangeOf n b)).clearChain t sl
      else f
    let f := if !isZ n && a.bias != b.bias then f.openSettle sl else f
    -- N_out and notches (R148)
    let f := if !sch' && !sch && a.noutCode != b.noutCode && !rangeDiffers n a b then f.clearChain t sl
      else if !sch' && !sch && a.notch != b.notch && !rangeDiffers n a b then (f.changeNotch t a.notch b.notch).openSettle sl
      else f
    -- schedules (R80, R85, R522)
    let f :=
      if sch' && (slotsDiffer || !sch) then
        { (f.openSettle 1) with
          anchor := t, cycles := 0, acc := [], cycMarks := [], slot := (slotAt b 0).1, slotFrom := t
          pend := if sch then f.pend else settlePending f.pend }
      else if sch && !sch' then { f.clearChain t sl with acc := [], cycMarks := [] }
      else if isZ n && !sch && (a.zFreq (contSlot a) != b.zFreq (contSlot b) || contSlot a != contSlot b)
      then f.openSettle sl else f
    let duty := a.role != b.role || a.beltEn != b.beltEn || a.beltPort != b.beltPort || a.beltOfs != b.beltOfs
    let f := if duty then { f with beadFrom := t } else f
    let s := s.setFacet n f
    -- the method that judges the facet (R519)
    let gone := (if windowJudges n a && !windowJudges n b then windowMask else 0)
      + (if monitorJudges n a && !monitorJudges n b then monitorMask else 0)
    let s := if b.type = 0 then s.leaveCauses n 2047 else if gone = 0 then s else s.leaveCauses n gone
    let fresh := (if windowJudges n a != windowJudges n b then [0, 1] else [])
      ++ (if monitorJudges n a != monitorJudges n b then [2, 3, 4, 5, 9, 18, 19] else [])
    let s := s.modFacet n fun f => { f with
        enterCnt := Store.keep (fun c => !fresh.contains c) f.enterCnt
        leaveCnt := Store.keep (fun c => !fresh.contains c) f.leaveCnt
        sns := if fresh.contains 9 then [] else f.sns
        stableCnt := if fresh.contains 2 then 0 else f.stableCnt }
    let s := if a.type = 0 ∧ b.type ≠ 0 ∧ ((s.facet n).needPath ∨ (s.facet n).needExc)
      then s.enterCause n 10 else s
    -- belt-scale runs and beads of the ports concerned (R227, R368)
    let s := if duty then
        ([a.beltPort, b.beltPort].dedup).foldl (fun s p => s.forceBeads p 3) s
      else s
    let s := if a.role = 1 ∨ b.role = 1 then
        ([a.beltPort, b.beltPort].dedup).foldl (fun s p => s.calDisturb p 13) s
      else s
    let s := if a.type != b.type then s.toneHolds n else s
    (s.endShadow n).calConfig n ((List.range 32).any fun w => fpIsParam n w && a w != b w)

/-- APPLY_EFFECT: the oldest apply that is due takes effect, or fails with CONFLICT (R47 to R49, R423). -/
def State.applyEffect (s : State) : State :=
  match s.applies with
  | [] => s
  | r :: rest =>
    if !s.turn r.stamp then s else
    let s := { s with applies := rest }
    -- the facet at fault is the lowest whose block another commit took (R47)
    match r.facets.find? fun n => s.conflicts .host r.stamp (.facet n) with
    | some n => { s with applyCause := 27 }.logE 2 (masterCode r.master) n 27
    | none =>
      r.facets.foldl (fun s n =>
        let b : Blk := fun w => Store.get (s.fpA n w) r.words (n * 32 + w)
        (s.applyFacet n b).committed .host (.facet n)) s

/-! ## Range changes through a spare -/

/-- RANGE_CHANGE_SWAP: the spare has settled, and its next output's aperture is now (R61 step 3, R79). -/
def State.rangeSwap (s : State) (n : Nat) : State :=
  let f := s.facet n
  match f.rangeChg with
  | some r =>
    if s.swapDue n ∧ !s.syncDue then
      let old := rangeOf n (s.blkA n)
      let s := s.setActive n r.new
      let f := ((s.facet n).rescalePend f.subst s.tick old (rangeOf n (s.blkA n))).clearPath f.subst s.tick
      let s := s.setFacet n { f with
        standin := some r.spare
        rangeChg := some { r with phase := 2, left := settleLen n (s.blkA n) } }
      s.calConfig n true
    else s
  | none => s

/-- RANGE_CHANGE_SWAP_BACK: the path serving the facet has settled (R61 step 4). -/
def State.rangeSwapBack (s : State) (n : Nat) : State :=
  let f := s.facet n
  match f.rangeChg with
  | some r =>
    if r.phase = 2 ∧ r.left = 0 ∧ s.tick % (s.blkA n).nout = 0 ∧ r.freeAt.isNone then
      s.setFacet n { f with standin := none, rangeChg := some { r with freeAt := some (s.tick + 1) } }
    else s
  | none => s

/-- The spare disconnects at the tick boundary after the swap back (R61 step 4). -/
def State.rangeRelease (s : State) (n : Nat) : State :=
  match (s.facet n).rangeChg with
  | some r =>
    match r.freeAt with
    | some t => if t ≤ s.tick then (s.returnSpare (pathKind n) r.spare).modFacet n fun f => { f with rangeChg := none } else s
    | none => s
  | none => s

/-- A synchronising reset ends a range change: the path serving the facet takes the new range (R64). -/
def State.rangeSync (s : State) (n : Nat) : State :=
  match (s.facet n).rangeChg with
  | some r =>
    let old := rangeOf n (s.blkA n)
    let new := r.phase == 1
    let s := if new then s.setActive n r.new else s
    ((s.returnSpare (pathKind n) r.spare).modFacet n fun f =>
      { f.rescalePend f.subst s.tick old (rangeOf n (s.blkA n)) with rangeChg := none, standin := none }).calConfig n new
  | none => s

/-! ## Reads on request -/

/-- The 32-bit result of a facet read and its age (R59, R60, R98). The age of kinds 2 to 4, which are no outputs, is 0 (DESIGN
CHOICE, log 194: R60 gives them none). -/
def State.facetRead (s : State) (n kind : Nat) : DWord × Nat :=
  let f := s.facet n
  let age := min 1023 (s.tick - f.last.aperture)
  match kind with
  | 0 => (if isZ n then f.last.q else f.last.i, age)
  | 1 => (f.last.eng, age)
  | 2 => (deliverO (some (((if isZ n then f.sigJudged else f.sig).sense : Rat) / 1000000)), 0)
  | 3 => (deliverO (some (((if isZ n then f.sigJudged else f.sig).cur : Rat) / 1000000)), 0)
  | 4 => (deliverO (some ((f.sig.cm : Rat) / 1000000)), 0)
  | _ => (0, 0)

/-- FCT_READ_GO: a new request replaces a pending one (R59). -/
def State.fctReadGo (s : State) (n kind : Nat) : State :=
  let k := if 5 ≤ kind then fld s.fctRead.ctl 9 3 else kind
  { s with fctRead := { s.fctRead with
      ctl := w16 (n % 512 + k * 512), facet := n % 512, kind := k, ready := false, pend := true } }

/-- FCT_READ_READY: the result is latched (R59, R60). -/
def State.fctReadReady (s : State) : State :=
  if s.fctRead.pend then
    let (v, age) := s.facetRead s.fctRead.facet s.fctRead.kind
    { s with fctRead := { s.fctRead with result := v, age, ready := true, pend := false } }
  else s

/-- The facet that a read of FCT_FAULT_NEXT returns, after the one last returned; none is END (R58). -/
def State.nextFault (s : State) (after : Option Nat) : Option Nat :=
  (s.facets.find? fun e => (e.2.faultNow != 0 || e.2.faultSeen != 0) &&
    (match after with | none => true | some a => decide (a < e.1))).map fun (e : Nat × FacetRT) => e.1

/-- Facets in fault (R58). -/
def State.faultCount (s : State) : Nat := (s.facets.filter fun e => e.2.inFault).length

/-! ## Rail and tones -/

/-- EXC_RAIL_OVER: the total has exceeded 2,000 mA for 8 consecutive ticks (R52). -/
def State.excRailOver (s : State) : State :=
  if 8 ≤ s.exc.overCnt ∧ !s.exc.railOver then
    ({ s with exc := { s.exc with railOver := true } }.irq0 1).alarm 3 objDevice s.exc.railMa
  else s

/-- EXC_RAIL_OVER_CLEAR: 8 consecutive ticks at or below 2,000 mA (R448). -/
def State.excRailOverClear (s : State) : State :=
  if 8 ≤ s.exc.underCnt then { s with exc := { s.exc with railOver := false } } else s

/-- EXC_RAIL_FOLD: the rail limits its current at 2,400 mA (R52). -/
def State.excRailFold (s : State) : State :=
  if 2400 ≤ s.exc.railNow ∧ !s.exc.fold then
    { s with exc := { s.exc with fold := true } }.alarm 4 objDevice s.exc.railMa
  else s

/-- EXC_FOLD_CLEAR: the rail no longer limits (R448). -/
def State.excFoldClear (s : State) : State :=
  if s.exc.railNow < 2400 then { s with exc := { s.exc with fold := false } } else s

/-- 10.0 V excitation is active on some facet (R52). -/
def State.any10V (s : State) : Bool := s.listedFacets.any fun n => !isZ n && (s.blkA n).mode == 4

/-- EXC_HEADROOM (R52, R505). -/
def State.excHeadroom (s : State) : State :=
  if s.exc.exvdd < 11500 ∧ s.any10V ∧ !s.exc.headroom then
    { s with exc := { s.exc with headroom := true } }.alarm 5 objDevice s.exc.exvdd
  else s

def State.excHeadroomClear (s : State) : State :=
  if ¬ (s.exc.exvdd < 11500 ∧ s.any10V) then { s with exc := { s.exc with headroom := false } } else s

/-- Z-facets of type 1. -/
def State.zAssigned (s : State) : List Nat := s.listedFacets.filter fun n => isZ n && (s.blkA n).type == 1

/-- TONE_LOCK_LOSS: every Z drive goes off, and each Z-facet of type 1 is in fault (R75). -/
def State.toneLoss (s : State) : State :=
  let s := { s with exc := { s.exc with lock := false, resume := false } }
  s.forFacets s.zAssigned fun n t => (t.modFacet n fun f => { f with driveOff := true }).enterCause n 8

/-- A write of `ZTONE_CTL`: the synthesiser runs only while `EN` is set, so clearing it loses the lock at once (R75). -/
def State.ztoneWrite (s : State) (w : Word) : State :=
  let s := { s with exc := { s.exc with ztone := w } }
  if fld w 0 1 = 0 ∧ s.exc.lock = true then s.toneLoss else s

/-- TONE_LOCK_RETURN: the cause leaves; the drives wait for the next frame boundary (R75, R96). -/
def State.toneReturn (s : State) : State :=
  if fld s.exc.ztone 0 1 = 0 ∨ s.exc.lock then s else
  let s := s.nextStamp
  let s := { s with exc := { s.exc with lock := true, resume := true, resumeStamp := s.ctl.stamp } }
  s.forFacets s.zAssigned fun n t => t.leaveCauses n 256

/-- Z_DRIVES_RESUME at the first frame boundary after the return: that boundary is T of the excitation settling rule (R12, R75,
R87). -/
def State.zResume (s : State) : State :=
  if s.exc.resume ∧ s.due s.exc.resumeStamp then
    let s := { s with exc := { s.exc with resume := false } }
    s.forFacets s.zAssigned fun n t => t.modFacet n fun f =>
      { f with driveOff := false, settle := f.settle.filter (fun w => !w.exc) ++
          [{ left := settleLen n (t.blkA n), waitS := monitorJudges n (t.blkA n), exc := true }] }
  else s

end Sys2Proof.Machine
end

