-- ==== Sys2Proof/Machine/Position.lean ====
section
/-! DEFINITION. The position ports: counting, coordinates and latches (R188 to R193, R215), markers, slip and stretch
(R197 to R212), activation of port settings (R195, R224), and the judgement of Tally (R216 to R220). `u_ref` is held
exactly (R192; log 19). -/

namespace Sys2Proof.Machine

open Sys2Proof

def PosState.code : PosState → Nat
  | .off => 0 | .seeking => 1 | .valid => 2

/-- The state after the event now in progress: the one that the next tick boundary brings (R200). -/
def PosPort.after (p : PosPort) : PosState := p.next.getD p.st

/-- `PB_TABLE_CRC` (R198); it reads its reset value 0 while no table is active: no loop length (log 36). -/
def PortCfg.tableCrc (c : PortCfg) : Nat :=
  if c.len = 0 then 0 else crc32 (leBytes 4 c.len ++ c.marks.flatMap (leBytes 4))

/-- `PB_STRETCH_NOW`, ppm (R209), rounded to its unit to nearest, ties away from zero (DESIGN CHOICE, log 235). -/
def PosPort.stretchPpm (p : PosPort) : Int := roundHalf ((p.s - 1) * 1000000)

/-- `PB_SLIP_REV`, mm (R206), rounded like `PB_STRETCH_NOW` (DESIGN CHOICE, log 235). -/
def PosPort.slipRev (p : PosPort) : Nat := (roundHalf (p.slips.foldl (fun a e => a + e.2) 0)).toNat

/-- A MARK message (R205, R338): 0 IDENTIFIED, 1 MISSED, 2 STEP, 3 STATE. A change of state takes effect at the boundary that
follows its cause, and its message carries that boundary (R200). -/
def State.mark (s : State) (p evt marker : Nat) (slip : Int) : State :=
  let q := s.port p
  let k := if evt = 3 then s.tick else s.tick + 1
  let m := (s.msg.seq.m + 1) % 65536
  let s := { s with msg := { s.msg with seq := { s.msg.seq with m } } }
  let st := q.after
  let flags := b2n q.revOk + 2 * b2n q.revAdj + 4 * b2n q.slew.isSome + 8 * b2n q.tableDiff
  s.emit .mark 2 (p * 2048 + marker % 64)
    (leBytes 2 q.cfgA.beltId ++ leBytes 2 q.rev ++ leBytes 1 (p + evt * 16 + st.code * 64) ++ leBytes 1 marker
      ++ leBytes 6 (s.msgTick k) ++ leBytes 4 (s32 slip) ++ leBytes 4 (s32 q.stretchPpm)
      ++ leBytes 4 q.cfgA.tableCrc ++ leBytes 1 flags ++ [0] ++ leBytes 2 m
      ++ leBytes 4 (if st = .valid then q.u.floor.toNat else 0))
    0 511 s.tick 1

/-- Wrap a coordinate into the loop, moving the revolution count (R192). -/
def wrapU (len : Nat) (u : Rat) (rev : Nat) : Rat × Nat :=
  if len = 0 then (u, rev) else
  let k := (u / (len : Rat)).floor
  (u - k * (len : Rat), (((rev : Int) + k) % 65536).toNat)

/-- A signed difference of coordinates in (−B/2, B/2] (R206). -/
def circ (len : Nat) (d : Rat) : Rat :=
  if len = 0 then d else
  let b : Rat := len
  let x := d - b * (d / b).floor
  if b / 2 < x then x - b else x

/-- Advance of `u_ref` for nominal travel `a`, with the slew of R207, which keeps the length with which it began: its rate stays
from 0.95 to 1.05 (R208). -/
def slewAdvance (slew : Option (Rat × Rat × Rat)) (a : Rat) : Rat × Option (Rat × Rat × Rat) :=
  match slew with
  | none => (a, none)
  | some (left, e, len) =>
    if a ≤ 0 ∨ len = 0 then (a, slew)
    else if a < left then (a * (1 - e / len), some (left - a, e, len))
    else (left * (1 - e / len) + (a - left), none)

/-- Physical travel `d` mm (R188, R192). -/
def PosPort.travel (p : PosPort) (d : Rat) : PosPort :=
  let (a, slew) := slewAdvance p.slew (d / p.s)
  let (u, rev) := if p.st = .valid ∨ p.next = some .valid then wrapU p.len (p.u + a) p.rev else (p.u, p.rev)
  -- the pulses after an accepted one are ignored until 50 mm have passed (R199)
  let dead := p.dead.filter fun o => decide (rabs (p.odo + d - o) < 50)
  { p with odo := p.odo + d, frameOdo := p.frameOdo + d, u, rev, slew, ahead := p.ahead - a, dead }

/-- The port leaves VALID: SEEKING at the next tick boundary (R200, R204). -/
def State.posLost (s : State) (p : Nat) : State :=
  s.modPort p fun q => if q.st = .valid then { q with next := some .seeking } else q

/-- Reverse travel: open beads carry REVERSE, a belt-scale run ends, a learning run fails (R239, R246, R368). -/
def State.reverseTravel (s : State) (p : Nat) : State :=
  let s := s.flagBeads p 0x0800
  let s := if s.bead.tareState = 2 ∧ s.bead.tarePort = p then
      ({ s with bead := { s.bead with tareState := 4, tareCause := 10, tareAcc := [] } }).irq1 3
    else s
  match s.cal.run with
  | some r => if (r.proc = 7 ∨ r.proc = 8) ∧ r.target = 0x240 + p ∧ r.phase = 6 then s.calEndTarget 10 else s
  | none => s

/-- The glitch filter of a port, ns (R187). -/
def PosPort.filterNs (q : PosPort) : Nat := [0, 50, 100, 200].getD (fld q.cfgAct 3 2) 200

/-- Two instants lie closer together than `d` ns. -/
def within (now : Nat) (last : Option Nat) (d : Nat) : Bool :=
  match last with
  | some t => decide (now < t + d)
  | none => false

/-- What a change of the inputs counts: none for a quadrature error, else whether PA_p leads PB_p (R188). An edge within 125 ns of
the other channel's is taken with both bounds exclusive. -/
def PosPort.decode (q : PosPort) (e : QuadEdge) (now : Nat) : Option Bool :=
  match e with
  | .both _ _ => none
  | .edge b level =>
    let (own, other) := if b then (q.edgeB, q.edgeA) else (q.edgeA, q.edgeB)
    if within now own 500 || within now other 125 then none
    else some (if b then level == q.pa else level != q.pb)

/-- The change of the levels held that a change of the inputs makes: none where the inputs return to them, as after a pulse that
the glitch filter has rejected (R187, R512). -/
def PosPort.change (q : PosPort) (e : QuadEdge) : Option QuadEdge :=
  match e with
  | .edge b level => if level = (if b then q.pb else q.pa) then none else some e
  | .both a b =>
    match a != q.pa, b != q.pb with
    | true, true => some e
    | true, false => some (.edge false a)
    | false, true => some (.edge true b)
    | false, false => none

/-- The levels and instants after a change. -/
def PosPort.takeEdge (q : PosPort) (e : QuadEdge) (now : Nat) : PosPort :=
  match e with
  | .both a b => { q with pa := a, pb := b, edgeA := some now, edgeB := some now }
  | .edge true level => { q with pb := level, edgeB := some now }
  | .edge false level => { q with pa := level, edgeA := some now }

/-- A quadrature error adds no count (R188, R204). -/
def State.quadError (s : State) (p : Nat) : State :=
  let q := s.port p
  let q := { q with qerrCnt := satInc q.qerrCnt, qerr := true, qerrs := q.qerrs + 1 }
  let s := s.setPort p q
  if q.st = .valid ∧ q.cfgA.qerrLim ≤ q.qerrs then s.posLost p else s

/-- One count, up when PA_p leads (R188, R189, R192). -/
def State.quadCount (s : State) (p : Nat) (lead : Bool) : State :=
  let q := s.port p
  let up := lead != q.cfgA.dir
  let d : Rat := (q.cfgA.res : Rat) / 1000000
  let s := s.setPort p (q.travel (if up then d else -d))
  if up then s else s.reverseTravel p

/-- QUADRATURE_EDGE (R187 to R189, R192, R204): a change shorter than the glitch filter does not come through, nor does the
return from it. -/
def State.quadrature (s : State) (p : Nat) (e : QuadEdge) (width ns : Nat) : State :=
  let q := s.port p
  if width < q.filterNs then s else
  match q.change e with
  | none => s
  | some e =>
  let now := s.nowNs ns
  let t := s.setPort p (q.takeEdge e now)
  if fld q.cfgAct 0 1 = 0 then t else
  match q.decode e now with
  | none => t.quadError p
  | some lead => t.quadCount p lead

/-! ## Markers -/

/-- Three measured intervals, latest first, match the signature of marker `j` (R199). -/
def PosPort.matchSig (q : PosPort) (iv : List Rat) (j : Nat) : Bool :=
  decide (iv.length = 3) &&
  ((iv.reverse).zip (q.cfgA.sig j)).all fun (x, i) => decide (rabs (x - i) * 200 ≤ (i : Rat))

/-- The measured intervals with one more pulse at odometer `o` (R199). -/
def PosPort.withPulse (q : PosPort) (o : Rat) : List Rat :=
  match q.pulse with
  | none => []
  | some l => ((o - l) / q.s :: q.ivals).take 3

/-- Adopt the source's revolution count at marker `j` (R212). -/
def State.adoptRev (s : State) (p j : Nat) : State :=
  let q := s.port p
  if q.cfgA.revSrc ≠ 1 then s else
  match Store.get 65536 q.srcMarks j with
  | 65536 => s
  | r =>
    let q' := { q with srcMarks := Store.set 65536 q.srcMarks j 65536, revOk := true }
    if r = q.rev then s.setPort p q'
    else (s.setPort p { q' with rev := r, revAdj := true }).logE 0x0B noMaster p (BitVec.ofNat 32 r)

/-- The stretch after marker `j` has been identified in VALID (R209). -/
def PosPort.stretchUpdate (q : PosPort) (j : Nat) : PosPort :=
  match q.idAt.find? (fun e => e.1 == j) with
  | none => q
  | some (_, o) =>
    if q.len = 0 then q else
    let sr := (q.odo - o) / (q.len : Rat)
    if rabs (sr - q.s) ≤ q.s * 5 / 1000 then
      { q with s := q.s + (sr - q.s) / ((q.cfgA.stretchTc * q.cfgA.nmark : Nat) : Rat) }
    else { q with stretchRej := satInc q.stretchRej }

/-- The marker after marker `j`. -/
def PosPort.nextMark (q : PosPort) (j : Nat) : Nat := if q.cfgA.nmark = 0 then 0 else (j + 1) % q.cfgA.nmark

/-- What every identification of marker `j` at slip `e` sets. -/
def PosPort.identified (q : PosPort) (j : Nat) (iv : List Rat) (e : Rat) : PosPort :=
  { q with
    pulse := some q.odo, ivals := iv, lastMark := j, want := q.nextMark j, ahead := (q.cfgA.ival (q.nextMark j) : Rat) - e
    idOdo := some q.odo, idAt := Store.insert (Store.erase q.idAt j) j q.odo, events := 0, qerrs := 0 }

/-- MARKER_PULSE (R187, R199, R201, R202, R206 to R212). `PB_SLIP_LAST` takes the slip rounded to 0.1 mm, ties away from zero
(DESIGN CHOICE, log 235). -/
def State.markerPulse (s : State) (p : Nat) (falling : Bool) (width : Nat) : State :=
  let q := s.port p
  if width < q.filterNs then s.setPort p { q with pzGlitch := some falling } else
  -- the return from a pulse that the filter has rejected is no edge of the filtered signal
  let back := q.pzGlitch == some (!falling)
  let s := s.setPort p { q with pzGlitch := none }
  let q := s.port p
  if back = true ∨ fld q.cfgAct 0 1 = 0 ∨ ((fld q.cfgAct 2 1 == 1) != falling) = true ∨ q.dead.isSome = true ∨ q.st = .off then s
  else
  let q := { q with dead := some q.odo }
  let iv := q.withPulse q.odo
  if q.st = .seeking ∨ q.next = some .seeking then
    let q := { q with pulse := some q.odo, ivals := iv }
    let ms := (List.range (min q.cfgA.nmark 64)).filter (q.matchSig iv)
    match ms with
    | [j] =>
      if q.next.isSome then s.setPort p q else
      let rev := match q.idOdo with
        | some o => if q.len = 0 then q.rev else
            (((q.rev : Int) + roundHalf ((q.odo - o) / q.s / (q.len : Rat))) % 65536).toNat
        | none => q.rev
      let q := { (q.identified j iv 0) with
        u := q.cfgA.mark j, rev, next := some .valid, slew := none, stepPend := none, slips := [],
        idAt := [(j, q.odo)] }
      ((s.setPort p q).adoptRev p j).mark p 0 j 0
    | _ => s.setPort p q
  else
    let j := q.want
    let m : Rat := q.cfgA.mark j
    let e := circ q.len (q.u - m)
    if rabs e * 200 ≤ (q.cfgA.ival j : Rat) ∧ q.matchSig iv j then
      let q := q.stretchUpdate j
      let big := decide (((q.cfgA.slewLen : Nat) : Rat) / 20 < rabs e)
      let q := { (q.identified j iv e) with
        slipLast := roundHalf (e * 10), slips := Store.insert (Store.erase q.slips j) j (rabs e)
        slew := if big then none else some ((q.cfgA.slewLen : Rat), e, (q.cfgA.slewLen : Rat))
        stepPend := if big then some (e, j) else q.stepPend
        stepFlag := q.stepFlag || big
        idAt := if big then [] else Store.insert (Store.erase q.idAt j) j q.odo }
      let s := (s.setPort p q).adoptRev p j
      let s := s.mark p 0 j (roundHalf (e * 10))
      if big then
        (s.logE 0x0A noMaster p (BitVec.ofInt 32 (satS 32 (roundHalf (e * 10))))).mark p 2 j (roundHalf (e * 10))
      else s
    else
      let q := { q with spurCnt := satInc q.spurCnt, events := q.events + 1 }
      let s := s.setPort p q
      if q.cfgA.missLim ≤ q.events then s.posLost p else s

/-- How far `u_ref` has passed beyond the predicted position of the next marker; negative ahead of it (R203). -/
def PosPort.beyond (q : PosPort) : Rat := -q.ahead

/-- MARKER_MISSED, whose slip of an earlier revolution leaves `PB_SLIP_REV` (R206): `u_ref` has passed beyond the window of the next marker (R203, R204). -/
def State.markerMissed (s : State) (p : Nat) : State :=
  let q := s.port p
  if q.st ≠ .valid ∨ q.next.isSome then s else
  let j := q.want
  let d := q.beyond
  if (q.cfgA.ival j : Rat) / 200 < d then
    -- the predicted position stands in as the pulse
    let o := q.odo - d * q.s
    let q := { q with
      missCnt := satInc q.missCnt, events := q.events + 1
      ivals := q.withPulse o, pulse := some o, idAt := [], slips := Store.erase q.slips j
      want := q.nextMark j, ahead := q.ahead + (q.cfgA.ival (q.nextMark j) : Rat) }
    let s := (s.setPort p q).mark p 1 j 0
    if q.cfgA.missLim ≤ q.events then s.posLost p else s
  else s

/-! ## State changes -/

/-- A learning run on the port fails because the port is out of VALID (R239), and a belt-scale run ends (R368). -/
def State.runsLosePort (s : State) (p : Nat) : State :=
  let s := if (s.bead.tareState = 1 ∨ s.bead.tareState = 2) ∧ s.bead.tarePort = p then
      ({ s with bead := { s.bead with tareState := 4, tareCause := 1, tareAcc := [] } }).irq1 3
    else s
  s.calDisturb p 10

/-- The latch of the present boundary; at a boundary that changes the state it shows the new one (R193, R200). -/
def PosPort.latch (q : PosPort) (k : Nat) : PosPort :=
  { q with latches := (Latch.mk k q.u q.rev q.odo q.st q.s :: q.latches.dropWhile (fun l => l.tick == k)).take 4400 }

/-- Enter a state at the present tick boundary (R200, R204, R205, R210, R221). -/
def State.enterPos (s : State) (p : Nat) (st : PosState) (forget : Bool) : State :=
  let q := s.port p
  if q.st = st ∧ !forget then s.setPort p { q with next := none } else
  let was := q.st
  let q := { q with st, next := none }
  let q := match st with
    | .valid => q
    | _ => { q with revOk := q.revOk && decide (st ≠ PosState.seeking ∨ was = PosState.seeking), ivals := [], pulse := none, idAt := [], slew := none, stepPend := none, events := 0,
                    qerrs := 0, fastFrom := none, idOdo := if forget then none else q.idOdo }
  let s := s.setPort p (q.latch s.tick)
  if was = st then s else
  let s := (s.irq1 2).mark p 3 q.lastMark 0
  -- the errors since the identifying pulse count (R204)
  let s := if st = .valid then (if 0 < q.qerrs ∧ q.cfgA.qerrLim ≤ q.qerrs then (s.dutyFrom p).posLost p else s.dutyFrom p) else s
  if was = .valid then (s.forceBeads p 2).runsLosePort p else s

/-- The port's part of a tick boundary: the pending step, the pending state, the latch (R193, R200, R207). -/
def State.posTick (s : State) (p : Nat) : State :=
  let q := s.port p
  if q.st = .off ∧ q.next.isNone then s else
  let s := match q.stepPend with
    | none => s
    | some (e, _) =>
      let (u, rev) := wrapU q.len (q.u - e) q.rev
      let s := s.setPort p { q with u, rev, stepPend := none, ahead := q.ahead + e }
      let s := s.modBeadPort p fun b => { b with stepAt := s.tick :: b.stepAt.filter fun t => decide (s.tick < t + 4400) }
      let s := s.flagBeads p 0x0100
      let s := if s.bead.tareState = 2 ∧ s.bead.tarePort = p then
          ({ s with bead := { s.bead with tareState := 4, tareCause := 4, tareAcc := [] } }).irq1 3
        else s
      s.calDisturb p 13
  let s := match (s.port p).next with
    | some st => s.enterPos p st false
    | none => s
  let s := if (s.port p).revOk then s else s.flagBeads p 0x0080
  s.modPort p fun q => q.latch s.tick

/-- EN, ZPOL and FILT take effect at the frame boundary (R195). -/
def State.posCfgEffect (s : State) (p : Nat) : State :=
  let q := s.port p
  if !q.cfgPend then s else
  let keep := fld q.cfgAct 1 1
  let s := s.setPort p { q with cfgAct := setFld q.cfg 1 1 keep, cfgPend := false }
  if fld q.cfg 0 1 = 0 then s.enterPos p .off true
  else if q.st = .off then s.enterPos p .seeking false else s

/-- Speed of the frame that has ended (R190). OVERSPEED follows each frame's speed and so clears with the first frame that lies
within the span: the spec does not say when it clears (DESIGN CHOICE, log 234). -/
def PosPort.frameSpeed (q : PosPort) : PosPort :=
  let v := roundHalf (q.frameOdo * 1000)
  { q with speed := max (-10000) (min 10000 v), overspeed := decide (10000 < v.natAbs), frameOdo := 0 }

/-- Words of a port block whose activation loses position (R194). -/
def posLosing (w : Nat) : Bool := w < 4 || (64 ≤ w && w < 192)

/-- Words of a port block that are staged and activated (R462). -/
def pbStagedWord (w : Nat) : Bool := w ≤ 16 || (64 ≤ w && w ≤ 191)

def pbStagedWords : List Nat := List.range 17 ++ (List.range 128).map (· + 64)

/-- Outputs with apertures before the present boundary keep the belt-scale settings in force until now (R224, R225). -/
def State.keepSettings (s : State) (p : Nat) : State :=
  let q := s.port p
  s.modBeadPort p fun b => { b with
    oldSets := BeadSet.mk s.tick q.cfgA.closeMargin q.cfgA.emptyQ q.cfgA.scaleLen q.cfgA.tareEn q.span q.zero ::
      b.oldSets.filter (fun o => decide (s.tick < o.upto + 4400)) }

/-- Messages of a source that counted with other settings of the port are no longer considered (R212). -/
def PosPort.forgetSource (old new : PosPort) : PosPort :=
  let same := old.len == new.len && old.cfgA.revSrc == new.cfgA.revSrc && old.cfgA.revStation == new.cfgA.revStation
    && old.cfgA.beltId == new.cfgA.beltId && old.cfgA.tableCrc == new.cfgA.tableCrc
  if same then new else { new with srcMarks := [] }

/-- The staged copies of a port, as they stand, become active at the frame boundary (R195, R198, R210, R212, R224, R423). -/
def State.activatePort (s : State) (p : Nat) : State :=
  let q := s.port p
  let s := s.keepSettings p
  let n : PosPort := { q with
    active := q.staged, len := q.lenStaged, cfgAct := setFld q.cfgAct 1 1 (fld q.cfg 1 1), actPend := none
    s := if q.strWritten then 1 + (q.cfgS.stretch : Rat) / 1000000 else q.s, strWritten := false }
  let loses := n.len != q.len || fld q.cfg 1 1 != fld q.cfgAct 1 1 ||
    pbStagedWords.any (fun w => posLosing w && n.pbA w != q.pbA w)
  let s := s.setPort p (q.forgetSource n)
  let s := if loses ∧ q.st ≠ .off then s.enterPos p .seeking true else s
  let s := if n.len != q.len || n.pbA 3 != q.pbA 3 then s.modBeadPort p fun b => { b with closed := [] } else s
  let s := if n.pbA 12 != q.pbA 12 then s.forceBeads p 3 else s
  s.calDisturb p 13

/-- Accept or refuse the activation of POS_CFG.APPLY (R195, R196, R229). -/
def State.posApply (s : State) (m : Master) (p : Nat) : State :=
  let q := s.port p
  let c := s.portCause p q.cfgS s.cand
  if c ≠ 0 then s.setPort p { q with cause := c } else
  let s := s.nextStamp
  s.setPort p { q with cause := 0, actPend := some (s.ctl.stamp, m) }

/-- POS_REV written (R211). -/
def State.posRevWrite (s : State) (p : Nat) (v : Nat) : State :=
  let q := s.port p
  if q.cfgA.revSrc ≠ 0 ∨ q.st = .off then s else s.setPort p { q with revPend := some v }

/-- The written count at the frame boundary `k`, whose latch shows it (R193, R211). -/
def PosPort.revEffect (q : PosPort) (k : Nat) : PosPort :=
  match q.revPend with
  | some v => ({ q with rev := v, revPend := none, revOk := true } : PosPort).latch k
  | none => q

/-- A MARK message of the source station reaches a following port (R212): belt, CRC, marker, revolution. -/
def PosPort.sourceMark (q : PosPort) (belt crc marker rev : Nat) : PosPort :=
  if q.cfgA.revSrc ≠ 1 ∨ q.cfgA.beltId ≠ belt then q
  else if q.cfgA.tableCrc ≠ crc then { q with tableDiff := true }
  else { q with srcMarks := Store.set 65536 q.srcMarks marker rev }

/-! ## Coordinates of outputs -/

/-- The latch of a tick (R193). -/
def PosPort.latchAt (q : PosPort) (k : Nat) : Option Latch := q.latches.find? fun l => l.tick == k

/-- Unwrapped reference coordinate revolution × B + u of a latch. -/
def Latch.x (l : Latch) (len : Nat) : Rat := (l.rev : Rat) * (len : Rat) + l.u

/-- The notch delay of a facet in ticks (R133). -/
def State.notchTicks (s : State) (n : Nat) (b : Blk) : Rat :=
  if scheduled n b then 0 else
  ((if b.notch % 2 = 1 then 6357 else 0) + (if b.notch / 2 % 2 = 1 then 4424 else 0)
    + (if 4 ≤ b.notch then (if s.chain.trac then 28346 else 28232) else 0) : Nat) / 2500

/-- Unwrapped coordinate and odometer at an instant, interpolated between the latches that enclose it (R231); none
outside VALID at the aperture (R215). -/
def PosPort.placeAt (q : PosPort) (k : Nat) (delay : Rat) : Option (Rat × Rat) :=
  match q.latchAt k with
  | none => none
  | some l =>
    if l.st ≠ .valid then none else
    let d := delay.floor.toNat
    let f := delay - d
    match q.latchAt (k - d), q.latchAt (k - d - 1) with
    | some a, some b =>
      let xa := a.x q.len
      let xb := b.x q.len
      -- the count runs modulo 65,536
      let full : Rat := 65536 * (q.len : Rat)
      let xb := if full / 2 < xa - xb then xb + full else if full / 2 < xb - xa then xb - full else xb
      if f = 0 then some (xa, a.odo) else some (xa - f * (xa - xb), a.odo - f * (a.odo - b.odo))
    | some a, none => some (a.x q.len, a.odo)
    | _, _ => some (l.x q.len, l.odo)

/-- The instant of an output, in ticks (R231, R232). -/
def State.instantOf (s : State) (n k : Nat) (lost : Bool) : Rat :=
  (k : Rat) - (if lost then 0 else s.notchTicks n (s.blkAt n k))

/-- Where an output of a facet lies on its belt: unwrapped coordinate and odometer (R215, R231). -/
def State.placeOutput (s : State) (n k : Nat) (lost : Bool := false) : Option (Rat × Rat) :=
  let b := s.blkAt n k
  if !b.beltEn then none else
  let q := s.port b.beltPort
  let st := match q.latchAt k with | some l => l.s | none => q.s
  (q.placeAt k (if lost then 0 else s.notchTicks n b)).map fun (x, o) => (x - (b.beltOfs : Rat) / st, o)

/-! ## Survey and Tally -/

/-- Minimum speed of R218, mm/s. -/
def State.minSpeed (s : State) : Int := (fld s.ctl.tallyCtl 0 10 : Int) * 10
def State.tallyPorts (s : State) : List Nat := (List.range 4).filter fun p => fld s.ctl.tallyCtl (10 + p) 1 == 1

/-- A port holds Tally: it is in VALID, and was not below the minimum speed at every frame boundary of the last 5,000 ms (R218). -/
def State.tallyHolds (s : State) (p : Nat) : Bool :=
  let q := s.port p
  q.st == .valid && !(match q.slowFrom with | some t => decide (t + 20000 ≤ s.tick) | none => false)

/-- `TALLY_STAT.HOLD`, which reads 0 in Survey. -/
def State.holdMask (s : State) : Nat :=
  if s.ctl.tally then s.tallyPorts.foldl (fun a p => if s.tallyHolds p then a + 2 ^ p else a) 0 else 0

/-- TALLY_JUDGEMENT: the histories of R218 at a frame boundary. -/
def State.tallyJudge (s : State) : State :=
  let s := (List.range 4).foldl (fun s p => s.modPort p fun q =>
    let fast := q.st = .valid ∧ s.minSpeed ≤ q.speed
    { q with
      fastFrom := if fast then some (q.fastFrom.getD s.tick) else none
      slowFrom := if s.minSpeed ≤ q.speed then none else some (q.slowFrom.getD s.tick) }) s
  let entry := s.tallyPorts.foldl (fun a p => if (s.port p).fastFrom.isSome then a + 2 ^ p else a) 0
  { s with ctl := { s.ctl with tallyEntry := entry, tallyHold := s.holdMask } }

/-- PORT_ACTIVATION at its frame boundary, of the staged copies as they stand there (R195, R423). -/
def State.portActivation (s : State) (p : Nat) : State :=
  match (s.port p).actPend with
  | some (st, m) => if s.turn st then ((s.activatePort p).committed m (.portBlock p)).tallyJudge else s
  | none => s

/-- The mode that the policy requires at this frame boundary, with the cause of a change (R216 to R219). -/
def State.modeWanted (s : State) : Bool × Nat :=
  if !s.ctl.modeRun then (false, 0)
  else if s.ctl.modeSel = 1 then (false, 4)
  else if s.ctl.modeSel = 2 then (true, 4)
  else if !s.ctl.tally then
    (s.tallyPorts.any fun p => match (s.port p).fastFrom with | some t => decide (t + 8000 ≤ s.tick) | none => false, 1)
  else
    let hold := s.tallyPorts.any s.tallyHolds
    let out := s.tallyPorts != [] && s.tallyPorts.all fun p => (s.port p).st != .valid
    (hold, if out then 3 else 2)

/-- Take the mode with its cause (R216, R220). -/
def State.setMode (s : State) (tally : Bool) (cause : Nat) : State :=
  let s := { s with ctl := { s.ctl with tally, modeCause := cause } }
  let s := { s with ctl := { s.ctl with tallyHold := s.holdMask } }
  let s := (s.irq1 1).logE 9 noMaster 0 (BitVec.ofNat 32 cause)
  if tally then
    (List.range 4).foldl (fun s p => s.dutyFrom p) s
  else (List.range 4).foldl (fun s p => s.forceBeads p 1) s

/-- MODE_CHANGE at a frame boundary (R216 to R220); it follows every commit (R19 step 3). -/
def State.modeChange (s : State) : State :=
  if s.ctl.frameAt ≠ some s.tick ∨ s.commitStamps.any s.due then s else
  let (w, c) := s.modeWanted
  if w = s.ctl.tally then s else s.setMode w c

end Sys2Proof.Machine
end

