-- ==== Sys2Proof/Machine/Beads.lean ====
section
/-! DEFINITION. Beads and the tare profile (chapter 8): intake of bead-duty outputs, segments and bins, opening,
closing, steps, the record and the bead table, learning and loading of profiles. Lengths, masses and coordinates are
exact rationals (log 8). -/

namespace Sys2Proof.Machine

open Sys2Proof

/-! ## Duty and settings -/

/-- Facets on bead duty at a port (R226). -/
def State.dutyOf (s : State) (p : Nat) : List Nat :=
  [1, 2, 3].flatMap (fun r => s.cand.duty p r)

/-- Load facets of a port. -/
def State.loadOf (s : State) (p : Nat) : List Nat := s.cand.duty p 1

/-- The bead engine considers outputs of the port with aperture `k` (R216, R220, R221, R244, R248). -/
def State.engaged (s : State) (p k : Nat) : Bool :=
  let b := s.beadPort p
  s.ctl.tally && decide (b.from_ ≤ k) && (bits s.bead.portsAct p 1 == 1 || decide (k < b.until_))

/-- The belt-scale settings for an output with aperture `k` (R224, R225). -/
def State.settingsAt (s : State) (p k : Nat) : BeadSet :=
  let q := s.port p
  (((s.beadPort p).oldSets.filter (fun o => decide (k < o.upto))).getLast?).getD
    { upto := 0, closeMargin := q.cfgA.closeMargin, emptyQ := q.cfgA.emptyQ, scaleLen := q.cfgA.scaleLen, tareEn := q.cfgA.tareEn, span := q.span, zero := q.zero }

/-! ## The tare profile -/

/-- Entries of a profile (R236). -/
def tareCount (len : Nat) : Nat := (len + 249) / 250

/-- Start, end and centre of an entry. -/
def tareEnd (len e : Nat) : Nat := min (250 * (e + 1)) len
def tareCentre (len e : Nat) : Rat := ((250 * e + tareEnd len e : Nat) : Rat) / 2

/-- The profile applies (R240). -/
def PosPort.tareActive (q : PosPort) (en : Bool) : Bool := en && q.tareLen == some q.len

/-- Interpolate cyclically between the centres of entries (R236, R239). -/
def tareInterp (len : Nat) (f : Nat → Rat) (u : Rat) : Rat :=
  let n := tareCount len
  if n = 0 then 0 else
  let e0 := min ((u / 250).floor.toNat) (n - 1)
  let b : Rat := len
  let (l, cl) : Nat × Rat :=
    if tareCentre len e0 ≤ u then (e0, tareCentre len e0)
    else if e0 = 0 then (n - 1, tareCentre len (n - 1) - b) else (e0 - 1, tareCentre len (e0 - 1))
  let (r, cr) : Nat × Rat :=
    if tareCentre len e0 ≤ u then
      if e0 = n - 1 then (0, tareCentre len 0 + b) else (e0 + 1, tareCentre len (e0 + 1))
    else (e0, tareCentre len e0)
  if cr = cl then f l else f l + (f r - f l) * (u - cl) / (cr - cl)

/-- t(u), g/m (R236, R240). -/
def PosPort.tareAt (q : PosPort) (en : Bool) (u : Rat) : Rat :=
  if q.tareActive en then tareInterp q.len (fun e => ((Store.get 0 q.tare e : Int) : Rat)) u else 0

/-- Room of the tare region with `extra` entries besides (R239 code 2), entries of 2 bytes. -/
def State.tareRoom (s : State) (p : Nat) : Bool :=
  let en := (List.range 4).foldl (fun a j => let q := s.port j; if q.cfgA.tareEn then a + 2 * tareCount q.len else a) 0
  decide (en + 2 * tareCount (s.port p).len ≤ s.cap.part.getD 1 6 * 65536)

/-! ## Geometry (R222, R234, R235) -/

/-- Revolution of an unwrapped coordinate. -/
def revOf (len : Nat) (x : Rat) : Int := if len = 0 then 0 else (x / (len : Rat)).floor

/-- Coordinate within the loop. -/
def uOf (len : Nat) (x : Rat) : Rat := x - revOf len x * (len : Rat)

/-- Index of the stretch of length `l` that holds a coordinate of the loop. -/
def idxOf (len l : Nat) (x : Rat) : Nat := if l = 0 then 0 else ((uOf len x) / (l : Rat)).floor.toNat

/-- The next boundary above `x` of stretches of `l` mm that begin anew at each turn of the loop. -/
def cutAfter (len l : Nat) (x : Rat) : Rat :=
  let r0 : Rat := revOf len x * (len : Rat)
  min (r0 + ((idxOf len l x + 1) * l : Nat)) (r0 + (len : Rat))

/-- Pieces of [x, hi) at the cuts. -/
def piecesTo (cut : Rat → Rat) : Nat → Rat → Rat → List (Rat × Rat)
  | 0, _, _ => []
  | n + 1, x, hi => if hi ≤ x then [] else let y := min hi (cut x); (x, y) :: piecesTo cut n y hi

/-- Pieces of a stretch, each within one bin of `l` mm. -/
def pieces (len l : Nat) (lo hi : Rat) : List (Rat × Rat) :=
  if len = 0 ∨ l = 0 then [] else
  piecesTo (cutAfter len l) (((hi - lo) / (l : Rat)).ceil.toNat + 2 * (revOf len hi - revOf len lo).toNat + 3) lo hi

/-- Signed difference of unwrapped coordinates, whose revolution count runs modulo 65,536. -/
def diffX (len : Nat) (d : Rat) : Rat := circ (65536 * len) d

def Bead.start (b : Bead) : Rat := ((b.rev * b.loop + b.idx * (250 * b.len) : Nat) : Rat)

/-- The trailing edge: the bead ends at B at the latest (R222). -/
def Bead.stop (b : Bead) : Rat := ((b.rev * b.loop + min ((b.idx + 1) * (250 * b.len)) b.loop : Nat) : Rat)

/-- A bead of the index is shorter than L (R222). -/
def isShort (len l i : Nat) : Bool := decide (len < (i + 1) * l)

/-- The coordinate lies in the span from `a` up to, but not including, `e`. -/
def inSpan (len : Nat) (x a e : Rat) : Bool := decide (0 ≤ diffX len (x - a)) && decide (diffX len (x - e) < 0)

/-- The coordinate lies in the span of a closed bead (R246). -/
def State.inClosed (s : State) (p : Nat) (x : Rat) : Bool :=
  let len := (s.port p).len
  (s.beadPort p).closed.any fun (a, e) => inSpan len x a e

/-- Reverse travel to `x` has entered the span of a closed bead: `d` is the physical travel since the facet's output
before, and the point that it started from lies outside (R246). -/
def State.enteredClosed (s : State) (p : Nat) (x d : Rat) : Bool :=
  let q := s.port p
  let y := x - d / q.s
  decide (d < 0) && (s.beadPort p).closed.any fun (a, e) => inSpan q.len x a e && !inSpan q.len y a e

/-! ## Opening (R244) -/

/-- The bead takes outputs with aperture `k`. -/
def Bead.takes (b : Bead) (k : Nat) : Bool :=
  match b.forced with
  | none => true
  | some (_, t) => decide (k < t)

/-- Index in the list of the open bead that holds a coordinate. -/
def State.beadIdx (s : State) (p k : Nat) (x : Rat) : Option Nat :=
  s.bead.beads.findIdx? fun b => b.port == p && b.takes k && b.loop != 0
    && decide (0 ≤ diffX b.loop (x - b.start)) && decide (diffX b.loop (x - b.stop) < 0)

/-- The lowest empty open entry (R463). -/
def State.freeEntry (s : State) : Nat :=
  ((List.range 48).find? fun e => s.bead.beads.all (fun b => b.entry != e)).getD 48

/-- The coordinate of the most upstream sensor at the tick from which duty counts (R244). -/
def State.upstreamX (s : State) (p : Nat) : Option Rat :=
  let q := s.port p
  match q.latchAt (s.beadPort p).from_, (s.dutyOf p).map (fun n => (s.blkA n).beltOfs) with
  | some l, o :: os => if l.st = .valid then some (l.x q.len - ((os.foldl min o : Int) : Rat) / q.s) else none
  | _, _ => none

def State.fixStart (s : State) (p : Nat) : State :=
  if (s.beadPort p).startX.isSome then s else
  let x := s.upstreamX p
  s.modBeadPort p fun b => { b with startX := x }

/-- A new bead (R222, R240, R244, R250). -/
def State.newBead (s : State) (p rev idx : Nat) (flags : Word) : Bead :=
  let q := s.port p
  let l := 250 * q.cfgA.beadLen
  let b : Bead :=
    { port := p, rev, idx, entry := s.freeEntry, openTick := s.tick, beltId := q.cfgA.beltId, len := q.cfgA.beadLen,
      loop := q.len, hasLoad := s.loadOf p != [], tareGen := q.tareGen, emptyQ := q.cfgA.emptyQ
      lo := (s.dutyOf p).foldl min ((s.dutyOf p).headD 0), hi := (s.dutyOf p).foldl max ((s.dutyOf p).headD 511) }
  let late := match (s.beadPort p).startX with
    | some x => decide (diffX q.len (b.start - x) < 0)
    | none => false
  { b with flags := flags ||| (if late then 1 else 0) ||| (if isShort q.len l idx then 0x0200 else 0)
             ||| (if q.tareActive q.cfgA.tareEn then 0 else 0x0400) }

/-- The port opens beads at present: Tally, in VALID, set in `BEAD_CTL.PORTS` (R221, R244). -/
def State.opens (s : State) (p : Nat) : Bool :=
  s.ctl.tally && (s.port p).st == .valid && bits s.bead.portsAct p 1 == 1

/-- The first tick that an output with aperture `k` of one of the port's duty facets can stand for (R230, R276). -/
def State.firstLost (s : State) (p k : Nat) : Nat :=
  k + 1 - (s.dutyOf p).foldl (fun u n => max u (trecUnit n (s.blkA n))) 1

/-- Open the bead that holds a coordinate, or let it wait for a place (R221, R229, R230, R244, R246). -/
def State.openAt (s : State) (p k : Nat) (x : Rat) : State :=
  let q := s.port p
  if (s.beadIdx p k x).isSome ∨ s.inClosed p x = true ∨ q.len = 0 ∨ s.opens p = false then s else
  let s := s.fixStart p
  let rev := (revOf q.len x % 65536).toNat
  let idx := idxOf q.len (250 * q.cfgA.beadLen) x
  if 48 ≤ s.bead.beads.length then
    if (s.beadPort p).wait.any (fun w => w.rev == rev && w.idx == idx) then s
    else s.modBeadPort p fun b => { b with wait := b.wait ++ [{ rev, idx, tick := s.firstLost p k }] }
  else
    let b := s.newBead p rev idx 0
    { s with bead := { s.bead with beads := s.bead.beads ++ [b] } }.touchEntry b.entry

/-- Change the bead that holds a coordinate, opening it first; nothing enters the span of a closed bead, which an open bead of
another length may overlap (R246). -/
def State.updateBead (s : State) (p k : Nat) (x : Rat) (f : Bead → Bead) : State :=
  if s.inClosed p x then s else
  let s := s.openAt p k x
  match s.beadIdx p k x with
  | none => s
  | some i =>
    match s.bead.beads[i]? with
    | none => s
    | some b => { s with bead := { s.bead with beads := s.bead.beads.set i (f b) } }.touchEntry b.entry

/-- The coordinate lies in the bead of the port that waits for a place (R230). -/
def PosPort.waitsAt (q : PosPort) (x : Rat) (w : WaitBead) : Bool :=
  w.rev == (revOf q.len x % 65536).toNat && w.idx == idxOf q.len (250 * q.cfgA.beadLen) x

/-- Change the bead that waits for a place and holds the coordinate (R230). -/
def State.modWaiting (s : State) (p : Nat) (x : Rat) (f : WaitBead → WaitBead) : State :=
  let q := s.port p
  if s.inClosed p x then s else
  s.modBeadPort p fun b => { b with wait := b.wait.map fun w => if q.waitsAt x w then f w else w }

/-- Count an output in the bead that it opens late, the bead's first output included (R230). -/
def State.countWaiting (s : State) (p k : Nat) (x : Rat) (scale moist : Nat) : State :=
  (s.openAt p k x).modWaiting p x fun w => { w with
    nGap := w.nGap + scale, nMoistX := w.nMoistX + moist, tick := min w.tick (s.firstLost p k) }

/-! ## Segments (R234, R235, R247) -/

/-- Where the earlier end of a segment lies: across a step, as far back as the travel says; across a changed count of
revolutions, at the nearest turn (R234, R247). -/
def State.segStart (s : State) (p : Nat) (a b : Placed) : Rat :=
  let q := s.port p
  -- between the latch before the step and the step's own, the interpolated coordinate holds a part of it
  if (s.beadPort p).stepAt.any (fun t => decide (a.at_ < t ∧ (t : Rat) - 1 < b.at_)) then b.x - (b.odo - a.odo) / q.s
  else b.x - circ q.len (b.x - a.x)

/-- Add to the bin of the open bead that holds the piece beginning at `x`; `f` is told where in the bin that lies, in mm. -/
def State.addBin (s : State) (p k : Nat) (x : Rat) (f : Rat → Bin → Bin) : State :=
  s.updateBead p k x fun b =>
    let o := diffX b.loop (x - b.start)
    let i := (o / 50).floor.toNat
    { b with bins := Store.mod {} b.bins i (f (o - 50 * (i : Rat))) }

/-- The parts of a bin with one more part, apart from each other (R243). -/
def coverAdd (l : List (Rat × Rat)) (a b : Rat) : List (Rat × Rat) :=
  let (hit, rest) := l.partition fun s => decide (s.1 ≤ b ∧ a ≤ s.2)
  (hit.foldl (fun m s => min m s.1) a, hit.foldl (fun m s => max m s.2) b) :: rest

/-- Their length. -/
def coverLen (l : List (Rat × Rat)) : Rat := l.foldl (fun a s => a + (s.2 - s.1)) 0

/-- A piece of observed length in a bead that waits for its place (R230, R234). -/
def State.seeWaiting (s : State) (p : Nat) (x d : Rat) : State :=
  let q := s.port p
  s.modWaiting p x fun w =>
    let i := ((uOf q.len x - ((w.idx * (250 * q.cfgA.beadLen) : Nat) : Rat)) / 50).floor.toNat
    { w with obs := Store.mod 0 w.obs i (· + d) }

/-- The pieces of the segment from `a` to `b`, each with its fractions and its travel in m. -/
def State.segPieces (s : State) (p l : Nat) (a b : Placed) : List (Rat × Rat × Rat × Rat) :=
  let xa := s.segStart p a b
  let span := b.x - xa
  if span = 0 then [] else
  (pieces (s.port p).len l (min xa b.x) (max xa b.x)).map fun (x0, x1) =>
    let f0 := (x0 - xa) / span
    let f1 := (x1 - xa) / span
    let (f0, f1) := if f0 ≤ f1 then (f0, f1) else (f1, f0)
    (x0, f0, f1, (b.odo - a.odo) / 1000 * (f1 - f0))

/-- Integrate a segment of the scale into beads (R234). -/
def State.scaleSegment (s : State) (p : Nat) (a b : Placed) : State :=
  let both := a.cat = 3 ∧ b.cat = 3 ∧ a.late = false
  let qa := a.val - a.tare
  let qb := b.val - b.tare
  (s.segPieces p 50 a b).foldl (fun s (x, f0, f1, d) =>
    let m := (qa + (qb - qa) * (f0 + f1) / 2) * d
    let s := (s.openAt p b.aperture x).seeWaiting p x d
    s.addBin p b.aperture x fun _ n =>
      { n with obs := n.obs + d, cov := if both then n.cov + d else n.cov, mass := if both then n.mass + m else n.mass }) s

/-- The ticks at which bead centres pass the scale line within the segment (R249). -/
def State.midTicks (s : State) (p : Nat) (a b : Placed) : State :=
  let xa := s.segStart p a b
  let s' := s.bead.beads.map fun (w : Bead) =>
    if w.port = p ∧ w.mid.isNone ∧ w.takes b.aperture = true then
      let c := w.start + ((250 * w.len : Nat) : Rat) / 2
      let c := b.x + diffX w.loop (c - b.x)
      if xa < c ∧ c ≤ b.x then
        { w with mid := some (roundHalf (a.at_ + (c - xa) / (b.x - xa) * (b.at_ - a.at_))).toNat }
      else w
    else w
  let hit := (s.bead.beads.zip s').filterMap fun (v, w) => if v.mid = w.mid then none else some w.entry
  hit.foldl State.touchEntry { s with bead := { s.bead with beads := s' } }

/-- Integrate a stretch of one moisture (2) or temperature (3) facet (R235). -/
def State.stretch (s : State) (p role : Nat) (a b : Placed) : State :=
  (s.segPieces p 50 a b).foldl (fun s (x, f0, f1, d) =>
    let v := (a.val + (b.val - a.val) * (f0 + f1) / 2) * d
    let l := rabs (b.x - s.segStart p a b) * (f1 - f0)
    s.addBin p b.aperture x fun o n =>
      if role = 2 then { n with moist := n.moist + v, moistCov := n.moistCov + d, moistSpan := coverAdd n.moistSpan o (o + l) }
      else { n with temp := n.temp + v, tempCov := n.tempCov + d, tempSpan := coverAdd n.tempSpan o (o + l) }) s

/-! ## Tare learning (R237 to R239) -/

/-- A learning run ends in failure (R239). -/
def State.tareFail (s : State) (cause : Nat) : State :=
  ({ s with bead := { s.bead with tareState := 4, tareCause := cause, tareAcc := [], tareWrap := none } }).irq1 3

/-- Key of a revolution and entry in the learned sums. -/
def tareKey (r e : Nat) : Nat := r * 2 ^ 20 + e

/-- Integrate q_load of a segment, from `x0` on, into the learned revolutions. -/
def State.learnSegment (s : State) (p : Nat) (a b : Placed) (x0 : Option Rat) : State :=
  let len := (s.port p).len
  if ¬(a.cat = 3 ∧ b.cat = 3) then s else
  let base := revOf len (s.segStart p a b)
  (s.segPieces p 250 a b).foldl (fun s (x, f0, f1, d) =>
    if (match x0 with | some y => decide (x < y) | none => false) then s else
    let turn := (revOf len x - base).toNat
    let r := if x0.isSome then 0 else s.bead.tareDone + turn
    if s.bead.tareRevs ≤ r then s else
    let m := (a.val + (b.val - a.val) * (f0 + f1) / 2) * d
    let acc := Store.mod (0, 0) s.bead.tareAcc (tareKey r (idxOf len 250 x)) (fun (cw : Rat × Rat) => (cw.1 + d, cw.2 + m))
    { s with bead := { s.bead with tareAcc := acc } }) s

/-- The belt-scale calibration run on a port, once it may integrate (R368). -/
def State.calBelt (s : State) (p : Nat) : Option CalRun :=
  match s.cal.run with
  | some r => if (r.proc = 7 ∨ r.proc = 8) ∧ r.target = 0x240 + p ∧ r.phase = 6 then some r else none
  | none => none

def State.setRun (s : State) (r : CalRun) : State := { s with cal := { s.cal with run := some r } }

/-- Integrate q over a segment of contributing samples into the run's revolutions, in entries of 250 mm (R234, R368); `x0`
is where the first revolution begins. -/
def State.calSegment (s : State) (p : Nat) (a b : Placed) (r : CalRun) (x0 : Option Rat) : CalRun :=
  let len := (s.port p).len
  if ¬(a.cat = 3 ∧ b.cat = 3) then r else
  let base := revOf len (s.segStart p a b)
  let qa := a.val - a.tare
  let qb := b.val - b.tare
  (s.segPieces p 250 a b).foldl (fun (r : CalRun) (x, f0, f1, d) =>
    if (match x0 with | some y => decide (x < y) | none => false) then r else
    let turn := (revOf len x - base).toNat
    let k := if x0.isSome then 0 else r.revDone + b2n r.wrap + turn
    if r.revs ≤ k then r else
    let m := (qa + (qb - qa) * (f0 + f1) / 2) * d
    { r with acc := Store.mod (0, 0) r.acc (tareKey k (idxOf len 250 x)) fun (cw : Rat × Rat) => (cw.1 + d, cw.2 + m) }) r

/-- A contributing scale sample of the port joins the mean of a Z_CELL run's AIR step (R366). -/
def State.airSample (s : State) (p : Nat) (b : Placed) : State :=
  match s.cal.run with
  | some r =>
    if r.proc = 6 ∧ r.phase = 2 ∧ r.block = false ∧ (s.blkA r.target).beltPort = p ∧ r.measFrom ≤ b.aperture ∧ b.cat = 3 then
      s.setRun { r with qN := r.qN + 1, qSum := r.qSum + (b.val - b.tare) }
    else s
  | none => s

/-- A scale sample reaches a belt-scale run: it waits for the wrap, integrates, and sees a revolution end (R368). -/
def State.calSample (s : State) (p : Nat) (a b : Placed) : State :=
  match s.calBelt p with
  | none => s
  | some r =>
    let len := (s.port p).len
    let crossed := decide (revOf len (s.segStart p a b) < revOf len b.x)
    if r.wait then
      if crossed then
        s.setRun (s.calSegment p a b { r with wait := false, loaded := false, faulted := false }
          (some (revOf len b.x * (len : Rat))))
      else s
    else
      let r := s.calSegment p a b r none
      s.setRun { r with wrap := r.wrap || crossed }

/-- A duty output of the port tells against a belt-scale run: a valid moisture value, or a load facet in fault (R369). -/
def State.calWitness (s : State) (p : Nat) (loaded faulted : Bool) : State :=
  match s.calBelt p with
  | none => s
  | some r => if r.wait then s else s.setRun { r with loaded := r.loaded || loaded, faulted := r.faulted || faulted }

/-- What a scale sample means for the run: learning, and the crossing from the end of the loop to 0 (R237). -/
def State.learnSample (s : State) (p : Nat) (a b : Placed) : State :=
  let len := (s.port p).len
  let crossed := decide (revOf len (s.segStart p a b) < revOf len b.x)
  let s := if s.bead.tarePort = p ∧ s.bead.tareState = 2 then
      let s := s.learnSegment p a b none
      if crossed ∧ s.bead.tareDone < s.bead.tareRevs then
        { s with bead := { s.bead with tareDone := s.bead.tareDone + 1, tareWrap := some b.aperture } }
      else s
    else if s.bead.tarePort = p ∧ s.bead.tareState = 1 ∧ crossed then
      { s with bead := { s.bead with tareWrap := some b.aperture } }
    else s
  let s := s.calSample p a b
  if crossed ∧ (s.port p).tareLoad then s.modBeadPort p fun w => { w with wrapSeen := true } else s

/-- TARE_GO (R237, R239, R368). -/
def State.tareGo (s : State) (m : Master) (p revs tol : Nat) : State :=
  let scale := match s.cal.run with
    | some r => (r.proc == 7 || r.proc == 8) && r.target == 0x240 + p
    | none => false
  if s.bead.tareState = 1 ∨ s.bead.tareState = 2 ∨ scale = true then s.logIgnored m 0x4C 0
  else
    let ctl := w16 (p + 4 * revs + 32 * tol)
    let s := { s with bead := { s.bead with tareCtl := ctl, tarePort := p, tareRevs := revs + 1, tareTol := tol,
                                            tareDone := 0, tareCause := 0, tareAcc := [], tareWrap := none } }
    let q := s.port p
    if q.st ≠ .valid then s.tareFail 1
    else if !s.tareRoom p then s.tareFail 2
    else if s.loadOf p = [] then s.tareFail 3
    else { s with bead := { s.bead with tareState := 1 } }

/-- TARE_ABORT (R237). -/
def State.tareAbort (s : State) : State :=
  if s.bead.tareState = 1 ∨ s.bead.tareState = 2 then s.tareFail 8 else s

/-- TARE_LEARN_START: the coordinate of a scale sample has crossed to 0; what lies after 0 is learned (R237). -/
def State.tareLearnStart (s : State) : State :=
  if s.bead.tareState ≠ 1 ∨ s.bead.tareWrap.isNone then s else
  let p := s.bead.tarePort
  let s := { s with bead := { s.bead with tareState := 2, tareWrap := none } }
  match (s.beadPort p).prevScale, (s.beadPort p).lastScale with
  | some a, some b => s.learnSegment p a b (some (revOf (s.port p).len b.x * ((s.port p).len : Rat)))
  | _, _ => s

/-- The pooled values of the entries, and the code of R239 that forbids the profile. -/
structure Learned where
  code : Nat
  entries : List Int
  mean : Int

/-- Covered length and mass of an entry over all revolutions. -/
def BeadSt.pooled (t : BeadSt) (e : Nat) : Rat × Rat :=
  (List.range t.tareRevs).foldl (fun (c, m) r =>
    let x := Store.get (0, 0) t.tareAcc (tareKey r e); (c + x.1, m + x.2)) (0, 0)

/-- The nearest covered entry below or above, cyclically, with its distance in entries. -/
def nearestCovered (cov : List Bool) (e : Nat) (up : Bool) : Option Nat :=
  let n := cov.length
  ((List.range n).map fun i => if up then (e + i + 1) % n else (e + n * 2 - i - 1) % n).find? fun j => cov.getD j false

/-- Form the profile (R238, R239). -/
def learnProfile (t : BeadSt) (len : Nat) : Learned :=
  let n := tareCount len
  let pooled := (List.range n).map t.pooled
  let cov := pooled.map fun x => decide (0 < x.1)
  let holes := (cov.filter (!·)).length
  let tol : Rat := ([100, 200, 500, 1000] : List Rat).getD t.tareTol 1000 / 1000
  let spread := decide (2 ≤ t.tareRevs) && (List.range n).any fun e =>
    let vs := ((List.range t.tareRevs).map fun r => Store.get (0, 0) t.tareAcc (tareKey r e)).filterMap
      fun x => if 0 < x.1 then some (x.2 / x.1) else none
    match vs with
    | [] => false
    | v :: vs => decide (tol < vs.foldl max v - vs.foldl min v)
  if spread then ⟨6, [], 0⟩
  else if n < 100 * holes then ⟨7, [], 0⟩
  else
    let b : Rat := len
    let raw (e : Nat) : Rat := let x := pooled.getD e (0, 0); if 0 < x.1 then x.2 / x.1 * 1000 else 0
    let full (e : Nat) : Rat :=
      if cov.getD e false then raw e else
      match nearestCovered cov e false, nearestCovered cov e true with
      | some l, some r =>
        let c := tareCentre len e
        let cl := let y := tareCentre len l; if e < l then y - b else y
        let cr := let y := tareCentre len r; if r < e then y + b else y
        if cr = cl then raw l else raw l + (raw r - raw l) * (c - cl) / (cr - cl)
      | _, _ => 0
    let es := (List.range n).map full
    let mean := if len = 0 then 0 else
      ((List.range n).foldl (fun a e => a + es.getD e 0 * ((tareEnd len e - 250 * e : Nat) : Rat)) 0) / b
    let out := es.map fun v => roundHalf (v - mean)
    if out.any (fun v => decide (v < -32768 ∨ 32767 < v)) then ⟨9, [], 0⟩
    else ⟨0, out, roundHalf mean⟩

/-- Put a profile in force from the crossing on: the scale sample that crossed already lies in the new revolution, and
its share of the last segment is corrected (R238). -/
def State.useProfile (s : State) (p : Nat) (entries : List Int) (mean : Int) : State :=
  let q := s.port p
  let s := s.setPort p { q with
    tare := Store.setRun (fun _ => 0) [] 0 entries, tareLen := some q.len, tareGen := (q.tareGen + 1) % 65536
    tareMean := mean, tareLoad := false }
  let s := s.modBeadPort p fun b => { b with wrapSeen := false }
  let q := s.port p
  match (s.beadPort p).prevScale, (s.beadPort p).lastScale with
  | some a, some b =>
    let set := s.settingsAt p b.aperture
    let t := q.tareAt set.tareEn (uOf q.len b.x) / 1000
    let b' := { b with tare := t }
    let s := s.modBeadPort p fun w => { w with lastScale := some b' }
    if s.engaged p b.aperture ∧ s.engaged p a.aperture ∧ a.cat = 3 ∧ b.cat = 3 then
      let s := (s.segPieces p 50 a b).foldl (fun s (x, f0, f1, d) =>
        s.addBin p b.aperture x fun _ n => { n with mass := n.mass + (b.tare - t) * (f0 + f1) / 2 * d }) s
      if q.tareActive set.tareEn then
        s.updateBead p b.aperture b.x fun w => { w with flags := w.flags &&& ~~~0x0400, tareGen := q.tareGen }
      else s
    else s
  | _, _ => s

/-- TARE_RUN_END: the last learned revolution has ended (R238, R239). -/
def State.tareRunEnd (s : State) : State :=
  if s.bead.tareState ≠ 2 ∨ s.bead.tareDone < s.bead.tareRevs then s else
  let p := s.bead.tarePort
  let l := learnProfile s.bead (s.port p).len
  if l.code ≠ 0 then s.tareFail l.code else
  let s := s.useProfile p l.entries l.mean
  ({ s with bead := { s.bead with tareState := 3, tareCause := 0, tareAcc := [], tareWrap := none } }).irq1 3

/-- PB_TARE_LOAD (R462). -/
def State.tareLoadReq (s : State) (m : Master) (p : Nat) : State :=
  if s.bead.tareState = 1 ∨ s.bead.tareState = 2 then s.logIgnored m 0x1004 (p * 0x40000 + 0x3F000 + 324)
  else (s.modPort p fun q => { q with tareLoad := true }).modBeadPort p fun b => { b with wrapSeen := false }

/-- TARE_LOAD_ACTIVATION (R462): a scale sample's coordinate has crossed to 0. -/
def State.tareLoadActivate (s : State) (p : Nat) : State :=
  let q := s.port p
  if !q.tareLoad ∨ !(s.beadPort p).wrapSeen then s else
  (s.useProfile p ((List.range (tareCount q.len)).map fun e => (Store.get 0 q.tareStg e).toInt) q.tareStgMean.toInt).irq1 3

/-! ## Scale samples (R228, R233) -/

/-- Category of an output (R232). -/
def category (role : Nat) (eng : DWord) (flags : Word) (lost : Bool) : Nat :=
  if lost then 0
  else if fld flags 7 1 = 1 then 1
  else if f32NaN eng ∨ (role ≠ 2 ∧ (fld flags 6 1 = 1 ∨ fld flags 5 1 = 1)) then 2
  else 3

/-- What a contributing output's flags set on its bead (R250). -/
def markFlags (flags : Word) (cat : Nat) : Word :=
  if cat ≠ 3 then 0 else
  (if fld flags 4 1 = 1 then 0x0020 else 0) ||| (if fld flags 3 1 = 1 then 0x0040 else 0)

/-- One scale sample: `items` are the outputs of the load facets at aperture `k` (facet, value, flags, category). -/
def State.scaleSample (s : State) (p k : Nat) (items : List (Nat × DWord × Word × Nat)) : State :=
  let q := s.port p
  let cat := if items.length < (s.loadOf p).length then 0 else items.foldl (fun c i => min c i.2.2.2) 3
  let flags := items.foldl (fun f i => f ||| i.2.2.1) (0 : Word)
  let live := items.filter fun i => i.2.2.2 != 0
  let place := match live, items with
    | i :: _, _ => s.placeOutput i.1 k
    | [], i :: _ => s.placeOutput i.1 k true
    | [], [] => none
  match place with
  | none => s.modBeadPort p fun b => { b with lastScale := none, prevScale := none }
  | some (x, odo) =>
    let set := s.settingsAt p k
    let w := items.foldl (fun a i => a + (if i.2.2.2 = 3 then f32R i.2.1 else 0)) 0
    let ql := f32R set.span * w / ((set.scaleLen : Rat) / 1000) - f32R set.zero
    let t := q.tareAt set.tareEn (uOf q.len x) / 1000
    let at_ := match live, items with
      | i :: _, _ => s.instantOf i.1 k false
      | [], _ => (k : Rat)
    let b : Placed := { aperture := k, at_, x, odo, val := ql, tare := t, cat }
    let prev := (s.beadPort p).lastScale
    let s := s.modBeadPort p fun w => { w with prevScale := prev, lastScale := some b }
    let s := s.airSample p b
    let s := match prev with
      | some a => s.learnSample p a b
      | none => s
    if !s.engaged p k then s else
    let act := q.tareActive set.tareEn
    let s := s.countWaiting p k x 1 0
    let s := s.updateBead p k x fun w => { w with
      emptyQ := set.emptyQ
      nGap := if cat = 0 then satInc w.nGap else w.nGap
      nSettle := if cat = 1 then satInc w.nSettle else w.nSettle
      nReject := if cat = 2 then satInc w.nReject else w.nReject
      nContrib := if cat = 3 then satInc w.nContrib else w.nContrib
      flags := ((if act then w.flags &&& ~~~0x0400 else w.flags ||| 0x0400)) ||| markFlags flags cat
      tareGen := if act then q.tareGen else w.tareGen }
    match prev with
    | some a => if s.engaged p a.aperture then (s.scaleSegment p a b).midTicks p a b else s
    | none => s

/-- Outputs of the load facets gather by aperture; a complete aperture forms its scale sample, after any older one
that stayed incomplete. -/
def State.gatherLoad (s : State) (p n k : Nat) (eng : DWord) (flags : Word) (cat : Nat) : State :=
  let old := Store.get [] (s.beadPort p).gather k
  let items := if old.any (fun i => i.1 == n) then old else old ++ [(n, eng, flags, cat)]
  if items.length < (s.loadOf p).length then
    s.modBeadPort p fun b => { b with gather := Store.set [] b.gather k items }
  else
    let before := (s.beadPort p).gather.filter fun e => decide (e.1 < k)
    let s := s.modBeadPort p fun b => { b with gather := Store.keep (fun j => decide (k < j)) b.gather }
    let s := before.foldl (fun s e => s.scaleSample p e.1 e.2) s
    s.scaleSample p k items

/-! ## Intake (R231 to R235, R253) -/

/-- A duty output's coordinate is delivered: the closing point, and travel back into closed spans (R224, R245, R246). -/
def State.deliverX (s : State) (p n k : Nat) (x odo : Rat) : State :=
  let len := (s.port p).len
  let b := s.beadPort p
  let back := match Store.get none b.lastX n with
    | some (_, o) => s.enteredClosed p x (odo - o)
    | none => false
  let y := x - ((s.settingsAt p k).closeMargin : Rat)
  let reach := match Store.get none b.reach n with
    | some z => if 0 < diffX len (y - z) then y else z
    | none => y
  let s := s.setBeadPort p { b with lastX := Store.set none b.lastX n (some (x, odo)), reach := Store.set none b.reach n (some reach) }
  if back then ({ s with bead := { s.bead with backtrack := true } }).logE 0x12 noMaster p 1 else s

/-- BEAD_INTAKE (R231 to R235, R244, R253): an output of facet `n` with aperture `k` and `u` ticks of its own. An output
that was lost before costs nothing. -/
def State.beadIntake (s : State) (n k u : Nat) (eng : DWord) (flags : Word) (lost tsub : Bool) : State :=
  let blk := s.blkA n
  let p := blk.beltPort
  let role := blk.role
  if role = 0 ∨ 3 < role ∨ !blk.beltEn ∨ k < (s.facet n).beadFrom then s else
  let on := s.engaged p k
  let (s, lost) := if !on || lost then (s, lost) else
    match s.spend actBead 1 with
    | some t => (t, lost)
    | none =>
      ((s.stall actBead).lose n n (k + 1 - u) u 5 4, true)
  let cat := category role eng flags lost
  let s := if role = 2 ∧ s.bead.tareState = 2 ∧ s.bead.tarePort = p ∧ !lost ∧ !f32NaN eng then s.tareFail 5 else s
  let s := s.calWitness p (role == 2 && !lost && !f32NaN eng) (role == 1 && bits flags.toNat 5 1 == 1)
  match s.placeOutput n k lost with
  | none =>
    let s := s.modBeadPort p fun b => { b with lastOut := Store.set none b.lastOut n none }
    if role = 1 then s.modBeadPort p fun b => { b with lastScale := none, prevScale := none } else s
  | some (x, odo) =>
    let s := if on then (s.fixStart p).deliverX p n k x odo else s
    if role = 1 then s.gatherLoad p n k eng flags cat else
    if !on then s else
    let b : Placed := { aperture := k, at_ := s.instantOf n k lost, x, odo, val := f32R eng, cat }
    let prev := Store.get none (s.beadPort p).lastOut n
    let s := s.modBeadPort p fun w => { w with lastOut := Store.set none w.lastOut n (if cat = 3 then some b else none) }
    let s := if role = 2 then s.countWaiting p k x 0 1 else s
    let s := s.updateBead p k x fun w => { w with
      nMoist := if role = 2 ∧ cat = 3 then satInc w.nMoist else w.nMoist
      nMoistX := if role = 2 ∧ cat ≠ 3 then satInc w.nMoistX else w.nMoistX
      flags := w.flags ||| markFlags flags cat ||| (if role = 2 ∧ cat = 3 ∧ tsub then 0x8000 else 0) }
    match prev with
    | some a => if cat = 3 ∧ s.engaged p a.aperture = true then s.stretch p role a b else s
    | none => s

/-! ## The record (R241 to R251) -/

/-- What a bead's bins give. -/
structure BeadVals where
  wet : Option Rat
  meanQ : Option Rat
  moist : Option Rat
  dry : Option Rat
  temp : Option Rat
  loadLen : Rat
  obsLen : Rat
  flags : Word

/-- A weighted mean over bins; none with no weight. -/
def wMean (ws : List (Rat × Rat)) : Option Rat :=
  let d := ws.foldl (fun a w => a + w.1) 0
  if d = 0 then none else some (ws.foldl (fun a w => a + w.1 * w.2) 0 / d)

/-- Mass, moisture and temperature of a bead (R241 to R243). -/
def Bead.vals (b : Bead) (emptyQ : Nat) : BeadVals :=
  let bs := b.bins.map Prod.snd
  let sum (f : Bin → Rat) : Rat := bs.foldl (fun a x => a + f x) 0
  if b.hasLoad then
    let cov := sum (·.cov)
    let obs := sum (·.obs)
    let wet := sum (·.mass)
    let meanQ := if cov = 0 then none else some (wet / cov)
    let heavy := bs.filter fun x => decide (0 < x.mass)
    let m := wMean ((heavy.filter fun x => decide (0 < x.moistCov)).map fun x => (x.mass, x.moist / x.moistCov))
    let t := wMean ((heavy.filter fun x => decide (0 < x.tempCov)).map fun x => (x.mass, x.temp / x.tempCov))
    let moist := if cov = 0 then none else m
    let wet := if cov = 0 then none else some wet
    { wet, meanQ, moist, temp := t, loadLen := cov * 1000, obsLen := obs * 1000
      dry := match wet, moist with | some w, some m => some (w * (1 - m / 100)) | _, _ => none
      flags := (if cov < obs then 0x0002 else 0)
        ||| (if m.isNone then 0x0004 else 0)
        ||| (if heavy.any (fun x => decide (x.moistCov ≤ 0)) then 0x0008 else 0)
        ||| (if t.isNone then 0x2000 else 0)
        ||| (match meanQ with | some q => if q < (emptyQ : Rat) / 1000 then 0x4000 else 0 | none => 0) }
  else
    let m := wMean ((bs.filter fun x => decide (0 < x.moistCov)).map fun x => (coverLen x.moistSpan, x.moist / x.moistCov))
    let t := wMean ((bs.filter fun x => decide (0 < x.tempCov)).map fun x => (coverLen x.tempSpan, x.temp / x.tempCov))
    { wet := none, meanQ := none, moist := m, dry := none, temp := t, loadLen := 0, obsLen := 0
      flags := 0x0010 ||| (if m.isNone then 0x0004 else 0) ||| (if t.isNone then 0x2000 else 0) }

/-- A length in whole mm, rounded down and clamped (R249). -/
def clampMm (x : Rat) : Nat := min 65535 x.floor.toNat

/-- The 64 bytes of R249. -/
def Bead.bytes (b : Bead) (emptyQ close seq closeTick : Nat) : List Byte :=
  let v := b.vals emptyQ
  let flags := b.flags ||| v.flags ||| (if 1 ≤ close ∧ close ≤ 4 then 1 else 0)
  let n (x : Nat) : Nat := if b.hasLoad then min x 65535 else 0
  leBytes 2 b.beltId ++ leBytes 2 b.rev ++ leBytes 4 b.idx ++ leBytes 1 (b.port + 4 * b.len) ++ leBytes 1 close
    ++ leBytes 2 seq ++ leBytes 2 flags.toNat ++ leBytes 6 closeTick ++ leBytes 6 (b.mid.getD (2 ^ 48 - 1))
    ++ leBytes 4 (deliverO v.wet).toNat ++ leBytes 4 (deliverO v.meanQ).toNat ++ leBytes 4 (deliverO v.moist).toNat
    ++ leBytes 4 (deliverO v.dry).toNat ++ leBytes 4 (deliverO v.temp).toNat
    ++ leBytes 2 (clampMm v.loadLen) ++ leBytes 2 (clampMm v.obsLen)
    ++ leBytes 2 (n b.nContrib) ++ leBytes 2 (n b.nSettle) ++ leBytes 2 (n b.nGap) ++ leBytes 2 (n b.nReject)
    ++ leBytes 2 (min b.nMoist 65535) ++ leBytes 2 (min b.nMoistX 65535)
    ++ leBytes 2 (if fld b.flags 10 1 = 1 then 0 else b.tareGen)

/-- Form the record of a bead that closed at tick `t`: table, interrupt, message (R249, R252, R463). -/
def State.formRecord (s : State) (b : Bead) (close t : Nat) : State :=
  let seq := (s.bead.seq + 1) % 65536
  let bytes := b.bytes b.emptyQ close seq (t % 2 ^ 48)
  let slot := seq % 16
  let n := (Store.get (0, []) s.bead.closed slot).1
  let s := { s with bead := { s.bead with seq, closed := Store.set (0, []) s.bead.closed slot ((n + 1) % 65536, bytes) } }
  let s := s.irq1 0
  let flags := w16 (leNat ((bytes.drop 12).take 2))
  let s := { s with trg := { s.trg with beads := s.trg.beads ++ [(b.port, flags, t)] } }
  if fld s.bead.ctl 4 1 = 1 then
    s.emit .bead 2 (b.port * 2048 + seq % 2048) bytes b.lo b.hi b.openTick (t - b.openTick + 1)
  else s

/-- A bead has closed at the present boundary. Its record costs 8 transfers, and it waits for them behind those that
already wait (R246, R253, R434). -/
def State.beadRecord (s : State) (b : Bead) (close : Nat) : State :=
  let len := (s.port b.port).len
  let s := s.modBeadPort b.port fun w => { w with
    closed := (b.start, b.stop) :: w.closed.filter fun c =>
      decide (rabs (diffX len (b.start - c.1)) < 16384 * (len : Rat)) }
  match if s.bead.closing = [] then s.spend actBead 8 else none with
  | some t => t.formRecord b close s.tick
  | none => let t := s.stall actBead; { t with bead := { t.bead with closing := t.bead.closing ++ [(b, close, s.tick)] } }

/-- Form the records that wait, oldest first, as far as the budget carries (R253, R434). -/
def State.formClosing (s : State) : List (Bead × Nat × Nat) → State
  | [] => { s with bead := { s.bead with closing := [] } }
  | (b, c, t) :: rest =>
    match s.spend actBead 8 with
    | some u => (u.formRecord b c t).formClosing rest
    | none => let u := s.stall actBead; { u with bead := { u.bead with closing := (b, c, t) :: rest } }

/-- Close an open bead, by its place in the list. -/
def State.closeBead (s : State) (i close : Nat) : State :=
  match s.bead.beads[i]? with
  | none => s
  | some b =>
    let s := { s with bead := { s.bead with beads := s.bead.beads.eraseIdx i } }
    (s.touchEntry b.entry).beadRecord b close

/-- Every bead-duty facet of the port has delivered an output at or beyond the closing point, with the margin in force at
its aperture (R224, R245). -/
def State.beadDone (s : State) (b : Bead) : Bool :=
  let ds := s.dutyOf b.port
  ds != [] && ds.all fun n =>
    match Store.get none (s.beadPort b.port).reach n with
    | some x => decide (0 ≤ diffX b.loop (x - b.stop))
    | none => false

/-- BEAD_CLOSE at a frame boundary (R245, R248, R252). -/
def State.beadClose (s : State) (p rev idx : Nat) : State :=
  if s.ctl.frameAt ≠ some s.tick then s else
  match s.bead.beads.findIdx? fun b => b.port == p && b.rev == rev && b.idx == idx &&
      (match b.forced with | some (_, t) => decide (t ≤ s.tick) | none => s.beadDone b) with
  | none => s
  | some i =>
    match (s.bead.beads[i]?).bind (·.forced) with
    | some (c, _) => s.closeBead i c
    | none => s.closeBead i 0

/-- BEAD_LATE_OPEN: a place is free for the port's first waiting bead (R230). -/
def State.beadLateOpen (s : State) (p : Nat) : State :=
  if 48 ≤ s.bead.beads.length then s else
  match (s.beadPort p).wait with
  | [] => s
  | w :: ws =>
    let q := s.port p
    -- what was taken in for this bead before it opened joins nothing after it
    let late (o : Option Placed) : Option Placed := o.map fun x => if q.waitsAt x.x w then { x with late := true } else x
    let apart (o : Option Placed) : Option Placed := o.filter fun x => !q.waitsAt x.x w
    let s := s.modBeadPort p fun b => { b with
      wait := ws, lastScale := late b.lastScale, lastOut := b.lastOut.filterMap fun (n, o) => (apart o).map fun x => (n, some x) }
    let b := { s.newBead p w.rev w.idx 1 with
      nGap := min 65535 w.nGap, nMoistX := min 65535 w.nMoistX
      bins := w.obs.map fun (i, d) => (i, { obs := d : Bin }) }
    let s := { s with bead := { s.bead with beads := s.bead.beads ++ [b], late := true } }.touchEntry b.entry
    let ds := s.dutyOf p
    s.lose (ds.foldl min (ds.headD 0)) (ds.foldl max (ds.headD 511)) w.tick (max 1 (s.tick - w.tick)) 7 4

/-! ## Steps (R247) -/

/-- Beads of [lo, hi) that lie wholly in it: revolution and index. -/
def wholeBeads (len l : Nat) : Nat → Rat → Rat → List (Nat × Nat)
  | 0, _, _ => []
  | n + 1, x, hi =>
    if len = 0 ∨ l = 0 ∨ hi ≤ x then [] else
    let r := revOf len x
    let i := idxOf len l x
    let a : Rat := r * (len : Rat) + ((i * l : Nat) : Rat)
    let e : Rat := r * (len : Rat) + ((min ((i + 1) * l) len : Nat) : Rat)
    let rest := wholeBeads len l n e hi
    if x ≤ a ∧ e ≤ hi then ((r % 65536).toNat, i) :: rest else rest

/-- A forward step of `d` from `u0` (unwrapped): beads that no sensor sees open and close at once (R247). -/
def State.skipBeads (s : State) (p : Nat) (u0 d : Rat) : State :=
  let q := s.port p
  let os := (s.dutyOf p).map fun n => (s.blkA n).beltOfs
  match os with
  | [] => s
  | o :: os =>
    if !s.engaged p s.tick then s else
    let omin : Rat := ((os.foldl min o : Int) : Rat) / q.s
    let omax : Rat := ((os.foldl max o : Int) : Rat) / q.s
    let lo := u0 - omin
    let hi := u0 + d - omax
    let l := 250 * q.cfgA.beadLen
    let bs := wholeBeads q.len l (((hi - lo) / (l : Rat)).ceil.toNat + (revOf q.len hi - revOf q.len lo).toNat + 3) lo hi
    let s := bs.foldl (fun s (r, i) =>
      let b := s.newBead p r i 0x0101
      let x := b.start
      if s.inClosed p x = true ∨ (s.beadIdx p s.tick x).isSome then s else s.beadRecord b 4) s
    s.modBeadPort p fun b => { b with startX := some (u0 + d - omin) }

/-- The part of a tick boundary that a position step makes on beads: what the port held before the step is needed
(R207, R247). -/
def State.stepBeads (s : State) (p : Nat) (before : PosPort) : State :=
  match before.stepPend with
  | some (e, _) =>
    if e < 0 then s.skipBeads p ((before.rev : Rat) * (before.len : Rat) + before.u) (-e) else s
  | none => s

/-- BEAD_PORTS_WRITE (R229, R244, R248): refused when the need would exceed 48. -/
def State.beadPortsWrite (s : State) (m : Master) (ports : Nat) (pub : Bool) (committed : Bool := false) : State :=
  let old := s.bead.ctl
  let new := w16 (ports + 16 * b2n pub)
  let c : Cand := { s.cand with mask := ports }
  if !committed ∧ fld old 0 4 ≠ ports ∧ 48 < c.needSum then
    let s := { s with bead := { s.bead with ctl := setFld old 4 1 (b2n pub), rej := true } }
    s.logE 0x12 (masterCode m) 0 0
  else { s with bead := { s.bead with ctl := new } }

/-- `BEAD_CTL.PORTS` takes effect at a frame boundary: duty begins, or open beads close with CONFIG (R244, R248). -/
def State.beadPortsEffect (s : State) : State :=
  let new := fld s.bead.ctl 0 4
  let old := s.bead.portsAct
  if new = old then s else
  let s := { s with bead := { s.bead with portsAct := new } }
  (List.range 4).foldl (fun s p =>
    if bits old p 1 = bits new p 1 then s
    else if bits new p 1 = 1 then s.dutyFrom p
    else (s.forceBeads p 3).modBeadPort p fun b => { b with until_ := s.tick }) s

/-! ## The bead table (R463) -/

/-- A word of space 0x5. -/
def State.beadWord (s : State) (a : Nat) : Word :=
  let e := a / 40
  let w := a % 40
  if 64 ≤ e ∨ 34 < w then 0
  else if e < 48 then
    if w = 0 ∨ w = 34 then w16 (Store.get 0 s.bead.entrySeq e) else
    match s.bead.beads.find? fun b => b.entry == e with
    | none => 0
    | some b =>
      if w = 1 then 1 else (wordsOfBytes (b.bytes b.emptyQ 0xFF 0 0)).getD (w - 2) 0
  else
    let (n, bytes) := Store.get (0, []) s.bead.closed (e - 48)
    if w = 0 ∨ w = 34 then w16 n
    else if bytes = [] then 0
    else if w = 1 then 2
    else (wordsOfBytes bytes).getD (w - 2) 0

/-- `BEAD_STAT` (R229, R254). -/
def State.beadStat (s : State) : Word :=
  w16 (s.bead.beads.length % 64 + s.cand.needSum % 64 * 64 + b2n s.bead.rej * 4096 + b2n s.bead.late * 8192
    + b2n s.bead.backtrack * 16384)

/-- `TARE_STAT` (R237, R239). -/
def State.tareStat (s : State) : Word :=
  w16 (s.bead.tareState + s.bead.tareDone * 8 + s.bead.tareCause * 128 + s.bead.tarePort * 2048)

end Sys2Proof.Machine
end

