-- ==== Sys2Proof/Machine/Trigger.lean ====
section
/-! DEFINITION. The SRAM partition (R255 to R257), the trigger sequencer (R258 to R262), the capture (R263 to R273) and
the host stream (R274, R275). -/

namespace Sys2Proof.Machine

open Sys2Proof

/-! ## The table of space 0xB -/

/-- Reset values of space 0xB. -/
def trgReset (w : Nat) : Word :=
  if w < 128 ∧ w % 16 = 7 then 1 else if w = 129 ∨ w = 131 then 511 else 0

def State.trgWord (s : State) (w : Nat) : Word := Store.get (trgReset w) s.trg.table w

/-- Bits that the table gives a word of the space (R453; space 0xB of the reference chapter). -/
def trgMask (w : Nat) : Word :=
  if w < 128 then
    match w % 16 with
    | 0 => 0x010F | 1 => 0x31FF | 10 => 0x3377 | 11 => 0 | 12 => 0 | 13 => 0 | 14 => 0 | 15 => 0
    | _ => 0xFFFF
  else if w < 133 then 0xFFFF else 0

/-- The parameters of a state (R258). -/
structure TrgState where
  cond : Nat
  pol : Bool
  facet : Nat
  port : Nat
  thrA : DWord
  thrB : DWord
  mask : Word
  count : Nat
  timer : Nat
  nextMet : Nat
  nextTo : Nat
  actMet : Nat
  actTo : Nat

def State.trgState (s : State) (i : Nat) : TrgState :=
  let w := fun k => s.trgWord (16 * i + k)
  { cond := fld (w 0) 0 4, pol := fld (w 0) 8 1 == 1, facet := fld (w 1) 0 9, port := fld (w 1) 12 2
    thrA := dw (w 2) (w 3), thrB := dw (w 4) (w 5), mask := w 6, count := (w 7).toNat, timer := (dw (w 8) (w 9)).toNat
    nextMet := fld (w 10) 0 3, nextTo := fld (w 10) 4 3, actMet := fld (w 10) 8 2, actTo := fld (w 10) 12 2 }

/-- A state holds a reserved encoding, or thresholds out of order (R258). -/
def TrgState.bad (t : TrgState) : Bool :=
  decide (11 < t.cond) || !f32Finite t.thrA || !f32Finite t.thrB || t.count == 0 || decide (2 < t.actMet)
    || decide (2 < t.actTo) || ((t.cond == 4 || t.cond == 5) && decide (f32R t.thrB < f32R t.thrA))

/-- TRG_ENABLE (R258). -/
def State.trgEnable (s : State) : State :=
  if (List.range 8).any (fun i => (s.trgState i).bad) then { s with trg := { s.trg with en := false, cause := 1 } }
  else if s.trg.en then { s with trg := { s.trg with cause := 0 } }
  else { s with trg := { s.trg with en := true, cause := 0, startPend := true, running := false } }

/-- `TRG_CTL.EN` is cleared. -/
def State.trgDisable (s : State) : State :=
  { s with trg := { s.trg with en := false, startPend := false, running := false } }

/-- TRG_FORCE (R261). -/
def State.trgForce (s : State) : State := { s with trg := { s.trg with force := true } }

/-- TRIG_IN_EDGE: an edge at least 1 µs wide is evidence (R259). -/
def State.trigInEdge (s : State) (falling : Bool) (width : Nat) : State :=
  if width < 1000 then s
  else if falling then { s with trg := { s.trg with edgeF := true } }
  else { s with trg := { s.trg with edgeR := true } }

/-! ## Geometry of the capture (R263, R265) -/

def State.csFirst (s : State) : Nat := (s.trgWord 128).toNat
def State.csLast (s : State) : Nat := (s.trgWord 129).toNat

/-- Words of one output. -/
def capK (n : Nat) : Nat := if isZ n then 2 else 1

/-- Ticks between outputs: tick words every tick in scheduled operation. -/
def State.capN (s : State) (n : Nat) : Nat := let b := s.blkA n; if scheduled n b then 1 else b.nout

/-- Facets of a span. -/
def spanOf (lo hi : Nat) : List Nat := (List.range (hi + 1 - lo)).map (· + lo)

def State.capSpan (s : State) : List Nat := spanOf s.csFirst (min s.csLast 511)

/-- Ring capacity in ticks for a region of `r` bytes (R263). -/
def State.ringTicks (s : State) (r : Nat) : Nat :=
  let fs := s.capSpan
  let nmax := fs.foldl (fun a n => max a (s.capN n)) 1
  let w : Rat := fs.foldl (fun a n => a + ((4 * capK n : Nat) : Rat) / (s.capN n : Rat)) 0
  if w = 0 then 0 else nmax * ((r : Rat) / ((nmax : Rat) * w)).floor.toNat

/-- First word of ring line `j` (R265). -/
def State.lineBase (s : State) (j : Nat) : Nat :=
  s.capSpan.foldl (fun a n => let m := s.capN n; a + capK n * ((j + m - 1) / m)) 0

/-- Facets of a span whose outputs fall on tick `t`. -/
def State.onTick (s : State) (fs : List Nat) (t : Nat) : List Nat := fs.filter fun n => t % s.capN n == 0

/-- Words of the line of tick `t`. -/
def State.lineWords (s : State) (t : Nat) : Nat := (s.onTick s.capSpan t).foldl (fun a n => a + capK n) 0

/-- Place of a facet's first word within the line of tick `t`. -/
def State.wordPlace (s : State) (n t : Nat) : Nat :=
  ((s.onTick s.capSpan t).filter fun m => decide (m < n)).foldl (fun a m => a + capK m) 0

/-- Apertures at or before the tick of a backward step are delivered once only (R176 step 4). -/
def State.repeated (s : State) (k : Nat) : Bool :=
  match s.time.noRepeat with | some t => decide (k ≤ t) | none => false

/-- Every output of the span with an aperture at or before `t` has been formed or lost. -/
def State.spanFormed (s : State) (fs : List Nat) (t : Nat) : Bool :=
  (decide (t < s.tick) || s.repeated t) && fs.all fun n =>
    let f := s.facet n
    !(f.pend.any fun o => decide (o.aperture ≤ t)) && !(f.tickPend.any fun o => decide (o.aperture ≤ t))

/-! ## Header and packets (R273, R275, R334) -/

/-- Post-trigger ticks covered so far (R273). -/
def State.postAct (s : State) : Nat :=
  let full := s.cap.endTick + 1 - s.cap.t
  if s.cap.st = .hold ∨ s.cap.flags &&& 0x30 ≠ 0 then full else min full (s.tick - s.cap.t)

/-- The 48-byte header (R273). -/
def State.capHeader (s : State) : List Byte :=
  let c := s.cap
  leBytes 2 c.seq ++ leBytes 2 c.flags.toNat ++ leBytes 6 (c.t % 2 ^ 48) ++ leBytes 6 (c.evid % 2 ^ 48)
    ++ leBytes 1 c.srcState ++ leBytes 1 c.srcCond ++ leBytes 2 s.csFirst ++ leBytes 2 s.csLast ++ leBytes 2 c.preReq
    ++ leBytes 2 c.grant ++ leBytes 2 c.preAct ++ leBytes 4 c.p ++ leBytes 4 s.postAct ++ leBytes 4 c.c
    ++ leBytes 6 ((c.t - c.preAct) % 2 ^ 48) ++ leBytes 2 (min c.dropped 65535)

/-- Words that stream staging holds at most (R274). -/
def State.streamRoom (s : State) : Nat := (s.cap.part.getD 2 16 - 2) * 32768

/-- Put a packet into stream staging; none where it does not fit (R275). `l` is its span, and the loss that its discard
would be. -/
def State.pushPacket (s : State) (kind tick : Nat) (l : Loss) (body : List Word) : Option State :=
  let p := [w16 kind, w16 (body.length + 7), wordOf tick 0, wordOf tick 1, wordOf tick 2, w16 l.first, w16 l.last] ++ body
  if s.cap.queue.length + p.length ≤ s.streamRoom then
    some { s with cap := { s.cap with queue := s.cap.queue ++ p, packets := s.cap.packets ++ [(p.length, l)] } }
  else none

/-- Gap records that wait go into the queue, oldest first, as far as it has room (R275, R277). -/
def State.flushGaps (s : State) : List (Loss × List Word) → State
  | [] => { s with cap := { s.cap with gapWait := [] } }
  | (g, body) :: rest =>
    match s.pushPacket 4 0 g body with
    | some t => t.flushGaps rest
    | none => { s with cap := { s.cap with gapWait := (g, body) :: rest } }

/-- Put a packet into stream staging behind what waits for it: the order of formation is kept (R275). -/
def State.stagePacket (s : State) (kind tick : Nat) (l : Loss) (body : List Word) : Option State :=
  if s.cap.gapWait = [] then s.pushPacket kind tick l body else none

/-- A gap record goes to the host-stream queue; one that finds no room waits (R277). -/
def State.stageGap (s : State) (g : Loss) (body : List Word) : State :=
  s.flushGaps (s.cap.gapWait ++ [(g, body)])

/-- Sample words as window words. -/
def sampleWords (ws : List DWord) : List Word := ws.flatMap fun d => [lo16 d, hi16 d]

/-- Cut a list into runs of at most `k`. -/
def chunks {α : Type} (k : Nat) : Nat → List α → List (List α)
  | 0, _ => []
  | _ + 1, [] => []
  | n + 1, x :: xs => ((x :: xs).take k) :: chunks k n ((x :: xs).drop k)

/-- A CAPT data frame with a payload of the line of tick `t` (R334). -/
def State.emitData (s : State) (t : Nat) (data : List Byte) : State :=
  s.emit .capt 2 (4096 + s.cap.seq % 4096) data s.csFirst s.csLast t 1

/-- The payloads of a line's data frames; the last one carries LAST_OF_LINE (R334, R335). -/
def State.lineFrames (s : State) (t : Nat) (ws : List DWord) : List (List Byte) :=
  let cs := (chunks 13 (ws.length + 1) ws).zipIdx
  cs.map fun (c, i) =>
    leBytes 2 s.cap.seq ++ leBytes 6 (t % 2 ^ 48) ++ leBytes 2 (13 * i) ++ leBytes 1 c.length
      ++ leBytes 1 (b2n (decide (cs.length = i + 1))) ++ c.flatMap (fun d => leBytes 4 d.toNat)

/-- The last data frame of the last line is formed once it is known whether another line follows it (R335). -/
def State.flushTail (s : State) (lastLine : Bool) : State :=
  match s.cap.tail with
  | none => s
  | some (t, data) =>
    { s with cap := { s.cap with tail := none } }.emitData t (if lastLine then data.modify 11 (· ||| 2) else data)

/-- The CAPT data frames of a line; its last one waits (R334, R335). -/
def State.emitLine (s : State) (t : Nat) (ws : List DWord) : State :=
  let fs := s.lineFrames t ws
  let s := (fs.dropLast).foldl (fun s d => s.emitData t d) (s.flushTail false)
  match fs.getLast? with
  | some d => { s with cap := { s.cap with tail := some (t, d) } }
  | none => s

/-- The loss that would be the capture's header (R273, R276). -/
def State.headLoss (s : State) : Loss :=
  { first := s.csFirst, last := s.csLast, start := s.cap.t - s.cap.preAct, len := max 1 (s.cap.endTick + 1 - (s.cap.t - s.cap.preAct))
    cause := 8, cons := 1 }

/-- The loss that a discarded line would be. -/
def lineLoss (first last t cons : Nat) : Loss := { first, last, start := t, len := 1, cause := 8, cons }

/-- The CAPT header frame (R334). -/
def State.emitHeader (s : State) : State :=
  let l := s.headLoss
  let s := s.emit .capt 2 (s.cap.seq % 4096) s.capHeader l.first l.last l.start l.len
  { s with cap := { s.cap with headSent := true } }

/-- The words of the line of tick `t` that the ring holds, in the order of R265: a word that was lost is not there. -/
def State.lineData (s : State) (t : Nat) : List DWord :=
  let (ps, u) := Store.get ([], 0) s.cap.lines (t % s.cap.c)
  if u ≠ t then [] else (ps.mergeSort (· ≤ ·)).map fun i => Store.get 0 s.cap.mem i

/-- A tick of the capture has words that were not dropped. -/
def State.hasLine (s : State) (t : Nat) : Bool := s.lineData t != [] && !s.cap.drops.contains t

/-! ## Words into the ring (R265, R270, R272) -/

/-- A tick's line is dropped whole (R270, R272). -/
def State.dropLine (s : State) (t cause : Nat) : State :=
  if s.cap.drops.contains t then s else
  let s := { s with cap := { s.cap with
    drops := t :: s.cap.drops.filter (fun u => decide (t < u + 2 * s.cap.c + 8192))
    dropped := if s.cap.st = CapState.fill then s.cap.dropped else satInc s.cap.dropped
    flags := if s.cap.st = CapState.fill then s.cap.flags else s.cap.flags ||| 8 } }
  s.lose s.csFirst s.csLast t 1 cause 1

/-- The capture holds undrained words of tick `u` (R270). -/
def State.undrained (s : State) (u : Nat) : Bool :=
  s.cap.st == .stream && decide (s.cap.drain ≤ u ∧ u ≤ s.cap.endTick) && !s.cap.drops.contains u

/-- CAPTURE_WORD_WRITE: the words of an output of facet `n` with aperture `t` (R265, R270, R272). -/
def State.captureWords (s : State) (n t : Nat) (ws : List DWord) : State :=
  let c := s.cap
  let runs := match c.st with | .fill => true | .post => decide (t ≤ c.endTick) | .stream => decide (t ≤ c.endTick)
                              | _ => false
  if !runs ∨ t < c.f ∨ n < s.csFirst ∨ s.csLast < n ∨ c.c = 0 ∨ c.drops.contains t = true then s else
  let j := t % c.c
  let (old, u) := Store.get ([], 0) c.lines j
  let here := u = t ∧ old ≠ []
  if !here ∧ old ≠ [] ∧ s.undrained u = true then s.dropLine t 3 else
  let ps := if here then old else []
  match s.spend actCapt ((ps.length + ws.length + 1) / 2 - (ps.length + 1) / 2) with
  | none => (s.stall actCapt).dropLine t 5
  | some s =>
    let a := s.lineBase j + s.wordPlace n t
    { s with cap := { s.cap with
        lines := Store.set ([], 0) s.cap.lines j (ps ++ (List.range ws.length).map (· + a), t)
        mem := Store.setRun (fun _ => 0) s.cap.mem a ws } }

/-! ## Arm, fill, trigger, hold (R264 to R272) -/

/-- CAPT frames of a held capture that are not staged yet are discarded with it; a gap record covers them (R18, R264, R267). -/
def State.dropChunks (s : State) : State :=
  let (gone, out) := s.msg.out.partition fun x => s.cap.sending && x.2.ty == .capt
  gone.foldl (fun s x => s.lose x.2.first x.2.last x.2.start x.2.len 4 1) { s with msg := { s.msg with out } }

/-- CAP_ARM (R264). -/
def State.capArm (s : State) : State :=
  let c := s.cap
  let cause :=
    if s.csLast < s.csFirst ∨ 511 < s.csLast then 1
    else if s.unset then 2
    else if c.st = .fill ∨ c.st = .post ∨ c.st = .stream then 3 else 0
  if cause ≠ 0 then { s with cap := { c with cause } } else
  let s := { s with trg := { s.trg with logMiss := true } }
  if c.st = .rearm then { s with cap := { c with cause := 0 } } else
  let s := s.dropChunks.nextStamp
  { s with cap := { s.cap with
      cause := 0, st := .idle, armPend := true, armStamp := s.ctl.stamp, mem := [], lines := [], sending := false } }

/-- Begin a fill at tick `f` (R264, R266, R268). -/
def State.beginFill (s : State) (f : Nat) : State :=
  let p := s.cap.post.toNat + 65536 * (s.trgWord 132).toNat
  -- a partition accepted before takes effect at the same boundary
  let part := match s.cap.partPend with | some (q, stamp) => if s.due stamp then q else s.cap.part | none => s.cap.part
  let c := s.ringTicks (part.getD 0 104 * 65536)
  let pre := s.cap.pre.toNat
  let g := min pre (c - 1)
  let cl := decide (g < pre)
  let s := { s with cap := { s.cap with
    st := .fill, armPend := false, abortPend := false, f, p := if p = 0 then 1 else p, c, preReq := pre, grant := g
    clamp := s.cap.clamp || cl, flags := if cl then 1 else 0, dropped := 0, mem := [], lines := [], drops := []
    autoMs := s.trg.auto.toNat, sending := false, headPend := false, headSent := false, tail := none } }
  if cl then s.irq1 6 else s

/-- FILL_START at a frame boundary (R264, R268). -/
def State.fillStart (s : State) : State :=
  if s.fillDue then s.beginFill s.tick else s

/-- A capture ends: the next missed trigger is logged (R269). -/
def State.captureEnd (s : State) : State := { s with trg := { s.trg with logMiss := true } }

/-- HOLD or a streamed capture ends (R268). -/
def State.endCapture (s : State) : State :=
  if fld s.cap.ctl 3 1 = 1 then
    let s := s.nextStamp
    { s with cap := { s.cap with st := .rearm, armStamp := s.ctl.stamp, sending := false } }
  else { s with cap := { s.cap with st := .idle, sending := false } }

/-- The header of a streamed capture is its first packet; it waits for room, and the lines wait behind it (R273, R275). -/
def State.stageHeader (s : State) : State :=
  if !s.cap.headPend then s else
  match s.stagePacket 3 0 s.headLoss (wordsOfBytes s.capHeader) with
  | some t => { t with cap := { t.cap with headPend := false } }
  | none => s

/-- A trigger arises at tick boundary `s.tick` (R261, R266, R269): its source state (8 FORCED, 9 AUTO), its condition
and its evidence tick. -/
def State.trigger (s : State) (src cond evid : Nat) : State :=
  let t := s.tick
  let s := { s with trg := { s.trg with count := (s.trg.count + 1) % 256 } }
  if s.cap.st ≠ .fill then
    let s := { s with trg := { s.trg with missed := satInc s.trg.missed } }.irq1 7
    if s.trg.logMiss then { s with trg := { s.trg with logMiss := false } }.logE 0x0E noMaster 0 0 else s
  else
    let c := s.cap
    let preAct := min c.grant (t - c.f)
    let long := decide (c.c < preAct + c.p)
    let inside := c.drops.filter fun u => decide (t ≤ u + preAct ∧ u < t + c.p)
    let flags := c.flags ||| (if preAct < c.grant then 2 else 0) ||| (if long then 4 else 0)
      ||| (if inside = [] then 0 else 8) ||| (if src = 8 then 0x40 else 0) ||| (if src = 9 then 0x80 else 0)
    let s := { s with cap := { c with
      t, preAct, evid, srcState := src, srcCond := cond, seq := (c.seq + 1) % 65536, endTick := t + c.p - 1, flags
      dropped := min 65535 inside.length, st := if long then .stream else .post, drain := t - preAct, headPend := long, headSent := false, tail := none } }
    if !long then s else
    let s := s.stageHeader
    if fld s.cap.ctl 4 1 = 1 then s.emitHeader else s

/-- The places of the ring whose words belong to the capture (R266, R267). -/
def State.capPlaces (s : State) : List Nat :=
  s.cap.lines.flatMap fun (_, (ps, u)) =>
    if s.cap.t ≤ u + s.cap.preAct ∧ u ≤ s.cap.endTick ∧ s.cap.drops.contains u = false then ps else []

/-- The held capture ends, and enters HOLD (R267): what the ring holds of other ticks is no part of it. -/
def State.enterHold (s : State) : State :=
  let ps := s.capPlaces
  let s := { s with cap := { s.cap with st := .hold, mem := Store.keep ps.contains s.cap.mem } }.captureEnd.irq1 5
  if fld s.cap.ctl 4 1 = 0 then s else
  let s := { s with cap := { s.cap with sending := true } }.emitHeader
  let from_ := s.cap.t - s.cap.preAct
  (((List.range (s.cap.endTick + 1 - from_)).map (· + from_)).foldl (fun s t =>
    if s.hasLine t then s.emitLine t (s.lineData t) else s) s).flushTail true

/-- CAPTURE_HOLD: every word with an aperture at or before T + P − 1 has been formed (R267). -/
def State.captureHold (s : State) : State :=
  if s.cap.st = .post ∧ s.spanFormed s.capSpan s.cap.endTick = true then s.enterHold else s

/-- CAP_RELEASE (R267): what is still to be sent of the capture is not sent. -/
def State.capRelease (s : State) : State := if s.cap.st = .hold then s.dropChunks.endCapture else s

/-- CAP_ABORT (R272). -/
def State.capAbort (s : State) : State :=
  match s.cap.st with
  | .fill => { s with cap := { s.cap with abortPend := true } }
  | .post => { s with cap := { s.cap with abortPend := true } }
  | .stream => { s with cap := { s.cap with abortPend := true } }
  | _ => s

/-- The abort at the next tick boundary A (R272): a held capture then ends once the words before A are formed (R267). -/
def State.abortEffect (s : State) : State :=
  if !s.cap.abortPend then s else
  let s := { s with cap := { s.cap with abortPend := false } }
  let cut : State := { s with cap := { s.cap with
    flags := s.cap.flags ||| 0x20, endTick := min s.cap.endTick (s.tick - 1) } }
  match s.cap.st with
  | .fill => { s with cap := { s.cap with st := .idle, mem := [], lines := [] } }.captureEnd
  | .post => cut
  | .stream => cut
  | _ => s

/-- A step of corridor time cuts the capture at K, or restarts the fill at Y, unless an abort ends it there (R176, R272). -/
def State.capStep (s : State) (k y : Nat) : State :=
  match s.cap.st with
  | .fill => if s.cap.abortPend then s else s.beginFill y
  | .post => { s with cap := { s.cap with flags := s.cap.flags ||| 0x10, endTick := min s.cap.endTick k } }
  | .stream => { s with cap := { s.cap with flags := s.cap.flags ||| 0x10, endTick := min s.cap.endTick k } }
  | _ => s

/-- AUTO_TRIGGER (R262). -/
def State.autoTrigger (s : State) : State :=
  if s.cap.st = .fill ∧ s.cap.autoMs ≠ 0 ∧ s.cap.f + 4 * s.cap.autoMs ≤ s.tick then s.trigger 9 0 s.tick else s

/-- A streamed capture ends (R268, R270). -/
def State.endStream (s : State) : State := ((s.flushTail true).captureEnd).endCapture

/-- The drain passes the line of tick `t`; past the last one the capture ends (R270). -/
def State.drained (s : State) (t : Nat) : State :=
  let s := { s with cap := { s.cap with drain := t + 1 } }
  if s.cap.endTick ≤ t then s.endStream else s

/-- LINE_DRAIN: the next line of a streamed capture leaves the ring, behind the header (R270, R273). A line that the CAPT
budget cannot carry out is dropped (R272, R434); one that finds no room in stream staging stays in the ring (R275). -/
def State.lineDrain (s : State) : State :=
  if s.cap.st ≠ .stream then s else
  let s := s.stageHeader
  let c := s.cap
  let t := c.drain
  if c.headPend then s
  else if c.endTick < t then s.endStream
  else if !s.spanFormed s.capSpan t then s
  else if !s.hasLine t then s.drained t
  else
    let ws := s.lineData t
    match s.stagePacket 2 t (lineLoss s.csFirst s.csLast t 1) (sampleWords ws) with
    | none => s
    | some s' =>
      match s'.spend actCapt ((ws.length + 1) / 2) with
      | none => ((s.stall actCapt).dropLine t 5).drained t
      | some s' =>
        let s' := if fld c.ctl 4 1 = 0 then s'
          else (if s'.cap.headSent then s' else s'.emitHeader).emitLine t ws
        { s' with cap := { s'.cap with lines := Store.set ([], 0) s'.cap.lines (t % c.c) ([], 0) } }.drained t

/-! ## The sequencer (R259 to R261) -/

/-- Codes 2 to 8 on one fresh output (R259, R184): a previous value that does not count stands as NaN, and an output
without a previous one is judged on its own value by codes 2 to 5. -/
def freshTrue (t : TrgState) (f : Fresh) : Bool :=
  let a := f32R t.thrA
  let b := f32R t.thrB
  if f32NaN f.v ∨ f.settle = true then false else
  let v := f32R f.v
  let byRate (p : Rat → Bool) : Bool :=
    match f.vPrev with | some pv => p ((v - f32R pv) / ((f.dt : Rat) / 4000)) | none => false
  if (match f.vPrev with | some pv => f32NaN pv | none => false) then false else
  match t.cond with
  | 2 => decide (a < v)
  | 3 => decide (v < a)
  | 4 => decide (v < a ∨ b < v)
  | 5 => decide (a ≤ v ∧ v ≤ b)
  | 6 => byRate fun r => decide (a ≤ r)
  | 7 => byRate fun r => decide (r ≤ a)
  | 8 => byRate fun r => decide (a ≤ rabs r)
  | _ => false

/-- The condition of a state at the present tick boundary, with its evidence tick (R259). -/
def State.trgCond (s : State) (t : TrgState) : Option Nat :=
  let g := s.trg
  match t.cond with
  | 1 => some s.tick
  | 9 => if (if t.pol then g.pastF else g.pastR) then some s.tick else none
  | 10 => if g.level != t.pol then some s.tick else none
  | 11 =>
    let hit := g.beads.filter fun (p, f, _) => p == t.port && (t.mask == 0 || (f &&& t.mask) != 0)
    match hit with
    | [] => none
    | h :: hs => some (hs.foldl (fun a x => max a x.2.2) h.2.2)
  | _ =>
    let hit := (g.fresh.filter fun f => f.facet == t.facet && freshTrue t f).map (·.aperture)
    match hit with
    | [] => none
    | h :: hs => some (hs.foldl max h)

/-- Take an action: 1 trigger, 2 stop. -/
def State.trgAct (s : State) (act st cond evid : Nat) : State :=
  match act with
  | 1 => s.trigger st cond evid
  | 2 => s.trgDisable
  | _ => s

/-- The sequencer's part of a tick boundary (R260). -/
def State.trgStep (s : State) : State :=
  if !s.trg.running then s else
  let st := s.trg.st
  let t := s.trgState st
  let hit := s.trgCond t
  let cnt := if hit.isSome then s.trg.cnt + 1 else s.trg.cnt
  let s := { s with trg := { s.trg with cnt } }
  if t.count ≤ cnt then
    let s := { s with trg := { s.trg with st := t.nextMet, cnt := 0, tmr := 0 } }
    s.trgAct t.actMet st t.cond (hit.getD s.tick)
  else if t.timer ≠ 0 ∧ t.timer ≤ s.trg.tmr + 1 then
    let s := { s with trg := { s.trg with st := t.nextTo, cnt := 0, tmr := 0 } }
    s.trgAct t.actTo st t.cond s.tick
  else { s with trg := { s.trg with tmr := s.trg.tmr + 1 } }

/-- The evidence of the interval is spent. -/
def State.trgForget (s : State) : State :=
  { s with trg := { s.trg with fresh := [], beads := [], pastR := false, pastF := false, pastForce := false } }

/-- A tick boundary comes: what was accepted before it is set apart for its judgement, and an abort acts (R259, R261, R272). -/
def State.trgTick (s : State) : State :=
  let g := s.trg
  { s with trg := { g with
      pastR := g.edgeR, pastF := g.edgeF, pastForce := g.force, edgeR := false, edgeF := false, force := false
      judged := false } }.abortEffect

/-- The judgement of the present boundary, once, then its forced trigger (R260, R261). The outputs formed at a boundary and the
bead records entered at it are evidence of it, and come as commands at it, so it is judged as its tick ends, or when the
sequencer is stopped in that tick; a fill that starts at the same boundary, or an abort that acts at it, comes before its
trigger (DESIGN CHOICE, log 233). -/
def State.trgJudge (s : State) : State :=
  if s.trg.judged then s else
  let force := s.trg.pastForce
  let s := ({ s with trg := { s.trg with judged := true } }).trgStep
  if force then s.trigger 8 0 s.tick else s

/-- EN is cleared by a write: a sequencer that is enabled judges the present boundary first. -/
def State.trgStop (s : State) : State := (if s.trg.en then s.trgJudge else s).trgDisable

/-- The tick ends: its boundary is judged, and the evidence is spent. -/
def State.trgEnd (s : State) : State := s.trgJudge.trgForget

/-- The sequencer starts in S0 at a frame boundary outside UNSET; the first boundary that it judges is the next one (R258). -/
def State.trgStart (s : State) : State :=
  if s.trg.startPend ∧ !s.unset then
    { s with trg := { s.trg with startPend := false, running := true, st := 0, cnt := 0, tmr := 0, judged := true } }
  else s

/-- A fresh output reaches the sequencer (R259). -/
def State.freshOut (s : State) (n aperture : Nat) (v : DWord) (settle : Bool) (vPrev : Option DWord) (dt : Nat) : State :=
  if s.trg.running ∧ (List.range 8).any (fun i => (s.trgState i).facet == n) = true then
    { s with trg := { s.trg with fresh := s.trg.fresh ++ [Fresh.mk n aperture v settle vPrev dt] } }
  else s

/-! ## The host stream (R275) -/

def State.hsSpanOk (s : State) : Bool :=
  decide ((s.trgWord 130).toNat ≤ (s.trgWord 131).toNat ∧ (s.trgWord 131).toNat ≤ 511)

/-- HS_ENABLE_WRITE (R275): bits 3 to 5 of `CAP_CTL`. -/
def State.hsEnableWrite (s : State) (en rearm can : Bool) : State :=
  let bad := en && !s.hsSpanOk
  let en' := en && !bad
  let s := s.nextStamp
  { s with cap := { s.cap with
      ctl := w16 (8 * b2n rearm + 16 * b2n can + 32 * b2n en')
      cause := if bad then 1 else s.cap.cause
      hsStamp := if en' = (fld s.cap.ctl 5 1 == 1) then s.cap.hsStamp else s.ctl.stamp } }

def State.hsEn (s : State) : Bool := fld s.cap.ctl 5 1 == 1

/-- HOST_STREAM_START (R275). -/
def State.hostStreamStart (s : State) : State :=
  if s.hsEn ∧ s.streamDue then
    let r : HsRun := { from_ := s.tick, first := (s.trgWord 130).toNat, last := (s.trgWord 131).toNat }
    -- lines of a run that ended less than 8,192 ticks ago can still be incomplete
    { s with cap := { s.cap with
        hsRun := true
        hsRuns := r :: s.cap.hsRuns.filter fun x => match x.until_ with | some u => decide (s.tick < u + 8192) | none => true } }
  else s

/-- HOST_STREAM_END (R275): lines of ticks before it are still completed and sent (R18). -/
def State.hostStreamEnd (s : State) : State :=
  if !s.hsEn ∧ s.streamDue then
    { s with cap := { s.cap with
        hsRun := false, hsRuns := s.cap.hsRuns.map fun r => { r with until_ := some (r.until_.getD s.tick) } } }
  else s

/-- The run of the host stream to which tick `t` belongs (R275). -/
def State.hsRunAt (s : State) (t : Nat) : Option HsRun :=
  s.cap.hsRuns.find? fun r => decide (r.from_ ≤ t) && (match r.until_ with | some u => decide (t < u) | none => true)

/-- The words of an output join the line of its tick (R275). -/
def State.hsWords (s : State) (n t : Nat) (ws : List DWord) : State :=
  let c := s.cap
  let inSpan := match s.hsRunAt t with | some r => decide (r.first ≤ n ∧ n ≤ r.last) | none => false
  if !inSpan ∨ t < c.hsNext then s else
  let add := ws.zipIdx.map fun (w, i) => (2 * n + i, w)
  { s with cap := { c with hsLines := Store.mod [] c.hsLines t (fun l => l ++ add) } }

/-- TICK_PACKET: the next line that holds words is complete (R275). -/
def State.tickPacket (s : State) : State :=
  let c := s.cap
  match c.hsLines with
  | [] => s
  | (t, l) :: rest =>
    let (first, last) := match s.hsRunAt t with | some r => (r.first, r.last) | none => (0, 511)
    if !s.spanFormed (spanOf first last) t then s else
    let ws := (l.mergeSort (fun a b => a.1 ≤ b.1)).map Prod.snd
    let s := { s with cap := { c with hsLines := rest, hsNext := t + 1 } }
    match s.spend actHost ((14 + 4 * ws.length + 7) / 8) with
    | none => (s.stall actHost).lose first last t 1 5 2
    | some s =>
      match s.stagePacket 1 t (lineLoss first last t 2) (sampleWords ws) with
      | some s' => s'
      | none => s.lose first last t 1 4 2

/-! ## The partition (R255 to R257) -/

/-- MEM_PART_GO (R256). -/
def State.memPartGo (s : State) (capt : Nat) : State :=
  let st := [capt, s.cap.partStaged.getD 1 6, s.cap.partStaged.getD 2 16]
  let s := { s with cap := { s.cap with partStaged := st } }
  let tare := st.getD 1 0
  let stage := st.getD 2 0
  let held := (List.range 4).foldl (fun a p => match (s.port p).tareLen with | some l => a + 2 * tareCount l | none => a) 0
  let cause : Nat :=
    if 126 < capt + tare + stage then 1
    else if capt < 8 ∨ 122 < capt ∨ 16 < tare ∨ stage < 4 ∨ 16 < stage then 2
    else if s.cap.st ≠ .idle ∨ s.hsEn = true then 3
    else if tare * 65536 < held then 4
    else if s.bead.tareState = 1 ∨ s.bead.tareState = 2 then 5 else 0
  if cause ≠ 0 then { s with cap := { s.cap with partCause := cause } } else
  let s := s.nextStamp
  { s with cap := { s.cap with partCause := 0, partPend := some (st, s.ctl.stamp) } }

/-- A record is lost, and a gap record covers it (R274, R276); a lost gap record's consumer is that of its body. -/
def State.loseRec (s : State) (r : Rec) (cause : Nat) : State :=
  s.lose r.first r.last r.start r.len cause (if r.ty = .gap then (r.data.getD 17 0).toNat else r.ty.consumer)

/-- PARTITION_EFFECT (R257): what is queued is discarded, a packet that the host has read in part included. -/
def State.partitionEffect (s : State) : State :=
  match s.cap.partPend with
  | none => s
  | some (p, stamp) =>
    if !s.due stamp then s else
    let s := s.cap.packets.foldl (fun s (_, l) => s.lose l.first l.last l.start l.len 8 l.cons) s
    let s := [0, 1].foldl (fun s p =>
      let s := (s.canPort p).staging.foldl (fun s r => s.loseRec r 8) s
      s.modCanPort p fun c => { c with staging := [] }) s
    { s with cap := { s.cap with part := p, partPend := none, mem := [], lines := [], queue := [], packets := [] } }.flushGaps
      s.cap.gapWait

/-- STREAM_QUEUE_READ takes one word; an empty queue gives EMPTY (R275). -/
def State.popQueue (s : State) : Word × State :=
  match s.cap.queue with
  | [] => (0, s)
  | w :: ws =>
    let ps := match s.cap.packets with
      | (n, l) :: rest => if n ≤ 1 then rest else (n - 1, l) :: rest
      | [] => []
    (w, { s with cap := { s.cap with queue := ws, packets := ps } }.flushGaps s.cap.gapWait)

/-! ## Reads -/

/-- A word of space 0x3. -/
def State.capWord (s : State) (a : Nat) : Word :=
  if 0x400000 ≤ a then
    if s.cap.st = .hold then (wordsOfBytes s.capHeader).getD (a - 0x400000) 0 else 0
  else
    let d := Store.get 0 s.cap.mem (a / 2)
    if a % 2 = 0 then lo16 d else hi16 d

/-- A word of space 0xB (R260, R453). -/
def State.trgRead (s : State) (a : Nat) : Word :=
  if a < 128 ∧ 12 ≤ a % 16 ∧ a % 16 ≤ 14 then
    -- the counter and timer of the current state
    if a / 16 ≠ s.trg.st then 0
    else if a % 16 = 12 then w16 (min 65535 s.trg.cnt) else wordOf s.trg.tmr (a % 16 - 13)
  else s.trgWord a

/-- A write to space 0xB under R258, R271 and R275; `obj` and `addr` name it in the log. -/
def State.trgWrite (s : State) (m : Master) (a : Nat) (v : Word) (obj addr : Nat) : State :=
  let msk := trgMask a
  if msk = 0 then s
  else if a < 128 ∧ s.trg.en = true then s.logIgnored m obj addr
  else if (a = 128 ∨ a = 129) ∧ s.cap.st ≠ .idle then s.logIgnored m obj addr
  else if (a = 130 ∨ a = 131) ∧ s.cap.hsRun = true then s.logIgnored m obj addr
  else { s with trg := { s.trg with table := Store.set (trgReset a) s.trg.table a (v &&& msk) } }

def CapState.code : CapState → Nat
  | .idle => 0 | .fill => 1 | .post => 2 | .stream => 3 | .hold => 4 | .rearm => 5

end Sys2Proof.Machine
end

