-- ==== Sys2Proof/WellFormed.lean ====
section
/-! DEFINITION. Which commands are well formed: the operand limits that their types do not already say. -/

namespace Sys2Proof

/-- The number of data bytes that a data length code states: 0 to 8 as written, then 12 to 64 in FD format (R298). -/
def dlcLen (fdf : Bool) (dlc : Nat) : Nat :=
  if dlc ≤ 8 then dlc
  else if fdf then [12, 16, 20, 24, 32, 48, 64].getD (dlc - 9) 64
  else 8

/-- A frame that a bus can carry: its identifier fits its format, its data is as long as its code says, and a remote
frame is classical and carries none (R279, R298). -/
def Frame.wf (f : Frame) : Bool :=
  (f.ide || decide (f.ident.toNat < 2048)) && decide (f.dlc < 16)
    && decide (f.data.length = if f.rtr then 0 else dlcLen f.fdf f.dlc)
    && !(f.rtr && f.fdf) && !(f.brs && !f.fdf)

/-- A request whose byte fields fit their bytes, whose data fits bytes 8 to 63, and which is served within its tick (R342). -/
def Req.wf (r : Req) : Bool := decide (r.count < 256) && decide (r.data.length ≤ 56) && decide (r.ns < 250000)

/-- Which commands are well formed. -/
def Instr.wf : Instr → Bool
  | .cycleOutput _ sense => decide (sense.length ≤ 7)
  | .bootSequence badRows _ _ _ => badRows.all (· < 65536)
  | .latchedGroupRead _ _ ns => decide (ns < 250000)
  | .syncLandEdge _ _ ns => decide (ns < 250000)
  | .ppsEdge _ _ ns => decide (ns < 250000)
  | .quadratureEdge _ e => decide (e.ns < 250000)
  | .refFrameReceive _ fr ns valid => fr.wf && decide (ns ≤ valid)
  | .frameReceived _ fr _ => fr.wf
  | .rreqOpen _ r => r.wf
  | .rreqClose _ r => r.wf
  | .rreqKeep _ r => r.wf
  | .rreqSetKey _ r => r.wf
  | .rreqRegRead _ r => r.wf
  | .rreqRegWrite _ r => r.wf
  | .rreqWinRead _ r => r.wf
  | .rreqWinWrite _ r => r.wf
  | .rreqClaspBegin _ r => r.wf
  | .rreqClaspCommit _ r => r.wf
  | .rreqClaspRollback _ r => r.wf
  | .rreqFacetRead _ r => r.wf
  | .rreqUnknownOp _ _ r => r.wf
  | .filterEnable _ _ sw => decide (sw.ns < 250000)
  | .calMeasurementDone x => decide (x.vals.length ≤ 36)
  | .sramScrub rows _ => rows.all (· < 65536)
  | .tickBoundary _ | .frameBoundary _ _ | .modeChange | .outputFormation _ _ | .zSlotSwitch _
  | .beadClose _ _ _ | .beadLateOpen _ | .acqOutputLost _ | .gapRecord | .gapHeldRecordQueue _ | .powerOnReset
  | .warmReset _ | .resetKey _ _ _ | .profileLoad | .profileFallbackLoad | .referencesSettled
  | .acquisitionStart | .fatalError _ _ | .loupeDumpComplete _ _ | .fatalHbeat | .loupeRelease _ | .dbgLock _
  | .profSave _ | .profileSaveDone _ | .hostAlive _ _ | .hostWdtWrite _ _ | .watchdogExpiry
  | .standaloneServiceBegin | .svcRelease _ | .standaloneServiceEnd | .registerWrite _ _ _ | .rcRead _ _
  | .fctFaultNextRead _ | .winDataRead _ | .winDataWrite _ _ | .streamQueueRead _ | .cycleCutShort _ _
  | .doubleStrobeCycle | .claspBegin _ | .claspCommit _ | .claspApply _ | .claspRollback _ | .claspTimeout _
  | .fctApplyGo _ _ | .fctApplyAll _ _ | .applyEffect | .rangeChangeSwap _ | .rangeChangeSwapBack _
  | .fctReadGo _ _ _ | .fctReadReady | .protectionIsolation _ | .isolationEnd _ | .faultEnter _ _
  | .faultLeave _ _ | .alarmWindowEnd _ | .excRailOver | .excRailOverClear | .excRailFold | .excHeadroom
  | .toneLockLoss | .toneLockReturn | .zDrivesResume | .odecWrite _ _ _ | .bankSelGo _ _ _ | .fadeStart
  | .fadeEnd | .syncReset | .syncNow _ | .syncArm _ | .syncCancel _ | .ppsLost | .refSend _ | .refPeriodMissed _
  | .refSenderStart _ | .freeEntry | .timebaseContinuation | .timeStep | .markerPulse _ _
  | .markerMissed _ | .posCfgApply _ _ | .portActivation _ | .posRevWrite _ _ | .beadPortsWrite _ _ _
  | .tareGo _ _ _ _ | .tareAbort _ | .tareLearnStart | .tareRunEnd | .pbTareLoad _ _ | .tareLoadActivation _
  | .trgEnable _ | .trgForce _ | .trigInEdge _ _ | .autoTrigger | .capArm _ | .fillStart | .captureHold
  | .capRelease _ | .capAbort _ | .lineDrain | .memPartGo _ _ | .partitionEffect | .hsEnableWrite _ _ _ _
  | .hostStreamStart | .hostStreamEnd | .tickPacket | .canInitSet _ | .canInitClear _ | .canModeWrite _ _
  | .canModeEffect _ | .canRecover _ | .busIntegrationDone _ | .canFrameStart _ _ | .frameTransmitted _ _
  | .busOffRecoveryDone _ | .lonePacedAttempt _ _ | .deferredFailover | .failoverReturn | .failoverHome _
  | .failoverDisable _ | .canclkLoss | .canclkReturn _ | .txreq _ _ | .txreqAbort _ _ | .rxqPop _ _
  | .busError _ _ _ _ _ _ | .egressStaging | .egressMailboxLoad _ | .portCShadowSwitch | .controllerFailure _ _
  | .hbeatSend | .sessionTimeout _ | .openLockExpiry _ | .calGo _ _ _ _ _ | .calNext _ | .calAbort _
  | .calRunStart | .calStandinSwap | .calResultApply | .calSwapBack | .refScaleStep | .zCellWaitTimeout
  | .beltCalRevolutionEnd | .restoreApply | .sparePin | .spareUnpin | .spareSubstitute | .spareRelease
  | .spareCheck | .spareRefSwitch | .spareForbid | .spareAllow | .backgroundCheckStart _
  | .shadowDecision _ _ _ _ | .refereeDecision _ _ _ | .driverCheckResult _ _ | .referenceFailure _
  | .referenceWarning | .ucCtlAct _ _ | .userCurveActivation _ | .budgetSetWrite _ _ | .nvmPageProgrammed
  | .shedJudgement _ | .excFoldClear | .excHeadroomClear | .extestSelected _ => true

end Sys2Proof
end

