-- ==== Sys2Proof/Machine/Can.lean ====
section
/-! DEFINITION. The CAN FD ports (chapter 10): states and modes, bit-timing checks, mailboxes and arbitration,
reception, error confinement, lone-node pacing. Ports are 0 A, 1 B, 2 C. The error counters follow the rules of ISO 11898-1,
which the spec names and does not repeat (PRESUMED, log 26). -/

namespace Sys2Proof.Machine

open Sys2Proof

def CanState.code : CanState → Nat
  | .init => 0 | .integrating => 1 | .errorActive => 2 | .errorPassive => 3 | .busOff => 4 | .recovering => 5

/-- Port C serves another port (R316, R317). -/
def State.cSubst (s : State) : Bool := s.spare.portC.state == spSubst

/-- Out of bus-off. -/
def CanState.off (st : CanState) : Bool := st == .busOff || st == .recovering

/-- The state that the port shows: as in INIT while CANCLK is lost (R283; DEDUCED, log 197). -/
def State.shownSt (s : State) (p : Nat) : CanState := if s.candev.clkOk then (s.canPort p).st else .init

/-- The port is in INIT, or behaves so (R283). -/
def State.inInit (s : State) (p : Nat) : Bool := fld (s.canPort p).ctl 0 1 == 1 || !s.candev.clkOk

/-- The port takes part on the bus (R283, R301). -/
def State.onBusOk (s : State) (p : Nat) : Bool :=
  let c := s.canPort p
  s.candev.clkOk && !c.failed && !(p == 2 && s.cSubst) && (c.st == .errorActive || c.st == .errorPassive)

/-- The port sends data frames (R286). -/
def State.sends (s : State) (p : Nat) : Bool :=
  let c := s.canPort p
  s.onBusOk p && (c.mode == 0 || c.mode == 3 || c.mode == 4)

/-- The mode lets the port take a part in reference duty (R287). -/
def State.portSends (s : State) (p : Nat) : Bool := (s.canPort p).mode != 1 && (s.canPort p).mode != 2

/-- The TX land of a port is held recessive: in INIT and in bus-off, in restricted operation, listen-only and internal loopback,
while CANCLK is lost, while port C serves another port, and in reset; a fatal error leaves ports A and B sending (R490). A dominant bit that the protocol asks of
the port, such as an acknowledgement in restricted operation, is no state of the land (R23, R282, R283, R307, R316). -/
def State.txRecessive (s : State) (p : Nat) : Bool :=
  let c := s.canPort p
  !(s.ready || s.life.phase == .fatal) || s.inInit p || c.st.off || c.mode == 1 || c.mode == 2 || c.mode == 4 || (p == 2 && s.cSubst)

def CanPort.fdEn (c : CanPort) : Bool := fld c.ctl 4 1 == 1
def CanPort.brsEn (c : CanPort) : Bool := fld c.ctl 5 1 == 1
def CanPort.holdBo (c : CanPort) : Bool := fld c.ctl 7 1 == 1

/-- The port is available for routed records (R312). -/
def State.available (s : State) (p : Nat) : Bool :=
  let c := s.canPort p
  c.st != .init && c.mode == 0 && c.fdEn && !c.st.off && !c.failed && s.candev.clkOk

/-- Log a CAN event with the interrupt (R284, R310, R313, R317). -/
def State.canEvent (s : State) (p : Nat) (failover : Bool) (discarded : Nat) : State :=
  let c := s.canPort p
  (s.irq0 6).logE 0x0C noMaster p
    (BitVec.ofNat 32 ((s.shownSt p).code + 8 * b2n c.lone + 16 * b2n failover + 65536 * min discarded 65535))

/-- The port enters a state, which it shows while CANCLK runs (R283, R284). -/
def State.setCanState (s : State) (p : Nat) (st : CanState) : State :=
  let c := s.canPort p
  if c.st = st then s else
  let t := s.setCanPort p { c with st, activeFrom := if st = .errorActive then s.tick else c.activeFrom }
  if s.candev.clkOk then t.canEvent p false 0 else t

/-- ALARM CAN_STATE (R326 code 11). -/
def State.canAlarm (s : State) (p : Nat) : State :=
  let c := s.canPort p
  s.alarm 11 p ((s.shownSt p).code + 8 * b2n c.lone + 16 * b2n c.subst)

/-- The state that the error counters give (R305). -/
def CanPort.counted (c : CanPort) : CanState :=
  if 128 ≤ c.tec ∨ 128 ≤ c.recCnt then .errorPassive else .errorActive

/-- Lone pacing ends; the count of R309 stands until an attempt is acknowledged (R309, R310). -/
def CanPort.endLone (c : CanPort) : CanPort := { c with lone := false }

/-! ## Bit timing (R288, R291) -/

/-- The lowest code of R291 that applies, 0 when none does. -/
def State.timingCause (s : State) (p : Nat) : Nat :=
  let c := s.canPort p
  let nbrp := fld c.nbtp0 0 8 + 1
  let nsjw := fld c.nbtp0 8 7
  let nt1 := fld c.nbtp1 0 8
  let nt2 := fld c.nbtp1 8 7
  let dbrp := fld c.dbtp0 0 5 + 1
  let dsjw := fld c.dbtp0 8 4
  let dt1 := fld c.dbtp1 0 5
  let dt2 := fld c.dbtp1 8 4
  let nq := nt1 + nt2 + 3
  let dq := dt1 + dt2 + 3
  if nt1 < nsjw ∨ nt2 < nsjw ∨ nq < 8 then 1
  else if dt1 < dsjw ∨ dt2 < dsjw ∨ dq < 5 ∨ nbrp * nq < dbrp * dq then 2
  else if fld c.tdc 0 1 = 1 ∧ 10 * dbrp < fld c.tdc 1 7 + 1 then 3
  else if !s.candev.clkOk then 4
  else if p = 2 ∧ s.cSubst = true then 5 else 0

/-! ## Mailboxes -/

def CanPort.mbox (c : CanPort) (i : Nat) : Mailbox := Store.get {} c.mb i
def CanPort.setMbox (c : CanPort) (i : Nat) (b : Mailbox) : CanPort := { c with mb := Store.set {} c.mb i b }

/-- A host mailbox's request ends: 1 sent, 2 aborted, 3 one-shot failed (R296). -/
def State.hostDone (s : State) (p i res : Nat) : State :=
  let c := s.canPort p
  let b := c.mbox i
  let c := { (c.setMbox i { b with full := false, released := false, abort := false }) with
    done := c.done ||| w16 (2 ^ (i - 24)), res := setFld c.res (2 * (i - 24)) 2 res
    kept := if c.kept = some i then none else c.kept }
  (s.setCanPort p c).irq1 8

/-- Free a device mailbox; the other of its pair is released (R294). -/
def CanPort.freeDevice (c : CanPort) (i : Nat) : CanPort :=
  let c := c.setMbox i { (c.mbox i) with full := false, released := false, abort := false, record := none }
  let j := if i % 2 = 0 then i + 1 else i - 1
  let b := c.mbox j
  let c := if b.full then c.setMbox j { b with released := true } else c
  { c with kept := if c.kept = some i then none else c.kept }

/-- An attempt has failed: a frame withdrawn during it ends there (R296, R324). -/
def State.attemptFailed (s : State) (p i : Nat) : State :=
  if !((s.canPort p).mbox i).abort then s
  else if 24 ≤ i then s.hostDone p i 2 else s.modCanPort p (·.freeDevice i)

/-! ## INIT and modes (R285, R286) -/

/-- The attempt in progress is broken off, or has lost arbitration (R285, R295); the one attempt of a frame kept under R308 is
over with it. -/
def State.leaveBus (s : State) (p : Nat) : State :=
  let c := s.canPort p
  match c.onBus with
  | none => s
  | some (i, _) =>
    (s.setCanPort p { c with onBus := none, kept := if c.kept = some i then none else c.kept }).attemptFailed p i

/-- Put a mode in force; pacing ends when the mode leaves Normal (R286, R310). -/
def CanPort.takeMode (c : CanPort) (m : Nat) : CanPort :=
  let c := if m ≠ 0 then c.endLone else c
  { c with mode := m, modePend := none }

/-- A mode takes effect. Reference duty ends with a mode that does not send, and the port listens again after it, as after a
bus-off (R173, R287). -/
def State.takeMode (s : State) (p m : Nat) : State :=
  let sent := s.portSends p
  let s := s.modCanPort p fun c => c.takeMode m
  if 2 ≤ p ∨ sent = s.portSends p then s else
  { s with time := { s.time with tx := Store.mod {} s.time.tx p fun t =>
      if sent then { t with sending := false, listen := true } else { t with quietFrom := s.tick } } }

/-- A shadow period of port C begins anew at port A (R402). -/
def State.shadowRestart (s : State) : State :=
  { s with spare := { s.spare with shadow := 0, shadowFrom := s.tick, shadowErrs := 0 } }

/-- `CAN_CTL.INIT` is set (R285); port C then begins to shadow (R402). -/
def State.initSet (s : State) (p : Nat) : State :=
  if fld (s.canPort p).ctl 0 1 = 1 then s else
  let s := s.leaveBus p
  let c := s.canPort p
  let c := { c.endLone with ctl := c.ctl ||| 1, wasOff := c.st.off }
  let s := ((s.setCanPort p c).takeMode p (c.modePend.getD c.mode)).setCanState p .init
  if p = 2 then s.shadowRestart else s

/-- `CAN_CTL.INIT` is cleared: the checks of R291 (R285). -/
def State.initClear (s : State) (p : Nat) : State :=
  let c := s.canPort p
  if fld c.ctl 0 1 = 0 then s else
  let cause := s.timingCause p
  if cause ≠ 0 then s.setCanPort p { c with cause } else
  (s.setCanPort p { c with ctl := setFld c.ctl 0 1 0, cause := 0, wasOff := false }).setCanState p
    (if c.wasOff then .recovering else .integrating)

/-- `CAN_CTL.RECOVER` (R307). -/
def State.recover (s : State) (p : Nat) : State :=
  if (s.canPort p).st = .busOff then s.setCanState p .recovering else s

/-- The mode that a write of `CAN_CTL` asks for would enter or leave loopback out of INIT: the write is ignored (R286). -/
def State.canModeBad (s : State) (p : Nat) (v : Word) : Bool :=
  let c := s.canPort p
  let old := fld c.ctl 1 3
  let md := if 4 < fld v 1 3 then old else fld v 1 3
  !s.inInit p && fld v 0 1 != 1 && (md != old && (decide (3 ≤ md) || decide (3 ≤ old)))

/-- A write of `CAN_CTL` (R285, R286, R307); `obj`, `addr` name it in the log. -/
def State.canCtlWrite (s : State) (m : Master) (p : Nat) (v : Word) : State :=
  if p = 2 ∧ s.cSubst = true then s else
  let c := s.canPort p
  let old := fld c.ctl 1 3
  let asked := fld v 1 3
  let s := if 4 < asked then s.logIgnored m 0x61 0 else s
  let md := if 4 < asked then old else asked
  let wasInit := s.inInit p = true
  let toInit := fld v 0 1 = 1
  if s.canModeBad p v then s.logIgnored m 0x61 0 else
  -- the bits that act at once, INIT as it stands
  let base := setFld (setFld (v &&& 0x00F0) 1 3 md) 0 1 (fld c.ctl 0 1)
  let s := s.setCanPort p { c with ctl := base }
  let s := if fld v 8 1 = 1 then s.recover p else s
  let s := if toInit then s.initSet p else s
  let s := if wasInit ∨ toInit then s.takeMode p md
    else s.modCanPort p fun c => if md = c.mode then { c with modePend := none } else { c with modePend := some md }
  if toInit then s else s.initClear p

/-- CAN_MODE_EFFECT at bus idle (R286). -/
def State.modeEffect (s : State) (p : Nat) : State :=
  let c := s.canPort p
  match c.modePend with
  | none => s
  | some m => if c.onBus.isSome then s else s.takeMode p m

/-- BUS_INTEGRATION_DONE (R285). -/
def State.integrationDone (s : State) (p : Nat) : State :=
  let c := s.canPort p
  if c.st = .integrating ∧ s.candev.clkOk = true ∧ !c.failed then s.setCanState p c.counted else s

/-- BUS_OFF_RECOVERY_DONE (R307). -/
def State.recoveryDone (s : State) (p : Nat) : State :=
  let c := s.canPort p
  if c.st = .recovering ∧ s.candev.clkOk = true ∧ !c.failed then
    let s := (s.setCanPort p { c with tec := 0, recCnt := 0 }).setCanState p .errorActive
    let s := if p < 2 then { s with time := { s.time with tx := Store.mod {} s.time.tx p fun t =>
        { t with quietFrom := s.tick } } } else s
    -- a failover that still waits for the other port is no longer due (R313)
    { s with candev := { s.candev with waiting := s.candev.waiting.filter (· != p) } }
  else s

/-- The ports out of INIT, whose shown state changes with CANCLK. -/
def State.runningPorts (s : State) : List Nat := [0, 1, 2].filter fun p => (s.canPort p).st != .init

/-- CANCLK_LOSS (R283). -/
def State.canclkLoss (s : State) : State :=
  if !s.candev.clkOk then s else
  let s := { s with candev := { s.candev with clkOk := false } }
  let s := [0, 1, 2].foldl (fun s p => (s.leaveBus p).modCanPort p CanPort.endLone) s
  s.runningPorts.foldl (fun s p => s.canEvent p false 0) s

/-- CANCLK_RETURN: a per-frame measurement in kHz (R283). -/
def State.canclkReturn (s : State) (khz : Nat) : State :=
  if s.candev.clkOk ∨ khz < 20000 ∨ 80000 < khz then s else
  let s := { s with candev := { s.candev with clkOk := true, clkKhz := khz } }
  s.runningPorts.foldl (fun s p =>
    (s.modCanPort p fun c => { c with st := if c.st.off then c.st else .integrating }).canEvent p false 0) s

/-! ## Mailboxes and arbitration (R293 to R297) -/

/-- The pair of a type (R293). -/
def pairOf : MsgType → Nat
  | .alarm => 2 | .gap => 4 | .bead => 6 | .trec => 8 | .capt => 10 | .hbeat => 12 | .rrsp => 14 | .mark => 16
  | .calev => 18 | .sparev => 20

/-- A frame's rank in arbitration: the lower wins, and a base frame wins over an extended one of the same 11 bits. -/
def arbKey (f : Frame) : Nat :=
  if f.ide then f.ident.toNat / 262144 * 2 ^ 20 + 3 * 2 ^ 18 + f.ident.toNat % 262144 else f.ident.toNat % 2048 * 2 ^ 20

/-- The mailbox whose frame would win (R295, R308). -/
def CanPort.offered (c : CanPort) : Option Nat :=
  match c.kept with
  | some k => if (c.mbox k).full then some k else none
  | none =>
    let ready := (List.range 32).filter fun i => let b := c.mbox i; b.full && b.released
    ready.foldl (fun best i =>
      match best with
      | none => some i
      | some j => if arbKey (c.mbox i).frame < arbKey (c.mbox j).frame then some i else some j) none

/-- A frame goes onto the bus, with its start-of-frame instant (R295, R297). -/
def State.startFrame (s : State) (p ns : Nat) : State :=
  let c := s.canPort p
  if c.onBus.isSome then s else
  match c.offered with
  | none => s
  | some i =>
    let b := c.mbox i
    s.setCanPort p { (c.setMbox i { b with ts := ns % 2 ^ 64 }) with onBus := some (i, ns) }

/-- CAN_FRAME_START (R295). -/
def State.canFrameStart (s : State) (p ns : Nat) : State :=
  if s.sends p ∧ !(s.canPort p).lone then s.startFrame p ns else s

/-- LONE_PACED_ATTEMPT: one attempt every 100 ms (R310). -/
def State.lonePaced (s : State) (p ns : Nat) : State :=
  let c := s.canPort p
  if s.sends p ∧ c.lone = true ∧ c.paceFrom + 400 ≤ s.tick ∧ c.onBus.isNone then
    (s.setCanPort p { c with paceFrom := s.tick }).startFrame p ns
  else s

/-- TXREQ (R296). -/
def State.txreq (s : State) (m : Master) (p : Nat) (req : Nat) : State :=
  if p = 2 ∧ s.cSubst = true then s else
  (List.range 8).foldl (fun s i =>
    if bits req i 1 = 0 then s else
    let c := s.canPort p
    let b := c.mbox (24 + i)
    if b.full then s
    else if b.frame.fdf ∧ !c.fdEn then (s.hostDone p (24 + i) 2).logIgnored m 0x6A 0
    else s.setCanPort p { (c.setMbox (24 + i) { b with full := true, released := true, abort := false }) with
      res := setFld c.res (2 * i) 2 0 }) s

/-- TXREQ_ABORT (R296). -/
def State.txAbort (s : State) (p : Nat) (ab : Nat) : State :=
  (List.range 8).foldl (fun s i =>
    if bits ab i 1 = 0 then s else
    let c := s.canPort p
    let b := c.mbox (24 + i)
    if !b.full then s
    else if (c.onBus.map Prod.fst) = some (24 + i) then s.setCanPort p (c.setMbox (24 + i) { b with abort := true })
    else s.hostDone p (24 + i) 2) s

/-! ## Reception (R298 to R304) -/

/-- Reset value of a filter word: `CPF_CFG` resets to either, either, reject. -/
def fltReset (w : Nat) : Word := if w % 8 = 4 then 0x002A else 0

def CanPort.fltWord (c : CanPort) (w : Nat) : Word := Store.get (fltReset w) c.flt w

/-- A change of the filters at the instant `now`, ns: what stood before it filters the frames that started before (R300). -/
def CanPort.keepFilters (c : CanPort) (now : Nat) : CanPort :=
  { c with fltOld := (now, c.flt, c.fltEn) :: c.fltOld.filter fun e => decide (now < e.1 + 1000000000) }

/-- The filters as they stood at the instant `ns` of a start of frame (R300). What stood 1 s ago is forgotten (DESIGN CHOICE,
log 156). -/
def CanPort.filtersAt (c : CanPort) (ns : Nat) : CanPort :=
  match (c.fltOld.filter fun e => decide (ns < e.1)).getLast? with
  | some (_, flt, en) => { c with flt := flt, fltEn := en }
  | none => c

/-- The frame matches filter pair `k` (R298). -/
def CanPort.matches (c : CanPort) (k : Nat) (f : Frame) : Bool :=
  let w := fun j => c.fltWord (8 * k + j)
  let mask := if f.ide then 2 ^ 29 - 1 else 2 ^ 11 - 1
  let id := (dw (w 0) (w 1)).toNat
  let mk := (dw (w 2) (w 3)).toNat % 2 ^ 29
  let ide := fld (w 4) 0 2
  let fdf := fld (w 4) 2 2
  Nat.land (Nat.land (Nat.xor f.ident.toNat id) mk) mask == 0
    && (ide == 2 || ide == b2n f.ide) && (fdf == 2 || fdf == b2n f.fdf)

/-- Put a frame into a receive queue (R303, R304). -/
def State.enqueue (s : State) (p q : Nat) (x : RxFrame) : State :=
  let c := s.canPort p
  let rx := if q = 0 then c.rx0 else c.rx1
  let put (r : RxQueue) (s : State) : State :=
    s.modCanPort p fun c => if q = 0 then { c with rx0 := r } else { c with rx1 := r }
  if rx.q.length < 17 then
    let s := put { rx with q := rx.q ++ [x] } s
    if rx.q.isEmpty then s.irq1 9 else s
  else put { rx with ovr := true, lost := satInc rx.lost } s

/-- Filter a received frame into its queue (R298 to R300). -/
def State.filterFrame (s : State) (p : Nat) (f : Frame) (ns : Nat) : State :=
  let c := (s.canPort p).filtersAt ns
  match (List.range 32).find? fun k => bits c.fltEn.toNat k 1 == 1 && c.matches k f with
  | none => s.modCanPort p fun c => { c with noMatch := satInc c.noMatch }
  | some k =>
    let dest := fld (c.fltWord (8 * k + 4)) 4 2
    if dest = 0 ∨ dest = 1 then s.enqueue p dest { frame := f, ts := ns % 2 ^ 64, pair := k } else s

/-- TYPE, STATION and SUB of an identifier (R319). -/
def idType (f : Frame) : Nat := bits f.ident.toNat 21 5
def idStation (f : Frame) : Nat := bits f.ident.toNat 13 8
def idSub (f : Frame) : Nat := bits f.ident.toNat 0 13

/-- Content length of the types that internal consumers take (R320, R322). -/
def contentLen (ty : Nat) : Nat := if ty = 0 then 24 else if ty = 7 then 8 else if ty = 9 then 32 else 0

/-- An internal consumer takes frames of this identifier from this port (R301, R315). -/
def State.consumes (s : State) (p : Nat) (f : Frame) : Bool :=
  f.ide && !f.rtr &&
  (match idType f with
   | 0 => bits s.time.refCtl.toNat (5 + p) 1 == 1 && !(p == 2 && s.cSubst)
   | 7 => p != 2 && idStation f == s.ctl.station
   | 9 => p != 2 && (List.range 4).any fun q => let c := (s.port q).cfgA; c.revSrc == 1 && c.revStation == idStation f
   | _ => false)

/-- INTERNAL_COPY of a MARK frame (R212, R301, R338). -/
def State.copyMark (s : State) (f : Frame) : State :=
  let d := fun i n => leNat ((f.data.drop i).take n)
  if bits (d 4 1) 4 2 ≠ 0 then s else
  (List.range 4).foldl (fun s q =>
    if (s.port q).cfgA.revSrc = 1 ∧ (s.port q).cfgA.revStation = idStation f then
      s.modPort q fun x => x.sourceMark (d 0 2) (d 20 4) (d 5 1) (d 2 2)
    else s) s

/-- The copies that internal consumers take (R301, R322); those of the timebase and of the MP are in `frameCopies`. -/
def State.internalCopy (s : State) (p : Nat) (f : Frame) : State :=
  if (s.canPort p).mode = 4 ∨ !s.consumes p f then s
  else if !f.fdf ∨ f.data.length < contentLen (idType f) then
    s.modCanPort p fun c => { c with badLen := satInc c.badLen }
  else if idType f = 9 then s.copyMark f
  else s

/-- The receive error counter after a successful reception (ISO 11898-1; log 25). -/
def State.recSuccess (s : State) (p : Nat) : State :=
  let c := s.canPort p
  if c.mode = 1 ∨ c.mode = 2 ∨ c.recCnt = 0 then s
  else if c.recCnt ≤ 127 then
    let c := { c with recCnt := c.recCnt - 1 }
    (s.setCanPort p c).setCanState p c.counted
  else
    let c := { c with recCnt := 119 + (Config.recAfter s.free).val }
    ({ s with free := s.free + 1 }.setCanPort p c).setCanState p c.counted

/-- A frame is received; an attempt of the port's own has lost arbitration to it (R295, R299, R302). -/
def State.frameReceived (s : State) (p : Nat) (f : Frame) (ns : Nat) : State :=
  if !s.onBusOk p then s else
  let s := (s.leaveBus p).recSuccess p
  if f.rtr then s else (s.filterFrame p f ns).internalCopy p f

/-- RXQ_POP (R304). -/
def State.rxPop (s : State) (p q : Nat) : State :=
  s.modCanPort p fun c =>
    if q = 0 then { c with rx0 := { c.rx0 with q := c.rx0.q.drop 1 } } else { c with rx1 := { c.rx1 with q := c.rx1.q.drop 1 } }

/-- The latest change of a port's filters came at this instant (R300). -/
def State.stampFilters (s : State) (p now : Nat) : State :=
  s.modCanPort p fun c => match c.fltOld with
    | e :: rest => { c with fltOld := (now, e.2) :: rest }
    | [] => c

/-- FILTER_ENABLE (R300), at the start of the tick as far as the write tells. -/
def State.filterEnable (s : State) (p idx : Nat) (en : Bool) : State :=
  if p = 2 ∧ s.cSubst = true then s else
  s.modCanPort p fun c =>
    let c := c.keepFilters (s.nowNs 0)
    let other := c.fltEn &&& ~~~(BitVec.ofNat 32 (2 ^ idx))
    { c with fltSel := w16 (idx + 32 * b2n en), fltEn := if en then other ||| BitVec.ofNat 32 (2 ^ idx) else other }

/-! ## Success and errors (R294, R305 to R310) -/

/-- The frame as it stands on the bus: BRS on FD frames when `CAN_CTL.BRS_EN` is set (R279, R280). -/
def CanPort.sentFrame (c : CanPort) (i : Nat) : Frame :=
  let f := (c.mbox i).frame
  { f with
    brs := f.fdf && c.brsEn && (decide (i < 24) || f.brs), esi := f.fdf && c.st == .errorPassive
    data := f.data.take (dlcLen f.fdf f.dlc) }

/-- A waiting REF frame takes a new `T_PREV` (R323, R324). -/
def CanPort.refPrev (c : CanPort) (i ns : Nat) : CanPort :=
  let b := c.mbox i
  if !b.full then c else
  c.setMbox i { b with frame := { b.frame with data := b.frame.data.take 2 ++ leBytes 8 ns ++ b.frame.data.drop 10 } }

/-- The loop delay measured in a frame that the port sends with BRS while `CAN_TDC.EN` is set (R292). -/
def CanPort.measured (c : CanPort) (f : Frame) (tdc : Nat) : CanPort :=
  if fld c.tdc 0 1 = 1 ∧ f.brs = true then
    { c with meas := min tdc 255, tdcSat := c.tdcSat || decide (255 < min tdc 255 + fld c.tdc 1 7 + 1) }
  else c

/-- FRAME_TRANSMITTED (R292, R294, R296, R309, R310). -/
def State.frameTransmitted (s : State) (p tdc : Nat) : State :=
  let c := s.canPort p
  match c.onBus with
  | none => s
  | some (i, ns) =>
    let f := c.sentFrame i
    -- a REF frame that waits names the last one actually sent (R324)
    let c := if i < 2 then c.refPrev (1 - i) ns else c
    let c := { (c.measured f tdc).endLone with
      onBus := none
      tec := c.tec - 1, loneCnt := 0
      kept := none }
    let s := s.setCanPort p c
    let s := s.setCanState p c.counted
    -- a REF frame becomes the predecessor of the next (R323)
    let s := if i < 2 ∧ p < 2 then
        { s with time := { s.time with tx := Store.mod {} s.time.tx p fun t => { t with prev := some ((c.mbox i).refSeq, ns) } } }
      else s
    let s := if 24 ≤ i then s.hostDone p i 1 else s.modCanPort p (·.freeDevice i)
    -- in loopback the port receives what it sends (R286, R299)
    if c.mode = 3 ∨ c.mode = 4 then (s.filterFrame p f ns).internalCopy p f else s

def busErrorLec : BusError → Nat
  | .bitDom => 1 | .bitRec => 2 | .stuff => 3 | .form => 4 | .crcSeq => 5 | .crcCount => 6 | .ack => 7 | .resBit => 4

/-- The port goes bus-off (R307, R308). -/
def State.goBusOff (s : State) (p : Nat) (mb : Option Nat) : State :=
  let c := s.canPort p
  let s := s.setCanPort p { c.endLone with kept := mb, onBus := none, tec := min c.tec 255 }
  let s := (s.setCanState p .busOff).canAlarm p
  -- the node stops sending REF on the port, and listens again once it has recovered (R173)
  let s := if p < 2 then { s with time := { s.time with tx := Store.mod {} s.time.tx p fun t =>
      { t with sending := false, listen := true } } } else s
  if c.holdBo then s else s.setCanState p .recovering

/-- The error counters after an error, TEC then REC (R305; the rules of ISO 11898-1 are PRESUMED, log 26). A transmitter gains
8, a receiver 1, unless ISO 11898-1 excuses the error (`excused`: a recessive stuff bit read dominant in arbitration; a receiver's
bit error in its own error or overload flag); an error-passive transmitter gains nothing for an acknowledgement error. Each of
the `extra` events after it gives 8 more: bit errors in the flag, a dominant bit after a receiver's flag or in a passive
transmitter's flag, and every 8 dominant bits beyond the tolerated ones. -/
def CanPort.errorCounts (c : CanPort) (e : BusError) (tx excused : Bool) (extra : Nat) : Nat × Nat :=
  if tx then
    (c.tec + (if excused || (e == .ack && c.st == .errorPassive) then 0 else 8) + 8 * extra, c.recCnt)
  else (c.tec, min 255 (c.recCnt + (if excused then 0 else 1) + 8 * extra))

/-- A protocol exception: with `CAN_CTL.PEX` set, a receiver that reads the res bit recessive integrates anew, without an error
(R279; ISO 11898-1, PRESUMED, log 26). -/
def CanPort.exception (c : CanPort) (e : BusError) (tx : Bool) : Bool := e == .resBit && !tx && fld c.ctl 6 1 == 1

/-- The count of R309 has reached its limit: lone pacing begins (R310). -/
def State.loneCheck (s : State) (p : Nat) : State :=
  let c := s.canPort p
  let lim := fld c.loneLim 0 8
  if lim ≠ 0 ∧ lim ≤ c.loneCnt ∧ !c.lone ∧ c.mode = 0 then
    ((s.setCanPort p { c with lone := true, paceFrom := s.tick }).canEvent p false 0).canAlarm p
  else s

/-- BUS_ERROR without its failover (R292, R305, R306, R309, R310). -/
def State.busError (s : State) (p : Nat) (e : BusError) (dataPhase tx excused : Bool) (x : ErrTail) : State :=
  if !s.onBusOk p then s else
  -- an error met as a receiver: an attempt of the port's own had lost arbitration
  let s := if tx then s else s.leaveBus p
  let c := s.canPort p
  if c.exception e tx then s.setCanState p .integrating else
  let counts := c.mode = 0 ∨ c.mode ≥ 3
  let i := busErrorLec e - 1 + 7 * b2n dataPhase
  let (tec, rec) := c.errorCounts e tx excused x.extra
  let c := match if tx then c.onBus else none, x.delay with
    | some (i, _), some d => c.measured (c.sentFrame i) d
    | _, _ => c
  let c := { c with
    err := w16 (busErrorLec e + 16 * b2n dataPhase + 32 * b2n tx)
    errCnt := Store.mod 0 c.errCnt i satInc
    tec := if counts then min tec 255 else c.tec
    recCnt := if counts then rec else c.recCnt }
  let off := counts ∧ 255 < tec
  let mb := if tx then c.onBus.map Prod.fst else none
  let c := { c with
    onBus := if tx then none else c.onBus
    kept := if mb.isSome then none else c.kept
    loneCnt := if tx ∧ mb.isSome ∧ e = BusError.ack then c.loneCnt + 1 else c.loneCnt }
  let s := s.setCanPort p c
  -- one-shot frames and withdrawn frames end with the attempt
  let (s, mb) := match mb with
    | some i =>
      let b := c.mbox i
      if b.abort = true then (s.attemptFailed p i, none)
      else if 24 ≤ i ∧ b.oneshot = true then (s.hostDone p i 3, none)
      else (s, some i)
    | none => (s, none)
  if off then s.goBusOff p mb else
  (if counts then s.setCanState p (s.canPort p).counted else s).loneCheck p

/-! ## Registers and space 0xA -/

/-- `CAN_STAT` (R284, R305, R317). -/
def State.canStat (s : State) (p : Nat) : Word :=
  let c := s.canPort p
  let gone := p = 2 ∧ s.cSubst = true
  w16 ((if gone then 0 else (s.shownSt p).code) + 8 * (if gone then 5 else c.cause) + 64 * b2n (decide (96 ≤ c.tec ∨ 96 ≤ c.recCnt))
    + 128 * b2n c.lone + 256 * b2n c.subst + 512 * b2n s.candev.clkOk + 1024 * b2n c.tdcSat)

/-- Words of a frame's fixed part and data, in the layout of R468. -/
def frameWord (f : Frame) (cfg ts w : Nat) : Word :=
  if w < 2 then wordOf f.ident.toNat w
  else if w = 2 then w16 cfg
  else if w < 4 then 0
  else if w < 8 then wordOf ts (w - 4)
  else (wordsOfBytes f.data).getD (w - 8) 0

def frameCfg (f : Frame) : Nat := b2n f.ide + 2 * b2n f.fdf + 4 * b2n f.brs + 16 * f.dlc

/-- The head frame of a queue (R304). -/
def RxQueue.word (r : RxQueue) (w : Nat) : Word :=
  match r.q with
  | [] => 0
  | x :: _ => frameWord x.frame (frameCfg x.frame + 8 * b2n x.frame.esi + 256 * x.pair) x.ts w

/-- A word of space 0xA of a port (R468). -/
def State.canWord (s : State) (p a : Nat) : Word :=
  let c := s.canPort p
  if a < 0x500 then
    let b := c.mbox (a / 40)
    frameWord b.frame (frameCfg b.frame + 256 * b2n b.oneshot) b.ts (a % 40)
  else if a < 0x600 then
    let w := a - 0x500
    c.fltWord w ||| (if w % 8 = 4 ∧ bits c.fltEn.toNat (w / 8) 1 = 1 then 0x8000 else 0)
  else if a < 0x628 then c.rx0.word (a - 0x600)
  else if a < 0x650 then c.rx1.word (a - 0x628)
  else if a = 0x680 then c.done
  else if a = 0x681 then c.res
  else if a = 0x682 then w16 c.noMatch
  else if a = 0x683 then w16 c.rx0.lost
  else if a = 0x684 then w16 c.rx1.lost
  else if a = 0x685 then w16 c.badLen
  else if 0x686 ≤ a ∧ a < 0x694 then w16 (Store.get 0 c.errCnt (a - 0x686))
  else if a = 0x694 then w16 (min 65535 (s.candev.clkKhz / 2))
  else if a = 0x695 then c.refDelay
  else 0

/-- A read clears the counters of space 0xA (R8). -/
def State.canWordClear (s : State) (p a : Nat) : State :=
  s.modCanPort p fun c =>
    if a = 0x682 then { c with noMatch := 0 }
    else if a = 0x683 then { c with rx0 := { c.rx0 with lost := 0 } }
    else if a = 0x684 then { c with rx1 := { c.rx1 with lost := 0 } }
    else if a = 0x685 then { c with badLen := 0 }
    else if 0x686 ≤ a ∧ a < 0x694 then { c with errCnt := Store.set 0 c.errCnt (a - 0x686) 0 }
    else c

/-- Set bytes 2w and 2w + 1 of a mailbox's 64 data bytes. -/
def setDataWord (d : List Byte) (w : Nat) (v : Word) : List Byte :=
  let full := d ++ List.replicate (64 - d.length) 0
  (full.set (2 * w) (v.setWidth 8)).set (2 * w + 1) ((v >>> 8).setWidth 8)

/-- A write to a word of a host mailbox. -/
def Mailbox.write (b : Mailbox) (w : Nat) (v : Word) : Mailbox :=
  let f := b.frame
  if w = 0 then { b with frame := { f with ident := BitVec.ofNat 29 (f.ident.toNat / 65536 * 65536 + v.toNat) } }
  else if w = 1 then { b with frame := { f with ident := BitVec.ofNat 29 (v.toNat * 65536 + f.ident.toNat % 65536) } }
  else if w = 2 then
    { b with frame := { f with ide := fld v 0 1 == 1, fdf := fld v 1 1 == 1, brs := fld v 2 1 == 1, dlc := fld v 4 4 },
             oneshot := fld v 8 1 == 1 }
  else if 8 ≤ w then { b with frame := { f with data := setDataWord f.data (w - 8) v } }
  else b

/-- A write to a word of space 0xA (R296, R300, R317); writes to RO words have no effect. -/
def State.canWordWrite (s : State) (m : Master) (p a : Nat) (v : Word) : State :=
  if p = 2 ∧ s.cSubst = true then s else
  let c := s.canPort p
  if a < 0x500 then
    let i := a / 40
    let w := a % 40
    if i < 24 ∨ (4 ≤ w ∧ w < 8) ∨ w = 3 then s
    else if (c.mbox i).full then s.logIgnored m 0x100A a
    else s.setCanPort p (c.setMbox i ((c.mbox i).write w v))
  else if a < 0x600 then
    let w := a - 0x500
    if 4 < w % 8 then s
    else if bits c.fltEn.toNat (w / 8) 1 = 1 then s.logIgnored m 0x100A a
    else
      let old := c.fltWord w
      -- a field with a reserved encoding keeps its value (R10)
      let keep (x : Word) (lo : Nat) : Word := if fld x lo 2 = 3 then setFld x lo 2 (fld old lo 2) else x
      let bad := w % 8 = 4 ∧ (fld v 0 2 = 3 ∨ fld v 2 2 = 3 ∨ fld v 4 2 = 3)
      let v' := if w % 8 = 4 then keep (keep (keep (v &&& 0x003F) 0) 2) 4
                else if w % 8 = 1 ∨ w % 8 = 3 then v &&& 0x1FFF else v
      let s := s.setCanPort p { c.keepFilters (s.nowNs 0) with flt := Store.set (fltReset w) c.flt w v' }
      if bad then s.logIgnored m 0x100A a else s
  else if a = 0x680 then s.setCanPort p { c with done := c.done &&& ~~~v }
  else if a = 0x695 then s.setCanPort p { c with refDelay := v }
  else s

/-- A frame of the device: FEFF, BRS as the port is set when it is sent, padded to its data length (R280, R321). -/
def deviceFrame (ident : BitVec 29) (data : List Byte) : Frame :=
  let dlc := ((List.range 16).find? fun d => decide (data.length ≤ dlcLen true d)).getD 15
  { ident, ide := true, fdf := true, brs := true, dlc, data := data ++ List.replicate (dlcLen true dlc - data.length) 0 }

end Sys2Proof.Machine
end

