-- ==== Sys2Proof/Machine/Egress.lean ====
section
/-! DEFINITION. Egress of records: routing, staging, mailbox loading, failover and return (R274, R294, R311 to R314,
R434, R521), gap records (R276 to R278), and the commands of the ports that move traffic. -/

namespace Sys2Proof.Machine

open Sys2Proof

/-- Frames of a port's egress staging, of which 32 are the reserve of GAP messages (R274, R277). -/
def stagingSize : Nat := 1024
def gapReserve : Nat := 32

def isMoved (ty : MsgType) : Bool := ty == .alarm || ty == .gap || ty == .bead

/-- GAP frames in a port's staging. -/
def State.gapsStaged (s : State) (p : Nat) : Nat := ((s.canPort p).staging.filter fun r => r.ty == .gap).length

/-- A record of the type finds room in the port's staging. -/
def State.hasRoom (s : State) (p : Nat) (ty : MsgType) : Bool :=
  if ty = .gap then decide (s.gapsStaged p < gapReserve)
  else decide ((s.canPort p).staging.length - s.gapsStaged p < stagingSize - gapReserve)

/-- The port on which a type is at home (R312). -/
def State.homeOf (s : State) (ty : MsgType) : Nat :=
  if (ty = .trec ∨ ty = .capt) ∧ fld s.candev.ctl 1 1 = 1 then 1 else 0

/-- The port to whose staging a new record goes (R312, R313): `port` is 0, 1, or 2 for the home port. -/
def State.routeOf (s : State) (ty : MsgType) (port : Nat) : Nat :=
  if port < 2 then port else
  let h := s.homeOf ty
  if isMoved ty ∧ s.candev.active = some h ∧ (s.canPort h).staging.all (fun r => r.ty != ty) then 1 - h else h

def State.stageRec (s : State) (p : Nat) (r : Rec) : State :=
  s.modCanPort p fun c => { c with staging := c.staging ++ [r] }

/-! ## Failover (R313, R314, R521) -/

/-- Move what fits of the three types from the failed port to the other (R313). -/
def State.moveStaged (s : State) (p : Nat) : State :=
  (s.canPort p).staging.foldl (fun (acc : State × List Rec) r =>
    let (s, kept) := acc
    if isMoved r.ty ∧ kept.all (fun k => k.ty != r.ty) ∧ s.hasRoom (1 - p) r.ty = true then (s.stageRec (1 - p) r, kept)
    else (s, kept ++ [r])) (s, []) |> fun (s, kept) => s.modCanPort p fun c => { c with staging := kept }

/-- The frames of the three types in the device mailboxes, in pair order, but for the frame kept under R308. -/
def State.takeMailboxes (s : State) (p : Nat) : State :=
  let c := s.canPort p
  let ready (i : Nat) : Bool :=
    let b := c.mbox i
    b.full && c.kept != some i && (match b.record with | some r => isMoved r.ty | none => false)
  -- of a pair, the released frame precedes the held one
  let order (i : Nat) : List Nat := if (c.mbox (i + 1)).released && !(c.mbox i).released then [i + 1, i] else [i, i + 1]
  let is := ([2, 4, 6].flatMap order).filter ready
  let recs := is.filterMap fun i => (c.mbox i).record
  s.modCanPort p fun c =>
    let c := is.foldl (fun c i => c.setMbox i { c.mbox i with full := false, released := false, record := none }) c
    { c with staging := recs ++ c.staging }

/-- FAILOVER of a port (R313). -/
def State.failover (s : State) (p : Nat) : State :=
  let s := { s with candev := { s.candev with active := some p, waiting := s.candev.waiting.filter (· != p) } }
  let s := (s.takeMailboxes p).moveStaged p
  s.canEvent p true 0

/-- At the instant a port of A and B goes bus-off, or its controller fails (R313, R318); the port that serves the other one's
types fails over in its turn. -/
def State.failoverCheck (s : State) (p : Nat) : State :=
  if 2 ≤ p ∨ fld s.candev.ctl 0 1 = 0 ∨ s.candev.active = some p then s
  else if s.available (1 - p) then s.failover p
  else { s with candev := { s.candev with waiting := s.candev.waiting.filter (· != p) ++ [p] } }

/-- DEFERRED_FAILOVER (R313). -/
def State.deferredFailover (s : State) : State :=
  let ripe (p : Nat) : Bool := s.available (1 - p) && ((s.canPort p).st.off || (s.canPort p).failed)
  match s.candev.waiting.find? ripe with
  | none => s
  | some p => s.failover p

/-- The three types return home (R314). -/
def State.failoverEnd (s : State) : State := { s with candev := { s.candev with active := none } }

/-- FAILOVER_RETURN (R314). -/
def State.failoverReturn (s : State) : State :=
  match s.candev.active with
  | none => s
  | some p =>
    let c := s.canPort p
    if fld s.candev.ctl 2 1 = 1 ∧ c.st = .errorActive ∧ !c.failed ∧ s.candev.clkOk = true ∧ c.activeFrom + 4000 ≤ s.tick
    then s.failoverEnd else s

/-- A write of `CAN_FAILOVER` (R312 to R314, R521). -/
def State.failoverWrite (s : State) (v : Word) : State :=
  let s := { s with candev := { s.candev with
    ctl := v &&& 7, waiting := if fld v 0 1 = 0 then [] else s.candev.waiting } }
  if fld v 3 1 = 1 then s.failoverEnd else s

/-- BUS_ERROR (R305 to R310, R313). -/
def State.busErrorCmd (s : State) (p : Nat) (e : BusError) (dataPhase tx excused : Bool) (x : ErrTail) : State :=
  let was := (s.canPort p).st
  let s := s.busError p e dataPhase tx excused x
  if (s.canPort p).st.off ∧ !was.off then s.failoverCheck p else s

/-! ## Gap records (R276 to R278) -/

/-- The body of R276. -/
def gapBody (seq : Nat) (g : Loss) (made : Nat) : List Byte :=
  leBytes 2 seq ++ leBytes 2 g.first ++ leBytes 2 g.last ++ leBytes 6 (g.start % 2 ^ 48) ++ leBytes 4 g.len
    ++ leBytes 1 g.cause ++ leBytes 1 g.cons ++ leBytes 6 (made % 2 ^ 48)

/-- Merge a loss into the held record (R277). -/
def HeldGap.merge (h : HeldGap) (g : Loss) (made : Nat) : HeldGap :=
  let a := h.gap
  let start := min a.start g.start
  let stop := max (a.start + a.len) (g.start + g.len)
  { h with
    gap := { first := min a.first g.first, last := max a.last g.last, start, len := min (stop - start) (2 ^ 32 - 1)
             cause := 255, cons := if a.cons = g.cons then a.cons else 0 }
    made }

/-- The gap record as a frame record. -/
def State.gapRec (s : State) (seq : Nat) (g : Loss) (made : Nat) : Rec :=
  { ty := .gap, ident := mkIdent 2 2 s.ctl.station (g.cons * 1024 + g.first % 512), data := gapBody seq g made
    first := g.first, last := g.last, start := g.start, len := g.len, frame := s.tick / 4 }

/-- The record goes to the host-stream queue too while the host stream or a streamed capture runs (R277). -/
def State.streamGap (s : State) (seq : Nat) (g : Loss) (made : Nat) : State :=
  if s.cap.hsRun ∨ s.cap.st = .stream then s.stageGap { g with cause := 8 } (wordsOfBytes (gapBody seq g made)) else s

/-- Form the record of one loss (R277, R278). The held record goes to the host-stream queue when it is queued, whole. -/
def State.formGap (s : State) (g : Loss) : State :=
  let p := s.routeOf .gap 2
  let made := s.tick
  let s := if g.cause = 1 ∨ g.cause = 2 ∨ g.cause = 6 then
      s.logE 8 noMaster g.first (BitVec.ofNat 32 (g.cause * 2 ^ 24 + min g.len (2 ^ 24 - 1)))
    else s
  let waiting := (s.msg.out.filter fun x => x.2.ty == .gap).length
  match (s.canPort p).held with
  | some h => (s.modCanPort p fun c => { c with held := some (h.merge g made) }).irq0 5
  | none =>
    let seq := (s.msg.seq.gap + 1) % 65536
    let s := { s with msg := { s.msg with seq := { s.msg.seq with gap := seq } } }.irq0 5
    if gapReserve ≤ s.gapsStaged p + waiting then
      s.modCanPort p fun c => { c with held := some { gap := g, seq, made } }
    else
      let s := s.streamGap seq g made
      { s with msg := { s.msg with out := s.msg.out ++ [(2, s.gapRec seq g made)] } }

/-- Ticks that one record states at most: the span of a step, of a calibration and of a bead's wait is not divided but by
the range of `G_LEN` (R176, R230, R277, R360). -/
def Loss.limit (g : Loss) : Nat := if ownRecord g.cause then 2 ^ 32 - 1 else 4000

/-- The loss has ended, or has reached the limit of one record (R277). -/
def Loss.over (g : Loss) (now : Nat) : Bool := decide (g.until_ < now) || decide (g.limit ≤ g.len) || ownRecord g.cause

/-- GAP_RECORD: the oldest loss that has ended, or has reached 4,000 ticks, forms its record; what lies beyond the limit
begins a new one (R277). -/
def State.gapRecord (s : State) : State :=
  match s.msg.losses.findIdx? (·.over s.tick) with
  | none => s
  | some i =>
    match s.msg.losses[i]? with
    | none => s
    | some g =>
      let rest := if g.limit < g.len
        then s.msg.losses.set i { g with start := g.start + g.limit, len := g.len - g.limit } else s.msg.losses.eraseIdx i
      { s with msg := { s.msg with losses := rest } }.formGap { g with len := min g.len g.limit }

/-- GAP_HELD_RECORD_QUEUE: a reserved frame has freed (R277). -/
def State.gapHeldQueue (s : State) (p : Nat) : State :=
  match (s.canPort p).held with
  | none => s
  | some h =>
    if !s.hasRoom p .gap then s else
    match s.spend actEgr 3 with
    | none => s.stall actEgr
    | some s => ((s.modCanPort p fun c => { c with held := none }).stageRec p (s.gapRec h.seq h.gap h.made)).streamGap h.seq h.gap h.made

/-! ## Staging and loading (R274, R294, R311, R434) -/

/-- HOLD ends once the last chunk of the capture has been queued (R267). -/
def State.captSent (s : State) : State :=
  if s.cap.sending ∧ s.cap.st = .hold ∧ s.msg.out.all (fun x => x.2.ty != .capt) = true then s.endCapture else s

/-- EGRESS_STAGING: the oldest record formed is staged, is lost, or waits (R274, R434). -/
def State.egressStaging (s : State) : State :=
  match s.msg.out with
  | [] => s
  | (port, r) :: rest =>
    let s' := { s with msg := { s.msg with out := rest } }
    let p := s.routeOf r.ty port
    let cost := if r.ty = .bead then 0 else (r.data.length + 7) / 8
    -- the chunks of a held capture are formed from the ring as they are queued (R267)
    if r.ty ≠ .gap ∧ r.ty ≠ .bead ∧ ¬(r.ty = .capt ∧ s.cap.sending = true) ∧ r.frame + 1 < s.tick / 4 then (s'.loseRec r 5).captSent
    else match s'.spend actEgr cost with
      | none => s.stall actEgr
      | some t =>
        if t.hasRoom p r.ty then (t.stageRec p r).captSent
        else if r.ty = .gap then s
        else (t.loseRec r 4).captSent

/-- EGRESS_MAILBOX_LOAD: the first staged record whose pair has room moves into it (R294). What failed over waits for room on the
other port, and goes into no mailbox of its own port until the return (R313, R314). -/
def State.mailboxLoad (s : State) (p : Nat) : State :=
  let c := s.canPort p
  let s' :=
    if !s.available p then s else
    let moves (r : Rec) : Bool := s.candev.active == some p && isMoved r.ty
    match c.staging.findIdx? fun r => !moves r && (!(c.mbox (pairOf r.ty)).full || !(c.mbox (pairOf r.ty + 1)).full) with
    | none => s
    | some i =>
      match c.staging[i]? with
      | none => s
      | some r =>
        match s.spend actEgr 9 with
        | none => s.stall actEgr
        | some s =>
          let a := pairOf r.ty
          let j := if (c.mbox a).full then a + 1 else a
          let other := if j = a then a + 1 else a
          let b : Mailbox := { (c.mbox j) with
            frame := deviceFrame r.ident r.data, record := some r, full := true, released := !(c.mbox other).full }
          s.setCanPort p { (c.setMbox j b) with staging := c.staging.eraseIdx i }
  match s'.candev.active with
  | some f => if f = p then s' else s'.moveStaged f
  | none => s'

end Sys2Proof.Machine
end

