-- ==== Sys2Proof/Machine/Flags.lean ====
section
/-! DEFINITION. The flags of an output: the byte of R149 beside every sample word, and the conditions of CAL and STALE
(R5, R149, R150, R152). -/

namespace Sys2Proof.Machine

open Sys2Proof

/-- The base-rate samples of ticks `lo` to `hi` were not all corrected with the same offset, gain and scale (R150). -/
def State.calFlag (s : State) (n : Nat) (path : PathId) (range lo hi : Nat) : Bool :=
  let differs (t : Nat) : Bool := decide (lo < t ∧ t ≤ hi) && ([false, isZ n].any fun q =>
    s.corrAt n path range q 1 (t - 1) != s.corrAt n path range q 1 t)
  (s.cal.imgHist.map Prod.fst ++ s.cal.refHist.map Prod.fst).any differs

/-- `CHN_CTL.STALE_LIM` (R152). -/
def State.staleLim (s : State) : Nat := fld s.chain.ctl 0 4

/-- An output completed at tick `c` is formed more than the limit after its nominal instant (R149, R152). -/
def State.staleAt (s : State) (p : PendOut) (c : Nat) : Bool :=
  let late := (c - p.formTick) * 2048 + (formationTick p.aperture p.nout * 2048 - nominalForm2048 p.aperture p.nout)
  decide (s.staleLim * 8192 < late)

/-- The tick at which an output is completed: that of its formation, when its transfer alone was late; a later one, when it
is completed now and is STALE or more than a frame late (R134, R152, R438). -/
def State.completed (s : State) (p : PendOut) : Nat :=
  p.formed.getD (if s.staleAt p s.tick || decide (p.formTick + 4 < s.tick) then s.tick else p.formTick)

/-- The output is STALE (R149, R152). -/
def State.stale (s : State) (p : PendOut) : Bool := s.staleAt p (s.completed p)

/-- The formation tick: that of R134, or that of the actual completion when the output is STALE. -/
def State.formedAt (s : State) (p : PendOut) : Nat := if s.stale p then s.completed p else p.formTick

/-- A tick word completed at tick `c` is STALE: its nominal instant lies 187.5 µs after its aperture (R81, R149). -/
def State.staleWord (s : State) (p : TickPend) (c : Nat) : Bool := decide (s.staleLim * 16 + 3 < (c - p.aperture) * 4)

/-- The flag byte of R149. -/
def flagByte (settle clip fault spare cal gap stale rev : Bool) : Nat :=
  128 * b2n settle + 64 * b2n clip + 32 * b2n fault + 16 * b2n spare + 8 * b2n cal + 4 * b2n gap + 2 * b2n stale + b2n rev

/-- A sample word (R5). -/
def sampleWord (v : Int) (flags : Nat) : DWord := BitVec.ofInt 32 (v * 256 + (flags : Int))

end Sys2Proof.Machine
end

