-- ==== Sys2Proof/Machine/Time.lean ====
section
/-! DEFINITION. Corridor time (chapter 6): the state of the timebase, measurements from PPS and reference messages, slewing,
the decision of a step, holdover and its error, roles of the reference master, and the sources of a synchronising
reset. What a boundary does stands in `Tick`. -/

namespace Sys2Proof.Machine

open Sys2Proof

def TbState.code : TbState → Nat
  | .unset => 0 | .acquiring => 1 | .lockedPps => 2 | .lockedRef => 3 | .holdover => 4 | .free => 5

/-- `RefRx` and `RefTx` of a port. -/
def State.refRx (s : State) (p : Nat) : RefRx := Store.get {} s.time.rx p
def State.modRefRx (s : State) (p : Nat) (f : RefRx → RefRx) : State :=
  { s with time := { s.time with rx := Store.mod {} s.time.rx p f } }
def State.refTx (s : State) (p : Nat) : RefTx := Store.get {} s.time.tx p
def State.modRefTx (s : State) (p : Nat) (f : RefTx → RefTx) : State :=
  { s with time := { s.time with tx := Store.mod {} s.time.tx p f } }

/-- The port is selected for REF (R168). -/
def State.refSel (s : State) (p : Nat) : Bool := bits s.time.refCtl.toNat (5 + p) 1 == 1 && !(p == 2 && s.cSubst)

/-! ## Settings and the error estimate -/

/-- `TB_CTL` fields: step limit in ns, none for never (R175); slew limit in ns per s; time constant in s (R165). -/
def TimeSt.stepLimit (t : TimeSt) : Option Nat :=
  match fld t.ctl 5 2 with | 0 => none | 1 => some 100000 | 2 => some 1000000 | _ => some 10000000
def TimeSt.slewLimit (t : TimeSt) : Nat :=
  match fld t.ctl 7 2 with | 0 => 1000 | 1 => 10000 | 2 => 50000 | _ => 100000
def TimeSt.tau (t : TimeSt) : Nat := 4 ^ fld t.ctl 3 2

/-- A frequency correction within ±200 ppm less the slew limit in force (R155, R165). -/
def TimeSt.limitFreq (t : TimeSt) (f : Rat) : Rat :=
  let lim : Rat := ((200000 - t.slewLimit : Nat) : Rat)
  max (-lim) (min lim f)

/-- A write of `TB_CTL`: the correction in force keeps within the limit that a new slew limit leaves (R155, R165). -/
def State.tbCtlWrite (s : State) (w : Word) : State :=
  let t := { s.time with ctl := w }
  { s with time := { t with freq := t.limitFreq t.freq } }

/-- The lock window of the source in use, ns (R165). -/
def TimeSt.window (t : TimeSt) : Nat := if t.src = 1 then 250 else 1500

/-- The rms variation of the frequency correction over its last measurements, ns per s, at least 0.01 ppm (R177). -/
def TimeSt.freqRms (t : TimeSt) : Rat :=
  let n : Rat := (t.freqs.length : Rat)
  if t.freqs.length < 2 then 10 else
  let m := t.freqs.foldl (· + ·) 0 / n
  max 10 (sqrtR (t.freqs.foldl (fun a f => a + (f - m) * (f - m)) 0 / n))

/-- Seconds since holdover began. -/
def State.holdSeconds (s : State) : Rat := ((s.tick - s.time.holdFrom : Nat) : Rat) / 4000

/-- The estimated error in ns, rounded up; none when it is unknown (R174, R177, R178). -/
def State.errNs (s : State) : Option Nat :=
  let t := s.time
  let locked := if t.src = 1 then 250 else t.masterErr + 3000
  match t.state with
  | .unset => none
  | .free => none
  | .lockedPps => some locked
  | .lockedRef => some locked
  | .acquiring => some (locked + t.offset.natAbs)
  | .holdover =>
    let x := s.holdSeconds
    let d : Rat := if fld t.ctl 9 1 = 1 then 1 / 1000 else 1 / 10
    some (((t.holdE0 : Rat) + t.freqRms * x + d * x * x / 2).ceil.toNat)

/-- `TB_STAT.ERR_EXP` (R178). -/
def State.errExp (s : State) : Nat :=
  match s.errNs with
  | none => 15
  | some e => ((List.range 15).find? fun k => decide (e ≤ 2 ^ k * 250)).getD 15

/-- `TB_STAT`. -/
def State.tbStat (s : State) : Word :=
  w16 (s.time.state.code + 8 * s.time.src + 64 * b2n (s.time.slew != 0) + 128 * s.time.ppsRej + 512 * s.errExp)

/-- `TB_OFFSET`, saturating at ±32,767 ns (R175). -/
def State.tbOffset (s : State) : Word := w16i (max (-32767) (min 32767 s.time.offset))

/-- `TB_RATE`, in 0.01 ppm (R175). -/
def State.tbRate (s : State) : Word := w16i (max (-20000) (min 20000 (roundHalf (s.time.freq / 10))))

/-- `TB_HOLD` (R177). -/
def State.tbHold (s : State) : Word :=
  if s.time.state = .holdover then w16 (min 65535 (s.holdSeconds.floor.toNat)) else 0

/-- A selected port that has had a valid frame and has not missed 3 periods since. A port on which the device sends is not
followed (R170). -/
def State.refHeard (s : State) (p : Nat) : Bool :=
  s.refSel p && !(s.refTx p).sending && (s.refRx p).last.isSome && decide ((s.refRx p).missed < 3)

/-- Ports to follow, in the order of preference: those that deliver valid pairs, then the others that have not missed 3
periods, each in rank order (R168, R174). -/
def State.refPorts (s : State) : List Nat :=
  let heard := (List.range 3).filter s.refHeard
  heard.filter (fun p => (s.refRx p).pairs != 0) ++ heard.filter fun p => (s.refRx p).pairs == 0

/-- `REFM_STAT` (R170, R447): sending; following, also as a backup or master that hears a live master; or waiting. -/
def State.refmStat (s : State) : Word :=
  let sends := (List.range 2).any fun p => (s.refTx p).sending
  let role := if sends then 2 else if fld s.time.refCtl 0 2 = 0 ∨ !s.refPorts.isEmpty then 0 else 1
  let r := s.refRx s.time.refPort
  w16 (role + 4 * r.missed + 16 * r.mprio + 256 * r.mstation)

/-! ## States -/

/-- The timebase enters a state with a source (R158, R163, R326). -/
def State.setTb (s : State) (st : TbState) (src : Nat) : State :=
  let s := { s with time := { s.time with src, inWin := 0, outWin := 0 } }
  if s.time.state = st then s else
  let s := ({ s with time := { s.time with state := st, ppsRej := 0 } }).irq0 2
  s.alarm 6 objDevice (st.code + 16 * s.errExp)

/-- HOLDOVER begins (R174, R177). -/
def State.enterHoldover (s : State) : State :=
  let t := s.time
  let e0 := t.window + (if t.src = 1 then 0 else t.masterErr)
  ({ s with time := { t with holdFrom := s.tick, holdE0 := e0 } }).setTb .holdover 0

/-! ## Measurements -/

/-- Y and K for an offset `x` that is removed at once: Y is the first frame boundary of the corrected time at least 2 ms
after the instant `now`, K the last boundary of the old timeline before it (R160, R176). -/
def stepTarget (now : Nat) (x : Int) : Nat × Nat :=
  let c := ((now : Int) - x).toNat
  let y := (c + 2000000 + 999999) / 1000000 * 4
  (y, (((y * 250000 : Nat) : Int) + x - 1).toNat / 250000)

/-- The first measurement ends UNSET at Y (R160), counting as made at A when it comes before A (R475). -/
def State.decideCont (s : State) (now : Nat) (x : Int) (src : Nat) (st : TbState) : State :=
  if s.time.cont.isSome then s
  else if s.life.phase ≠ .settled then
    if s.time.early.isSome ∨ st = .free then s else { s with time := { s.time with early := some (x, src) } }
  else
    let (y, k) := stepTarget now x
    { s with time := { s.time with cont := some (y, k, st, src), contX := x, early := none } }

/-- A measured offset of the source in use: a step, or the loop and a slew (R165, R175). `mark` is what had been slewed
when the offset stood. -/
def State.steer (s : State) (now : Nat) (x : Int) (mark : Rat) : State :=
  let s := { s with time := { s.time with offset := x } }
  let t := s.time
  if t.step.isSome then s
  else if (match t.stepLimit with | none => false | some l => decide (l < x.natAbs)) then
    let (y, k) := stepTarget now x
    { s with time := { t with
        step := some (y, k, x), stepReq := t.syncReq.filter fun (r : Nat × Nat) => r.2 == 1 || r.2 == 3 } }
  else
    let f : Rat := t.limitFreq (t.freq - (x : Rat) / (t.tau : Rat))
    let inWin := if x.natAbs ≤ t.window then t.inWin + 1 else 0
    let outWin := if 2 * t.window < x.natAbs then t.outWin + 1 else 0
    let slew : Rat := (x : Rat) - (t.slewed - mark)
    let s := { s with time := { t with freq := f, freqs := (f :: t.freqs).take 64, slew, inWin, outWin } }
    match t.state with
    | .acquiring => if 4 ≤ inWin then s.setTb (if t.src = 1 then .lockedPps else .lockedRef) t.src else s
    | .lockedPps => if 4 ≤ outWin then s.setTb .acquiring t.src else s
    | .lockedRef => if 4 ≤ outWin then s.setTb .acquiring t.src else s
    | _ => s

/-- PPS_EDGE (R162 to R164). -/
def State.ppsEdge (s : State) (falling : Bool) (width ns : Nat) : State :=
  let t := s.time
  let now := s.nowNs ns
  let early := match t.ppsLast with | none => false | some l => decide (now < l + 900000000)
  if fld t.ctl 0 1 = 0 ∨ (fld t.ctl 1 1 == 1) ≠ falling ∨ width < 1000 ∨ early = true then s else
  match s.errNs with
  | none => s
  | some e =>
    if 250000000 ≤ e then s else
    let x : Int := (now : Int) - (((now + 500000000) / 1000000000 * 1000000000 : Nat) : Int)
    if t.state = .lockedPps ∧ 10000 < x.natAbs then
      { s with time := { t with ppsRej := min 3 (t.ppsRej + 1) } }
    else
      let s := { s with time := { t with ppsLast := some now, ppsRej := 0 } }
      let s := if t.src = 1 then s else s.setTb .acquiring 1
      s.steer now x s.time.slewed

/-- Follow REF on a port: its master's error and its code of `TB_STAT.SRC`. -/
def State.followRef (s : State) (p : Nat) : State :=
  { s with time := { s.time with refPort := p, masterErr := (s.refRx p).err } }

/-- The port in use is no longer one to follow: the next selected port, else HOLDOVER (R168, R174). -/
def State.leaveRef (s : State) : State :=
  if s.time.src ≠ 2 + s.time.refPort ∨ s.unset = true ∨ s.refHeard s.time.refPort = true then s else
  match s.refPorts with
  | q :: _ =>
    let s := s.followRef q
    { s with time := { s.time with src := 2 + q } }
  | [] => s.enterHoldover

/-- Withdraw the REF frame that a port holds unsent in mailbox 0 or 1; one on the bus has this attempt alone (R324). -/
def CanPort.withdrawRef (c : CanPort) : CanPort :=
  (List.range 2).foldl (fun (c : CanPort) i =>
    if c.onBus.map Prod.fst = some i then c.setMbox i { c.mbox i with abort := true } else c.freeDevice i) c

/-- A port stops sending REF at once: the frame that still waits in its mailbox is not sent (R170, R172). -/
def State.stopRef (s : State) (p : Nat) : State :=
  if !(s.refTx p).sending then s else
  (s.modCanPort p CanPort.withdrawRef).modRefTx p fun t => { t with sending := false }

/-- A write of `REFM_CTL`: a port that is no longer selected is left, and what may no longer send stops (R168, R170). -/
def State.refCtlWrite (s : State) (w : Word) : State :=
  let s := { s with time := { s.time with refCtl := w } }
  let role := fld w 0 2
  let s := (List.range 2).foldl (fun s p =>
    if s.refSel p && (role == 2 || (role == 1 && (s.refRx p).lost)) then s else s.stopRef p) s
  s.leaveRef

/-- A write of `REFM_PERIOD`, in force from the first multiple of the new period on (R171). -/
def State.refPeriodWrite (s : State) (w : Word) : State := { s with time := { s.time with refPeriodNew := some w } }

/-- A period that waits takes effect at a multiple of its own (R171). -/
def State.periodTick (s : State) : State :=
  match s.time.refPeriodNew with
  | some w =>
    if s.tick % (4 * w.toNat) = 0 then { s with time := { s.time with refPeriod := w, refPeriodNew := none } } else s
  | none => s

/-- PPS_LOST (R163, R164). -/
def State.ppsLost (s : State) : State :=
  let due := match s.time.ppsLast with | none => true | some l => decide (l + 3000000000 < s.nowNs 250000)
  if s.time.src ≠ 1 ∨ !due then s else
  match s.refPorts.find? fun p => (s.refRx p).pairs != 0 with
  | some p => (s.followRef p).setTb .acquiring (2 + p)
  | none => s.enterHoldover

/-- A valid pair on port `p` has given the offset `x` (R160, R161, R164, R168, R174). -/
def State.refMeasure (s : State) (p now : Nat) (x : Int) (mark : Rat) : State :=
  match s.time.state with
  | .unset =>
    let s := { s with time := { s.time with offset := x } }
    if s.time.cont.isSome ∨ s.time.early.isSome then s else (s.followRef p).decideCont now x (2 + p) .acquiring
  | .free => ((s.followRef p).setTb .acquiring (2 + p)).steer now x mark
  | .holdover => ((s.followRef p).setTb .acquiring (2 + p)).steer now x mark
  | _ =>
    if s.time.src = 1 then
      if s.refPorts.head? = some p then { s with time := { s.time with offset := x } }.followRef p else s
    else if p = s.time.refPort then (s.followRef p).steer now x mark
    else if p < s.time.refPort ∧ 4 ≤ (s.refRx p).pairs then
      let s := s.followRef p
      { s with time := { s.time with src := 2 + p } }.steer now x mark
    else s

/-! ## Synchronising resets: sources (R179 to R182) -/

/-- A source resolves to tick boundary `y`; ignored in UNSET (R159). -/
def State.requestSync (s : State) (y src : Nat) : State :=
  if s.unset then s else { s with time := { s.time with syncReq := s.time.syncReq ++ [(y, src)] } }

/-- Clear the armed target (R180). -/
def State.clearArmed (s : State) : State :=
  { s with time := { s.time with
      armed := none, syncReq := s.time.syncReq.filter fun (r : Nat × Nat) => r.2 != 1 && r.2 != 3 } }

/-- A target is armed: it replaces the one before (R180, R182). -/
def State.armSync (s : State) (y src : Nat) : State :=
  let s := s.clearArmed
  ({ s with time := { s.time with armed := some y } }).requestSync y src

/-- The value with the low `n` bits `low` that lies nearest the tick `k`; none below 0. Of two as near it is the one behind, so
that the arm is late: R180 does not say (DESIGN CHOICE, log 238). -/
def nearest (n low k : Nat) : Option Nat :=
  let d := (low + 2 ^ n - k % 2 ^ n) % 2 ^ n
  if d < 2 ^ (n - 1) then some (k + d) else if 2 ^ n - d ≤ k then some (k - (2 ^ n - d)) else none

/-- SYNC_NOW (R179, R180). -/
def State.syncNow (s : State) : State := s.requestSync (s.tick + 1) 0

/-- SYNC_ARM (R159, R180). -/
def State.syncArm (s : State) : State :=
  if s.unset then s else
  match nearest 32 s.time.syncAt s.tick with
  | some y => if y < s.tick + 8 then { s with time := { s.time with syncLate := true } } else s.armSync y 1
  | none => { s with time := { s.time with syncLate := true } }

/-- SYNC_CANCEL (R180). -/
def State.syncCancel (s : State) : State := s.clearArmed

/-- A write of `SYNC_CTL`: CANCEL, ARM, NOW act in this order (R180). -/
def State.syncCtlWrite (s : State) (v : Word) : State :=
  let s := { s with time := { s.time with syncCtl := v &&& 0x78 } }
  let s := if fld v 2 1 = 1 then s.syncCancel else s
  let s := if fld v 1 1 = 1 then s.syncArm else s
  if fld v 0 1 = 1 then s.syncNow else s

/-- SYNC_LAND_EDGE (R179, R181). -/
def State.syncLandEdge (s : State) (falling : Bool) (width ns : Nat) : State :=
  let t := s.time
  let now := s.nowNs ns
  let early := match t.syncEdge with | none => false | some l => decide (now < l + 1000000)
  if fld t.syncCtl 3 1 = 0 ∨ (fld t.syncCtl 4 1 == 1) ≠ falling ∨ width < 1000 ∨ early = true ∨ s.unset = true then s else
  ({ s with time := { t with syncEdge := some now } }).requestSync ((now + 250000 + 249999) / 250000) 2

/-- A follower arms the target of a REF frame (R182). -/
def State.refSync (s : State) (tick48 : Nat) : State :=
  if fld s.time.syncCtl 5 1 = 0 ∨ s.unset = true then s else
  match nearest 48 tick48 s.tick with
  | some y =>
    if y < s.tick + 8 ∨ s.time.refTgt = some y then s
    else { s with time := { s.time with refTgt := some y } }.armSync y 3
  | none => s

/-! ## Reference messages -/

/-- Rank of a sender: the smaller ranks higher (R172). -/
def refRank (prio station : Nat) : Nat := prio * 256 + station

/-- The timebase takes its copy of a REF frame that the port received (R167, R168, R172, R182, R301, R322). -/
def State.refCopy (s : State) (p : Nat) (fr : Frame) (ns valid : Nat) : State :=
  let d := fun i n => leNat ((fr.data.drop i).take n)
  if !s.onBusOk p ∨ (s.canPort p).mode = 4 ∨ idType fr ≠ 0 ∨ !s.refSel p ∨ fr.rtr = true ∨ !fr.ide
      ∨ !fr.fdf ∨ fr.data.length < 24 then s else
  let prio := d 12 1 % 8
  let station := idStation fr
  let rank := refRank prio station
  let higher := decide (rank < refRank (fld s.time.refCtl 2 3) s.ctl.station)
  let tx := s.refTx p
  -- a sender that hears a higher rank stops at once; another does not follow on the port (R170, R172)
  let s := if higher then (s.stopRef p).modRefTx p fun t => { t with quietFrom := s.tick } else s
  if tx.sending ∧ !higher then s else
  let r := s.refRx p
  let other := r.mprio ≠ prio ∨ r.mstation ≠ station
  -- a backup that waits to send goes on waiting when the frame comes from a lower rank; it then takes over by rank.
  -- The master followed is the highest rank heard, until its periods are missed (R172)
  if r.last.isSome ∧ other ∧ r.missed < 3 ∧ refRank r.mprio r.mstation < rank then s else
  let r := if other then { r with last := none, pairs := 0 } else r
  let seq := d 0 2
  let tPrev := d 2 8
  let paired := match r.last with | some (q, _) => decide ((q + 1) % 65536 = seq ∧ tPrev ≠ 2 ^ 64 - 1) | none => false
  let new : RefRx := { r with
    last := some (seq, ns), mark := s.time.slewed, period := max 1 (d 10 2), missed := 0, lost := r.lost && !higher
    pairs := if paired then r.pairs + 1 else 0, mprio := prio, mstation := station, err := d 20 4 }
  let s := s.modRefRx p fun _ => new
  let s := if d 12 1 / 128 % 2 = 1 then s.refSync (d 14 6) else s
  match r.last with
  | some (_, ns0) =>
    if paired then s.refMeasure p valid ((ns0 : Int) - ((tPrev : Int) + ((s.canPort p).refDelay.toNat : Int))) r.mark else s
  | none => s

/-- REF_FRAME_RECEIVE: the frame reaches the queues as any other, and the timebase takes its copy (R301, R302). -/
def State.refFrame (s : State) (p : Nat) (fr : Frame) (ns valid : Nat) : State :=
  (s.frameReceived p fr ns).refCopy p fr ns valid

/-- REF_PERIOD_MISSED (R168, R171, R172, R174). -/
def State.refMissed (s : State) (p : Nat) : State :=
  let r := s.refRx p
  match r.last with
  | none => s
  | some (_, ns) =>
    if !s.refSel p ∨ 3 ≤ r.missed ∨ s.nowNs 250000 ≤ ns + r.period * 1500000 + r.missed * r.period * 1000000 then s else
    let m := r.missed + 1
    let s := s.modRefRx p fun r => { r with missed := m, lost := r.lost || decide (m = 3), pairs := if m = 3 then 0 else r.pairs }
    s.leaveRef

/-- The port may send REF: A and B alone, selected, the timebase out of UNSET, the role and the port's mode allowing it (R170,
R173, R287). -/
def State.mayRef (s : State) (p : Nat) : Bool :=
  decide (p < 2) && s.refSel p && fld s.time.refCtl 0 2 != 0 && s.portSends p && !s.unset && !(s.canPort p).st.off && !(s.canPort p).failed

/-- Ticks of 3.5 periods of the device's own. -/
def State.listenTicks (s : State) : Nat := s.time.refPeriod.toNat * 14

/-- REF_SENDER_START (R170, R172, R173): at a multiple of the device's own period. The port is then no port to follow, and the
device turns to its other port at once. A master may start between two frames of a higher-ranked sender whose period
exceeds 3.5 of its own: R172's first rule lets it, its last one says it never sends (DESIGN CHOICE, log 237). -/
def State.refSenderStart (s : State) (p : Nat) : State :=
  let t := s.refTx p
  let quiet := decide (t.quietFrom + s.listenTicks ≤ s.tick)
  let role := fld s.time.refCtl 0 2
  let ok := (role == 2 && quiet) || (role == 1 && (s.refRx p).lost && (!t.listen || quiet))
  if t.sending ∨ !s.mayRef p ∨ !ok ∨ s.tick % (4 * s.time.refPeriod.toNat) ≠ 0 then s else
  (s.modRefTx p fun t => { t with sending := true, listen := false }).leaveRef

/-- The payload of R323. -/
def State.refBody (s : State) (p : Nat) : List Byte :=
  let t := s.refTx p
  let valid := fld s.time.syncCtl 6 1 == 1 && s.time.armed.isSome
  leBytes 2 t.seq ++ leBytes 8 (match t.prev with | some (_, ns) => ns | none => 2 ^ 64 - 1)
    ++ leBytes 2 s.time.refPeriod.toNat
    ++ leBytes 1 (fld s.time.refCtl 2 3 + 16 * s.time.state.code + 128 * b2n valid)
    ++ leBytes 1 s.errExp ++ leBytes 6 ((if valid then s.time.armed.getD 0 else 0) % 2 ^ 48)
    ++ leBytes 4 (match s.errNs with | some e => min e (2 ^ 32 - 1) | none => 2 ^ 32 - 1)

/-- REF_SEND (R171, R323, R324): at a multiple of the period the frame goes directly into mailbox 0 or 1; one still unsent is
withdrawn, and one on the bus has this attempt alone. -/
def State.refSend (s : State) (p : Nat) : State :=
  let t := s.refTx p
  if !t.sending ∨ !s.mayRef p ∨ s.tick % (4 * s.time.refPeriod.toNat) ≠ 0 ∨ t.sentAt = some s.tick then s else
  let c := (s.canPort p).withdrawRef
  let i := if c.onBus.map Prod.fst = some 0 then 1 else 0
  let fr := deviceFrame (mkIdent 0 0 s.ctl.station 0) (s.refBody p)
  let c := c.setMbox i { frame := fr, full := true, released := true, refSeq := t.seq }
  (s.setCanPort p c).modRefTx p fun t => { t with seq := (t.seq + 1) % 65536, sentAt := some s.tick }

/-- FREE_ENTRY (R161): UNSET for 10 s with `TB_CTL.FREE`. -/
def State.freeRun (s : State) : State :=
  if s.time.state = .unset ∧ fld s.time.ctl 2 1 = 1 ∧ s.time.unsetFrom + 40000 ≤ s.tick then
    s.decideCont (s.nowNs 0) 0 0 .free
  else s

end Sys2Proof.Machine
end

