-- ==== Sys2Proof/Machine/Output.lean ====
section
/-! DEFINITION. Outputs: what is fixed at an output's aperture, what its formation computes and which consumers receive it
(R16, R34, R35, R42, R44, R57, R81 to R85, R98, R99, R124 to R153, R330 to R332). -/

namespace Sys2Proof.Machine

open Sys2Proof

/-! ## At the aperture -/

/-- The chains run: from L until a fatal error (R159, R473). -/
def State.chainsRun (s : State) : Bool := s.ready

/-- A calibration run has the facet's own path or driver away without a stand-in (R360). -/
def State.calGap (s : State) (n : Nat) : Bool :=
  match s.cal.run with
  | some r => r.target == n && r.gapFrom.isSome
  | none => false

/-- The settling stages that the facet's outputs count: unpublished outputs still to come, one fewer (R61, R359, R398,
R399). -/
def FacetRT.countSettling (f : FacetRT) : FacetRT :=
  { f with
    rangeChg := f.rangeChg.map fun (r : RangeChg) => { r with left := r.left - 1 }
    swap := f.swap.map fun (w : Swap) => { w with left := w.left - 1 } }

/-- The fade position of the output with aperture `k`: counted from the start of the last fade, until a synchronising reset
(R141, R142, R145, R147). -/
def State.fadePos (s : State) (f : FacetRT) (k : Nat) : Option (Nat × Fade) :=
  match s.chain.lastFade with
  | some fd =>
    if fd.start ≤ k ∧ (s.chain.fade.isSome ∨ f.fadeJ.isSome) then some (f.fadeJ.getD 0 + 1, fd) else none
  | none => none

/-- What an output of a continuous facet with aperture `k` is, as its tick ends (R124, R134, R141, R149). -/
def State.pendOf (s : State) (n k : Nat) : PendOut :=
  let f := s.facet n
  let b := s.blkA n
  { aperture := k, nout := b.nout, formTick := formationTick k b.nout
    settle := !f.settle.isEmpty, spare := f.spareNow, excrev := !isZ n && reversed b k
    range := rangeOf n b, path := f.serving, driver := f.driver, slot := contSlot b
    fade := s.fadePos f k
    bank := s.chain.bank, gen := s.coefGen, sh := s.chain.shActive, trac := s.chain.trac
    notch := b.notch, notchOld := f.notchOld
    zeroBefore := f.clearOf f.serving, withheld := s.calGap n, live := s.time.acquiring
    short := b.type == 0 || f.isolated
    trec := b.trecDiv != 0 && k % (b.nout * b.trecDiv) == 0 }

/-- What a tick word of a scheduled facet with aperture `k` is, as its tick ends (R81, R83). -/
def State.tickPendOf (s : State) (n k : Nat) : TickPend :=
  let f := s.facet n
  let b := s.blkA n
  let (j, off) := slotAt b ((k - f.anchor) % max 1 (cycleLen b))
  { aperture := k, formTick := k + 1, slot := j, first := off == 0, range := b.zRange j, path := f.serving, spare := f.spareNow
    settle := !f.settle.isEmpty, short := b.type == 0 || f.isolated
    zeroBefore := f.clearOf f.serving
    live := s.time.acquiring && !s.calGap n }

/-- Pending outputs stand in the order of their formation ticks: one at a smaller N_out may be formed before older ones (R134,
R148). -/
def insertPend (p : PendOut) (l : List PendOut) : List PendOut :=
  l.takeWhile (fun q => decide (q.formTick ≤ p.formTick)) ++ p :: l.dropWhile (fun q => decide (q.formTick ≤ p.formTick))

/-- The tick `k` of a facet in scheduled operation ends: where it holds a cycle's aperture, that fixes what the cycle output
carries (R84, R87, R330, R360). -/
def State.cycleAperture (s : State) (n k : Nat) : FacetRT :=
  let f := s.facet n
  let b := s.blkA n
  let c := max 1 (cycleLen b)
  if k < f.anchor ∨ (k - f.anchor) % c ≠ c / 2 then f else
  let cyc := (k - f.anchor) / c + 1
  let m : CycMark := { cyc, settle := !f.settle.isEmpty, withheld := s.calGap n, trec := b.trecDiv != 0 && cyc % b.trecDiv == 0 }
  { f.countSettling with settle := passWindows f.settle, cycMarks := f.cycMarks ++ [m] }

/-- The tick `k` of facet `n` ends: an output whose aperture it holds becomes pending (R134). -/
def State.apertureOf (s : State) (n k : Nat) : FacetRT :=
  let f := s.facet n
  let b := s.blkA n
  if scheduled n b then
    { s.cycleAperture n k with tickPend := if s.repeated k then f.tickPend else f.tickPend ++ [s.tickPendOf n k] }
  else if k % b.nout ≠ 0 then f else
  let p := s.pendOf n k
  { f.countSettling with
    pend := if s.repeated k then f.pend else insertPend p f.pend
    settle := passWindows f.settle
    fadeJ := match s.fadePos f k with
      | some x => some x.1
      | none => f.fadeJ }

/-- Tick `k` holds an output's aperture of the facet (R84, R124). -/
def State.apertureAt (s : State) (n k : Nat) : Bool :=
  let b := s.blkA n
  if scheduled n b then
    let c := max 1 (cycleLen b)
    decide ((s.facet n).anchor ≤ k ∧ (k - (s.facet n).anchor) % c = c / 2)
  else k % b.nout == 0

/-- Count one unpublished output of the run's stand-in or own path (R359). -/
def State.countCal (s : State) (n : Nat) : State :=
  match s.cal.run with
  | some r => if r.target = n ∧ (r.phase = 1 ∨ r.phase = 4) then
      { s with cal := { s.cal with run := some { r with left := r.left - 1 } } } else s
  | none => s

/-- Every facet's part of the end of tick `k`. -/
def State.apertures (s : State) (k : Nat) : State :=
  if !s.chainsRun then s else
  let s := match s.cal.run with
    | some r => if r.target < 512 ∧ s.apertureAt r.target k = true then s.countCal r.target else s
    | none => s
  { s with facets := Store.build {} 512 fun n => s.apertureOf n k }

/-! ## One chain -/

/-- Taps before the centre of the window of an output, in half modulator periods ÷ 2: the modulator bits at and after
instant `y` ticks, counted from the end of the window (R123, R124, R146). -/
def bitsFrom (k nout y : Nat) : Nat := (((k : Int) - y) * 512 + 6398 + (2 * nout - 1) * 512).toNat

/-- Ticks rounded up to a multiple of `n`, in units of `n`. -/
def ceilDiv (x : Int) (n : Nat) : Int := (x + n - 1) / (n : Int)

/-- The coefficients of stage 2 at the base-rate sample `d` ticks after the aperture of the output: those of its bank, or of
the fade that the sample lies in (R137, R141, R142). -/
def PendOut.mixAt (p : PendOut) (d : Int) : Mix :=
  let k : Int := p.aperture + d
  let own : Mix := match p.fade with
    | some (j, fd) =>
      let m : Int := j + ceilDiv k p.nout - p.aperture / p.nout
      { src := fd.source, tgt := fd.target, gen := fd.gen, len := fd.len, j := if k < fd.start then 0 else min fd.len m.toNat }
    | none => { src := p.bank, tgt := p.bank, gen := p.gen }
  match p.later with
  | some fd =>
    if k < fd.start then own else
    let m : Int := ceilDiv k p.nout - ceilDiv fd.start p.nout + 1
    { src := fd.source, tgt := fd.target, gen := fd.gen, len := fd.len, j := min fd.len m.toNat }
  | none => own

/-- The coefficients of the output decimator at an output (R141). -/
def PendOut.outMix (p : PendOut) : Mix :=
  match p.fade with
  | some (j, fd) => { src := fd.source, tgt := fd.target, gen := fd.gen, len := fd.len, j := min fd.len j }
  | none => { src := p.bank, tgt := p.bank, gen := p.gen }

/-- Notches enabled at the base-rate sample `d` ticks after the aperture (R148). -/
def PendOut.notchAt (p : PendOut) (d : Int) : Nat :=
  match (p.notchOld.filter fun e => decide ((p.aperture : Int) + d < e.1)).getLast? with
  | some e => e.2
  | none => p.notch

/-- The sensed excitation of the base-rate sample `d` ticks after the aperture (R44). -/
def senseAt (o : OutIn) (nout : Nat) (d : Int) : Rat :=
  let back : Int := 2 * nout - 1 - d
  if back < 0 then o.sense else o.senses.reverse.getD back.toNat o.sense

/-- The ratio of R44 for the base-rate sample `d` ticks after the aperture, by the excitation and the setting of its own
aperture; below 10 % of its nominal value the nominal one is used (R45). -/
def State.ratioAt (s : State) (n : Nat) (p : PendOut) (o : OutIn) (d : Int) : Rat :=
  let k := (p.aperture + d).toNat
  let b := s.blkAt n k
  if isZ n ∨ !b.ratio then 1 else
  let v := senseAt o p.nout d
  let x := if excUv b.mode = 0 then v else v * f32R (s.imgAt k (senseAddr n p.driver))
  let nom : Rat := if excUv b.mode = 0 then iNom b else eNom b
  if x * 10 < nom ∨ x = 0 then 1 else nom / x

/-- What the chain needs to know of an output over `len` modulator bits (R42, R126, R141, R146, R148). -/
def State.chainCfg (s : State) (n : Nat) (p : PendOut) (q : Bool) (o : OutIn) (len : Nat) : ChainCfg :=
  let lead (y : Nat) : Nat := len - min len (bitsFrom p.aperture p.nout y)
  let zero := p.zeroBefore.filter fun y => decide (y ≤ p.aperture)
  { nout := p.nout, sh := p.sh, trac := p.trac, out := p.outMix, mix := p.mixAt
    corr := fun d => s.corrAt n p.path p.range q (s.ratioAt n p o d) (p.aperture + d).toNat
    notch := p.notchAt
    zeroAt := zero.map fun y => (y : Int) - p.aperture
    zeroBits := match zero with | some y => lead y | none => 0
    rev := fun d => !isZ n && (let k := (p.aperture + d).toNat; reversed (s.blkAt n k) k)
    rescale := p.rescale.map fun (r : Nat × Int) => (lead r.1, r.2) }

/-- The value of one chain at an output, and its CLIP (R34, R35, R123 to R128, R141, R146). A level stands for the sample of
the aperture. -/
def State.chainValue (s : State) (n : Nat) (p : PendOut) (q : Bool) (o : OutIn) (c : ChainIn) : Int × Bool :=
  match c with
  | .level v ovl =>
    let corr := s.corrAt n p.path p.range q (s.ratioAt n p o 0) p.aperture
    let r := satF 24 (corr.apply ((if p.short then 0 else v) * 8388608 / fsOf n p.range) + 1 / 2).floor
    (r.1, r.2 || ovl)
  | .bits bs ovl =>
    let r := s.runChain (s.chainCfg n p q o bs.length) bs
    (r.1, r.2 || ovl)

/-! ## Consumers -/

/-- An output, formed. -/
structure Formed where
  aperture : Nat
  /-- ticks that it stands for: N_out, or C -/
  unit : Nat
  /-- the sample word, or the I word; the Q word -/
  i : DWord
  q : DWord
  eng : DWord
  /-- flags of the value (R95, R149) -/
  flags : Nat
  /-- words for capture and the host stream -/
  words : List DWord
  formTick : Nat
  /-- selected for time records (R330) -/
  trec : Bool := false
  tsub : Bool := false
deriving DecidableEq, Repr

/-- The word that time records and reads carry (R98, R332). -/
def Formed.word (n : Nat) (x : Formed) : DWord := if isZ n then x.q else x.i

/-- Add an entry to its group (R331). -/
def addEntry (gs : List (Nat × Nat × List TrecEntry)) (ap form : Nat) (e : TrecEntry) :
    List (Nat × Nat × List TrecEntry) :=
  if gs.any (fun g => g.1 == ap && g.2.1 == form) then
    gs.map fun g => if g.1 == ap && g.2.1 == form then (g.1, g.2.1, g.2.2 ++ [e]) else g
  else gs ++ [(ap, form, [e])]

/-- The flags of an output that another facet or a comparator judges. -/
def OutRec.settled (o : OutRec) : Bool := bits o.i.toNat 7 1 == 0

/-- An output reaches its consumers (R16, R159, R259): reads always; the others once the device acquires. -/
def State.publish (s : State) (n : Nat) (x : Formed) (live : Bool) : State :=
  let f := s.facet n
  let s := s.setFacet n { f with
    prev := f.last, older := (f.prev :: f.older).take olderKept, gapEdge := false
    last := { i := x.i, q := x.q, eng := x.eng, aperture := x.aperture, formTick := x.formTick, valid := true } }
  if !live then s else
  let s := if x.trec then
      let e : TrecEntry := { facet := n, word := x.word n, eng := x.eng, unit := x.unit }
      { s with msg := { s.msg with group := addEntry s.msg.group x.aperture x.formTick e } } else s
  let s := (s.captureWords n x.aperture x.words).hsWords n x.aperture x.words
  let s := s.beadIntake n x.aperture x.unit x.eng (w16 x.flags) false x.tsub
  let prev := if !f.last.valid then none else if f.last.settled then some f.last.eng else some qnan
  s.freshOut n x.aperture x.eng (bits x.flags 7 1 == 1) prev x.unit

/-- Slot words and results of the Z result block (R99, R457). -/
def slotWords (xs : List SlotIn) (os : List SlotOut) (j : Nat) : List DWord :=
  match xs.find? (fun x => x.j == j), os.find? (fun o => o.j == j) with
  | some x, some o =>
    [sampleWord x.i x.flags, sampleWord x.q x.flags, deliverO o.g, deliverO o.b, deliverO o.e1, deliverO o.e2,
      deliverO o.rho]
  | _, _ => List.replicate 7 0

/-- The block is updated once for each output (R99). -/
def State.zResult (s : State) (n aperture : Nat) (m : Moist) (xs : List SlotIn) (os : List SlotOut) : State :=
  s.modFacet n fun f => { f with
    zStat := m.zstat
    zres := { seqLead := (f.zres.seqLead + 1) % 65536, seqTrail := (f.zres.seqTrail + 1) % 65536
              aperture := aperture % 2 ^ 48, anchor := f.anchor % 2 ^ 48, zstat := m.zstat
              m := deliverO m.m, eng := m.eng, t := deliverO (some m.t)
              slots := (List.range 4).map (slotWords xs os) } }

/-! ## Tick words of scheduled operation (R81 to R83) -/

/-- The mean of the four stage-1 outputs of a tick word in LSB of its range, from the modulator bits of its window: each has
the DC gain 2^21, and +FS is a mean bit value of +0.5 (R77, R81, R127). -/
def tickSum (bs : List Bool) (lead : Nat) : Int :=
  let x : List Int := bs.mapIdx fun i b => if i < lead then 0 else if b then 1 else -1
  2 * ((windows 382 128 x).map (dot (boxPow 3))).foldl (· + ·) 0

/-- One chain's tick word. -/
def State.tickValue (s : State) (n : Nat) (p : TickPend) (q : Bool) (c : ChainIn) : Int × Bool :=
  let corr := s.corrAt n p.path p.range q 1 p.aperture
  match c with
  | .level v ovl =>
    let w := satF 24 (corr.apply ((if p.short then 0 else v) * 8388608 / fsZ p.range) + 1 / 2).floor
    (w.1, w.2 || ovl)
  | .bits bs ovl =>
    let lead := match p.zeroBefore with
      | some y => if y ≤ p.aperture then bs.length - min bs.length ((p.aperture - y) * 512 + 383) else 0
      | none => 0
    let w := satF 24 (corr.apply (tickSum bs lead) + 1 / 2).floor
    (w.1, w.2 || ovl)

/-- Key of the sums of a tick word: its cycle and its slot. -/
def accKey (cyc slot : Nat) : Nat := 4 * cyc + slot

/-- OUTPUT_FORMATION in scheduled operation: the oldest tick word, completed at tick `c`. A clean word counts in the slot
result of its own cycle, and one of a cycle that has been cut in none (R83, R85, R86). -/
def State.formTickWord (s : State) (n : Nat) (p : TickPend) (c : Nat) (o : OutIn) : State :=
  let f := s.facet n
  let k := p.aperture
  let (i, ci) := s.tickValue n p false o.i
  let (q, cq) := s.tickValue n p true o.q
  let flags := flagByte (p.first || p.settle) (ci || cq) (f.faultIn k k) p.spare false f.tickEdge
    (s.staleWord p c) false
  let key := accKey ((k - f.anchor) / max 1 (cycleLen (s.blkA n))) p.slot
  let a := Store.get {} f.acc key
  let a : SlotAcc := if p.first || decide (k < f.anchor) then a else
    { path := p.path, n := a.n + 1, i := a.i + i, q := a.q + q, clip := a.clip || ci || cq, spare := a.spare || p.spare }
  let ws := [sampleWord i flags, sampleWord q flags]
  let s := s.setFacet n { f with acc := Store.set {} f.acc key a, tickEdge := f.tickEdge && !p.live }
  if p.live then (s.captureWords n k ws).hsWords n k ws else s

/-! ## OUTPUT_FORMATION -/

/-- The flags of a continuous output. -/
def State.contFlags (s : State) (n : Nat) (p : PendOut) (clip : Bool) : Nat :=
  let f := s.facet n
  flagByte p.settle clip (f.faultIn (p.aperture + 1 - p.nout) p.aperture) p.spare
    (s.calFlag n p.path p.range (p.aperture - (2 * p.nout - 1)) (p.aperture + (2 * p.nout - 1))) f.gapEdge (s.stale p) p.excrev

/-- A withheld output reaches no consumer; the bead engine counts it as lost (R360). -/
def State.withhold (s : State) (n k : Nat) (live : Bool) : State :=
  if live then s.beadIntake n k 1 qnan 0 true false else s

/-- The oldest pending output of a facet is formed (R134). -/
def State.formCont (s : State) (n : Nat) (p : PendOut) (o : OutIn) : State :=
  let form := s.formedAt p
  if isZ n then
    let (i, ci) := s.chainValue n p false o o.i
    let (q, cq) := s.chainValue n p true o o.q
    let flags := s.contFlags n p (ci || cq)
    let x : SlotIn := { j := p.slot, i, q, range := p.range, flags, v := o.sense, path := p.path
                        freq := (s.blkAt n p.aperture).zFreq p.slot }
    let (m, os) := s.moisture n [x] (bits flags 5 1 == 1) p.aperture form
    let s := s.zResult n p.aperture m [x] os
    s.publish n { aperture := p.aperture, unit := p.nout, i := sampleWord i flags, q := sampleWord q flags, eng := m.eng
                  flags := m.flags, words := [sampleWord i flags, sampleWord q flags], formTick := form, trec := p.trec
                  tsub := bits m.zstat.toNat 1 1 == 1 } p.live
  else
    let (v, clip) := s.chainValue n p false o o.i
    let flags := s.contFlags n p clip
    let (eng, stat) := s.engB n p.range v p.aperture form
    let s := s.modFacet n fun f => { f with engStat := stat }
    s.publish n { aperture := p.aperture, unit := p.nout, i := sampleWord v flags, q := 0, eng, flags
                  words := [sampleWord v flags], formTick := form, trec := p.trec } p.live

/-- The facet whose temperature the outputs of a facet take (R93, R107). -/
def State.tempSource (s : State) (n : Nat) : Option Nat :=
  let b := s.blkA n
  if isZ n then (if b.zTempEn then some b.zTempFacet else none)
  else if 1 ≤ b.curve ∧ b.curve ≤ 8 ∧ b.cjSrc = 1 then some b.cjFacet else none

/-- An output of that facet has its formation tick now and is still to be formed: it counts as formed at this tick, so an
output that takes its temperature waits for it within the tick (R93, R108, R134). -/
def State.sourceDue (s : State) (n : Nat) : Bool :=
  match s.tempSource n with
  | some m => m != n && (s.facet m).pend.any fun p => p.formTick == s.tick && p.formed.isNone && !p.withheld
  | none => false

/-- What the present boundary still has to put in force: a frame boundary whose work has not run, or a commit that is due
(R19). An output formed at that tick takes what it puts in force, and waits for it within the tick (R102, R117). -/
def State.boundaryOpen (s : State) : Bool :=
  (s.isFrame && s.ctl.frameAt != some s.tick) || s.commitStamps.any s.due

/-- The transfers of one output: one for each chain (R153). -/
def outTransfers (n : Nat) : Nat := if isZ n then 2 else 1

/-- The transfer of the oldest tick word of a scheduled facet: at once, or within one frame of a stall (R81, R438). -/
def State.tickFormation (s : State) (n : Nat) (o : OutIn) : State :=
  match (s.facet n).tickPend with
  | p :: rest =>
    let c := p.formed.getD (if p.formTick + 4 < s.tick then s.tick else p.formTick)
    if s.tick < p.formTick ∨ c + 4 < s.tick then s else
    match s.spend actAcq (outTransfers n) with
    | none => (s.stall actAcq).modFacet n fun f => { f with tickPend := { p with formed := some c } :: rest }
    | some s => (s.modFacet n fun f => { f with tickPend := rest }).formTickWord n p c o
  | [] => s

/-- OUTPUT_FORMATION (R134, R81): one ACQ transfer for each chain (R153); a stalled one stays pending (R438). The outputs of
continuous operation come first, and a scheduled facet completes those that a change of operation left (R85). An output
that is completed late is formed then, and is STALE beyond the limit (R152). -/
def State.outputFormation (s : State) (n : Nat) (o : OutIn) : State :=
  if !s.chainsRun then s else
  match (s.facet n).pend with
  | p :: rest =>
    if s.tick < p.formTick ∨ s.completed p + 4 < s.tick then s.tickFormation n o
    else if p.withheld then (s.modFacet n fun f => { f with pend := rest }).withhold n p.aperture p.live
    else if s.sourceDue n ∨ (s.formedAt p = s.tick ∧ s.boundaryOpen = true) then s
    else
      match s.spend actAcq (outTransfers n) with
      | none => (s.stall actAcq).modFacet n fun f => { f with pend := { p with formed := some (s.completed p) } :: rest }
      | some s => (s.modFacet n fun f => { f with pend := rest }).formCont n p o
  | [] => s.tickFormation n o

/-- A tick word is lost with its slot's part of capture and the host stream (R438). -/
def State.tickWordLost (s : State) (n : Nat) : State :=
  match (s.facet n).tickPend with
  | p :: rest =>
    if s.tick < p.formed.getD p.formTick + 4 then s else
    let s := s.modFacet n fun f => { f with tickPend := rest, tickEdge := f.tickEdge || p.live }
    if p.live then s.lose n n p.aperture 1 1 0 else s
  | [] => s

/-- ACQ_OUTPUT_LOST: the transfer has not completed within one frame of the output's formation (R151, R438). -/
def State.acqLost (s : State) (n : Nat) : State :=
  match (s.facet n).pend with
  | p :: rest =>
    if s.tick < p.formed.getD p.formTick + 4 then s.tickWordLost n else
    let s := s.modFacet n fun f => { f with pend := rest, gapEdge := f.gapEdge || (p.live && !p.withheld) }
    if p.withheld then s.withhold n p.aperture p.live
    else if !p.live then s else
    (s.lose n n (p.aperture + 1 - p.nout) p.nout 1 0).beadIntake n p.aperture p.nout qnan 0 true false
  | [] => s.tickWordLost n

/-! ## Schedules (R81, R83, R84) -/

/-- Z_SLOT_SWITCH: a dwell begins, and the synthesiser switches to its tone (R81). -/
def State.slotSwitch (s : State) (n : Nat) : State :=
  let b := s.blkA n
  let f := s.facet n
  if !scheduled n b ∨ s.tick < f.anchor then s else
  let (j, off) := slotAt b ((s.tick - f.anchor) % max 1 (cycleLen b))
  if off = 0 then s.setFacet n { f with slot := j, slotFrom := s.tick } else s

/-- The mean of a dwell's clean words, rounded to the nearest integer (R83); ties go away from zero (DESIGN CHOICE, log 187:
the rule gives no direction). -/
def meanWord (sum : Int) (n : Nat) : Int := if n = 0 then 0 else roundHalf ((sum : Rat) / n)

/-- The number of the cycle whose output is due: the cycle has ended, not more than a frame ago, its output is not formed,
and its tick words have all been formed or lost (R83, R84). -/
def State.cycleDue (s : State) (n : Nat) : Option Nat :=
  let b := s.blkA n
  let f := s.facet n
  let c := max 1 (cycleLen b)
  if !scheduled n b ∨ !s.chainsRun then none else
  let cyc := max (f.cycles + 1) ((s.tick - 4 - f.anchor + (c - 1)) / c)
  let stop := f.anchor + cyc * c
  if stop ≤ s.tick ∧ f.tickPend.all (fun p => decide (p.aperture < f.anchor ∨ stop ≤ p.aperture)) = true ∧ !s.sourceDue n
    ∧ ¬ (stop = s.tick ∧ s.boundaryOpen = true)
  then some cyc else none

/-- The slot results of a cycle (R83, R84). A dwell some of whose clean tick words were lost (R438) gives the mean of those that
remain, 0 where none does (DESIGN CHOICE, log 228); one within which the path changed takes the slot gain and phase of the
path of its latest word (DESIGN CHOICE, log 229). -/
def State.slotResults (s : State) (n cyc : Nat) (settle : Bool) (sense : List Rat) : List SlotIn :=
  let b := s.blkA n
  let f := s.facet n
  let c := cycleLen b
  let start := f.anchor + (cyc - 1) * c
  let fault := f.faultIn start (start + c - 1)
  (activeSlots b).mapIdx fun i j =>
    let a := Store.get {} f.acc (accKey (cyc - 1) j)
    let path := if a.n = 0 then f.serving else a.path
    { j, i := meanWord a.i a.n, q := meanWord a.q a.n, range := b.zRange j, path, v := sense.getD i 0
      freq := b.zFreq j
      flags := flagByte settle a.clip fault a.spare (s.calFlag n path (b.zRange j) start (start + c - 1)) f.gapEdge
        false false }

/-- CYCLE_OUTPUT (R83, R84): the slot results of the cycle, whose formation tick is the boundary that ends it. -/
def State.cycleOutput (s : State) (n : Nat) (sense : List Rat) : State :=
  match s.cycleDue n with
  | none => s
  | some cyc =>
    let b := s.blkA n
    let f := s.facet n
    let c := cycleLen b
    let start := f.anchor + (cyc - 1) * c
    let ap := start + c / 2
    let mark := (f.cycMarks.find? fun m => m.cyc == cyc).getD { cyc }
    let xs := s.slotResults n cyc mark.settle sense
    let s := s.setFacet n { f with
      acc := Store.keep (fun k => decide (accKey cyc 0 ≤ k)) f.acc, cycles := cyc
      cycMarks := f.cycMarks.filter fun m => decide (cyc < m.cyc) }
    if s.repeated ap then s
    else if mark.withheld then s.withhold n ap s.time.acquiring
    else
      let (m, os) := s.moisture n xs (f.faultIn start (start + c - 1)) ap (start + c)
      let s := s.zResult n ap m xs os
      match xs with
      | [] => s
      | x :: _ =>
        s.publish n { aperture := ap, unit := c, i := sampleWord x.i x.flags, q := sampleWord x.q x.flags, eng := m.eng
                      flags := m.flags, words := [], formTick := start + c, trec := mark.trec
                      tsub := bits m.zstat.toNat 1 1 == 1 } s.time.acquiring

/-! ## Time records (R331, R332) -/

/-- The frames of a group. -/
def chunk5 : Nat → List TrecEntry → List (List TrecEntry)
  | 0, _ => []
  | _, [] => []
  | n + 1, l => l.take 5 :: chunk5 n (l.drop 5)

/-- Send one group (R331, R332). -/
def State.sendGroup (s : State) (ap : Nat) (es : List TrecEntry) : State :=
  let es := es.mergeSort (fun a b => a.facet ≤ b.facet)
  let fs := chunk5 es.length es
  let unit := es.foldl (fun a e => max a e.unit) 1
  (fs.zipIdx).foldl (fun s (f, i) =>
    let t := (s.msg.seq.t + 1) % 65536
    let s := { s with msg := { s.msg with seq := { s.msg.seq with t } } }
    s.emit .trec 2 (ap % 8192)
      (leBytes 6 (ap % 2 ^ 48) ++ leBytes 2 t ++ leBytes 1 f.length
        ++ leBytes 1 (i % 128 + 128 * b2n (i + 1 == fs.length)) ++ leBytes 4 0
        ++ f.flatMap fun (e : TrecEntry) => leBytes 2 e.facet ++ leBytes 4 e.word.toNat ++ leBytes 4 e.eng.toNat)
      (f.head?.map TrecEntry.facet |>.getD 0) (f.getLast?.map TrecEntry.facet |>.getD 511) (ap + 1 - unit) unit) s

/-- A selected cycle output of a facet, with the aperture and the formation tick, is still to be formed (R84, R331). -/
def State.cycleOpen (s : State) (n : Nat) (f : FacetRT) (ap form : Nat) : Bool :=
  let b := s.blkA n
  let c := cycleLen b
  scheduled n b && s.time.acquiring && f.cycMarks.any fun m =>
    let start := f.anchor + (m.cyc - 1) * c
    m.trec && !m.withheld && decide (f.cycles < m.cyc ∧ start + c / 2 = ap ∧ start + c = form ∧ s.tick < start + c + 4)

/-- A selected output of the group is still to be formed. One that can only be STALE by now shares no group (R331, R134). -/
def State.groupOpen (s : State) (ap form : Nat) : Bool :=
  s.facets.any fun (e : Nat × FacetRT) => s.cycleOpen e.1 e.2 ap form ||
    e.2.pend.any fun p => p.aperture == ap && p.trec && p.live && !p.withheld && s.formedAt p == form

/-- Groups whose outputs have all been formed, or lost, are sent as the tick of their formation ends (log 28). -/
def State.sendGroups (s : State) : State :=
  let g := s.msg.group
  let (openG, done) := g.partition fun x => s.groupOpen x.1 x.2.1
  let s := { s with msg := { s.msg with group := openG } }
  done.foldl (fun s x => s.sendGroup x.1 x.2.2) s

end Sys2Proof.Machine
end

