-- ==== Sys2Proof/Machine/Spares.lean ====
section
/-! DEFINITION. Spares at work (chapter 13): the commands of `SPARE_CTL`, path and driver checks, substitution and release,
references, port C as a spare controller, and the rows of the SRAM. -/

namespace Sys2Proof.Machine

open Sys2Proof

/-! ## Limits and names -/

/-- The limits of R372, by field code. -/
def limOfs (w : Word) : Rat := ([1 / 1000, 2 / 1000, 5 / 1000, 1 / 100, 2 / 100] : List Rat).getD (fld w 0 4) (2 / 100)
def limGain (w : Word) : Rat :=
  ([2 / 1000, 5 / 1000, 1 / 100, 2 / 100, 5 / 100] : List Rat).getD (fld w 4 4) (5 / 100)
def limScale (w : Word) : Rat :=
  ([1 / 10000, 2 / 10000, 5 / 10000, 1 / 1000, 2 / 1000] : List Rat).getD (fld w 8 4) (2 / 1000)
def limSys (w : Word) : Rat := ([1 / 100, 2 / 100, 5 / 100, 1 / 10, 2 / 10] : List Rat).getD (fld w 12 4) (2 / 10)
def limZero (w : Word) : Rat := ([1, 2, 5, 10, 20] : List Rat).getD (fld w 12 4) 20

/-- `SPARE_CTL.XC_TOL` as a share of FS (R390). -/
def State.xcTol (s : State) : Rat :=
  ([5 / 10000, 1 / 1000, 2 / 1000, 5 / 1000] : List Rat).getD (fld s.spare.ctl 2 2) (5 / 1000)

def State.autoSub (s : State) : Bool := fld s.spare.ctl 0 1 == 1
def State.xcEn (s : State) : Bool := fld s.spare.ctl 1 1 == 1

/-- The index names a member of its kind (R387, R520). -/
def memberOk (kind i : Nat) : Bool :=
  if kind < 4 then decide (i < kindCount kind) else if kind = 4 then decide (i < 2) else if kind = 5 then i == 2 else kind == 6

/-- The facet is of the class of the kind. -/
def classOk (kind n : Nat) : Bool := if kind = 0 ∨ kind = 2 then !isZ n else isZ n

/-- State and target that `SPARE_STAT` reports (R387, R520). -/
def State.spareReport (s : State) (kind i : Nat) : Nat × Nat :=
  if !memberOk kind i then (spAbsent, 0) else
  match kind with
  | 4 => if i = s.spare.refActive then (spSubst, 0x1FF)
         else if (if i = 0 then s.spare.failA else s.spare.failB) then (spFailed, 0) else (spFree, 0)
  | 5 => (s.spare.portC.state, s.spare.portC.target)
  | 6 => (if s.spare.rowsUsed < 160 then spFree else spSubst, s.spare.rowsUsed)
  | k => let x := s.spareAt k i; (x.state, x.target)

/-- `SPARE_STAT`. -/
def State.spareStat (s : State) : Word :=
  let r := s.spareReport (fld s.spare.ctl 4 3) (fld s.spare.ctl 7 3)
  w16 (r.1 + 8 * s.spare.cause + 128 * (r.2 % 512))

/-- `REF_STAT` (R400, R401). -/
def State.refStat (s : State) : Word :=
  let d : Int := max (-127) (min 127 (s.spare.refDiff / 10))
  (w16i d &&& 0xFF) ||| w16 (256 * s.spare.refActive + 512 * b2n s.spare.refWarn + 1024 * b2n s.stbyOk)

/-- A range change, calibration run or check is in progress on the facet (R390 BUSY). -/
def State.facetBusy (s : State) (n : Nat) : Bool :=
  let f := s.facet n
  f.rangeChg.isSome || f.swap.isSome || (match s.cal.run with | some r => r.target == n | none => false)
    || s.spare.chks.any (fun c => c.facet == n) || s.spare.drv.any (fun d => d.facet == n)

/-- The tick is one at which an output of the facet, in scheduled operation a cycle output, has its aperture (R84, R359). -/
def State.aligned (s : State) (n : Nat) : Bool :=
  let b := s.blkA n
  let c := max 1 (cycleLen b)
  if scheduled n b then decide ((s.facet n).anchor ≤ s.tick) && (s.tick - (s.facet n).anchor) % c == c / 2
  else s.tick % b.nout == 0

/-- A spare is out of service (R395). -/
def State.failSpare (s : State) (kind i : Nat) : State :=
  s.setSpare kind i { s.spareAt kind i with state := spFailed, target := 0 }

/-! ## Substitution (R397 to R399) -/

/-- From H the spare is the path, or the driver, that serves the facet (R398). -/
def State.completeSubst (s : State) (n kind i cause : Nat) : State :=
  let f := s.facet n
  let old := if kind < 2 then f.subst else f.excSubst
  let f := if kind < 2 then { f with subst := some i, standin := none, pathFailed := true, needPath := false, swap := none }
    else { f with excSubst := some i, excStandin := none, excFailed := true, needExc := false, swap := none }
  let s := s.setFacet n f
  let s := match old with
    | some j => if j = i then s else s.failSpare kind j
    | none => s
  let s := s.setSpare kind i { s.spareAt kind i with state := spSubst, target := n }
  let s := (s.sparev 0 kind i n cause true false).irq0 7
  let s := if f.needPath ∨ f.needExc then s else s.leaveCauses n 1024
  s.checkExhausted kind

/-- The spare connects for a substitution: steps 1 and 2 of R359. A path's chain is cleared; a driver takes over the sensor. -/
def State.startSubst (s : State) (n kind i cause : Nat) : State :=
  (s.takeSpare kind i n spLent).modFacet n fun f =>
    let f := if kind < 2 then f.clearPath (some i) s.tick else { f with excStandin := some i }
    { f with swap := some { kind := kind, spare := i, left := settleLen n (s.blkA n), cause := cause } }

/-- The facet's own part has failed: PATH until a substitution replaces it (R397). -/
def State.partFailed (s : State) (n kind : Nat) : State :=
  let s := s.modFacet n fun f =>
    if kind < 2 then { f with pathFailed := true, needPath := true } else { f with excFailed := true, needExc := true }
  if (s.blkA n).type = 0 then s else s.enterCause n 10

/-- Automatic substitution at a frame boundary: a failed part waits, and a spare of its kind is free. With both parts waiting,
the path comes first where it can (R389, R397). -/
def State.autoSubst (s : State) (n : Nat) : State :=
  let f := s.facet n
  if !s.autoSub || (s.blkA n).policy != 0 || s.facetBusy n then s else
  let kinds := (if f.needPath then [pathKind n] else []) ++ (if f.needExc then [drvKind n] else [])
  match kinds.findSome? fun k => (s.pickSpare k n).map fun i => (k, i) with
  | some (k, i) => s.startSubst n k i 3
  | none => s

/-- At a frame boundary a spare that has taken over is the facet's part (R398). -/
def State.substAtFrame (s : State) (n : Nat) : State :=
  let f := s.facet n
  match f.swap with
  | some w =>
    if !w.back ∧ w.swapped then
      s.completeSubst n w.kind w.spare w.cause
    else s
  | none => s

/-- The own part returns: steps 4 and 5 of R359. A path's chain is cleared; a driver takes the sensor back. -/
def State.startReturn (s : State) (n kind i : Nat) (temp keep : Bool) : State :=
  s.modFacet n fun f =>
    let f := if kind < 2 then f.clearPath (if temp then f.subst else none) s.tick
      else if temp then { f with excStandin := none }
      else { f with excSubst := none, excFailed := false }
    { f with swap := some { kind := kind, spare := i, back := true, temp := temp, keep := keep, left := settleLen n (s.blkA n) } }

/-- What a tick boundary does to a swap of the facet (R359 steps 2 and 5, R398, R399). -/
def State.swapTick (s : State) (n : Nat) : State :=
  let f := s.facet n
  match f.swap with
  | none => s
  | some w =>
    match w.freeAt with
    | some t =>
      if s.tick < t then s else
      let s := s.setFacet n { f with swap := none }
      if w.temp then s.returnSpare w.kind w.spare
      else
        let s := s.setSpare w.kind w.spare (s.spareAt w.kind w.spare).released
        let s := s.slAppend 9 w.kind w.spare 0 n
        (s.sparev 1 w.kind w.spare n 0 true false).checkExhausted w.kind
    | none =>
      if w.left ≠ 0 ∨ !s.aligned n then s
      else if !w.back then
        let f := if w.kind < 2 then { f with standin := some w.spare } else f
        s.setFacet n { f with swap := some { w with swapped := true } }
      else if w.temp then
        let f := if w.kind < 2 then { f with standin := none } else f
        if w.keep then
          let s := s.setFacet n { f with swap := none }
          { s with spare := { s.spare with chks := s.spare.chks.map fun (c : Check) =>
            if c.facet = n then { c with waiting := false, from_ := s.tick } else c } }
        else s.setFacet n { f with swap := some { w with freeAt := some (s.tick + 1) } }
      else
        let f := if w.kind < 2 then { f with subst := none, pathFailed := false } else f
        s.setFacet n { f with swap := some { w with freeAt := some (s.tick + 1) } }

/-! ## Path checks (R392 to R395) -/

/-- A check starts: the spare shadows the facet (R394). -/
def State.startCheck (s : State) (n i : Nat) (triggered : Bool) : State :=
  let s := (s.takeSpare (pathKind n) i n spChecking).modFacet n fun f => f.clearPath (some i) s.tick
  { s with spare := { s.spare with
      chks := s.spare.chks ++ [{ facet := n, spare := i, triggered := triggered, from_ := s.tick : Check }] } }

/-- A triggered check may start on the facet: no check runs on it, nor a range change, a substitution or a calibration run
(R390, R393). -/
def State.checkFree (s : State) (n : Nat) : Bool := !s.facetBusy n && (s.facet n).excStandin.isNone

/-- The trigger of a waiting check still stands: the policy permits checks, the part has not been found failed already, and the
fault of a driver check is still there (R391, R396, R399). -/
def State.stillWanted (s : State) (w : CheckReq) : Bool :=
  let f := s.facet w.facet
  (s.blkA w.facet).policy != 2 &&
  (if w.driver then s.wantsDriver w.facet && !f.needExc && (f.faultNow &&& 0x003C) != 0 else !f.needPath)

/-- A triggered check whose frame boundary this is starts, waits while the facet is busy, or is dropped: its trigger is gone, or
no spare is free (R393, R408). -/
def State.startTriggered (s : State) (w : CheckReq) : State :=
  let n := w.facet
  if !s.stillWanted w then s
  else if !s.checkFree n then { s with spare := { s.spare with wanted := s.spare.wanted ++ [w] } }
  else match s.pickSpare (if w.driver then drvKind n else pathKind n) n with
    | none => s
    | some i => if w.driver then s.driverCheckStart n i else s.startCheck n i true

/-- Triggered checks start at a frame boundary, after every other need but background checks and in facet order (R389, R394): the
tick of that boundary ends with it. -/
def State.startWanted (s : State) : State :=
  let (due, rest) := s.spare.wanted.partition fun w => s.due w.stamp
  (due.mergeSort fun a b => a.facet ≤ b.facet).foldl State.startTriggered { s with spare := { s.spare with wanted := rest } }

/-- Data of the path checks over the tick that ends, one transfer for each chain of each path that measures; a check whose
transfers the SCRUB budget does not cover is delayed by the tick (R392, R432, R434; log 231). -/
def State.payChecks (s : State) : State :=
  s.spare.chks.foldl (fun s c =>
    if c.phase = 4 ∨ c.waiting = true then s else
    match s.spend actScrub ((if isZ c.facet then 2 else 1) * (if c.phase = 1 then 2 else 1)) with
    | some t => t
    | none =>
      let t := s.stall actScrub
      { t with spare := { t.spare with chks := t.spare.chks.map fun (d : Check) =>
          if d.facet = c.facet then { d with from_ := d.from_ + 1 } else d } }) s

/-- The facet that a background sweep reaches next (R392). -/
def State.sweepNext (s : State) (z : Bool) : Option Nat :=
  let lo := if z then 448 else 0
  let hi := if z then 512 else 448
  let from' := if z then s.spare.sweepZ else s.spare.sweepB
  let all := (List.range (hi - lo)).map (· + lo)
  let ok (n : Nat) : Bool :=
    let f := s.facet n
    (s.blkA n).type != 0 && (s.blkA n).policy != 2 && f.standin.isNone && !s.facetBusy n && !f.needPath
  ((all.filter fun n => decide (from' ≤ n)) ++ all.filter fun n => decide (n < from')).find? ok

/-- BACKGROUND_CHECK_START (R392); the other needs of the boundary come first (R389). Spares pinned to the facet are free for it
(R388). -/
def State.backgroundCheck (s : State) (z : Bool) : State :=
  let kind := if z then 1 else 0
  let running := s.spare.chks.any fun c => isZ c.facet == z && !c.triggered
  let earlier := s.commitStamps.any s.due || s.calDue || s.spareDue [3, 5] || s.spare.wanted.any fun w => s.due w.stamp
  if !s.xcEn ∨ !s.ready ∨ !s.isFrame ∨ 1 ≤ s.ctl.shed ∨ running = true ∨ earlier = true then s else
  match s.sweepNext z with
  | none => s
  | some n =>
    if (s.freeList kind n).length < 2 then s else
    match s.pickSpare kind n with
    | none => s
    | some i =>
      let s := s.startCheck n i false
      if z then { s with spare := { s.spare with sweepZ := if n = 511 then 448 else n + 1 } }
      else { s with spare := { s.spare with sweepB := if n = 447 then 0 else n + 1 } }

/-- Change the check of a facet. -/
def State.modCheck (s : State) (n : Nat) (f : Check → Check) : State :=
  { s with spare := { s.spare with chks := s.spare.chks.map fun (c : Check) => if c.facet = n then f c else c } }

def State.dropCheck (s : State) (n : Nat) : State :=
  { s with spare := { s.spare with chks := s.spare.chks.filter fun c => c.facet != n } }

/-- The oldest check of the kind in a phase whose measurement is complete. -/
def State.dueCheck (s : State) (z : Bool) (lo hi ticks : Nat) : Option Check :=
  s.spare.chks.find? fun c => isZ c.facet == z && decide (lo ≤ c.phase ∧ c.phase ≤ hi) && !c.waiting
    && decide (c.from_ + ticks ≤ s.tick)

/-- The paths of a shadow phase agree: the means, and the rms of the difference, as shares of FS; on a Z-facet for I and Q
separately (R394). -/
def State.shadowAgrees (s : State) (z : Bool) (own spare rms : IQ) : Bool :=
  let one (a b r : Rat) : Bool := decide (rabs (a - b) ≤ s.xcTol ∧ r ≤ 2 * s.xcTol)
  one own.i spare.i rms.i && (!z || one own.q spare.q rms.q)

/-- SHADOW_DECISION (R394). -/
def State.shadowDecision (s : State) (z : Bool) (own spare rms : IQ) : State :=
  match s.dueCheck z 1 1 2080 with
  | none => s
  | some c =>
    if s.shadowAgrees z own spare rms then s.modCheck c.facet fun c => { c with phase := 4 }
    else
      let s := (s.setSpare (pathKind c.facet) c.spare { s.spareAt (pathKind c.facet) c.spare with state := spLent }
        ).checkExhausted (pathKind c.facet)
      s.modCheck c.facet fun c => { c with phase := 2, waiting := true }

/-- The outcome of a referee phase on the own path that fails (R395, R397, R398). -/
def State.ownPathFailed (s : State) (c : Check) : State :=
  let n := c.facet
  let kind := pathKind n
  let cause := if c.triggered then 2 else 1
  let s := s.dropCheck n
  if (s.blkA n).policy = 0 ∧ s.autoSub = true then s.completeSubst n kind c.spare cause
  else
    let s := (s.sparev 2 kind c.spare n cause true false).partFailed n kind
    s.startReturn n kind c.spare true false

/-- REFEREE_DECISION (R394, R395): the offset of the path under test as a share of FS, and its gain; on a Z-facet of I and Q. -/
def State.refereeDecision (s : State) (z : Bool) (offs gain : IQ) : State :=
  if !s.isFrame then s else
  match s.dueCheck z 2 3 4160 with
  | none => s
  | some c =>
    let n := c.facet
    let kind := pathKind n
    let out (o g : Rat) : Bool := decide (limOfs s.cal.limits < rabs o) || decide (limGain s.cal.limits < rabs (g - 1))
    let bad := out offs.i gain.i || (z && out offs.q gain.q)
    if c.phase = 2 then
      if bad then s.ownPathFailed c
      else (s.modCheck n fun c => { c with phase := 3, waiting := true }).startReturn n kind c.spare true true
    else
      let s := s.dropCheck n
      if bad then
        ((s.failSpare kind c.spare).sparev 2 kind c.spare n (if c.triggered then 2 else 1) true false).checkExhausted kind
      else (s.logE 0x0F noMaster n 0xFF).returnSpare kind c.spare

/-- What a tick boundary does to a check whose referee phase waits for its swap (R394). -/
def State.checkTick (s : State) (c : Check) : State :=
  if c.phase = 2 ∧ c.waiting = true ∧ s.aligned c.facet = true then
    (s.modFacet c.facet fun f => { f with standin := some c.spare }).modCheck c.facet fun c =>
      { c with waiting := false, from_ := s.tick }
  else s

/-- The spare of a check that has ended goes: at once while the own path serves, after the own path's return otherwise
(R359, R441). -/
def State.leaveCheck (s : State) (c : Check) : State :=
  let n := c.facet
  let kind := pathKind n
  if (s.facet n).swap.isSome then s.modFacet n fun f => { f with swap := f.swap.map fun (w : Swap) => { w with keep := false } }
  else if c.phase = 2 ∧ (s.facet n).standin = some c.spare then s.startReturn n kind c.spare true false
  else s.returnSpare kind c.spare

/-- What a frame boundary does to checks: those that agreed end, and shedding ends background ones (R394, R441). -/
def State.checksAtFrame (s : State) : State :=
  let gone (c : Check) : Bool := c.phase == 4 || (!c.triggered && decide (1 ≤ s.ctl.shed))
  let (ended, rest) := s.spare.chks.partition gone
  ended.foldl State.leaveCheck { s with spare := { s.spare with chks := rest } }

/-- A synchronising reset at `y` restarts the measurement in progress of each check (R362, R394). -/
def State.checksSync (s : State) (y : Nat) : State :=
  { s with spare := { s.spare with chks := s.spare.chks.map fun (c : Check) =>
      { c with from_ := y - (y - c.from_) / 2080 * 2080 } } }

/-! ## Driver checks (R396) -/

/-- DRIVER_CHECK_RESULT at a frame boundary: the monitor has been stable on the spare, or the 2,080 ticks have passed without. -/
def State.driverCheckResult (s : State) (n spare : Nat) : State :=
  match s.spare.drv.find? (fun d => d.facet == n) with
  | none => s
  | some d =>
    if d.spare ≠ spare ∨ !s.isFrame ∨ (d.ok = false ∧ s.tick < d.from_ + 2080) then s else
    let kind := drvKind n
    let i := d.spare
    let s := { s with spare := { s.spare with drv := s.spare.drv.filter fun d => d.facet != n } }
    if d.ok then
      if (s.blkA n).policy = 0 ∧ s.autoSub = true then s.completeSubst n kind i 3
      else
        let s := (s.sparev 2 kind i n 3 true false).partFailed n kind
        (s.modFacet n fun f => { f with excStandin := none }).returnSpare kind i
    else
      let s := s.modFacet n fun f => { f with excStandin := none, checkBarred := true }
      (s.logE 0x0F noMaster n 0xFF).returnSpare kind i

/-! ## References (R400, R401) -/

/-- The standby becomes active (R401); the cause of the log is 0 for the command, 3 for a failure (R406). -/
def State.switchRef (s : State) (cause : Nat) : State :=
  let a := 1 - s.spare.refActive
  let kept := s.cal.refHist.filter fun (e : Nat × Nat) => decide (s.tick < e.1 + histLen)
  let s := { s with
    spare := { s.spare with refActive := a, refSwitch := false }
    cal := { s.cal with refHist := (s.tick, s.spare.refActive) :: kept } }
  s.sparev 6 4 a objDevice cause true false

/-- The standby is failed: EXHAUSTED for the kind, once (R401, R408). -/
def State.vrefExhausted (s : State) : State :=
  if s.stbyOk ∨ s.spare.exhausted.contains 4 then s else
  let s := { s with spare := { s.spare with exhausted := 4 :: s.spare.exhausted } }
  s.sparev 5 4 (1 - s.spare.refActive) objDevice 3 true false

/-- A reference fails (R401): the switch at the next tick boundary when it was the active one. -/
def State.refFails (s : State) (b : Bool) : State :=
  let s := { s with spare := if b then { s.spare with failB := true } else { s.spare with failA := true } }
  if (if b then 1 else 0) = s.spare.refActive then { s with spare := { s.spare with refSwitch := s.stbyOk } }
  else s.vrefExhausted

/-- REFERENCE_WARNING (R400). -/
def State.referenceWarning (s : State) : State :=
  if s.spare.warnCnt < 4000 ∨ s.spare.refWarn = true then s else
  ({ s with spare := { s.spare with refWarn := true } }.irq0 7).logE 0x0F noMaster objDevice 0xFF

/-- The monitors of the references judge a tick (R400, R401). -/
def State.judgeRefs (s : State) (diff : Int) (devA devB : Nat) : State :=
  let wide := decide (limScale s.cal.limits * 1000000 < (diff.natAbs : Rat))
  { s with spare := { s.spare with
      refDiff := diff, devA, devB
      warnCnt := if wide then min 4000 (s.spare.warnCnt + 1) else 0
      failCntA := if 5000 < devA then min 8 (s.spare.failCntA + 1) else 0
      failCntB := if 5000 < devB then min 8 (s.spare.failCntB + 1) else 0 } }

/-! ## Port C as a spare (R316 to R318, R402, R403) -/

/-- PORT_C_SHADOW_SWITCH (R402). -/
def State.shadowSwitch (s : State) : State :=
  if (s.canPort 2).st = .init ∧ s.xcEn = true ∧ !s.cSubst ∧ s.spare.shadowFrom + 240000 ≤ s.tick then
    { s with spare := { s.spare with shadow := 1 - s.spare.shadow, shadowFrom := s.tick, shadowErrs := 0 } }
  else s

/-- Port C's host use ends (R317). -/
def State.endHostUse (s : State) : State :=
  let c := s.canPort 2
  let full := (List.range 8).filter fun i => (c.mbox (24 + i)).full
  let lost := full.length + c.rx0.q.length + c.rx1.q.length
  let c' := full.foldl (fun (c : CanPort) i => { (c.setMbox (24 + i) {}) with
    done := c.done ||| w16 (2 ^ i), res := setFld c.res (2 * i) 2 2 }) c
  let s := s.setCanPort 2 { c' with
    ctl := c.ctl ||| 1, rx0 := { c.rx0 with q := [] }, rx1 := { c.rx1 with q := [] }, st := .init, onBus := none, kept := none
    lone := false }
  (if full.isEmpty then s else s.irq1 8).canEvent 2 false lost

/-- Port C takes over the controller of port A or B (R316). -/
def State.substCan (s : State) (p : Nat) : State :=
  let off := (s.canPort p).st.off
  let s := s.endHostUse
  let s := { s with spare := { s.spare with portC := { s.spare.portC with state := spSubst, target := p } } }
  let s := s.modCanPort p fun c => { c with
    subst := true, tec := 0, recCnt := 0, onBus := none, lone := false, failed := false, wasOff := false }
  let s := s.modCanPort p fun c => { c with st := if off then .recovering else .integrating }
  let s := (s.canEvent p false 0).canAlarm p
  (((s.sparev 0 5 2 p 3 true false).irq0 7).checkExhausted 5).leaveRef

/-- The controller of port A or B has failed: port C takes over where it may, and R318 applies otherwise (R318, R403). -/
def State.controllerFails (s : State) (p : Nat) : State :=
  let c := s.canPort p
  let x := s.spare.portC
  let free := x.state == spFree || (x.state == spPinned && x.pin == some p)
  if s.autoSub = true ∧ !(s.spare.forbid.getD p false) ∧ free = true then s.substCan p
  else (s.setCanPort p { c with failed := true, onBus := none }).failoverCheck p

/-- CONTROLLER_FAILURE (R402): a false error that port C has seen while it shadows the port, the third within one shadow period
being a failure; or a protocol state that has made no progress for so many µs, with CANCLK present and activity on its RX
land, a failure from 10 ms on. -/
def State.controllerFailure (s : State) (p : Nat) (x : CtrlFail) : State :=
  let c := s.canPort p
  if c.st = .init ∨ c.failed = true then s else
  match x with
  | .stall us => if s.candev.clkOk ∧ 10000 ≤ us then s.controllerFails p else s
  | .falseError =>
    if c.subst || !s.xcEn || (s.canPort 2).st != .init || s.spare.shadow != p || s.cSubst
        || decide (s.spare.shadowFrom + 240000 ≤ s.tick) then s else
    let s := { s with spare := { s.spare with shadowErrs := s.spare.shadowErrs + 1 } }
    if 3 ≤ s.spare.shadowErrs then s.controllerFails p else s

/-- RELEASE of port C: the port's own controller serves again, in INIT where `CAN_CTL.INIT` is set (R284, R399). -/
def State.releaseCan (s : State) : State :=
  let p := s.spare.portC.target
  let x := s.spare.portC
  let s := { s with spare := { s.spare with
    portC := x.released } }
  let s := s.modCanPort p fun c => { c with
    subst := false, failed := false, tec := 0, recCnt := 0, onBus := none
    st := if fld c.ctl 0 1 = 1 then .init else .integrating }
  let s := s.canEvent p false 0
  ((s.slAppend 9 5 2 0 p).sparev 1 5 2 p 0 true false).checkExhausted 5

/-! ## Commands of SPARE_CTL (R390, R391) -/

/-- `SPARE_CTL` takes a word; setting XC_EN begins a shadow period of port C (R402). -/
def State.spareCtl (s : State) (w : Word) : State :=
  let was := s.xcEn
  let s := { s with spare := { s.spare with ctl := w } }
  if s.xcEn && !was then s.shadowRestart else s

/-- A command waits for its frame boundary; a later one replaces it. -/
def State.spareGo (s : State) (v : Word) (facet port : Nat) : State :=
  let s := s.spareCtl (v &&& 0x3FFF)
  if fld v 15 1 = 0 ∨ fld v 10 4 = 0 ∨ 8 < fld v 10 4 then s else
  let s := s.nextStamp
  { s with spare := { s.spare with
      cmd := some (fld v 10 4, fld v 4 3, fld v 7 3, facet, port), cmdStamp := s.ctl.stamp } }

/-- The cause with which a command that needs a spare for a facet fails (R390). -/
def State.spareNeed (s : State) (kind i n : Nat) (busy policy : Bool) : Nat :=
  let x := s.spareAt kind i
  if 4 ≤ kind ∨ !memberOk kind i ∨ !classOk kind n then 1
  else if x.state = spFailed then 3
  else if !x.freeFor n then 2
  else if busy then 4
  else if policy then 5 else 0

/-- Pin or unpin the named spare; a spare that serves nothing has the target 0 (R387). -/
def State.setPin (s : State) (kind i : Nat) (pin : Option Nat) : State :=
  let upd (x : SpareSt) : SpareSt :=
    let st := match pin with
      | some _ => if x.state = spFree then spPinned else x.state
      | none => if x.state = spPinned then spFree else x.state
    { x with pin := pin, state := st, target := if st = spPinned ∨ st = spFree then 0 else x.target }
  if kind = 5 then { s with spare := { s.spare with portC := upd s.spare.portC } }
  else s.setSpare kind i (upd (s.spareAt kind i))

def State.pinCmd (s : State) (kind i n p : Nat) : Nat × State :=
  if kind = 5 then
    let x := s.spare.portC
    if i ≠ 2 ∨ 2 ≤ p then (1, s)
    else if x.state ≠ spFree ∧ !(x.state = spPinned ∧ x.pin = some p) then (2, s)
    else (0, (s.setPin 5 2 (some p)).sparev 3 5 2 p 0 true false)
  else
    let c := s.spareNeed kind i n false false
    if c ≠ 0 then (c, s) else (0, (s.setPin kind i (some n)).sparev 3 kind i n 0 true false)

def State.unpinCmd (s : State) (kind i : Nat) : Nat × State :=
  if kind = 4 ∨ 6 ≤ kind ∨ !memberOk kind i then (1, s) else
  let x := if kind = 5 then s.spare.portC else s.spareAt kind i
  match x.pin with
  | none => (0, s)
  | some t =>
    let s := (s.setPin kind i none).sparev 4 kind i t 0 true false
    (0, s.checkExhausted kind)

def State.substCmd (s : State) (kind i n : Nat) : Nat × State :=
  let c := s.spareNeed kind i n (s.facetBusy n) ((s.blkA n).policy == 2)
  if c ≠ 0 then (c, s) else (0, s.startSubst n kind i 0)

def State.releaseCmd (s : State) (kind i : Nat) : Nat × State :=
  if kind = 5 ∧ i = 2 then (if s.cSubst then (0, s.releaseCan) else (7, s))
  else if 4 ≤ kind ∨ !memberOk kind i then (1, s) else
  let x := s.spareAt kind i
  if x.state ≠ spSubst then (7, s)
  else if s.facetBusy x.target then (4, s)
  else (0, s.startReturn x.target kind i false false)

def State.checkCmd (s : State) (kind i n : Nat) : Nat × State :=
  let c := if 2 ≤ kind then 1 else s.spareNeed kind i n (s.facetBusy n) ((s.blkA n).policy == 2)
  if c ≠ 0 then (c, s) else (0, s.startCheck n i true)

def State.refCmd (s : State) (kind i : Nat) : Nat × State :=
  if kind ≠ 4 ∨ !memberOk kind i then (1, s) else if !s.stbyOk then (6, s) else (0, (s.switchRef 0).vrefExhausted)

def State.forbidCmd (s : State) (kind i p : Nat) (on : Bool) : Nat × State :=
  if kind ≠ 5 ∨ i ≠ 2 ∨ 2 ≤ p then (1, s)
  else (0, { s with spare := { s.spare with forbid := s.spare.forbid.set p on } })

/-- The command that waits takes effect at its frame boundary when it is of this code; a check follows range changes and rolling
runs (R389, R390). -/
def State.spareCommand (s : State) (code : Nat) : State :=
  match s.spare.cmd with
  | none => s
  | some (c, kind, i, n, p) =>
    if c ≠ code ∨ !s.due s.spare.cmdStamp ∨ (c = 5 ∧ (s.commitStamps.any s.due ∨ s.calDue)) then s else
    let s := { s with spare := { s.spare with cmd := none } }
    let r := match code with
      | 1 => s.pinCmd kind i n p
      | 2 => s.unpinCmd kind i
      | 3 => s.substCmd kind i n
      | 4 => s.releaseCmd kind i
      | 5 => s.checkCmd kind i n
      | 6 => s.refCmd kind i
      | 7 => s.forbidCmd kind i p true
      | 8 => s.forbidCmd kind i p false
      | _ => (0, s)
    { r.2 with spare := { r.2.spare with cause := r.1 } }

/-! ## SRAM rows (R404) -/

/-- Words of the array, and frames of the 600 s in which the scrub reads it once. -/
def sramWords : Nat := 1048576
def scrubPeriod : Nat := 600000

/-- The scrub's part of a frame: two words of the array, which spreads its reading over the 600 s (DESIGN CHOICE, log 231); a
frame without budget reads none, and none counts while scrubbing pauses (R404, R432, R434, R441). -/
def State.scrubFrame (s : State) : State :=
  if 1 ≤ s.ctl.shed then s else
  let s := { s with spare := { s.spare with scrubFrames := min scrubPeriod (s.spare.scrubFrames + 1) } }
  if sramWords ≤ s.spare.scrubRead then s else
  match s.spend actScrub 2 with
  | some t => { t with spare := { t.spare with scrubRead := min sramWords (t.spare.scrubRead + 2) } }
  | none => s.stall actScrub

/-- The scrub has read the whole array, and its 600 s have run. -/
def State.scrubDone (s : State) : Bool := decide (scrubPeriod ≤ s.spare.scrubFrames ∧ sramWords ≤ s.spare.scrubRead)

/-- Rows corrected by a scrub: a second time within 86,400 s marks the row for repair (R404). The entry of the spare-map log has
no place for the number of the row: its `SL_TARGET` is that of R340 (R406, log 230). -/
def State.scrubRows (s : State) (rows : List Nat) : State :=
  rows.foldl (fun s r =>
    let hit : Bool := match s.spare.rowHits.find? (fun e => e.1 == r) with
      | some e => decide (s.tick ≤ e.2 + 345600000)
      | none => false
    let s := { s with spare := { s.spare with rowHits := Store.insert s.spare.rowHits r s.tick } }
    if hit && !(s.spare.rowsMarked.contains r) then
      { s with spare := { s.spare with rowsMarked := s.spare.rowsMarked ++ [r] } }.slAppend 7 6 0 3 objDevice
    else s) s

end Sys2Proof.Machine
end

