-- ==== Sys2Proof/Machine/Cal.lean ====
section
/-! DEFINITION. Calibration runs and restores (chapter 12): static checks, rolling runs on facets and spares, the electrical,
impedance and belt-scale procedures, their limits, and the image that they change. -/

namespace Sys2Proof.Machine

open Sys2Proof

/-! ## Angles -/

/-- arctan t for |t| at most 0.2. -/
def atanSmall (t : Rat) : Rat :=
  (List.range 60).foldl (fun a i =>
    rd (2 * fixBits) (a + (if i % 2 = 0 then (1 : Rat) else -1) * ratPow t (2 * i + 1) / ((2 * i + 1 : Nat) : Rat))) 0

/-- arctan t for t in [0, 1]. -/
def atanUnit (t : Rat) : Rat :=
  let half (t : Rat) : Rat := rd fixBits (t / (1 + sqrtR (1 + t * t)))
  4 * atanSmall (half (half t))

/-- The angle of x + jy in (−π, π]. -/
def atan2R (y x : Rat) : Rat :=
  let ax := rabs x
  let ay := rabs y
  let a := if ax = 0 ∧ ay = 0 then 0 else if ay ≤ ax then atanUnit (ay / ax) else piR / 2 - atanUnit (ax / ay)
  let a := if x < 0 then piR - a else a
  if y < 0 then -a else a

/-! ## Declarations and targets (R353 to R355) -/

/-- A word of the declaration block, from 0xE000. -/
def State.decl (s : State) (a : Nat) : Word := Store.get 0 s.cal.decl a
def State.declF (s : State) (a : Nat) : DWord := dw (s.decl a) (s.decl (a + 1))
def State.cdTarget (s : State) : Nat := (s.decl 4).toNat

/-- The declared voltage (R354). -/
def State.vDecl (s : State) : Rat :=
  (s.cal.refMv.toInt : Rat) / 1000 + ((s.declF 0).toInt : Rat) / 1000000000

/-- A target is a spare: its kind and number. -/
def calSpare (t : Nat) : Option (Nat × Nat) :=
  if 0x200 ≤ t ∧ t < 0x208 then some (0, t - 0x200)
  else if 0x210 ≤ t ∧ t < 0x214 then some (1, t - 0x210)
  else if 0x220 ≤ t ∧ t < 0x228 then some (2, t - 0x220) else none

def calPort (t : Nat) : Option Nat := if 0x240 ≤ t ∧ t < 0x244 then some (t - 0x240) else none

/-- The procedure is defined for the target (R355). -/
def State.procTarget (s : State) (proc t : Nat) : Bool :=
  let kind := (calSpare t).map Prod.fst
  let b := decide (t < 448)
  let z := decide (448 ≤ t ∧ t < 512)
  match proc with
  | 0 => b || z || kind == some 0 || kind == some 1
  | 1 => b || kind == some 0
  | 2 => true
  | 3 => b || kind == some 2
  | 4 => b || kind == some 2
  | 5 => z && (s.blkA t).type == 1
  | 6 => z && (s.blkA t).type == 1
  | 7 => (calPort t).isSome
  | 8 => (calPort t).isSome
  | 9 => b || z
  | 10 => true
  | _ => false

/-- A spare serves no facet and is in service. -/
def SpareSt.idle (x : SpareSt) : Bool := x.state == spFree || x.state == spPinned || x.state == spChecking

/-- Targets of a batch, ascending (R355). -/
def State.batch (s : State) (proc : Nat) : List Nat :=
  let spares := ((List.range 8).map (0x200 + ·)) ++ ((List.range 4).map (0x210 + ·)) ++ ((List.range 8).map (0x220 + ·))
  (allFacets ++ spares.filter fun t => match calSpare t with
    | some (k, i) => (s.spareAt k i).idle
    | none => false).filter (s.procTarget proc)

/-- Current codes that the resistor admits (R363, EXC_I). -/
def excCodes (calR : Rat) (exvdd : Nat) : List Nat :=
  [8, 9, 10, 11].filter fun c =>
    let v := (excNa c : Rat) / 1000000000 * calR
    decide (5 / 100 ≤ v ∧ v ≤ (exvdd : Rat) / 1000 - 15 / 10)

/-- A declaration that the procedure needs is outside its range (R353, R363; code 3 of R358). -/
def State.declBad (s : State) (r : CalRun) : Bool :=
  let w (a : Nat) : Word := Store.get 0 r.decl a
  let d (a : Nat) : DWord := dw (w a) (w (a + 1))
  let ref := decide (r.refMv.toInt.natAbs ≤ 10240 ∧ (d 0).toInt.natAbs ≤ 999999)
  let revs := decide (1 ≤ (w 11).toNat ∧ (w 11).toNat ≤ 8)
  let f (a : Nat) (lo hi : Rat) : Bool := f32Finite (d a) && decide (lo ≤ f32R (d a) ∧ f32R (d a) ≤ hi)
  let v := r.vDecl
  match r.proc with
  | 1 => !(ref && decide ((w 5).toNat ≤ 5) && decide (fsB (w 5).toNat / 2 ≤ rabs v ∧ rabs v ≤ fsB (w 5).toNat))
  | 2 => !(ref && decide (5 ≤ v ∧ v ≤ 1024 / 100))
  | 3 => !(ref && decide (1 ≤ v ∧ v ≤ 1024 / 100))
  | 4 => !(f 2 100 100000 && !(excCodes (f32R (d 2)) s.exc.exvdd).isEmpty)
  | 6 => !f 6 (15 / 10) 80
  | 7 => !revs
  | 8 => !(revs && decide ((w 8).toNat ≤ 1) && f 9 (1 / 10) 100000)
  | _ => false

/-- The target is busy (code 2 of R358, R368). -/
def State.targetBusy (s : State) (r : CalRun) : Bool :=
  if r.proc = 2 ∨ r.proc = 10 then false
  else if r.target < 512 then
    let f := s.facet r.target
    f.rangeChg.isSome || f.swap.isSome || s.spare.chks.any fun c => c.facet == r.target && (c.phase == 2 || c.phase == 3)
  else match calSpare r.target, calPort r.target with
    | some (k, i), _ => !(s.spareAt k i).idle
    | _, some p => (s.bead.tarePort == p && (s.bead.tareState == 1 || s.bead.tareState == 2)) || (s.loadOf p).isEmpty
    | _, _ => false

/-- The run needs a stand-in for its facet (R359). -/
def CalRun.borrows (r : CalRun) : Bool := decide (r.target < 512) && (r.proc == 9 || decide (r.proc ≤ 5 ∧ r.proc ≠ 2))

/-- The port is out of VALID, below the minimum speed, or in reverse travel (code 10 of R358, R368). -/
def State.posBad (s : State) (p : Nat) : Bool :=
  (s.port p).st != .valid || decide ((s.port p).speed < s.minSpeed)

/-- The lowest code of phase 1; 0 when none applies (R357, R358). -/
def State.calStatic (s : State) (r : CalRun) : Nat :=
  if !s.procTarget r.proc r.target then 1
  else if s.targetBusy r then 2
  else if s.declBad r then 3
  else if s.unset then 4
  else if r.borrows && !r.allowGap && (s.pickSpare (calKind r.proc r.target) r.target).isNone then 5
  else match calPort r.target with
    | some p =>
      if decide (r.proc = 7 ∨ r.proc = 8) && s.posBad p then 10
      else if decide (r.proc = 8) && (match (s.port p).zeroAt with | some t => decide (t + 345600000 < s.tick) | none => true) then 11
      else 0
    | none => 0

/-! ## The restore area (R383) -/

/-- A word of the restore area. -/
def State.restW (s : State) (k : Nat) : Word := Store.get 0 s.cal.restore k
def State.restD (s : State) (b : Nat) : DWord := dw (s.restW (b / 2)) (s.restW (b / 2 + 1))

/-- Each value of the area lies within the limits of R375; a slot with K_j = 0 has no constants (R91; log 29). -/
def State.restoreLimits (s : State) : Bool :=
  let v (b : Nat) : Rat := f32R (s.restD b)
  let fin (b : Nat) : Bool := f32Finite (s.restD b)
  let ofs (b : Nat) : Bool := fin b && decide (rabs (v b) ≤ 2 / 100 * 8388608)
  let one (b : Nat) : Bool := fin b && decide (rabs (v b - 1) ≤ 5 / 100)
  let run (f : Nat → Bool) (b n : Nat) : Bool := (List.range n).all fun i => f (b + 4 * i)
  let slot (b : Nat) : Bool :=
    one b && fin (b + 4) && run fin (b + 8) 3 && run fin (b + 24) 2 &&
      (v (b + 8) == 0 || decide (1 / 10 ≤ v (b + 8) * 1000000000000 ∧ v (b + 8) * 1000000000000 ≤ 1000
        ∧ 0 ≤ v (b + 12) ∧ v (b + 12) * 1000000000000 ≤ 10000 ∧ 0 ≤ v (b + 16) ∧ v (b + 16) ≤ 1 / 100))
  let scale (b : Nat) : Bool := fin b && decide (rabs (v b - 1) ≤ 2 / 1000)
  scale 32 && scale 36
  && (List.range 448).all (fun n => run ofs (offB n) 6 && run one (offB n + 24) 11)
  && (List.range 64).all (fun m => run ofs (offZ m) 10 && (List.range 4).all fun j => slot (offZSlot m j))
  && (List.range 8).all (fun i => run ofs (offSB i) 6 && run one (offSB i + 24) 6)
  && (List.range 4).all (fun i => run ofs (offSZ i) 10)
  && (List.range 8).all (fun i => run one (offEB i) 5)

/-- The code of R358 that rejects the area; 0 when it is accepted (R383, R385). -/
def State.restoreReason (s : State) (sysOnly : Bool) : Nat :=
  let ws := (List.range imageWords).map fun k => if k = 14 ∨ k = 15 then 0 else s.restW k
  if s.restW 0 ≠ 1 ∨ (s.restD 4).toNat ≠ imageLen then 17
  else if s.restD 8 ≠ s.restD 41960 then 18
  else if (s.restD 28).toNat ≠ crc32 (bytesOfWords ws) then 19
  else if !sysOnly && (s.restD 20 != dw (wordOf Config.serial.toNat 0) (wordOf Config.serial.toNat 1)
      || s.restD 24 != dw (wordOf Config.serial.toNat 2) (wordOf Config.serial.toNat 3)) then 20
  else if !s.restoreLimits then 21 else 0

/-! ## Starting (R355 to R360) -/

/-- The image updates that the run's result makes, from now on owed to the CAL budget: one transfer for each value (DESIGN
CHOICE, log 232: R432 names image updates and gives them no cost). -/
def State.oweUpdates (s : State) (n : Nat) : State :=
  match s.cal.run with
  | some r => s.setRun { r with owed := n }
  | none => s

/-- The values that a restore changes, in transfers of 64 bits (R384, R432; log 232). -/
def State.restoreCost (s : State) : Nat :=
  ((List.range ((imageWords + 3) / 4)).filter fun i => (List.range 4).any fun j =>
    s.imageWord0 (4 * i + j) != s.restW (4 * i + j)).length

/-- A target's run begins with the static checks (R357). -/
def State.beginTarget (s : State) (r : CalRun) : State :=
  let c := s.calStatic r
  if c ≠ 0 then (s.setRun r).calEndTarget c
  else if r.proc = 10 then
    let c := s.restoreReason r.sysOnly
    if c ≠ 0 then (s.setRun r).calEndTarget c
    else (s.setRun { r with checked := true, phase := 3 }).oweUpdates s.restoreCost
  else s.setRun { r with checked := true }

/-- CAL_GO (R353, R355, R356, R379): the START of the run, which for a batch is that of its first target. The target of REF_SCALE and of RESTORE is the device; `CD_TARGET` is not read. -/
def State.calGo (s : State) (m : Master) (proc : Nat) (scope allowGap sysOnly : Bool) : State :=
  if s.cal.run.isSome then s.logIgnored m 0x70 0 else
  let bad := decide (10 < proc)
  let s := if bad then s.logIgnored m 0x70 0 else s
  let proc := if bad then fld s.cal.ctl 0 4 else proc
  let s := s.nextStamp
  let own := if proc = 2 ∨ proc = 10 then objDevice else s.cdTarget
  let ts := if scope ∧ (proc ≤ 1 ∨ 3 ≤ proc ∧ proc ≤ 5 ∨ proc = 9) then s.batch proc else [own]
  let s := { s with cal := { s.cal with
    ctl := w16 (proc + 16 * b2n scope + 32 * b2n allowGap + 64 * b2n sysOnly), state := 1, proc, reason := 0 } }
  let r : CalRun := {
    proc, scope, allowGap, sysOnly, target := ts.headD own, todo := ts.drop 1
    decl := s.cal.decl, refMv := s.cal.refMv, vDecl := s.vDecl, calR := f32R (s.declF 2), range := (s.decl 5).toNat, blkEps := f32R (s.declF 6)
    sysKind := (s.decl 8).toNat, sysRef := f32R (s.declF 9), revs := (s.decl 11).toNat
    limits := s.cal.limits, stamp := s.ctl.stamp, waitFrom := s.tick }
  (s.calev 0 r.proc 0 (calObject r.proc r.target)).beginTarget r

/-- The first aperture of the facet that a gap from the present tick on withholds: the oldest output not yet formed, else the next
one (R360). -/
def State.firstWithheld (s : State) (n : Nat) : Nat :=
  let b := s.blkA n
  let f := s.facet n
  let c := cycleLen b
  let mid (cyc : Nat) : Nat := f.anchor + (cyc - 1) * c + c / 2
  let marks := f.cycMarks.map fun (m : CycMark) => mid m.cyc
  let next := if scheduled n b then mid ((s.tick - f.anchor + (c - 1) - c / 2) / max 1 c + 1)
    else (s.tick + b.nout - 1) / b.nout * b.nout
  (marks ++ (match firstPend f.pend with | some k => [k] | none => [])).foldl min next

/-- The own path or driver leaves without a stand-in: every output and tick word not yet formed is withheld (R360). -/
def State.takeGap (s : State) (r : CalRun) : State :=
  let n := r.target
  let first := s.firstWithheld n
  let s := s.modFacet n fun f => { f with
    pend := f.pend.map fun (p : PendOut) => { p with withheld := true }
    tickPend := f.tickPend.map fun (p : TickPend) => { p with live := false }
    cycMarks := f.cycMarks.map fun (m : CycMark) => { m with withheld := true } }
  (s.setRun { r with phase := 2, gapFrom := some s.tick, gapFirst := first, measFrom := s.tick }).calev 5 r.proc 0 n

/-- Unpublished outputs of a settling stage, longer under shedding (R359, R441). -/
def State.calLeft (s : State) (r : CalRun) : Nat :=
  let b := s.blkA r.target
  let u := max 1 (trecUnit r.target b)
  settleLen r.target b + (s.calSlow + u - 1) / u

/-- At T the stand-in connects and its chain is cleared; a driver takes over the sensor (R359 step 1). -/
def State.startRun (s : State) (r : CalRun) : State :=
  if r.proc = 7 ∨ r.proc = 8 then
    s.setRun { r with phase := 6, wait := true, revDone := 0, acc := [], wrap := false, loaded := false, faulted := false }
  else if r.borrows then
    let k := calKind r.proc r.target
    match s.pickSpare k r.target with
    | some i =>
      let s' := (s.takeSpare k i r.target spLent).modFacet r.target fun f =>
        if k = 2 then { f with excStandin := some i } else f.clearPath (some i) s.tick
      s'.setRun { r with phase := 1, standin := some i, left := s.calLeft r }
    | none => if r.allowGap then s.takeGap r else s.calEndTarget 5
  else match calSpare r.target with
    | some (k, i) => (s.takeSpare k i 0 spLent).setRun { r with phase := 2, measFrom := s.tick }
    | none => s.setRun { r with phase := 2, measFrom := s.tick, faulted := false }

/-- CAL_RUN_START at a frame boundary T (R359); substitutions and range changes take their spares before it (R389). -/
def State.calRunStart (s : State) : State :=
  match s.cal.run with
  | none => s
  | some r =>
    if !s.calDue ∨ s.commitStamps.any s.due ∨ s.spareDue [3] then s else
    let s := if r.checked then s else s.beginTarget r
    match s.cal.run with
    | some r => if r.phase = 0 ∧ r.checked = true then s.startRun r else s
    | none => s

/-- CAL_STANDIN_SWAP (R359 step 2). -/
def State.calStandinSwap (s : State) : State :=
  match s.cal.run with
  | none => s
  | some r =>
    if r.phase ≠ 1 ∨ r.left ≠ 0 ∨ r.closed = true ∨ !s.aligned r.target then s else
    let s := s.modFacet r.target fun f => if calKind r.proc r.target = 2 then f else { f with standin := r.standin }
    s.setRun { r with phase := 2, measFrom := s.tick }

/-! ## Measurements (R359, R363 to R366) -/

/-- Path of a target: the facet's path after any substitution, or the spare. -/
def State.calPath (s : State) (t : Nat) : Nat × PathId :=
  match calSpare t with
  | some (1, i) => (448, some i)
  | some (_, i) => (0, some i)
  | none => (t, (s.facet t).subst)

/-- Driver of a target. -/
def State.calDriver (s : State) (t : Nat) : Nat × PathId :=
  match calSpare t with
  | some (_, i) => (0, some i)
  | none => (t, (s.facet t).excSubst)

/-- Ticks of a run's measurements. -/
def State.calTicks (s : State) (r : CalRun) : Nat :=
  let z := (s.calPath r.target).1
  match r.proc with
  | 0 => if isZ z then 5 * 2080 else 6 * 2080
  | 1 => 2 * 2080
  | 2 => 2 * 2080
  | 4 => (excCodes r.calR s.exc.exvdd).length * 2080
  | 9 => if isZ z then 10 * 2080 else 12 * 2080
  | 5 => if scheduled r.target (s.blkA r.target) then 32 + 256 * cycleLen (s.blkA r.target) else 2080
  | 6 => if scheduled r.target (s.blkA r.target) then 256 * cycleLen (s.blkA r.target) else 2048
  | _ => 2080

/-- A result: its code of R358, and the image values to write. -/
abbrev CalOut := Nat × List (Nat × DWord)

/-- The lowest code of phase 2, then of phase 3. -/
def calCode (dev : Bool) (x : MeasIn) (faulted limit : Bool) : Nat :=
  if dev then 6 else if x.noisy then 7 else if faulted then 12 else if limit then 14 else 0

def within2 (m v : Rat) : Bool := decide (rabs (m - v) ≤ 2 / 100 * rabs v)

/-- A quotient, none where the divisor is 0. -/
def divR (a b : Rat) : Option Rat := if b = 0 then none else some (a / b)

/-- A value lies within a limit of 1. -/
def nearOne (lim : Rat) (q : Option Rat) : Bool := match q with | some g => decide (rabs (g - 1) ≤ lim) | none => false

/-- OFFSET (R363): the new offset of each range, I before Q on a Z path. -/
def State.calOffset (s : State) (r : CalRun) (x : MeasIn) : CalOut :=
  let (n, path) := s.calPath r.target
  let rs : List (Nat × Bool) := if isZ n then (List.range 5).map (·, false) ++ (List.range 5).map (·, true)
    else (List.range 6).map (·, false)
  let new := rs.mapIdx fun i (c, q) =>
    let a := offsAddr n path c q
    (a, s.imgR a - x.vals.getD i 0 * 8388608 / fsOf n c)
  (calCode false x r.faulted (new.any fun e => decide (limOfs r.limits * 8388608 < rabs e.2)),
    new.map fun e => (e.1, f32OfRat e.2))

/-- GAIN (R363). -/
def State.calGain (s : State) (r : CalRun) (x : MeasIn) : CalOut :=
  let (n, path) := s.calPath r.target
  let mp := x.vals.getD 0 0
  let mm := x.vals.getD 1 0
  let a := gainAddr n path r.range
  let g := divR (s.imgR a * (2 * r.vDecl)) (mp - mm)
  (calCode (!(within2 mp r.vDecl && within2 (-mm) r.vDecl)) x r.faulted (!nearOne (limGain r.limits) g),
    [(a, f32OfRat (g.getD 1))])

/-- REF_SCALE (R363, R364). -/
def State.calRef (s : State) (r : CalRun) (x : MeasIn) : CalOut :=
  let m (i : Nat) : Rat := x.vals.getD i 0
  let new (i : Nat) : Option Rat := divR (s.imgR (32 + 4 * i) * r.vDecl) (m i)
  (calCode (!(within2 (m 0) r.vDecl && within2 (m 1) r.vDecl)) x r.faulted
      (!(nearOne (limScale r.limits) (new 0) && nearOne (limScale r.limits) (new 1))),
    [(32, f32OfRat ((new 0).getD 1)), (36, f32OfRat ((new 1).getD 1))])

/-- EXC_V (R363). -/
def State.calExcV (s : State) (r : CalRun) (x : MeasIn) : CalOut :=
  let (n, drv) := s.calDriver r.target
  let m := x.vals.getD 0 0
  let a := senseAddr n drv
  let g := divR (s.imgR a * r.vDecl) m
  (calCode (!within2 m r.vDecl) x r.faulted (!nearOne (limGain r.limits) g), [(a, f32OfRat (g.getD 1))])

/-- EXC_I (R363): a voltage for each admitted current code, ascending. -/
def State.calExcI (s : State) (r : CalRun) (x : MeasIn) : CalOut :=
  let (n, drv) := s.calDriver r.target
  let cs := (excCodes r.calR s.exc.exvdd).mapIdx fun i c =>
    let want := (excNa c : Rat) / 1000000000 * r.calR
    let a := trimAddr n drv c
    (a, want, x.vals.getD i 0, divR (s.imgR a * want) (x.vals.getD i 0))
  (calCode (cs.any fun e => !within2 e.2.2.1 e.2.1) x r.faulted (cs.any fun e => !nearOne (limGain r.limits) e.2.2.2),
    cs.map fun e => (e.1, f32OfRat (e.2.2.2.getD 1)))

/-- SELFTEST (R363): the shorts, then the dividers at 50 % of FS, each in range order and on a Z-facet I before Q. -/
def State.calSelf (_s : State) (r : CalRun) (x : MeasIn) : CalOut :=
  let n := r.target
  let k := if isZ n then 10 else 6
  let bad := (List.range k).any fun c =>
    let fs := fsOf n (if isZ n then c % 5 else c)
    decide (limOfs r.limits * fs < rabs (x.vals.getD c 0))
      || decide (limGain r.limits < rabs ((x.vals.getD (k + c) 0 - x.vals.getD c 0) / (fs / 2) - 1))
  (calCode false x r.faulted bad, [])

/-- Z_SLOT (R365): a pair of real and imaginary parts of Y_T for each active slot. -/
def State.calSlot (s : State) (r : CalRun) (x : MeasIn) : CalOut :=
  let n := r.target
  let new := (activeSlots (s.blkA n)).mapIdx fun i j =>
    let b := offZSlot (n - 448) j
    let (re, im) := (x.vals.getD (2 * i) 0, x.vals.getD (2 * i + 1) 0)
    let (yr, yi) := (s.imgR (b + 24), s.imgR (b + 28))
    let d := re * re + im * im
    if d = 0 then (b, none) else
      -- Yref ÷ Y_T
      let qr := (yr * re + yi * im) / d
      let qi := (yi * re - yr * im) / d
      (b, some (s.imgR b * sqrtR (qr * qr + qi * qi), s.imgR (b + 4) + atan2R qi qr, atan2R qi qr))
  let lim := limGain r.limits
  let bad := new.any fun (e : Nat × Option (Rat × Rat × Rat)) => match e.2 with
    | some (a, _, d) => decide (lim < rabs (a - 1) ∨ lim < rabs d)
    | none => true
  (calCode false x r.faulted bad, new.flatMap fun e => match e.2 with
    | some (a, p, _) => [(e.1, f32OfRat a), (e.1 + 4, f32OfRat p)]
    | none => [])

/-- ω_j. -/
def omega (b : Blk) (j : Nat) : Rat := 2 * piR * 1000 * (b.zFreq j : Rat)

/-- The AIR step of Z_CELL (R366): G and B of each active slot, and the mean of the port's scale samples over the step. The
code that forbids it. -/
def State.calAir (s : State) (r : CalRun) (x : MeasIn) : Nat :=
  let n := r.target
  let b := s.blkA n
  let reason := fld (s.facet n).zStat 4 4
  let moist := (s.facet n).last.valid && (reason == 0 || reason == 8)
  let belt := b.beltEn && !(s.loadOf b.beltPort).isEmpty
  let slots := (activeSlots b).mapIdx fun i j => (j, x.vals.getD (2 * i) 0, x.vals.getD (2 * i + 1) 0)
  let dense := slots.any fun (j, _, bb) =>
    let c := s.slotCal n j none s.tick
    c.calibrated (b.zFreq j) && (match divR (bb / omega b j - c.cs) c.k with | some e => decide (11 / 10 < e) | none => false)
  let full := belt && decide (r.qN ≠ 0) && decide (((s.port b.beltPort).cfgA.emptyQ : Rat) / 1000 ≤ r.qSum / r.qN)
  if x.noisy then 7 else if full then 8 else if moist || dense then 9 else if r.faulted then 12 else 0

/-- The BLOCK step of Z_CELL (R90, R366, R373): G and B of each active slot, then Yref of each. -/
def State.calBlock (s : State) (r : CalRun) (x : MeasIn) : CalOut :=
  let n := r.target
  let b := s.blkA n
  let js := activeSlots b
  let rows := js.mapIdx fun i j =>
    let w := omega b j
    let (ga, ba) := r.air.getD i (0, 0)
    let (gb, bb) := (x.vals.getD (2 * i) 0, x.vals.getD (2 * i + 1) 0)
    let dev := decide ((bb - ba) / w < 5 / 10000000000000 ∨ 2 / 100 * (bb - ba) < gb - ga)
    let k := (bb - ba) / (w * (r.blkEps - 1))
    let cs := ba / w - k
    let a := offZSlot (n - 448) j
    let old := s.imgR (a + 8)
    let pf := k * 1000000000000
    let lim := decide (pf < 1 / 10 ∨ 1000 < pf ∨ cs < 0 ∨ 10000 < cs * 1000000000000 ∨ ga < 0 ∨ 1 / 100 < ga)
      || (old != 0 && decide (limSys r.limits * rabs old < rabs (k - old)))
    let y := 2 * js.length + 2 * i
    (dev, lim, [(a + 8, f32OfRat k), (a + 12, f32OfRat cs), (a + 16, f32OfRat ga), (a + 20, BitVec.ofNat 32 (b.zFreq j)),
      (a + 24, f32OfRat (x.vals.getD y 0)), (a + 28, f32OfRat (x.vals.getD (y + 1) 0))])
  (calCode (rows.any (·.1)) x r.faulted (rows.any (·.2.1)), rows.flatMap (·.2.2))

/-- The MP has a result, or a failure, for the frame boundary H. -/
def State.calFinish (s : State) (r : CalRun) (o : CalOut) : State :=
  let s := s.nextStamp
  let result := if o.1 = 0 then o.2 else []
  (s.setRun { r with phase := 3, fail := o.1, result, stamp := s.ctl.stamp, waitFrom := s.tick }).oweUpdates result.length

/-- CAL_MEASUREMENT_DONE (R359 steps 3 and 4, R366, R441). -/
def State.calMeasured (s : State) (x : MeasIn) : State :=
  match s.cal.run with
  | none => s
  | some r =>
    let slow := s.calSlow * max 1 (if r.proc = 5 ∨ r.proc = 6 then 1 else s.calTicks r / 2080)
    if r.phase ≠ 2 ∨ r.closed = true ∨ s.tick < r.measFrom + s.calTicks r + slow then s else
    match r.proc with
    | 0 => s.calFinish r (s.calOffset r x)
    | 1 => s.calFinish r (s.calGain r x)
    | 2 => s.calFinish r (s.calRef r x)
    | 3 => s.calFinish r (s.calExcV r x)
    | 4 => s.calFinish r (s.calExcI r x)
    | 5 => s.calFinish r (s.calSlot r x)
    | 9 => s.calFinish r (s.calSelf r x)
    | 6 =>
      if r.block then s.calFinish r (s.calBlock r x) else
      let c := s.calAir r x
      if c ≠ 0 then s.calFinish r (c, []) else
      let air := (activeSlots (s.blkA r.target)).mapIdx fun i _ => (x.vals.getD (2 * i) 0, x.vals.getD (2 * i + 1) 0)
      { s with cal := { s.cal with state := 2, run := some { r with phase := 5, air, waitFrom := s.tick } } }
    | _ => s

/-- CAL_NEXT (R366). -/
def State.calNext (s : State) : State :=
  match s.cal.run with
  | none => s
  | some r =>
    if r.phase = 5 then
      { s with cal := { s.cal with state := 1, run := some { r with phase := 2, block := true, measFrom := s.tick, faulted := false } } }
    else s

/-- Z_CELL_WAIT_TIMEOUT (R367). -/
def State.zCellTimeout (s : State) : State :=
  match s.cal.run with
  | none => s
  | some r => if r.phase = 5 ∧ r.waitFrom + 2400000 ≤ s.tick then s.calEndTarget 13 else s

/-! ## Results (R364, R376 to R378) -/

/-- The target ends, or its path is back after its end; a LIMIT failure of a path starts a check of it (R374). -/
def State.calClose (s : State) (r : CalRun) : State :=
  let s := if r.closed then { s with cal := { s.cal with run := none } } else s.calEndTarget r.fail
  if r.fail = 14 ∧ r.target < 512 ∧ (r.proc ≤ 1 ∨ r.proc = 5 ∨ r.proc = 9)
      ∧ (s.facet r.target).subst.isNone = true then s.wantCheck r.target false else s

/-- Write image values, a new generation (R377). -/
def State.writeImage (s : State) (ws : List (Nat × DWord)) : State :=
  if ws.isEmpty then s else
  let s := (ws.foldl (fun s (e : Nat × DWord) => s.setImg e.1 e.2) s).bumpGen
  { s with nvm := { s.nvm with factoryImg := false } }

/-- The target counts at the instant its result takes effect (R378). -/
def State.calCount (s : State) (r : CalRun) : State :=
  if 8 < r.proc then s else
  { s with cal := { s.cal with count := min 65535 (s.cal.count + 1), last := s.seconds } }

/-- Zero and span of a belt scale (R225, R250, R370, R371). -/
def State.setScale (s : State) (p : Nat) (span zero : DWord) : State :=
  let changed := (s.port p).span != span || (s.port p).zero != zero
  let s := s.keepSettings p
  let s := s.modPort p fun q => { q with span := span, zero := zero }
  if changed then s.flagBeads p 0x0040 else s

/-- The unit that a run's result writes (R423). -/
def calUnit (t : Nat) : CUnit := match calPort t with | some p => .portBlock p | none => .corr t

/-- The result of a run takes effect at H. -/
def State.calApply (s : State) (r : CalRun) : State :=
  let s := match calPort r.target, r.result with
    | some p, [(0, span), (1, zero)] =>
      let s := (s.setScale p span zero).bumpGen
      if r.proc = 7 then s.modPort p fun q => { q with zeroAt := some s.tick } else s
    | some _, _ => s
    | none, ws => s.writeImage ws
  (s.calCount r).committed .mp (calUnit r.target)

/-- At H the own path returns to its facet, its chain cleared; the own driver takes the sensor back (R359 step 4, R360, R364). -/
def State.calReturn (s : State) (r : CalRun) : State :=
  match r.standin, r.gapFrom, calSpare r.target with
  | some _, _, _ =>
    let s := s.modFacet r.target fun f =>
      if calKind r.proc r.target = 2 then { f with excStandin := none } else f.clearPath f.subst s.tick
    s.setRun { r with phase := 4, left := s.calLeft r }
  | none, some _, _ =>
    let n := r.target
    let s := s.modFacet n fun f => f.clearChain s.tick (settleLen n (s.blkA n))
    let s := s.lose n n r.gapFirst (s.tick - r.gapFirst) 6 0
    (s.setRun { r with gapFrom := none }).calClose { r with gapFrom := none }
  | none, none, some (k, i) => (s.returnSpare k i).calClose r
  | none, none, none => s.calClose r

/-- The MP's own clasp fails with CONFLICT (R376, R384, R425). -/
def State.mpConflict (s : State) : State :=
  ((s.modClasp .mp fun c => { c with result := 2, fail := 27 }).irq0 8).logE 3 (masterCode .mp) 0 27

/-- CAL_RESULT_APPLY at H (R359, R360, R376, R423). -/
def State.calResultApply (s : State) : State :=
  match s.cal.run with
  | none => s
  | some r =>
    if r.phase ≠ 3 ∨ r.proc = 10 ∨ (r.proc = 2 ∧ r.fail = 0) ∨ !s.turn r.stamp
        ∨ s.tick < r.waitFrom + s.calSlow ∨ r.owed ≠ 0 then s else
    let lost := decide (r.fail = 0) && s.conflicts .mp r.stamp (calUnit r.target)
    let fail := if lost then 15 else r.fail
    let s := if fail = 0 then s.calApply r else if lost then s.mpConflict else s
    s.calReturn { r with fail, counted := fail == 0 }

/-- CAL_SWAP_BACK (R359 step 5). -/
def State.calSwapBack (s : State) : State :=
  match s.cal.run with
  | none => s
  | some r =>
    if r.phase ≠ 4 ∨ r.left ≠ 0 ∨ r.freeAt.isSome = true ∨ !s.aligned r.target then s else
    let s := s.modFacet r.target fun f => if calKind r.proc r.target = 2 then f else { f with standin := none }
    s.setRun { r with freeAt := some (s.tick + 1) }

/-- Nothing of the present boundary that precedes a reference-scale step still waits (R19 step 4). -/
def State.changesDone (s : State) : Bool :=
  s.stepsDone && !(s.isFrame && s.ctl.frameAt != some s.tick) && !(s.commitStamps.any s.due)
    && !(s.ctl.frameAt == some s.tick && s.modeWanted.1 != s.ctl.tally)

/-- REF_SCALE_STEP on the next base-rate sample (R19 step 4, R364). -/
def State.refScaleStep (s : State) : State :=
  match s.cal.run with
  | none => s
  | some r =>
    if r.proc ≠ 2 ∨ r.phase ≠ 3 ∨ r.fail ≠ 0 ∨ s.tick ≤ r.waitFrom + s.calSlow ∨ r.owed ≠ 0 ∨ !s.changesDone then s else
    let s := s.writeImage r.result
    let s := ((s.calCount r).committed .mp (.refScale 0)).committed .mp (.refScale 1)
    (s.setRun { r with counted := true }).calEndTarget 0

/-- Facets whose faults fail the measurement in progress: those that it uses. A rolling run measures a path or a driver that is
away from its facet, and uses none (R358 code 12, R359, R366). -/
def State.measFacets (s : State) (r : CalRun) : List Nat :=
  if r.proc ≠ 6 ∨ r.phase ≠ 2 then [] else
  let b := s.blkA r.target
  r.target :: (if b.beltEn && !r.block then s.loadOf b.beltPort else [])

/-- The end of step 5, an own path being back (R359). -/
def State.calFree (s : State) : State :=
  match s.cal.run with
  | some { freeAt := some t, standin := i, .. } =>
    if s.tick < t then s else
    match s.cal.run with
    | some r => (match i with | some i => s.returnSpare (calKind r.proc r.target) i | none => s).calClose r
    | none => s
  | _ => s

/-- A run that ABORT ends in step 5: its target completed at H, and counts (R376, R378); the targets still to come do not run. -/
def State.abortDone (s : State) (r : CalRun) : State :=
  let s := s.calev 1 r.proc 0 (calObject r.proc r.target)
  ({ s with cal := { s.cal with run := none, state := 4, proc := r.proc
                                reason := if r.firstFail = 0 then 16 else r.firstFail } }).irq1 10

/-- An abort acts at the tick boundary: targets not completed keep their old values; a path that is away returns at H, and one
that settles goes on settling (R356, R359). -/
def State.calAbortTick (s : State) : State :=
  match s.cal.run with
  | none => s
  | some r =>
    if !r.aborted ∨ r.closed = true then s else
    let away := r.standin.isSome || r.gapFrom.isSome || (calSpare r.target).isSome
    if r.phase = 1 then (s.calLetGo r).calEndTarget 16
    else if r.phase = 4 then
      (if r.counted then s.abortDone r else s.calEndTarget 16).setRun { r with closed := true, fail := 16, todo := [] }
    else if decide (2 ≤ r.phase ∧ r.phase ≤ 3) && away then
      let s := (s.calEndTarget 16).nextStamp
      s.setRun { r with closed := true, fail := 16, todo := [], result := [], phase := 3, stamp := s.ctl.stamp }
    else s.calEndTarget 16

/-- What the run observes of the tick that has ended: faults of the facets that it uses, and a belt-scale port that falls out of
VALID or below the minimum speed (R358 codes 10 and 12, R368). -/
def State.calWatch (s : State) : State :=
  match s.cal.run with
  | none => s
  | some r =>
    if r.phase = 6 then
      (match calPort r.target with
       | some p => if s.posBad p then s.calEndTarget 10 else s
       | none => s)
    else if decide (r.measFrom < s.tick) && (s.measFacets r).any fun n => (s.facet n).faultIn (s.tick - 1) (s.tick - 1) then
      s.setRun { r with faulted := true }
    else s

/-- What a tick boundary does to a run: an abort comes before the run's own end at the same boundary (R356, R358, R359). -/
def State.calTick (s : State) : State := s.calAbortTick.calFree.calWatch

/-- The run's transfers of the tick that ends: its measurement data, one for each chain, and what its image updates still owe.
While the CAL budget is exhausted the measurement does not advance (R379, R432, R434; log 232). -/
def State.payCal (s : State) : State :=
  match s.cal.run with
  | none => s
  | some r =>
    let left := s.budget.limit actCal - s.budget.used.getD actCal 0
    let take (s : State) (n : Nat) : State := if left < n then (s.spendAll actCal left).stall actCal else s.spendAll actCal n
    if r.phase = 2 ∧ r.closed = false then
      let n := if isZ (s.calPath r.target).1 ∧ r.proc ≠ 3 ∧ r.proc ≠ 4 then 2 else 1
      let s := take s n
      if left < n then s.setRun { r with measFrom := r.measFrom + 1 } else s
    else if r.owed ≠ 0 then (take s r.owed).setRun { r with owed := r.owed - left }
    else s

/-- CAL_ABORT (R356). -/
def State.calAbort (s : State) : State :=
  match s.cal.run with
  | none => s
  | some r => if r.closed then s else s.setRun { r with aborted := true }

/-- A synchronising reset at `y` during a run (R362). -/
def State.calSync (s : State) (y : Nat) : State :=
  match s.cal.run with
  | none => s
  | some r =>
    if r.phase = 1 ∨ r.phase = 4 then s.setRun { r with left := s.calLeft r }
    else if r.phase = 2 then
      -- Z_CELL moves no path, so its measurement starts after the 32 ticks that the others discard anyway
      let len := if r.proc = 5 ∨ r.proc = 6 then max 1 (s.calTicks r) else 2080
      s.setRun { r with measFrom := y + (if r.proc = 6 then 32 else 0) - (y - r.measFrom) / len * len, faulted := false
                        qN := 0, qSum := 0 }
    else s

/-! ## Belt-scale runs (R368 to R371) -/

/-- Covered length and mean of q of revolution `k`, and of each of its covered entries. -/
def CalRun.revMean (r : CalRun) (k : Nat) : Rat × Rat × List Rat :=
  let es := r.acc.filter fun e => e.1 / 2 ^ 20 == k && decide (0 < e.2.1)
  let len := es.foldl (fun a e => a + e.2.1) 0
  let mass := es.foldl (fun a e => a + e.2.2) 0
  (len, if len = 0 then 0 else mass / len, es.map fun e => e.2.2 / e.2.1)

/-- The result of a belt-zero run (R370, R375). -/
def State.beltZeroResult (s : State) (p : Nat) (r : CalRun) (qm : Rat) : CalOut :=
  let q := s.port p
  let z := f32R q.zero + qm
  let bad : Bool := decide (limZero r.limits < rabs qm) || decide (1000 < rabs z)
  (if bad then 14 else 0, [(0, q.span), (1, f32OfRat z)])

/-- The new span and zero of a belt-span run against the mean `qm` and the reference `ref` (R371). -/
def State.beltSpanNew (s : State) (p : Nat) (ref qm : Rat) : Rat × Rat :=
  let q := s.port p
  let z := f32R q.zero
  let sp := f32R q.span
  let sp1 := sp * ref / qm
  (sp1, if sp = 0 then z else z * sp1 / sp)

/-- The limits of R375 on a belt-span run's constants. -/
def State.beltSpanBad (s : State) (p : Nat) (r : CalRun) (sp1 z1 : Rat) : Bool :=
  let q := s.port p
  let z := f32R q.zero
  let sp := f32R q.span
  decide (limSys r.limits * rabs sp < rabs (sp1 - sp)) || decide (limZero r.limits < rabs (z1 - z))
    || decide (sp1 < 1 / 2) || decide (2 < sp1) || decide (1000 < rabs z1)

/-- The result of a belt-scale run whose revolutions have ended (R370 to R373, R375). -/
def State.beltResult (s : State) (p : Nat) (r : CalRun) : CalOut :=
  let len : Rat := r.acc.foldl (fun a e => a + e.2.1) 0
  let sum : Rat := r.acc.foldl (fun a e => a + e.2.2) 0
  let qm : Rat := if len = 0 then 0 else sum / len
  if r.proc = 7 then s.beltZeroResult p r qm else
  let ref : Rat := if r.sysKind = 0 then r.sysRef * 1000 / ((s.port p).cfgA.scaleLen : Rat) else r.sysRef
  let far : Bool := decide (1 / 10 * rabs ref < rabs (qm - ref)) || decide (qm = 0)
  if far then (6, []) else
  let n := s.beltSpanNew p ref qm
  (if s.beltSpanBad p r n.1 n.2 then 14 else 0, [(0, f32OfRat n.1), (1, f32OfRat n.2)])

/-- BELT_CAL_REVOLUTION_END (R369). -/
def State.beltRevEnd (s : State) : State :=
  match s.cal.run with
  | none => s
  | some r =>
    if r.phase ≠ 6 ∨ !r.wrap then s else
    match calPort r.target with
    | none => s
    | some p =>
      let (_, mean, es) := r.revMean r.revDone
      let lim := 10 * ((s.port p).cfgA.emptyQ : Rat) / 1000
      let rough := r.proc == 7 && es.any fun e => decide (lim < rabs (e - mean))
      let code := if rough then 8 else if r.loaded then 9 else if r.faulted then 12 else 0
      if code ≠ 0 then s.calEndTarget code else
      let r := { r with revDone := r.revDone + 1, wrap := false, loaded := false, faulted := false }
      if r.revDone < r.revs then s.setRun r else s.calFinish r (s.beltResult p r)

/-! ## RESTORE (R384, R385) -/

/-- Words of the constants that SYS_ONLY takes: K_j, CS_j, GA_j and the frequency of every slot. -/
def sysWords : List Nat :=
  (List.range 64).flatMap fun m => (List.range 4).flatMap fun j => (List.range 8).map (offZSlot m j / 2 + 4 + ·)

/-- Byte offsets of the same. -/
def sysAddrs : List Nat :=
  (List.range 64).flatMap fun m => (List.range 4).flatMap fun j => (List.range 4).map fun i => offZSlot m j + 8 + 4 * i

/-- Words of Yref of every slot. -/
def yrefWords : List Nat :=
  (List.range 64).flatMap fun m => (List.range 4).flatMap fun j => (List.range 4).map (offZSlot m j / 2 + 12 + ·)

/-- Byte offsets of the offsets and gains of every path, of the sense gains and of the reference scales (R351). -/
def corrAddrs : List Nat :=
  [32, 36]
  ++ ((List.range 448).map offB ++ (List.range 8).map offSB).flatMap (fun b => (List.range 12).map fun i => b + 4 * i)
  ++ (List.range 448).map (offB · + 48) ++ (List.range 8).map offEB
  ++ ((List.range 64).map offZ ++ (List.range 4).map offSZ).flatMap (fun b => (List.range 10).map fun i => b + 4 * i)

/-- Byte offsets of the gain, the phase and the constants of every slot (R351). -/
def slotAddrs : List Nat :=
  (List.range 64).flatMap fun m => (List.range 4).flatMap fun j => (List.range 6).map fun i => offZSlot m j + 4 * i

/-- The values among these that a restore changes, as they are before it (R126, R150). -/
def State.restoreRemember (s : State) (bs : List Nat) : CalSt :=
  (bs.filter fun b => s.img b != s.restD b).foldl (fun c b => c.remember s.tick b (s.img b)) s.cal

/-- RESTORE_APPLY at H. -/
def State.restoreApply (s : State) : State :=
  match s.cal.run with
  | none => s
  | some r =>
    if r.proc ≠ 10 ∨ r.phase ≠ 3 ∨ !s.turn r.stamp ∨ s.tick < r.waitFrom + s.calSlow ∨ r.owed ≠ 0 then s
    else if s.conflicts .mp r.stamp (.corr 0x1FFF) then s.mpConflict.calEndTarget 15 else
    let gen := (max s.cal.gen (s.restD 8).toNat + 1) % 2 ^ 32
    let put (s : State) (k : Nat) (v : Option Word) : State :=
      { s with cal := { s.cal with image := Store.set none s.cal.image k v } }
    let s :=
      if r.sysOnly then
        let s := { s with cal := s.restoreRemember sysAddrs }
        let s := sysWords.foldl (fun s k => put s k (some (s.restW k))) s
        yrefWords.foldl (fun s k => put s k none) s
      else
        let image := Store.keep (fun k => decide (k < 16)) s.cal.image
          ++ (List.range 20964).map fun i => (i + 16, some (s.restW (i + 16)))
        { s with cal := { s.restoreRemember (corrAddrs ++ slotAddrs) with image := image, count := (s.restW 6).toNat, last := (s.restD 16).toNat } }
    let s := { s with cal := { s.cal with gen := gen }, nvm := { s.nvm with factoryImg := false, cellsOnly := r.sysOnly } }
    (s.committed .mp (.corr 0x1FFF)).calEndTarget 0

end Sys2Proof.Machine
end

