-- ==== Sys2Proof/Machine/Regs.lean ====
section
/-! DEFINITION. What the 128 register words and the window spaces read as (chapter 15): the value in force of every word, for
each master, with the effects that a read cycle has (R8, R9, R58, R193, R275, R346, R413, R415, R453), and the
heartbeat, which reports the same values (R336, R337). -/

namespace Sys2Proof.Machine

open Sys2Proof

/-! ## Status words -/

/-- `FW_VER` (R446, R475). -/
def State.fwVer (s : State) : Word := if s.life.patched then Config.fwPatched else Config.fwRom

/-- `MODE_CTL.SEL` as written (R216). -/
def State.modeReg (s : State) : Nat := s.ctl.modePend.getD s.ctl.modeSel

/-- `CLASP_STAT` (R419, R421, R425, R446). -/
def Clasp.stat (c : Clasp) : Word :=
  w16 (b2n c.isOpen + 2 * b2n c.pend + 4 * b2n c.full + 8 * (if c.isOpen || c.pend then min 64 c.writes.length else 0)
    + 1024 * c.result)

/-- `RUN_CTL`. -/
def State.runCtl (s : State) : Word := w16 (4 * b2n s.ctl.profBusy + 32768 * b2n s.life.dbgLock)

/-- `SVC_STAT`. -/
def State.svcStat (s : State) : Word := w16 (s.ctl.load + 256 * s.ctl.shed + 2048 * b2n s.ctl.svc)

/-- `LOUPE_STAT`. -/
def State.loupeStat (s : State) : Word := w16 (b2n s.life.loupeValid + 16 * s.life.loupeClass)

/-- `SYNC_STAT`. -/
def State.syncStat (s : State) : Word :=
  let t := s.time
  w16 (b2n t.armed.isSome + 2 * b2n t.syncLate + 4 * b2n t.syncMulti + 8 * t.syncSrc + 256 * t.syncCount)

/-- `EXC_STAT`. -/
def State.excStat (s : State) : Word :=
  w16 (min 4095 s.exc.railMa + 4096 * b2n s.exc.railOver + 8192 * b2n s.exc.fold + 16384 * b2n s.exc.headroom)

/-- `FCT_READ_STAT` (R60). -/
def State.fctReadStat (s : State) : Word := w16 (b2n s.fctRead.ready + 2 * min 1023 s.fctRead.age)

/-- `CHN_STAT` of the facet selected (R129, R132, R133, R449). -/
def State.chnStat (s : State) (facet : Nat) : Word :=
  let c := s.chain
  w16 (b2n (c.shStaged != c.shActive) + 2 * b2n c.shRej + 4 * b2n c.trPend
    + 128 * notchDly (s.blkA facet).notch c.trac)

/-- `XFADE_STAT` (R139, R142, R143). -/
def State.xfadeStat (s : State) : Word :=
  let c := s.chain
  w16 (b2n c.fade.isSome + 2 * b2n c.queue.isSome + 4 * b2n c.replaced + 8 * c.cause)

/-- `POS_STAT` of a port (R451). -/
def PosPort.stat (q : PosPort) : Word :=
  w16 (q.st.code + 4 * b2n q.qerr + 8 * b2n q.overspeed + 16 * b2n q.slew.isSome + 32 * b2n q.stepFlag
    + 64 * b2n q.revOk + 128 * b2n q.revAdj + 256 * b2n q.tableDiff + 512 * q.cause)

/-- The latched group of a port: `u_ref` in whole mm (0 outside VALID), the speed and the revolution count (R193). -/
def PosPort.group (q : PosPort) : List Word :=
  let (u, rev) : Nat × Nat := match q.latches with
    | l :: _ => (if l.st = .valid then l.u.floor.toNat else 0, l.rev)
    | [] => (0, q.rev)
  [wordOf u 0, wordOf u 1, w16i q.speed, w16 rev]

/-- `CAP_STAT`. -/
def State.capStat (s : State) : Word := w16 (s.cap.st.code + 8 * s.cap.cause + 32 * b2n s.cap.clamp)

/-- `CAN_RXQ0`, `CAN_RXQ1`. -/
def RxQueue.stat (r : RxQueue) : Word := w16 (min 31 r.q.length + 32 * b2n r.ovr)

/-- `CAN_FAILOVER`. -/
def State.failoverStat (s : State) : Word := s.candev.ctl ||| w16 (16 * b2n s.candev.active.isSome)

/-- A register of the selected CAN port, offsets 0x61 to 0x6E (R281, R454). -/
def State.canReg (s : State) (p off : Nat) : Word :=
  let c := s.canPort p
  match off with
  | 0x61 => c.ctl
  | 0x62 => s.canStat p
  | 0x63 => c.nbtp0
  | 0x64 => c.nbtp1
  | 0x65 => c.dbtp0
  | 0x66 => c.dbtp1
  | 0x67 => (c.tdc &&& 0xFF) ||| w16 (256 * c.meas)
  | 0x68 => w16 (min 255 c.recCnt + 256 * min 255 c.tec)
  | 0x69 => c.err
  | 0x6A => w16 ((List.range 8).foldl (fun a i => a + b2n (c.mbox (24 + i)).full * 2 ^ i) 0)
  | 0x6B => c.rx0.stat
  | 0x6C => c.rx1.stat
  | 0x6D => c.fltSel
  | 0x6E => c.loneLim
  | _ => 0

/-- `CAL_STAT` (R356). -/
def State.calStat (s : State) : Word := w16 (s.cal.state + 8 * s.cal.proc + 256 * s.cal.reason)

/-! ## The selectors of a register (R420, R518) -/

/-- The selector value that applies to a register of a master: facet, port, activity or table word; 0 where none does. -/
def MasterSt.selOf (x : MasterSt) (off : Nat) : Nat :=
  if off = 0x34 then x.fctSel
  else if 0x41 ≤ off ∧ off ≤ 0x48 then x.posSel
  else if 0x3C ≤ off ∧ off ≤ 0x3E then x.budgetSel
  else if 0x61 ≤ off ∧ off ≤ 0x6E then x.canSel
  else if off = 0x54 then x.trgSel
  else 0

/-! ## Register words -/

/-- Offsets 0x00 to 0x1F. -/
def State.reg0 (s : State) (m : Master) (off : Nat) : Word :=
  let x := s.master m
  match off with
  | 0x00 => 0x5120
  | 0x01 => Config.devRev
  | 0x02 => 0x0E00
  | 0x03 => w16 s.ctl.station
  | 0x04 => w16 s.modeReg
  | 0x05 => w16 (b2n s.ctl.tally + 2 * s.ctl.modeCause)
  | 0x06 => s.runCtl
  | 0x09 => x.clasp.stat
  | 0x0A => w16 x.clasp.fail
  | 0x0C => s.ctl.hostWdt
  | 0x0D => s.svcStat
  | 0x0E => s.fwVer
  | 0x0F => s.loupeStat
  | 0x10 => s.time.ctl
  | 0x11 => s.tbStat
  | 0x12 => wordOf x.latchTime 0
  | 0x13 => wordOf x.latchTime 1
  | 0x14 => wordOf x.latchTime 2
  | 0x15 => wordOf x.latchTime 3
  | 0x16 => s.tbOffset
  | 0x17 => s.tbRate
  | 0x18 => s.tbHold
  | 0x19 => s.time.refCtl
  | 0x1A => s.refmStat
  | 0x1B => s.time.refPeriodNew.getD s.time.refPeriod
  | 0x1C => s.time.syncCtl
  | 0x1D => s.syncStat
  | 0x1E => wordOf s.time.syncAt 0
  | 0x1F => wordOf s.time.syncAt 1
  | _ => 0

/-- Offsets 0x20 to 0x3F; FCT_FAULT_NEXT shows the facet that its next read returns. -/
def State.reg2 (s : State) (m : Master) (off : Nat) : Word :=
  let x := s.master m
  match off with
  | 0x20 => w16 x.fctSel
  | 0x21 => w16 (4 * b2n s.needSpare + 256 * s.applyCause)
  | 0x22 => w16 s.faultSum
  | 0x23 => match s.nextFault x.faultPos with | some n => w16 n | none => 0x8000
  | 0x24 => s.fctRead.ctl ||| w16 (32768 * b2n s.fctRead.pend)
  | 0x25 => lo16 s.fctRead.result
  | 0x26 => hi16 s.fctRead.result
  | 0x27 => s.fctReadStat
  | 0x28 => s.exc.ctl
  | 0x29 => s.excStat
  | 0x2A => s.exc.cmw
  | 0x2B => s.exc.ztone
  | 0x2C => w16 (b2n s.exc.lock)
  | 0x2D => s.spare.ctl ||| w16 (32768 * b2n s.spare.cmd.isSome)
  | 0x2E => s.spareStat
  | 0x2F => s.refStat
  | 0x30 => s.chain.ctl
  | 0x31 => s.chnStat x.fctSel
  | 0x32 => s.chain.shStaged
  | 0x33 => w16 (b2n s.chain.tracStaged)
  | 0x34 => w16 ((s.blkA x.fctSel).noutCode + 16 * s.chain.odecScope)
  | 0x35 => s.chain.bankSel
  | 0x36 => w16 s.chain.bank
  | 0x37 => s.chain.xfadeLen
  | 0x38 => s.xfadeStat
  | 0x39 => w16 (min 65535 (settleLen x.fctSel (s.blkA x.fctSel)))
  | 0x3A => w16 (min 65535 (grpDly x.fctSel (s.blkA x.fctSel)))
  | 0x3B => w16 (x.budgetSel + 16 * x.budgetCause)
  | 0x3C => w16 (s.budget.set.getD x.budgetSel 0 / 4)
  | 0x3D => w16 (min 65535 ((s.budget.usedLast.getD x.budgetSel 0 + 3) / 4))
  | 0x3E => w16 (s.budget.ovr.getD x.budgetSel 0)
  | 0x3F => w16 (min 65535 (s.budget.fabric / 4))
  | _ => 0

/-- Offsets 0x40 to 0x5F. -/
def State.reg4 (s : State) (m : Master) (off : Nat) : Word :=
  let x := s.master m
  let q := s.port x.posSel
  match off with
  | 0x40 => w16 x.posSel
  | 0x41 => q.cfg
  | 0x42 => q.stat
  | 0x43 => x.latchPos.getD 0 0
  | 0x44 => x.latchPos.getD 1 0
  | 0x45 => x.latchPos.getD 2 0
  | 0x46 => x.latchPos.getD 3 0
  | 0x47 => wordOf q.lenStaged 0
  | 0x48 => wordOf q.lenStaged 1
  | 0x49 => s.bead.ctl
  | 0x4A => s.beadStat
  | 0x4B => w16 s.bead.seq
  | 0x4C => s.bead.tareCtl
  | 0x4D => s.tareStat
  | 0x4E => s.ctl.tallyCtl
  | 0x4F => w16 (s.ctl.tallyEntry + 16 * s.ctl.tallyHold)
  | 0x50 => w16 (b2n s.trg.en)
  | 0x51 => w16 (s.trg.cause + 256 * (s.trg.count % 256))
  | 0x52 => w16 s.trg.st
  | 0x53 => w16 x.trgSel
  | 0x54 => s.trgRead x.trgSel
  | 0x55 => s.trg.auto
  | 0x56 => w16 s.trg.missed
  | 0x57 => s.cap.ctl
  | 0x58 => s.cap.pre
  | 0x59 => s.cap.post
  | 0x5A => w16 s.cap.grant
  | 0x5B => s.capStat
  | 0x5C => w16 (s.cap.partStaged.getD 0 0 + 256 * s.cap.partCause)
  | 0x5D => w16 (s.cap.partStaged.getD 1 0)
  | 0x5E => w16 (s.cap.partStaged.getD 2 0)
  | 0x5F => w16 s.msg.seq.gap
  | _ => 0

/-- Offsets 0x60 to 0x7F; `WIN_DATA` is read through its window. -/
def State.reg6 (s : State) (m : Master) (off : Nat) : Word :=
  let x := s.master m
  match off with
  | 0x60 => w16 x.canSel
  | 0x6F => s.failoverStat
  | 0x70 => s.cal.ctl
  | 0x71 => s.calStat
  | 0x72 => w16 s.cal.count
  | 0x73 => wordOf x.latchCal 0
  | 0x74 => wordOf x.latchCal 1
  | 0x75 => s.cal.refMv
  | 0x76 => s.cal.limits
  | 0x77 => wordOf s.imageCrc 0
  | 0x78 => s.ctl.irq0
  | 0x79 => s.ctl.mask0
  | 0x7A => s.ctl.irq1
  | 0x7B => s.ctl.mask1
  | 0x7C => w16 (x.winSpace + 16384 * b2n x.winErr + 32768 * b2n x.winStall)
  | 0x7D => wordOf x.winAddr 0
  | 0x7E => wordOf x.winAddr 1
  | off => s.canReg x.canSel off

/-- The value in force of a register word for a master, without the effects of a read. -/
def State.regWord (s : State) (m : Master) (off : Nat) : Word :=
  if off < 0x20 then s.reg0 m off else if off < 0x40 then s.reg2 m off else if off < 0x60 then s.reg4 m off
  else s.reg6 m off

/-! ## Effects of a register read -/

/-- The latches of R9 and R193: the first word of a group captures it; `ns` after the last tick boundary. -/
def State.latchGroup (s : State) (m : Master) (off ns : Nat) : State :=
  match off with
  | 0x12 => s.modMaster m fun x => { x with latchTime := s.nowNs ns % 2 ^ 64 }
  | 0x43 => s.modMaster m fun x => { x with latchPos := (s.port x.posSel).group }
  | 0x73 => s.modMaster m fun x => { x with latchCal := s.cal.last }
  | _ => s

/-- What a read clears (R8): RC words; a remote read clears nothing (R346). -/
def State.clearRc (s : State) (m : Master) (off : Nat) : State :=
  if isRemote m then s else
  let x := s.master m
  match off with
  | 0x3E => { s with budget := { s.budget with ovr := s.budget.ovr.set x.budgetSel 0 } }
  | 0x56 => { s with trg := { s.trg with missed := 0 } }
  | 0x69 => s.modCanPort x.canSel fun c => { c with err := 0 }
  | _ => s

/-- The advance of `TRG_SEQ_SEL` after an access to `TRG_SEQ_DATA` (R453). -/
def nextTrgSel (w : Nat) : Nat := (w + 1) % 144

/-- Reads that advance a position of the master: FCT_FAULT_NEXT (R58) and TRG_SEQ_DATA (R453). -/
def State.advance (s : State) (m : Master) (off : Nat) : State :=
  match off with
  | 0x23 => s.modMaster m fun x => { x with faultPos := s.nextFault x.faultPos }
  | 0x54 => s.modMaster m fun x => { x with trgSel := nextTrgSel x.trgSel }
  | _ => s

/-- A read of a register word other than `WIN_DATA`: its value, and the state after it. -/
def State.regRead (s : State) (m : Master) (off ns : Nat) : Word × State :=
  let s := s.latchGroup m off ns
  (s.regWord m off, (s.clearRc m off).advance m off)

/-! ## Window spaces (R457) -/

/-- Sizes in words; space 0xD ignores the address. -/
def winSize : Nat → Nat
  | 0x0 => 0xC000 | 0x1 => 0x605C | 0x2 => 0xE00C | 0x3 => 0x400018 | 0x4 => 0x100000 | 0x5 => 0x0A00
  | 0x6 => 0x8000 | 0x7 => 0x17 | 0x8 => 0x40000 | 0x9 => 0x0800 | 0xA => 0x0696 | 0xB => 0x90 | 0xC => 0x2000
  | 0xD => 2 ^ 32 | _ => 0

/-- The address lies within the size of the space: of the regions in force in spaces 0x3 and 0x4 (R457). -/
def State.winInside (s : State) (space addr : Nat) : Bool :=
  decide (addr < winSize space) &&
  (if space = 3 ∧ addr < 0x400000 then decide (addr < s.cap.part.getD 0 0 * 32768)
   else if space = 4 then
     let p := addr / 0x40000
     let a := addr % 0x40000
     if 0x3F000 ≤ a then true else decide (a % 0x20000 < tareCount (s.port p).len)
   else true)

/-- `FP_PATH` (R459). -/
def FacetRT.pathWord (f : FacetRT) : Word :=
  w16 ((match f.subst with | some i => 1 + 2 * i | none => 0) + (match f.standin with | some i => 16 + 32 * i | none => 0)
    + (match f.excSubst with | some i => 256 + 512 * i | none => 0))

/-- `FP_ZSTAT` with SCHED in force. -/
def State.zstatWord (s : State) (n : Nat) : Word := setFld (s.facet n).zStat 0 1 (b2n (scheduled n (s.blkA n)))

/-- A word of a facet's block in space 0x0; the status words read the same in both blocks (R458). -/
def State.fpWord (s : State) (n w : Nat) (active : Bool) : Word :=
  let f := s.facet n
  if w = 11 then f.faultNow
  else if w = 12 then f.faultSeen
  else if w = 15 then (if isZ n then s.zstatWord n else f.engStat)
  else if w = 16 ∧ !isZ n then f.pathWord
  else if active then s.fpA n w else s.fpS n w

/-- A word of a Z result block (R99). -/
def State.zrWord (s : State) (m w : Nat) : Word :=
  let z := (s.facet (448 + m)).zres
  if w = 0 then w16 z.seqLead
  else if w = 80 then w16 z.seqTrail
  else if w < 4 then wordOf z.aperture (w - 1)
  else if w < 7 then wordOf z.anchor (w - 4)
  else if w = 7 then z.zstat
  else if w < 10 then wordOf z.m.toNat (w - 8)
  else if w < 12 then wordOf z.eng.toNat (w - 10)
  else if w < 14 then wordOf z.t.toNat (w - 12)
  else if 16 ≤ w ∧ w < 80 then
    let k := (w - 16) % 16
    if 14 ≤ k then 0 else wordOf (((z.slots.getD ((w - 16) / 16) []).getD (k / 2) 0).toNat) (k % 2)
  else 0

/-- A word of space 0x1: low half, then bits 23:16 sign-extended (R461). -/
def State.coefWord (s : State) (a : Nat) : Word :=
  let i := a % 0x4000
  if 8284 ≤ i then 0 else
  let c := s.coef (a / 0x4000) (i / 2)
  if i % 2 = 0 then c.setWidth 16 else (c.signExtend 32 >>> 16).setWidth 16

/-- A word of space 0x2. -/
def State.calWord (s : State) (a : Nat) : Word :=
  if a < imageWords then s.imageWord a
  else if 0x8000 ≤ a ∧ a < 0x8000 + imageWords then Store.get 0 s.cal.restore (a - 0x8000)
  else if 0xE000 ≤ a then Store.get 0 s.cal.decl (a - 0xE000)
  else 0

/-- A word of a port block (R462). -/
def PosPort.blockWord (q : PosPort) (w : Nat) : Word :=
  if w ≤ 16 then q.pbS w
  else if 32 ≤ w ∧ w ≤ 48 then q.pbA (w - 32)
  else if w = 50 ∨ w = 51 then wordOf q.len (w - 50)
  else if 64 ≤ w ∧ w ≤ 191 then q.pbS w
  else if 192 ≤ w ∧ w ≤ 319 then q.pbA (w - 128)
  else
  match w with
  | 320 => lo16 q.span | 321 => hi16 q.span
  | 322 => lo16 q.zero | 323 => hi16 q.zero
  | 324 => w16 (b2n q.tareLoad)
  | 326 => lo16 q.tareStgMean | 327 => hi16 q.tareStgMean
  | 328 => w16 q.qerrCnt | 329 => w16 q.spurCnt | 330 => w16 q.missCnt | 331 => w16 q.stretchRej
  | 332 => w16 q.lastMark
  | 333 => w16 q.tareGen
  | 334 => wordOf (s32 q.slipLast) 0 | 335 => wordOf (s32 q.slipLast) 1
  | 336 => wordOf q.slipRev 0 | 337 => wordOf q.slipRev 1
  | 338 => wordOf (s32 q.stretchPpm) 0 | 339 => wordOf (s32 q.stretchPpm) 1
  | 340 => wordOf q.cfgA.tableCrc 0 | 341 => wordOf q.cfgA.tableCrc 1
  | 342 => wordOf (s32 q.tareMean) 0 | 343 => wordOf (s32 q.tareMean) 1
  | _ => 0

/-- A word of space 0x4 (R462). -/
def State.posWord (s : State) (a : Nat) : Word :=
  let q := s.port (a / 0x40000)
  let w := a % 0x40000
  if w < 0x20000 then w16i (Store.get 0 q.tare w)
  else if w < 0x3F000 then Store.get 0 q.tareStg (w - 0x20000)
  else q.blockWord (w - 0x3F000)

/-- `FP`-style read-only words of a user curve (R115, R469). -/
def State.curveWord (s : State) (a : Nat) : Word :=
  let w := a % 256
  let act := a % 0x1000 + 0x1000
  if w = 1 ∨ w = 2 then Store.get 0 s.curves act else Store.get 0 s.curves a

/-- A word of the bezel tables: HOST and MP read 11, DEBUG reads 00 once locked (R427, R431, R464). -/
def State.bezelWord (s : State) (t : Nat) : Word :=
  if 23 ≤ t then 0 else
  let w := (Store.get 0x030F s.ctl.bezel t &&& 0x03F0) ||| 0x000F
  if s.life.dbgLock then w &&& 0x00FF else w

/-- A word of the NVM as the device holds it: erased words read 0xFFFF (R465). -/
def State.nvmWord (s : State) (a : Nat) : Word :=
  if a < 0x2000 then Config.trimWord a
  else if 0x28000 ≤ a then Config.patchWord (a - 0x28000)
  else Store.get 0xFFFF s.nvm.words a

/-- A word of space 0x8: the station-key page reads 0 (R465). -/
def State.nvmRead (s : State) (a : Nat) : Word := if 0x4000 ≤ a ∧ a < 0x4080 then 0 else s.nvmWord a

/-- The eight words of a log entry (R467). -/
def LogEntry.words (e : LogEntry) : List Word :=
  [w16 e.seq, wordOf e.tick 0, wordOf e.tick 1, wordOf e.tick 2, w16 (e.code + 256 * e.master + 2048 * e.repeats),
   w16 e.object, wordOf e.detail.toNat 0, wordOf e.detail.toNat 1]

/-- A word of space 0x9. -/
def State.logWord (s : State) (a : Nat) : Word :=
  match Store.get none s.log (a / 8) with
  | some e => e.words.getD (a % 8) 0
  | none => 0

/-- The value of a window word; `port` is the CAN port of space 0xA. Words that no layout lists read 0 (R444). -/
def State.winWord (s : State) (port space addr : Nat) : Word :=
  match space with
  | 0x0 =>
    if addr < 0x4000 then s.fpWord (addr / 32) (addr % 32) false
    else if addr < 0x6000 then s.zrWord ((addr - 0x4000) / 128) (addr % 128)
    else if addr < 0x8000 then 0
    else s.fpWord ((addr - 0x8000) / 32) (addr % 32) true
  | 0x1 => s.coefWord addr
  | 0x2 => s.calWord addr
  | 0x3 => s.capWord addr
  | 0x4 => s.posWord addr
  | 0x5 => s.beadWord addr
  | 0x6 => if s.life.loupeValid then Store.get 0 s.loupe addr else 0
  | 0x7 => s.bezelWord addr
  | 0x8 => s.nvmRead addr
  | 0x9 => s.logWord addr
  | 0xA => s.canWord port addr
  | 0xB => s.trgRead addr
  | 0xC => s.curveWord addr
  | _ => 0

/-- RC words of the window spaces clear when read (R8), but for a remote master (R346). -/
def State.winClear (s : State) (m : Master) (port space addr : Nat) : State :=
  if isRemote m then s
  else if space = 0xA then s.canWordClear port addr
  else if space = 4 then
    let p := addr / 0x40000
    match addr % 0x40000 with
    | 0x3F148 => s.modPort p fun q => { q with qerrCnt := 0 }
    | 0x3F149 => s.modPort p fun q => { q with spurCnt := 0 }
    | 0x3F14A => s.modPort p fun q => { q with missCnt := 0 }
    | 0x3F14B => s.modPort p fun q => { q with stretchRej := 0 }
    | _ => s
  else s

/-- Space 0x8 stalls while a page programs (R466). -/
def State.nvmBusy (s : State) (space : Nat) : Bool := space == 8 && s.nvm.prog.isSome

/-- The word of a space that an access touches: 64 bits, four window words; the words of the queue count as they are
taken. -/
def winLine (space addr : Nat) : Nat × Nat := (space, addr / 4)

/-- One transfer of the HOST budget for each 64-bit word touched, at the first access that touches it (R415); none when
the budget is exhausted. The MP and the remote masters use the MP's own path (R343). -/
def State.chargeWin (s : State) (m : Master) (space addr : Nat) : Option State :=
  let act := if m = .host ∨ m = .debug then actHost else actMp
  if (s.master m).lastCharged = some (winLine space addr) then some s else
  match s.spend act 1 with
  | some t => some (t.modMaster m fun x => { x with lastCharged := some (winLine space addr) })
  | none => none

/-- The queue of space 0xD costs one transfer for every four words taken, at the first of them. -/
def State.chargeQueue (s : State) (m : Master) : Option State :=
  let act := if m = .host ∨ m = .debug then actHost else actMp
  let k : Nat := match (s.master m).lastCharged with
    | some (0xD, c) => if c < 4 then c else 0
    | _ => 0
  let count (t : State) : State := t.modMaster m fun x => { x with lastCharged := some (0xD, k + 1) }
  if s.cap.queue.isEmpty then some s
  else if k ≠ 0 then some (count s)
  else (s.spend act 1).map count

/-! ## Heartbeats (R336, R337) -/

/-- The byte of a port's CAN state. -/
def State.portByte (s : State) (p : Nat) : Nat :=
  let w := s.canStat p
  fld w 0 3 + 8 * fld w 7 1 + 16 * fld w 8 1 + 32 * b2n s.candev.active.isSome

/-- `OPS`. -/
def State.opsByte (s : State) : Nat :=
  b2n s.ctl.tally + 2 * b2n s.ctl.svc + 4 * s.modeReg + 16 * b2n (s.life.loupeValid || s.life.phase == .fatal)
    + 32 * b2n (s.cal.state == 1 || s.cal.state == 2)

/-- The HBEAT payload of a port; `t48` is `TICK` (R337). -/
def State.hbeatBody (s : State) (p t48 : Nat) : List Byte :=
  let ps := (List.range 4).map fun i => s.port i
  leBytes 2 (s.canPort p).hSeq ++ leBytes 6 t48
    ++ leBytes 1 (s.time.state.code + 16 * s.errExp) ++ leBytes 1 s.opsByte ++ leBytes 1 s.time.syncCount
    ++ leBytes 1 (s.bead.beads.length % 64) ++ leBytes 2 s.faultSum ++ leBytes 2 s.msg.seq.gap ++ leBytes 2 s.bead.seq
    ++ leBytes 2 s.msg.seq.a
    ++ leBytes 1 ((ps.zipIdx.foldl (fun a (q, i) => a + q.st.code * 4 ^ i) 0))
    ++ leBytes 1 ((ps.zipIdx.foldl (fun a (q, i) => a + b2n q.revOk * 2 ^ i) 0))
    ++ leBytes 1 (s.portByte 0) ++ leBytes 1 (s.portByte 1)
    ++ leBytes 1 (min 255 (s.canPort 0).tec) ++ leBytes 1 (min 255 (s.canPort 1).tec)
    ++ leBytes 2 (min 1024 (s.canPort 0).staging.length) ++ leBytes 2 (min 1024 (s.canPort 1).staging.length)
    ++ leBytes 1 (s.freeCount 0)
    ++ leBytes 1 (s.freeCount 1 + 16 * b2n s.stbyOk + 32 * b2n (s.spare.portC.state == spFree))
    ++ leBytes 1 (s.freeCount 2) ++ leBytes 1 (s.freeCount 3)
    ++ leBytes 1 s.ctl.load ++ leBytes 1 0 ++ leBytes 2 s.cal.count ++ leBytes 2 s.fwVer.toNat
    ++ leBytes 2 Config.devRev.toNat ++ leBytes 2 s.trg.missed ++ leBytes 4 s.budget.fabric

/-- Queue one HBEAT on a port. -/
def State.hbeatOn (s : State) (p t48 : Nat) : State :=
  let body := s.hbeatBody p t48
  (s.modCanPort p fun c => { c with hSeq := (c.hSeq + 1) % 65536 }).emit .hbeat p p body 0 511 s.tick 1

/-- HBEAT_SEND: one on port A and one on port B, at a tick number that is a multiple of 4,000, or every 4,000 ticks of
the provisional count from L (R336). -/
def State.hbeatSend (s : State) : State :=
  let due := if s.unset then decide (s.life.lTick < s.tick) && (s.tick - s.life.lTick) % 4000 == 0
    else s.tick % 4000 == 0
  if !s.ready ∨ !due ∨ s.ctl.hbeatAt = some s.tick then s else
  let t := s.msgTick s.tick
  let s := { s with ctl := { s.ctl with hbeatAt := some s.tick } }
  (s.hbeatOn 0 t).hbeatOn 1 t

end Sys2Proof.Machine
end

