-- ==== Sys2Proof/Machine/Windows.lean ====
section
/-! DEFINITION. Writes to the words of the window spaces (chapter 15, R420, R444): which words take a write and how, the
words that ignore one, values of several words, the user curves (R117), the page buffer of the NVM (R466). -/

namespace Sys2Proof.Machine

open Sys2Proof

/-! ## Which words take writes -/

/-- Words of a port block that software writes (R462); the bits of the shorter ones. -/
def pbMask (w : Nat) : Word :=
  if w = 10 ∨ w = 16 then 1 else if w = 11 then 0x00FF
  else if w ≤ 15 ∨ (64 ≤ w ∧ w ≤ 191) ∨ (320 ≤ w ∧ w ≤ 323) ∨ w = 326 ∨ w = 327 then 0xFFFF
  else 0

/-- Words of the staged copy of a user curve (R115, R469). -/
def ucIsRw (w : Nat) : Bool := w = 0 || (4 ≤ w && w ≤ 135)

/-- Words of a CAN port space that software writes, but for `CP_MB_DONE` (R468). -/
def canIsRw (a : Nat) : Bool :=
  if a < 0x500 then decide (24 ≤ a / 40) && (a % 40 ≤ 2 || 8 ≤ a % 40)
  else if a < 0x600 then a % 8 ≤ 4
  else a == 0x695

/-- The profile bank may be written through space 0x8: it is not in force, and no save runs (R466, R480, R481). -/
def State.bankRw (s : State) (b : Nat) : Bool := s.nvm.bank != some b && s.nvm.saving.isNone

/-- An RW word of a space, whose writes a clasp stages (R420). -/
def State.winRw (s : State) (space addr : Nat) : Bool :=
  match space with
  | 0x0 => decide (addr < 0x4000) && fpIsParam (addr / 32) (addr % 32)
  | 0x1 => addr % 0x4000 < 2 * bankSize
  | 0x2 => (0x8000 ≤ addr && decide (addr < 0x8000 + imageWords)) || 0xE000 ≤ addr
  | 0x4 =>
    let w := addr % 0x40000
    (0x20000 ≤ w && decide (w < 0x3F000) && s.tareRoom (addr / 0x40000)) || (0x3F000 ≤ w && pbMask (w - 0x3F000) != 0)
  | 0x7 => true
  | 0x8 => decide (0x8000 ≤ addr ∧ addr < 0x28000) && s.bankRw ((addr - 0x8000) / 0x10000)
  | 0xA => canIsRw addr
  | 0xB => trgMask addr != 0
  | 0xC => decide (addr < 0x1000) && ucIsRw (addr % 256)
  | _ => false

/-- A word that takes writes at once, inside a clasp as outside: W1C, WSC and WO words (R420). -/
def winNow (space addr : Nat) : Bool :=
  match space with
  | 0x0 => decide (addr < 0x4000) && addr % 32 == 12
  | 0x4 => addr % 0x40000 == 0x3F144
  | 0x8 => addr == 0x4000 || addr == 0x4001
  | 0xA => addr == 0x680
  | _ => false

/-- Index of a window word within its value, and the words of the value (R444). -/
def winValue (space addr : Nat) : Nat × Nat :=
  let pair := (addr % 2, 2)
  match space with
  | 0x0 =>
    let w := addr % 32
    if isZ (addr / 32) then (if 24 ≤ w then pair else (0, 1)) else if 18 ≤ w ∧ w ≤ 29 then pair else (0, 1)
  | 0x1 => pair
  | 0x2 =>
    if 0xE000 ≤ addr then
      (let w := addr - 0xE000
       if w = 4 ∨ w = 5 ∨ w = 8 ∨ w = 11 then (0, 1) else if w < 8 then pair else (1 - w % 2, 2))
    else
      (let w := addr - 0x8000
       if w = 0 ∨ w = 1 ∨ w = 6 ∨ w = 7 then (0, 1) else if 10 ≤ w ∧ w ≤ 13 then (w - 10, 4) else pair)
  | 0x4 =>
    let w := addr % 0x40000
    if w < 0x3F000 then (0, 1) else
    let k := w - 0x3F000
    if k ≤ 1 ∨ k = 4 ∨ k = 5 ∨ (64 ≤ k ∧ k ≤ 191) ∨ 320 ≤ k then pair else (0, 1)
  | 0xA =>
    if addr < 0x500 then (if addr % 40 ≤ 1 then (addr % 40, 2) else (0, 1))
    else if addr < 0x600 then (if addr % 8 ≤ 3 then pair else (0, 1))
    else (0, 1)
  | 0xB =>
    let w := addr % 16
    if addr < 128 ∧ (w = 2 ∨ w = 3 ∨ w = 4 ∨ w = 5 ∨ w = 8 ∨ w = 9) then pair else (0, 1)
  | 0xC => if 4 ≤ addr % 256 then pair else (0, 1)
  | _ => (0, 1)

/-! ## Writes that are ignored -/

/-- The entry of a master in a word of the bezel tables (R464). -/
def bezelEntry (w : Word) (m : Master) : Nat := fld w (2 * masterCode m) 2

/-- The word that a write to a bezel word leaves: HOST and MP hold 11, reserved bits stay 0 (R427). -/
def bezelTake (v : Word) : Word := (v &&& 0x03F0) ||| 0x000F

/-- The write is ignored and logged (R137, R258, R271, R275, R296, R300, R428). -/
def State.winLocked (s : State) (m : Master) (port space addr : Nat) (v : Word) : Bool :=
  match space with
  | 0x1 => s.bankLocked (addr / 0x4000)
  | 0x7 => bezelEntry (bezelTake v) m != bezelEntry (s.bezelWord addr) m
  | 0xA =>
    let c := s.canPort port
    if port = 2 ∧ s.cSubst = true then false
    else if addr < 0x500 then (c.mbox (addr / 40)).full
    else if addr < 0x600 then bits c.fltEn.toNat ((addr - 0x500) / 8) 1 == 1
    else false
  | 0xB =>
    (decide (addr < 128) && s.trg.en) || ((addr == 128 || addr == 129) && s.cap.st != .idle)
      || ((addr == 130 || addr == 131) && s.cap.hsRun)
  | _ => false

/-- `PB_SCALE_SPAN` and `PB_SCALE_ZERO` take their listed values only (R10, R225). -/
def spanOk (d : DWord) : Bool := f32Finite d && decide ((1 / 2 : Rat) ≤ f32R d ∧ f32R d ≤ 2)
def zeroOk (d : DWord) : Bool := f32Finite d && decide (rabs (f32R d) ≤ 1000)

/-- A direct write would place a reserved encoding in a value that acts directly. -/
def winReserved (space addr : Nat) (ws : List Word) : Bool :=
  if space = 4 then
    let d := dw (ws.getD 0 0) (ws.getD 1 0)
    if addr % 0x40000 = 0x3F140 then !spanOk d else if addr % 0x40000 = 0x3F142 then !zeroOk d else false
  else false

/-! ## User curves (R117) -/

/-- The word `UC_STAT` of curve `c`, 0 to 15, lies in its active copy. -/
def ucStatAddr (c : Nat) : Nat := 0x1000 + c * 256 + 1

def State.setUcStat (s : State) (c : Nat) (v : Word) : State :=
  { s with curves := Store.set 0 s.curves (ucStatAddr c) v }

/-- `UC_CTL` holds a reserved encoding (R10, R469). -/
def curveEnc (v : Word) : Bool := fld v 0 2 == 3 || fld v 4 2 == 3

/-- A filter's control word holds a reserved encoding (R10, R468). -/
def fltEnc (v : Word) : Bool := fld v 0 2 == 3 || fld v 2 2 == 3 || fld v 4 2 == 3

/-- The code of `UC_STAT.ERR` that the check of R117 gives; 0 passes, 3 stands for a reserved encoding. -/
def curveErr (w : Nat → Word) : Nat :=
  let v (i : Nat) : DWord := dw (w (4 + 2 * i)) (w (5 + 2 * i))
  if !(List.range 66).all (fun i => f32Finite (v i)) then 1
  else if !(List.range 32).all (fun i => decide (f32R (v i) < f32R (v (i + 1)))) then 2
  else if curveEnc (w 0) then 3
  else 0

/-- A failed check of curve `c`: `UC_STAT.ERR` reads the code `e`; for a reserved encoding the rule states none, and it is free
(R117). -/
def State.ucFail (s : State) (c e : Nat) : State :=
  let st := Store.get 0 s.curves (ucStatAddr c)
  if e = 3 then { s.setUcStat c (setFld st 1 2 (Config.ucErr s.free).toNat) with free := s.free + 1 }
  else s.setUcStat c (setFld st 1 2 e)

/-- The words of a curve that become active, as they stand in its staged copy. -/
def State.ucWords (s : State) (c : Nat) : List Word :=
  (List.range 136).map fun w => if w = 0 ∨ 4 ≤ w then s.ucS (48 + c) w else 0

/-- Setting `UC_CTL.ACT`: the staged copy is checked, and its activation waits for the frame boundary (R117). -/
def State.ucAct (s : State) (m : Master) (c : Nat) : State :=
  let st := Store.get 0 s.curves (ucStatAddr c)
  match curveErr (fun w => s.ucS (48 + c) w) with
  | 0 =>
    let s := (s.setUcStat c (setFld st 1 2 0)).nextStamp
    { s with curvePend := s.curvePend.filter (fun x => x.1 != c) ++ [(c, s.ctl.stamp, m)] }
  | e => s.ucFail c e

/-- The staged copy, as it stands, becomes the active copy; outputs formed before it that still wait for their transfers keep
what it replaces (R117, R423, R438). -/
def State.ucActivate (s : State) (c : Nat) : State :=
  let gen := Store.get 0 s.curves (0x1000 + c * 256 + 2)
  let st := Store.get 0 s.curves (ucStatAddr c)
  let m := Store.setRun (fun _ => 0) s.curves (0x1000 + c * 256) (s.ucWords c)
  let old := (s.tick, c, (List.range 136).map (s.ucA (48 + c)))
  { s with curveOld := old :: s.curveOld.filter (fun e => decide (s.tick < e.1 + 16)), curves := Store.set 0 (Store.set 0 m (ucStatAddr c) (st ||| 1)) (0x1000 + c * 256 + 2) (gen + 1) }

/-- USER_CURVE_ACTIVATION at the frame boundary (R117, R423). -/
def State.userCurve' (s : State) (c : Nat) : State :=
  match s.curvePend.find? (fun x => x.1 == c) with
  | none => s
  | some (_, stamp, m) =>
    if !s.turn stamp then s else
    (({ s with curvePend := s.curvePend.filter (fun x => x.1 != c) }).ucActivate c).committed m (.curve c)

/-! ## The page buffer of the NVM (R466) -/

/-- The station-key page. -/
def keyPage : Nat := 0x80

/-- One word into the page buffer; the page is programmed when its last word is written. -/
def State.nvmPut (s : State) (m : Master) (addr : Nat) (v : Word) : State :=
  let page := addr / 128
  let (s, ws) : State × List (Nat × Word) := match s.nvm.buf with
    | some (p, ws) => if p = page then (s, ws) else (s.logIgnored m 0x1008 addr, [])
    | none => (s, [])
  let ws := Store.insert ws (addr % 128) v
  let last : Nat := if page = keyPage then 1 else 127
  if addr % 128 = last then { s with nvm := { s.nvm with buf := none, prog := some (page, ws) } }
  else { s with nvm := { s.nvm with buf := some (page, ws) } }

/-- A word of a page as it is programmed: a word that the buffer does not hold is open (log 30). -/
def pageWord (free : Nat) (ws : List (Nat × Word)) (k : Nat) : Word :=
  ((ws.find? (fun x => x.1 == k)).map (·.2)).getD (Config.nvmFill (free + k))

/-- NVM_PAGE_PROGRAMMED (R466). -/
def State.nvmProgrammed (s : State) : State :=
  match s.nvm.prog with
  | none => s
  | some (page, ws) =>
    let s := { s with nvm := { s.nvm with prog := none } }
    if page = keyPage then
      { s with free := s.free + 128, nvm := { s.nvm with key := dw (pageWord s.free ws 0) (pageWord s.free ws 1) } }
    else
      { s with free := s.free + 128, nvm := { s.nvm with
        words := Store.setRun (fun _ => 0xFFFF) s.nvm.words (page * 128) ((List.range 128).map (pageWord s.free ws)) } }

/-! ## Writing a word -/

/-- A word of a coefficient (R461). -/
def State.coefPut (s : State) (addr : Nat) (v : Word) : State :=
  let k := addr / 0x4000
  let i := addr % 0x4000 / 2
  let c := (s.coef k i).toNat
  let n : Nat := if addr % 2 = 0 then c / 65536 * 65536 + v.toNat else c % 65536 + v.toNat % 256 * 65536
  s.setCoef k i (BitVec.ofNat 24 n)

/-- Half of a 32-bit value replaced. -/
def half (d : DWord) (hi : Bool) (v : Word) : DWord := if hi then dw (lo16 d) v else dw v (hi16 d)

/-- A word of a port block. -/
def PosPort.pbPut (q : PosPort) (w : Nat) (v : Word) : PosPort :=
  let hi : Bool := w % 2 == 1
  if w = 320 ∨ w = 321 then { q with spanPend := some (half (q.spanPend.getD q.span) hi v) }
  else if w = 322 ∨ w = 323 then { q with zeroPend := some (half (q.zeroPend.getD q.zero) hi v) }
  else if w = 326 ∨ w = 327 then { q with tareStgMean := half q.tareStgMean hi v }
  else { q with staged := Store.set (pbReset w) q.staged w (v &&& pbMask w), strWritten := q.strWritten || w == 4 || w == 5 }

/-- Take a word into its place, outside every check of access: an RW word, or one that acts at once. -/
def State.winPut (s : State) (m : Master) (port space addr : Nat) (v : Word) : State :=
  match space with
  | 0x0 =>
    let n := addr / 32
    let w := addr % 32
    if w = 12 then s.modFacet n fun f => { f with faultSeen := f.faultSeen &&& ~~~v }
    else s.setFpS n w (v &&& fpMask n w)
  | 0x1 => s.coefPut addr v
  | 0x2 =>
    if addr < 0xE000 then { s with cal := { s.cal with restore := Store.set 0 s.cal.restore (addr - 0x8000) v } }
    else { s with cal := { s.cal with decl := Store.set 0 s.cal.decl (addr - 0xE000) v } }
  | 0x4 =>
    let p := addr / 0x40000
    let w := addr % 0x40000
    if w < 0x3F000 then s.modPort p fun q => { q with tareStg := Store.set 0 q.tareStg (w - 0x20000) v }
    else if w = 0x3F144 then (if fld v 0 1 = 1 then s.tareLoadReq m p else s)
    else s.modPort p fun q => q.pbPut (w - 0x3F000) v
  | 0x7 => { s with ctl := { s.ctl with bezelPend := s.ctl.bezelPend ++ [(addr, bezelTake v, m)] } }
  | 0x8 => s.nvmPut m addr v
  | 0xA => s.canWordWrite m port addr v
  | 0xB => s.trgWrite m addr v 0x100B addr
  | 0xC =>
    let s := { s with curves := Store.set 0 s.curves addr (if addr % 256 = 0 then v &&& 0x0033 else v) }
    if addr % 256 = 0 ∧ fld v 15 1 = 1 then s.ucAct m (addr / 256) else s
  | _ => s

/-- A bezel word takes its value: at the frame boundary of a direct write, or with its clasp (R428). -/
def State.bezelSet (s : State) (t : Nat) (v : Word) : State :=
  { s with ctl := { s.ctl with bezel := Store.set 0x030F s.ctl.bezel t (bezelTake v) } }

/-- A direct write to a bezel word takes effect: it is ignored, as at the write, when it would change an entry of its own
master by then (R428). -/
def State.bezelEffect (s : State) (t : Nat) (v : Word) (m : Master) : State :=
  if bezelEntry (bezelTake v) m != bezelEntry (s.bezelWord t) m then s.logIgnored m 0x1007 t else s.bezelSet t v

/-- Key of a window word among the held low words. -/
def holdKey (port space addr : Nat) : Nat := space * 2 ^ 24 + addr + (if space = 0xA then port * 4096 else 0)

/-- The words of a value, the held ones and the last, with what stands there for the others. -/
def State.winWords (s : State) (port space addr : Nat) (idx : Nat) (v : Word) : List (Nat × Word) :=
  (List.range idx).filterMap (fun j =>
    let a := addr - idx + j
    (Store.get none s.winHold (holdKey port space a)).map fun x => (a, x)) ++ [(addr, v)]

/-- A direct write to a word that takes writes: ignored where its rule says so; a value of several words takes effect with
its highest word (R444). The low word that is held, like those of SYNC_AT and BELT_LEN, is one for all masters: R518 lists no
own copy of it (DESIGN CHOICE, log 196). -/
def State.winDirect (s : State) (m : Master) (port space addr : Nat) (v : Word) : State :=
  if s.winLocked m port space addr v then s.logIgnored m (0x1000 + space) addr else
  let (idx, len) := winValue space addr
  if idx + 1 < len then { s with winHold := Store.set none s.winHold (holdKey port space addr) (some v) } else
  let ws := s.winWords port space addr idx v
  let s := { s with winHold := ws.foldl (fun h (a, _) => Store.set none h (holdKey port space a) none) s.winHold }
  let now := (List.range len).map fun j =>
    ((ws.find? (fun x => x.1 == addr - idx + j)).map (·.2)).getD (s.winWord port space (addr - idx + j))
  if winReserved space (addr - idx) now then s.logIgnored m (0x1000 + space) addr
  else ws.foldl (fun t (a, x) => t.winPut m port space a x) s

end Sys2Proof.Machine
end

