-- ==== Sys2Proof/Machine/Startup.lean ====
section
/-! DEFINITION. Resets (R470 to R472), the boot up to the choice of a bank (R473 to R476), bank records (R482), the start
of the drives and of acquisition (R473 to R475), the host watchdog and standalone service (R483 to R488), DBG_LOCK (R431). -/

namespace Sys2Proof.Machine

open Sys2Proof

/-! ## Roll-back of a clasp by something else (R424, R425) -/

/-- The clasp of a master is rolled back by something other than its own ROLLBACK: RESULT, interrupt and log. -/
def State.claspDrop (s : State) (m : Master) (result : Nat) (code : BitVec 32) : State :=
  ((s.modClasp m fun c => { c with isOpen := false, pend := false, full := false, writes := [], result }).irq0 8).logE 3
    (masterCode m) 0 code

/-! ## Resets -/

/-- What the spare-map log brings back of a spare: substitutions, failures and pins (R407). -/
def SpareSt.afterReset (x : SpareSt) : SpareSt :=
  if x.state = spSubst ∨ x.state = spFailed then x
  else x.freed

/-- A kind that was exhausted has nothing free after a reset either: temporary uses have ended, and failed references and rows
in use stay so (R401, R405, R407, R408). -/
def SpareUnit.stillExhausted (u : SpareUnit) (kind : Nat) : Bool :=
  let gone (x : SpareSt) : Bool := x.afterReset.state == spSubst || x.afterReset.state == spFailed
  if kind = 4 ∨ kind = 6 then true else if kind = 5 then gone u.portC
  else (List.range (kindCount kind)).all fun i => gone (Store.get {} (u.table kind) i)

/-- The spare unit after a reset: what its log holds, and everything else at its reset value. The map itself is kept, in place of
being read back from the log's entries, which no command damages (R407, log 230); rows repaired at a boot and not yet
announced are announced after a later one (R405). -/
def SpareUnit.afterReset (u : SpareUnit) : SpareUnit :=
  { sb := Store.mapV {} (fun _ x => x.afterReset) u.sb, sz := Store.mapV {} (fun _ x => x.afterReset) u.sz
    eb := Store.mapV {} (fun _ x => x.afterReset) u.eb, ez := Store.mapV {} (fun _ x => x.afterReset) u.ez
    portC := u.portC.afterReset, forbid := u.forbid, rowsMarked := u.rowsMarked, rowsDone := u.rowsDone, rowsNew := u.rowsNew
    failA := u.failA, failB := u.failB, refActive := u.refActive
    logSeq := u.logSeq, exhausted := u.exhausted.filter u.stillExhausted }

/-- What the spare-map log brings back of a facet. -/
def FacetRT.afterReset (f : FacetRT) : FacetRT :=
  { subst := f.subst, excSubst := f.excSubst, pathFailed := f.pathFailed, excFailed := f.excFailed
    needPath := f.pathFailed && f.subst.isNone, needExc := f.excFailed && f.excSubst.isNone }

/-- The NVM keeps its words; a page whose programming the reset cuts off holds open words (log 30). -/
def State.nvmAfter (s : State) : NvmSt :=
  let words := match s.nvm.prog with
    | some (page, _) =>
      if page = keyPage then s.nvm.words
      else Store.setRun (fun _ => 0xFFFF) s.nvm.words (page * 128) ((List.range 128).map fun k => Config.nvmFill (s.free + k))
    | none => s.nvm.words
  let key := match s.nvm.prog with
    | some (page, _) => if page = keyPage then dw (Config.nvmFill s.free) (Config.nvmFill (s.free + 1)) else s.nvm.key
    | none => s.nvm.key
  { words := words, key := key, brSeq := s.nvm.brSeq }

/-- Corridor time is carried across a warm reset (R472). -/
def State.carries (s : State) (refclk : Bool) : Bool :=
  refclk && s.time.state != .unset && !(s.life.phase == .fatal && s.life.fatalClass == 1)

/-- The timebase after a warm reset that carries corridor time (R472, R177). -/
def State.timeAfter (s : State) : TimeSt :=
  let t := s.time
  match t.state with
  | .unset => {}
  | .free => { tick := t.tick, state := .free, freq := t.freq, freqs := t.freqs, slewed := t.slewed, noRepeat := t.noRepeat, carried := true }
  | .holdover => { tick := t.tick, state := .holdover, freq := t.freq, freqs := t.freqs, slewed := t.slewed,
                   holdFrom := t.holdFrom, holdE0 := t.holdE0, noRepeat := t.noRepeat, carried := true }
  | _ => { tick := t.tick, state := .holdover, freq := t.freq, freqs := t.freqs, slewed := t.slewed
           holdFrom := t.tick, holdE0 := t.window + (if t.src = 1 then 0 else t.masterErr), noRepeat := t.noRepeat, carried := true }

/-- What both kinds of reset leave. -/
def State.afterReset (s : State) : State :=
  { State.reset with
    free := s.free + 128, nvm := s.nvmAfter, spare := s.spare.afterReset
    facets := Store.mapV {} (fun _ f => f.afterReset) s.facets
    -- a controller that stays failed is as if bus-off: its failover waits for the other port (R313, R318)
    candev := { State.reset.candev with waiting := [0, 1].filter fun p => (s.canPort p).failed }
    can := Store.build {} 2 fun p => {
      subst := s.cSubst && s.spare.portC.target == p, failed := (s.canPort p).failed } }

/-- POWER_ON_RESET (R470): nothing volatile survives. -/
def State.powerOn (s : State) : State := s.afterReset

/-- A warm reset (R470 to R472): `kind` 1 by nRESET, 2 by `RESET_CTL`. -/
def State.warm (s : State) (kind : Nat) (refclk : Bool) : State :=
  { s.afterReset with
    time := if s.carries refclk then s.timeAfter else {}
    log := s.log, logSeq := s.logSeq
    loupe := s.loupe, ctl := { extest := s.ctl.extest }
    life := { resetKind := kind, dbgLock := s.life.dbgLock, loupeValid := s.life.loupeValid
              loupeClass := if s.life.loupeValid then s.life.loupeClass else 0 } }

/-- A pulse on nRESET resets the device from 10 µs on and is ignored below 1 µs; between the two it may do either (R470, R512;
log 241). -/
def State.resetTakes (s : State) (x : ResetPulse) : Bool :=
  decide (10000 ≤ x.lowNs) || (decide (1000 ≤ x.lowNs) && Config.shortReset s.free)

/-- WARM_RESET: a pulse on nRESET (R470, R512). -/
def State.warmPulse (s : State) (x : ResetPulse) : State :=
  if s.resetTakes x then s.warm 1 x.refclk
  else if 1000 ≤ x.lowNs ∧ x.lowNs < 10000 then { s with free := s.free + 1 } else s

/-- RESET_KEY: 0xA55A starts a warm reset, other values are ignored (R446, R470). -/
def State.resetKey (s : State) (v : Word) (refclk : Bool) : State := if v = 0xA55A then s.warm 2 refclk else s

/-! ## The banks in the NVM (R476, R477) -/

/-- Word address of bank `b`. -/
def bankBase (b : Nat) : Nat := 0x8000 + 0x10000 * b

/-- Word `k` of bank `b` as the NVM holds it. -/
def State.bankW (s : State) (b k : Nat) : Word := s.nvmWord (bankBase b + k)

/-- `PR_GEN` of a bank. -/
def State.bankGen (s : State) (b : Nat) : Nat := (dw (s.bankW b 6) (s.bankW b 7)).toNat

/-- Words of a bank under `PR_CRC`. -/
def bankLen : Nat := 58970

/-- The bank is valid (R476). -/
def State.bankValid (s : State) (b : Nat) : Bool :=
  s.bankW b 0 == 0xB0A7 && s.bankW b 1 == 0x5120 && s.bankW b 2 == 1
    && dw (s.bankW b 4) (s.bankW b 5) == 117940
    && dw (s.bankW b 65534) (s.bankW b 65535) == dw (s.bankW b 6) (s.bankW b 7)
    && (dw (s.bankW b 16) (s.bankW b 17)).toNat ==
        crc32 (bytesOfWords ((List.range bankLen).map fun k => if k = 16 ∨ k = 17 then 0 else s.bankW b k))

/-- The bank tried first at boot (R476). -/
def State.firstBank (s : State) : Option Nat :=
  match s.bankValid 0, s.bankValid 1 with
  | true, true => some (if s.bankGen 0 < s.bankGen 1 then 1 else 0)
  | true, false => some 0
  | false, true => some 1
  | false, false => none

/-- Byte address of a bank record: two halves of 1,016 records in turn (R482). -/
def brAddr (seq : Nat) : Nat := 0x8100 + seq % 2032 * 16

/-- Append a bank record (R482): `kind` 0 boot, 1 save completed, 2 save failed. Without a bank in force `BR_GEN` is open
(log 30). -/
def State.bankRecord (s : State) (kind : Nat) : State :=
  let n := s.nvm
  let seq := n.brSeq
  let words := if seq % 1016 = 0 ∧ seq ≠ 0 then
      (let base := brAddr seq
       Store.keep (fun k => !(decide (base ≤ 2 * k ∧ 2 * k < base + 16256))) n.words)
    else n.words
  let gen : Nat := match n.bank with
    | some b => s.bankGen b
    | none => (dw (Config.nvmFill s.free) (Config.nvmFill (s.free + 1))).toNat
  let boot : Bool := kind == 0
  let body := leBytes 4 seq ++ leBytes 1 kind ++ leBytes 1 (n.bank.getD 0xFF)
    ++ leBytes 1 (b2n (s.bankValid 0) + 2 * b2n (s.bankValid 1) + 4 * b2n (boot && decide (1 ≤ n.refused))
        + 8 * b2n (boot && decide (2 ≤ n.refused)) + 16 * b2n n.factoryImg + 32 * b2n n.cellsOnly)
    ++ leBytes 1 (if boot then s.life.resetKind else 0xFF) ++ leBytes 4 gen ++ leBytes 2 s.fwVer.toNat
  { s with free := s.free + 2, nvm := { n with
    words := Store.setRun (fun _ => 0xFFFF) words (brAddr seq / 2) (wordsOfBytes (body ++ leBytes 2 (crc16 body)))
    brSeq := seq + 1 } }

/-! ## Fatal errors: detection (R489, R490) -/

def fatalCode : FatalClass → Nat
  | .refclk => 1 | .reference => 2 | .sram => 3 | .mpFail => 4 | .supply _ => 5 | .boot => 6 | .thermal => 7

/-- The earliest aperture of an output that a facet has not delivered. -/
def State.firstUndelivered (s : State) (n : Nat) : Nat :=
  let f := s.facet n
  let b := s.blkA n
  if scheduled n b then f.anchor + f.cycles * cycleLen b + cycleLen b / 2
  else (firstPend f.pend).getD ((s.tick + b.nout - 1) / b.nout * b.nout)

/-- The gap record that the fatal state forms for a discarded bead (R490, R252). -/
def State.beadLost (s : State) (b : Bead) : State :=
  let ds := s.dutyOf b.port
  s.formGap { first := ds.foldl min (ds.headD 0), last := ds.foldl max (ds.headD 511), start := b.openTick
              len := s.tick - b.openTick + 1, cause := 1, cons := 4 }

/-- The halt: losses that ended before it, the gap record of everything after it, and the open beads (R490). A device that
does not acquire has delivered nothing that a gap record could speak of (R159). -/
def State.halt (s : State) : State :=
  if !s.time.acquiring then s else
  let s := s.msg.losses.foldl (fun s g => s.formGap g) { s with msg := { s.msg with losses := [] } }
  let start := allFacets.foldl (fun a n => min a (s.firstUndelivered n)) s.tick
  let s := s.formGap { first := 0, last := 511, start, len := 4000, cause := 1, cons := 0 }
  let s := s.bead.beads.foldl (fun s b => s.beadLost b) s
  { s with bead := { s.bead with beads := [], port := Store.mapV {} (fun _ w => { w with wait := [] }) s.bead.port } }

/-- The input levels in force, which follow the IOSEL read at the end of the last reset (R503, R510). -/
def State.inputLevels (s : State) (iovdd : Nat) : Rat × Rat := Machine.inputLevels s.life.iosel iovdd

/-- What a fatal error does besides its halt while a dump is held, which keeps the earlier error's state (R493). -/
def State.heldFatal (s : State) (cls : Nat) : State :=
  let t := s.logE 0x15 noMaster 0 (BitVec.ofNat 32 cls)
  { t with life := { s.life with fatalDone := true, alert := true, loupeClass := cls } }

/-- A further fatal error in the fatal state: with a dump held it has its class, its log entry and nALERT (R493); without one it
changes nothing, since the device is halted already and the dump is the first error's (DESIGN CHOICE, log 242). -/
def State.fatalAgain (s : State) (c : FatalClass) : State :=
  if s.life.loupeValid then
    (if s.life.fatalDone then s else s.heldFatal s.life.fatalClass).heldFatal (fatalCode c)
  else s

/-- A fatal error is detected (R489, R490): the device halts. -/
def State.fatal (s : State) (c : FatalClass) (detail : BitVec 32) : State :=
  if s.life.phase = .fatal then s.fatalAgain c else
  let t := s.halt
  { t with
    life := { s.life with phase := .fatal, drivesOn := false, fatalClass := fatalCode c, fatalDetail := detail
                          fatalTick := s.tick, fatalDone := false, fatalStall := none }
    time := { t.time with acquiring := false, tx := Store.mapV {} (fun _ x => { x with sending := false }) t.time.tx }
    trg := { t.trg with running := false }
    ctl := { t.ctl with svc := false, svcPend := none, svcEndPend := none } }

/-- FATAL_ERROR (R489, R490, R504): a level of a supply, in mV, is an error of class SUPPLY only where R504 says so. -/
def State.fatalEvent (s : State) (c : FatalClass) (detail : BitVec 32) : State :=
  match c with
  | .supply v => if supplyEffect v s.life.iosel false detail.toNat = .fatal then s.fatal c detail else s
  | _ => s.fatal c detail

/-! ## The boot (R473 to R476) -/

/-- BOOT_SEQUENCE (R405, R475, R476): once the supplies let the reset end, IOSEL is read (R503, R504). -/
def State.boot (s : State) (badRows : List Nat) (trimOk patchOk : Bool) (iosel : ResetEnd) : State :=
  if s.life.phase ≠ .reset ∨ !resetReleased (s.life.resetKind == 0) iosel then s else
  let s := { s with life := { s.life with iosel := iosel.iosel } }
  let rows := (badRows ++ s.spare.rowsMarked).dedup
  if 160 < rows.length then s.fatal .boot 0
  else if !trimOk then s.fatal .boot 1
  else
    let new := rows.filter fun r => !s.spare.rowsDone.contains r
    { s with
      life := { s.life with phase := .booting, patched := patchOk }
      spare := { s.spare with
        rowsUsed := rows.length, rowsNew := min rows.length (s.spare.rowsNew + new.length), rowsDone := s.spare.rowsDone ++ new }
      nvm := { s.nvm with chosen := s.firstBank, refused := 0 } }

/-- Rows repaired at boot are announced once the timebase has left UNSET, and then that none is left (R405, R408). -/
def State.announceRows (s : State) : State :=
  (List.range s.spare.rowsNew).foldl (fun s i =>
    s.sparev 7 6 (s.spare.rowsUsed - s.spare.rowsNew + i) objDevice 4 true true) s
  |> fun t => ({ t with spare := { t.spare with rowsNew := 0 } } : State).checkExhausted 6

/-- What the start of the drives at A does to a facet: a cleared chain with its window, and T of R66 with a window of its own,
which a further excitation change restarts without closing the other (R66, R67, R86, R473); a Z drive whose tone is not locked
stays off (R75). -/
def State.startFacet (s : State) (n : Nat) : State :=
  let b := s.blkA n
  let exc := excOn n b && excitedClass n b.type
  (s.modFacet n fun f =>
    let f := f.clearChain s.tick (settleLen n b)
    { f with
      anchor := s.tick, cycles := 0, acc := [], cycMarks := [], slot := (slotAt b 0).1, slotFrom := s.tick
      settle := f.settle ++ (if exc then [{ left := settleLen n b, waitS := monitorJudges n b, exc := true : SettleWin }]
        else []) }).toneHolds n

/-- REFERENCES_SETTLED: A (R473 to R475). -/
def State.referencesSettled (s : State) : State :=
  if s.life.phase ≠ .ready ∨ s.ctl.frameAt ≠ some s.tick then s else
  let s := { s with life := { s.life with phase := .settled, drivesOn := true, aTick := s.tick } }
  let s := s.forFacets allFacets fun n t => t.startFacet n
  if s.time.carried then s.requestSync (s.tick + 8) 4
  else match s.time.early with
    | some (x, src) => s.decideCont (s.nowNs 0) x src .acquiring
    | none => s

/-- ACQUISITION_START: Y with corridor time carried (R475). -/
def State.acquisitionStart (s : State) : State :=
  if s.life.phase ≠ .settled ∨ s.time.carried = false ∨ s.tick < s.life.aTick + 8 ∨ !s.isFrame then s else
  ({ s with time := { s.time with carried := false, acquiring := true }, ctl := { s.ctl with modeRun := true } }).announceRows

/-! ## The host watchdog and standalone service (R483 to R488) -/

/-- A HOST write to `HOST_ALIVE` (R483, R487). -/
def State.aliveWrite (s : State) (m : Master) : State :=
  if m ≠ .host then s else
  { s with ctl := { s.ctl with wdtFrom := some s.tick, aliveInSvc := s.ctl.svc || s.ctl.aliveInSvc } }

/-- A write of `HOST_WDT` takes the new period; one by HOST restarts the watchdog (R483). -/
def State.wdtWrite (s : State) (m : Master) (v : Word) : State :=
  if v.toNat < 10 ∨ 6000 < v.toNat then s.logIgnored m 0x0C 0 else
  { s with ctl := { s.ctl with hostWdt := v, wdtFrom := if m = .host then some s.tick else s.ctl.wdtFrom } }

/-- WATCHDOG_EXPIRY (R483). -/
def State.watchdogExpiry (s : State) : State :=
  match s.ctl.wdtFrom with
  | none => s
  | some t =>
    if s.tick < t + 400 * s.ctl.hostWdt.toNat then s else
    let s := s.nextStamp
    { s with ctl := { s.ctl with
      wdtFrom := none, aliveInSvc := false
      svcPend := if s.ctl.svc ∧ s.ctl.svcEndPend.isNone = true then s.ctl.svcPend else some s.ctl.stamp } }

/-- `MODE_CTL.SEL` in the register list of a bank, 0 where it has none (R484). -/
def State.bankMode (s : State) : Nat :=
  match s.nvm.bank with
  | none => 0
  | some b =>
    let es := (List.range 256).map fun i => (s.bankW b (32 + 2 * i), s.bankW b (33 + 2 * i))
    let es := es.takeWhile fun e => fld e.1 0 8 != 0xFF
    ((es.find? fun e => fld e.1 0 8 == 4).map fun e => fld e.2 0 2).getD 0

/-- STANDALONE_SERVICE_BEGIN (R484), after an end at the same boundary. -/
def State.serviceBegin (s : State) : State :=
  match s.ctl.svcPend with
  | none => s
  | some stamp =>
    if !s.due stamp ∨ s.serviceDue then s else
    let s := { s with ctl := { s.ctl with svc := true, svcPend := none, aliveInSvc := false, modeSel := s.bankMode, modePend := none } }
    let s := ((s.irq0 13).alarm 8 objDevice 0).logE 0x14 noMaster 0 1
    let s := if fld s.cap.ctl 5 1 = 1 then s.hsEnableWrite false (fld s.cap.ctl 3 1 == 1) (fld s.cap.ctl 4 1 == 1) else s
    if s.host.clasp.isOpen then s.claspDrop .host 3 0xFE else s

/-- `RUN_CTL.SVC_RELEASE` (R486, R487). -/
def State.svcRelease (s : State) (m : Master) : State :=
  if m ≠ .host then s
  else if s.ctl.svc ∧ s.ctl.aliveInSvc then
    let s := s.nextStamp
    { s with ctl := { s.ctl with svcEndPend := some s.ctl.stamp } }
  else s.logIgnored m 0x06 0

/-- STANDALONE_SERVICE_END (R487). -/
def State.serviceEnd (s : State) : State :=
  match s.ctl.svcEndPend with
  | none => s
  | some stamp =>
    if !s.due stamp then s else
    let s := { s with ctl := { s.ctl with svc := false, svcEndPend := none } }
    ((s.irq0 13).alarm 9 objDevice 0).logE 0x14 noMaster 0 0

/-! ## DBG_LOCK (R431) -/

/-- Setting `RUN_CTL.DBG_LOCK`: DEBUG is closed until power is removed, its clasp is withdrawn, and an EXTEST that is selected
acts as BYPASS from then on. -/
def State.setDbgLock (s : State) : State :=
  if s.life.dbgLock then s else
  let s := { s with life := { s.life with dbgLock := true }, ctl := { s.ctl with extest := false } }
  if (s.master .debug).clasp.isOpen ∨ (s.master .debug).clasp.pend then s.claspDrop .debug 3 0xFE else s

end Sys2Proof.Machine
end

