-- ==== Sys2Proof/Machine/Bank.lean ====
section
/-! DEFINITION. The layout of a profile bank (R477) and its save (R480). -/

namespace Sys2Proof.Machine

open Sys2Proof

/-- The registers of a save's list, each with its selector, 0xFF where none applies, and the number of its RW fields that a save
lists (R446 to R458, R477). -/
def listed : List (Nat × Nat × Nat) :=
  let plain (l : List (Nat × Nat)) := l.map fun (o, n) => (o, 0xFF, n)
  plain [(0x03, 1), (0x04, 1), (0x0C, 1), (0x10, 7), (0x19, 3), (0x1B, 1), (0x1C, 4), (0x21, 1), (0x28, 1), (0x2A, 2),
      (0x2B, 1), (0x2D, 3), (0x30, 1), (0x32, 4), (0x33, 1), (0x37, 1)]
  ++ (List.range 8).map (fun a => (0x3C, a, 1))
  ++ (List.range 4).flatMap (fun p => [(0x41, p, 4), (0x47, p, 1), (0x48, p, 1)])
  ++ plain [(0x49, 2), (0x4E, 2), (0x50, 1), (0x55, 1), (0x57, 3), (0x58, 1), (0x59, 1), (0x5C, 1), (0x5D, 1), (0x5E, 1)]
  ++ (List.range 3).flatMap (fun p =>
      [(0x61, p, 6), (0x63, p, 2), (0x64, p, 2), (0x65, p, 2), (0x66, p, 2), (0x67, p, 2), (0x6E, p, 1)])
  ++ plain [(0x6F, 3), (0x76, 4), (0x79, 1), (0x7B, 1)]

/-- The register list of a save, offset and selector: one entry for each RW field (R477). An entry names no field of its register,
so that each holds the register's word in force (DESIGN CHOICE, log 119). -/
def listRegs : List (Nat × Nat) := listed.flatMap fun (o, sel, n) => List.replicate n (o, sel)

/-- The value in force that a save lists for a register. -/
def State.listValue (s : State) (off sel : Nat) : Word :=
  let q := s.port sel
  let c := s.canPort sel
  match off with
  | 0x03 => w16 s.ctl.station
  | 0x04 => w16 s.ctl.modeSel
  | 0x0C => s.ctl.hostWdt
  | 0x10 => s.time.ctl
  | 0x19 => s.time.refCtl
  | 0x1B => s.time.refPeriodNew.getD s.time.refPeriod
  | 0x1C => s.time.syncCtl
  | 0x21 => w16 (4 * b2n s.needSpare)
  | 0x28 => s.exc.ctl
  | 0x2A => s.exc.cmw
  | 0x2B => s.exc.ztone
  | 0x2D => s.spare.ctl &&& 0x000F
  | 0x30 => s.chain.ctl
  | 0x32 => s.chain.shActive
  | 0x33 => w16 (b2n s.chain.trac)
  | 0x37 => s.chain.xfadeLen
  | 0x3C => w16 (s.budget.set.getD sel 0 / 4)
  | 0x41 => q.cfgAct
  | 0x47 => wordOf q.len 0
  | 0x48 => wordOf q.len 1
  | 0x49 => s.bead.ctl
  | 0x4E => s.ctl.tallyCtl
  | 0x50 => w16 (b2n s.trg.en)
  | 0x55 => s.trg.auto
  | 0x57 => s.cap.ctl
  | 0x58 => s.cap.pre
  | 0x59 => s.cap.post
  | 0x5C => w16 (s.cap.part.getD 0 0)
  | 0x5D => w16 (s.cap.part.getD 1 0)
  | 0x5E => w16 (s.cap.part.getD 2 0)
  | 0x61 => c.ctl &&& 0x00FF
  | 0x63 => c.nbtp0
  | 0x64 => c.nbtp1
  | 0x65 => c.dbtp0
  | 0x66 => c.dbtp1
  | 0x67 => c.tdc &&& 0x00FF
  | 0x6E => c.loneLim
  | 0x6F => s.candev.ctl
  | 0x76 => s.cal.limits
  | 0x79 => s.ctl.mask0
  | 0x7B => s.ctl.mask1
  | _ => 0

/-- Word `k` of the 512 words of the register list: an offset of 0xFF ends it. -/
def State.listWord (s : State) (k : Nat) : Word :=
  match listRegs[k / 2]? with
  | some (off, sel) => if k % 2 = 0 then w16 (off + 256 * sel) else s.listValue off sel
  | none => if k / 2 = listRegs.length ∧ k % 2 = 0 then 0x00FF else 0

/-- Word offsets of the sections of a bank. -/
def bkList : Nat := 32
def bkFacets : Nat := 544
def bkCoef : Nat := 16928
def bkCurves : Nat := 33496
def bkPorts : Nat := 35672
def bkBezel : Nat := 37048
def bkTrg : Nat := 37072
def bkCan : Nat := 37216
def bkImage : Nat := 37988

/-- Word `k` of a bank that a save writes with generation `gen`, with `PR_CRC` taken as zero (R477). -/
def State.saveWord (s : State) (gen k : Nat) : Word :=
  if k < bkList then
    (match k with
     | 0 => 0xB0A7 | 1 => 0x5120 | 2 => 1
     | 4 => wordOf 117940 0 | 5 => wordOf 117940 1
     | 6 => wordOf gen 0 | 7 => wordOf gen 1
     | 8 => wordOf s.seconds 0 | 9 => wordOf s.seconds 1
     | 10 => wordOf Config.serial.toNat 0 | 11 => wordOf Config.serial.toNat 1
     | 12 => wordOf Config.serial.toNat 2 | 13 => wordOf Config.serial.toNat 3
     | 14 => s.fwVer
     | 15 => w16 s.chain.bank
     | _ => 0)
  else if k < bkFacets then s.listWord (k - bkList)
  else if k < bkCoef then s.fpWord ((k - bkFacets) / 32) ((k - bkFacets) % 32) true
  else if k < bkCurves then
    (let i := k - bkCoef
     s.coefWord (i / 8284 * 0x4000 + i % 8284))
  else if k < bkPorts then
    (let i := k - bkCurves
     if 16 * 136 ≤ i then 0 else Store.get 0 s.curves (0x1000 + i / 136 * 256 + i % 136))
  else if k < bkBezel then
    (let i := k - bkPorts
     if i % 344 = 324 then 0 else (s.port (i / 344)).blockWord (i % 344))  -- PB_TARE_LOAD saves as 0 (R8)
  else if k < bkTrg then (if k - bkBezel < 23 then s.bezelWord (k - bkBezel) else 0)
  else if k < bkCan then s.trgWord (k - bkTrg)
  else if k < bkImage then
    (let i := k - bkCan
     if 3 * 257 ≤ i then 0
     else if i % 257 < 256 then s.canWord (i / 257) (0x500 + i % 257) else s.canWord (i / 257) 0x695)
  else if k < bankLen then s.imageWord (k - bkImage)
  else 0

/-- All 65,536 words of a bank that a save writes; `PR_GEN_T` stands erased until the bank has been read back. -/
def State.saveWords (s : State) (gen : Nat) : List Word :=
  let body := (List.range bankLen).map (s.saveWord gen)
  let crc := crc32 (bytesOfWords body)
  let body := (body.set 16 (wordOf crc 0)).set 17 (wordOf crc 1)
  body ++ List.replicate (65534 - bankLen) 0 ++ [0xFFFF, 0xFFFF]

/-- The bank that a save writes, and its generation (R480). -/
def State.saveTarget (s : State) : Nat × Nat :=
  match s.nvm.bank with
  | some b => (1 - b, (s.bankGen b + 1) % 2 ^ 32)
  | none =>
    let g (b : Nat) : Nat := if s.bankValid b then s.bankGen b else 0
    (0, (max (g 0) (g 1) + 1) % 2 ^ 32)

/-- Words of a run of the NVM. -/
def State.putBank (s : State) (b at_ : Nat) (ws : List Word) : State :=
  { s with nvm := { s.nvm with words := Store.setRun (fun _ => 0xFFFF) s.nvm.words (bankBase b + at_) ws } }

/-- PROF_SAVE (R480): a setting while a save runs is ignored and logged. -/
def State.profSave (s : State) (m : Master) : State :=
  if s.nvm.saving.isSome then s.logIgnored m 0x06 0 else
  let (b, gen) := s.saveTarget
  let s := s.putBank b 0 (s.saveWords gen)
  { s with nvm := { s.nvm with saving := some b }, ctl := { s.ctl with profBusy := true } }

/-- PROFILE_SAVE_DONE (R480, R482): `ok` says that the MP read the bank back intact. -/
def State.profSaveDone (s : State) (ok : Bool) : State :=
  match s.nvm.saving with
  | none => s
  | some b =>
    let s := { s with nvm := { s.nvm with saving := none }, ctl := { s.ctl with profBusy := false } }
    if ok then
      let s := s.putBank b 65534 [s.bankW b 6, s.bankW b 7]
      if s.bankValid b then ({ s with nvm := { s.nvm with bank := some b } }).bankRecord 1 else s.bankRecord 2
    else s.bankRecord 2

end Sys2Proof.Machine
end

