-- ==== Sys2Proof/Machine/Loupe.lean ====
section
/-! DEFINITION. The loupe dump and the end of a fatal error's entry (R490 to R495). Where R494 lists the fields of a
section without their widths, they stand in the order of the text with the widths of log 33. -/

namespace Sys2Proof.Machine

open Sys2Proof

/-- Fill or cut a section to `n` bytes. -/
def sect (n : Nat) (l : List Byte) : List Byte := (l ++ List.replicate (n - l.length) 0).take n

/-- A register as HOST reads it with its own selectors; `WIN_DATA` shows the word at its window address. -/
def State.dumpReg (s : State) (off : Nat) : Word :=
  if off = 0x7F then
    (let x := s.host
     if x.winSpace = 0xD then s.popQueue.1
     else if s.winInside x.winSpace x.winAddr then s.winWord x.canSel x.winSpace x.winAddr else 0)
  else s.regWord .host off

/-- The 128 registers as HOST reads them one after the other from offset 0x00: the first word of a latched group latches it (R9). -/
def State.dumpRegs (s : State) : List Word :=
  let t := [0x12, 0x43, 0x73].foldl (fun (t : State) off => t.latchGroup .host off 0) s
  (List.range 128).map t.dumpReg

/-- Offsets 0x41 to 0x48 of a port. -/
def State.dumpPort (s : State) (p : Nat) : List Word :=
  let q := s.port p
  [q.cfg, q.stat] ++ q.group ++ [wordOf q.lenStaged 0, wordOf q.lenStaged 1]

/-- The facet entry of R495. -/
def State.dumpFacet (s : State) (n : Nat) : List Byte :=
  let f := s.facet n
  leBytes 4 f.last.i.toNat ++ leBytes 4 f.last.eng.toNat ++ leBytes 6 f.last.aperture
    ++ bytesOfWords [f.faultNow, f.faultSeen, if isZ n then s.zstatWord n else f.pathWord, if isZ n then 0 else f.engStat,
        s.fpA n 0, s.fpA n 1, s.fpA n 2, s.fpA n 6]
    ++ leBytes 2 (min 65535 (f.settle.foldl (fun a w => max a w.left) 0))

/-- The 27 spare entries: state, kind, target. -/
def State.dumpSpares (s : State) : List Byte :=
  let kinds : List (Nat × List Nat) :=
    [(0, List.range 8), (1, List.range 4), (2, List.range 8), (3, List.range 4), (4, [0, 1]), (5, [2])]
  kinds.flatMap fun (k, is) => is.flatMap fun i =>
    let (st, tg) := s.spareReport k i
    leBytes 1 st ++ leBytes 1 k ++ leBytes 2 tg

/-- The position section of a port. -/
def State.dumpPos (s : State) (p : Nat) : List Byte :=
  let q := s.port p
  sect 64 (leBytes 8 (q.u * 1000).floor.toNat ++ leBytes 2 q.rev ++ leBytes 1 q.st.code ++ leBytes 1 q.lastMark
    ++ leBytes 4 (s32 q.stretchPpm) ++ leBytes 4 (s32 q.slipLast) ++ bytesOfWords [w16i q.speed, q.stat]
    ++ leBytes 2 q.qerrCnt ++ leBytes 2 q.spurCnt ++ leBytes 2 q.missCnt ++ leBytes 2 q.stretchRej
    ++ leBytes 1 (s.bead.beads.filter fun b => b.port == p).length)

/-- The section of a CAN port. -/
def State.dumpCan (s : State) (p : Nat) : List Byte :=
  let c := s.canPort p
  sect 64 (leBytes 1 c.st.code ++ leBytes 1 (min 255 c.tec) ++ leBytes 1 (min 255 c.recCnt) ++ bytesOfWords [c.err]
    ++ leBytes 2 c.staging.length
    ++ leBytes 4 ((List.range 32).foldl (fun a i => a + b2n (c.mbox i).full * 2 ^ i) 0)
    ++ leBytes 1 (min 255 c.loneCnt) ++ leBytes 1 (b2n s.candev.active.isSome))

/-- The open-bead entries, records only. -/
def State.dumpBeads (s : State) : List Byte :=
  (List.range 48).flatMap fun e => bytesOfWords ((List.range 32).map fun w => s.beadWord (40 * e + 2 + w))

/-- The newest ring line written. -/
def State.lastLine (s : State) : Nat :=
  (s.cap.lines.foldl (fun (best : Nat × Nat) e => if best.2 ≤ e.2.2 then (e.1, e.2.2) else best) (0, 0)).1

/-- The last 64 entries of the event log, oldest first. -/
def State.dumpLog (s : State) : List Byte :=
  (List.range 64).flatMap fun i =>
    match Store.get none s.log ((s.logSeq + 65536 - 64 + i) % 65536 % 256) with
    | some e => bytesOfWords e.words
    | none => []

/-- The frame trace: DVDD and Tj are open (log 32). -/
def State.dumpTrace (s : State) : List Byte :=
  (s.trace.mapIdx fun i t => sect 32 (leBytes 6 t.tick ++ leBytes 2 (min 65535 (t.fabric / 4))
    ++ bytesOfWords [Config.loupeWord s.free (2 * i), Config.loupeWord s.free (2 * i + 1)]
    ++ (t.used.flatMap fun u => leBytes 2 (min 65535 ((u + 3) / 4)))
    ++ leBytes 1 (t.stalled.zipIdx.foldl (fun a (b, j) => a + b2n b * 2 ^ j) 0))).flatten

/-- The sections after the header (R494). -/
def State.dumpBody (s : State) (hwSeq : Bool) : List Byte :=
  sect 256 (bytesOfWords s.dumpRegs)
    ++ sect 96 (bytesOfWords ((List.range 3).flatMap fun p => (List.range 14).map fun i => s.canReg p (0x61 + i)))
    ++ sect 64 (bytesOfWords ((List.range 4).flatMap s.dumpPort))
    ++ sect 64 ((List.range 8).flatMap fun a => bytesOfWords
        [w16 (s.budget.set.getD a 0 / 4), w16 (min 65535 ((s.budget.usedLast.getD a 0 + 3) / 4)),
         w16 (s.budget.ovr.getD a 0), w16 (b2n ((s.life.fatalStall.getD s.budget.stalled).getD a false))])
    ++ sect 16384 (allFacets.flatMap s.dumpFacet)
    ++ sect 128 s.dumpSpares
    ++ sect 256 ((List.range 4).flatMap s.dumpPos)
    ++ sect 192 ((List.range 3).flatMap s.dumpCan)
    ++ sect 3072 s.dumpBeads
    ++ sect 64 (bytesOfWords [s.tbStat, s.tbOffset, s.tbRate, s.tbHold, s.refmStat, s.syncStat]
        ++ leBytes 4 (min (2 ^ 32 - 1) (s.errNs.getD (2 ^ 32 - 1))))
    ++ sect 64 (bytesOfWords [w16 s.trg.st, w16 (s.trg.cause + 256 * (s.trg.count % 256)), s.capStat]
        ++ leBytes 4 s.lastLine ++ leBytes 2 s.cap.grant)
    ++ sect 1024 s.dumpLog
    ++ sect 4096 (if hwSeq then [] else bytesOfWords ((List.range 2048).map fun i => Config.loupeWord s.free (1024 + i)))
    ++ sect 8192 s.dumpTrace

/-- The dump: 64 KiB, with `LP_CRC` over all of it with `LP_CRC` taken as zero (R494). -/
def State.dumpBytes (s : State) (hwSeq : Bool) : List Byte :=
  let tickOk := !s.unset
  let head (crc : Nat) : List Byte := sect 64 (leBytes 4 0x4C0B5120 ++ leBytes 1 s.life.fatalClass
    ++ leBytes 1 (1 + 2 * b2n hwSeq + 4 * b2n tickOk) ++ leBytes 2 s.fwVer.toNat ++ leBytes 4 s.life.fatalDetail.toNat
    ++ leBytes 6 s.life.fatalTick ++ leBytes 2 Config.devRev.toNat ++ leBytes 8 (s.life.fatalTick * 250000)
    ++ leBytes 8 Config.serial.toNat ++ leBytes 4 crc)
  let body := sect (65536 - 64) (s.dumpBody hwSeq)
  head (crc32 (head 0 ++ body)) ++ body

/-- LOUPE_DUMP_COMPLETE (R490, R491, R493): a held dump is kept; a failure of the loupe unit leaves none. -/
def State.dumpComplete (s : State) (hwSeq inLoupe : Bool) : State :=
  if s.life.phase ≠ .fatal ∨ s.life.fatalDone = true then s else
  let cls := s.life.fatalClass
  let hwSeq := hwSeq || cls == 4
  if s.life.loupeValid then s.heldFatal cls
  else if inLoupe ∧ (cls = 3 ∨ cls = 6) then
    { s with life := { s.life with fatalDone := true, alert := true, loupeClass := cls } }
  else
    let t := s.logE 0x15 noMaster 0 (BitVec.ofNat 32 cls)
    let loupe := (wordsOfBytes (t.dumpBytes hwSeq)).zipIdx.filterMap fun (w, i) => if w = 0 then none else some (i, w)
    { t with loupe := loupe, free := s.free + 1
             life := { s.life with fatalDone := true, alert := true, loupeValid := true, loupeClass := cls } }

/-- FATAL_HBEAT (R490). -/
def State.fatalHbeat (s : State) : State :=
  if s.life.phase ≠ .fatal ∨ s.life.fatalDone = false then s
  else (s.hbeatOn 0 (2 ^ 48 - 1)).hbeatOn 1 (2 ^ 48 - 1)

/-- `LOUPE_STAT.RELEASE` (R493). -/
def State.loupeRelease (s : State) : State :=
  { s with loupe := [], life := { s.life with alert := false, loupeValid := false } }

end Sys2Proof.Machine
end

