-- ==== Sys2Proof/Machine/Access.lean ====
section
/-! DEFINITION. Accesses of a master to register words and windows (R8 to R10, R409 to R415, R426 to R431, R485, R492, R518):
the bezel, the fields of each register and their listed values, what a write does at once and what a clasp stages
(R419 to R421, R424). -/

namespace Sys2Proof.Machine

open Sys2Proof

/-! ## Bezels (R426 to R431) -/

/-- The entry of a master at a target of R464. -/
def State.entry (s : State) (m : Master) (t : Nat) : Nat :=
  match m with
  | .host | .mp => 3
  | m => bezelEntry (s.bezelWord t) m

/-- A denied access (R429). -/
def State.deny (s : State) (m : Master) (t : Nat) (wr : Bool) : State :=
  (s.logE 4 (masterCode m) t (BitVec.ofNat 32 (b2n wr))).irq0 9

/-- Target of a register word, and of a window space. -/
def regTarget (off : Nat) : Nat := off / 16
def winTarget (space : Nat) : Nat := 8 + space

/-- The entry that a window write meets: space 0x8 needs the NVM target as well (R429). -/
def State.winEntry (s : State) (m : Master) (space : Nat) : Nat :=
  let e := s.entry m (winTarget space)
  if space = 8 then min e (s.entry m 22) else e

/-- Each master's own copies of R518, which it reads and writes whatever its bezel says (R427). -/
def selReg (off : Nat) : Bool :=
  off == 0x20 || off == 0x40 || off == 0x3B || off == 0x60 || off == 0x53 || (0x7C ≤ off && off ≤ 0x7E)

/-- The own copies, and the own clasp registers. -/
def ownReg (off : Nat) : Bool := selReg off || (0x08 ≤ off && off ≤ 0x0A)

/-- The device answers accesses of the master: HOST through the host port, once it is ready (R474), unless EXTEST has its
lands; DEBUG, whose entries read 00 once DBG_LOCK is set (R431); the remote masters and the MP outside the fatal state (R492). -/
def State.responds (s : State) (m : Master) : Bool :=
  match m with
  | .host => (s.ready || s.life.phase == .fatal) && !s.ctl.extest
  | .debug => (s.ready || s.life.phase == .fatal)
  | _ => s.ready

/-- A remote master writes within a session alone (R343). -/
def State.sessionOk (s : State) (m : Master) : Bool :=
  match m with
  | .canA => (s.session 0).holder.isSome
  | .canB => (s.session 1).holder.isSome
  | _ => true

/-! ## Fields (chapter 15) -/

/-- A field that takes writes: its place, its width, and the values listed for it (R10). -/
abbrev RwField := Nat × Nat × (Nat → Bool)

def anyV (lo n : Nat) : RwField := (lo, n, fun _ => true)
def upTo (lo n k : Nat) : RwField := (lo, n, fun x => x ≤ k)
def inRange (lo n a b : Nat) : RwField := (lo, n, fun x => a ≤ x && x ≤ b)

/-- RW fields of a register word. -/
def rwFields (off : Nat) : List RwField :=
  match off with
  | 0x03 => [anyV 0 8]
  | 0x04 => [upTo 0 2 2]
  | 0x06 => [anyV 15 1]
  | 0x0C => [inRange 0 16 10 6000]
  | 0x10 => [anyV 0 1, anyV 1 1, anyV 2 1, anyV 3 2, anyV 5 2, anyV 7 2, anyV 9 1]
  | 0x19 => [upTo 0 2 2, anyV 2 3, anyV 5 3]
  | 0x1B => [inRange 0 16 1 1000]
  | 0x1C => [anyV 3 4]
  | 0x1E | 0x1F => [anyV 0 16]
  | 0x21 => [anyV 2 1]
  | 0x24 => [anyV 0 9, upTo 9 3 4]
  | 0x28 => [upTo 0 3 4]
  | 0x2A => [anyV 0 6, anyV 6 2]
  | 0x2B => [anyV 0 1]
  | 0x2D => [anyV 0 1, anyV 1 1, anyV 2 2, upTo 4 3 6, anyV 7 3, anyV 10 4]
  | 0x30 => [inRange 0 4 1 15]
  | 0x32 => [anyV 0 16]
  | 0x33 => [anyV 0 1]
  | 0x34 => [upTo 0 4 10, anyV 4 2]
  | 0x35 => [anyV 0 1, anyV 1 1]
  | 0x37 => [inRange 0 11 4 1024]
  | 0x3C => [upTo 0 16 50000]
  | 0x41 => [anyV 0 1, anyV 1 1, anyV 2 1, anyV 3 2]
  | 0x46 | 0x47 => [anyV 0 16]
  | 0x48 => [anyV 0 9]
  | 0x49 => [anyV 0 4, anyV 4 1]
  | 0x4C => [anyV 0 2, anyV 2 3, anyV 5 2]
  | 0x4E => [inRange 0 10 1 1000, anyV 10 4]
  | 0x50 => [anyV 0 1]
  | 0x54 | 0x55 => [anyV 0 16]
  | 0x57 => [anyV 3 1, anyV 4 1, anyV 5 1]
  | 0x58 | 0x59 => [anyV 0 16]
  | 0x5C => [anyV 0 7]
  | 0x5D | 0x5E => [anyV 0 5]
  | 0x61 => [anyV 0 1, upTo 1 3 4, anyV 4 4]
  | 0x63 => [anyV 0 8, anyV 8 7]
  | 0x64 => [inRange 0 8 1 255, anyV 8 7]
  | 0x65 | 0x66 => [anyV 0 5, anyV 8 4]
  | 0x67 => [anyV 0 1, anyV 1 7]
  | 0x6D => [anyV 0 5, anyV 5 1]
  | 0x6E => [anyV 0 8]
  | 0x6F => [anyV 0 3]
  | 0x70 => [upTo 0 4 10, anyV 4 1, anyV 5 1, anyV 6 1]
  | 0x75 => [(0, 16, fun x => x ≤ 10240 || 55296 ≤ x)]
  | 0x76 => [upTo 0 4 4, upTo 4 4 4, upTo 8 4 4, upTo 12 4 4]
  | 0x79 | 0x7B => [anyV 0 16]
  | _ => []

/-- Bits of the WSC, W1C and WO fields of a register word. -/
def nowMask (off : Nat) : Word :=
  match off with
  | 0x06 => 0x0003 | 0x07 => 0xFFFF | 0x0B => 0xFFFF | 0x0F => 0x8000
  | 0x1C => 0x0007 | 0x1D => 0x0006 | 0x21 => 0x0003 | 0x24 => 0x8000 | 0x2D => 0x8000 | 0x2F => 0x0200
  | 0x31 => 0x0002 | 0x35 => 0x8000 | 0x38 => 0x0004
  | 0x41 => 0x8000 | 0x42 => 0x01A4 | 0x4A => 0x7000 | 0x4C => 0xC000
  | 0x50 => 0x0002 | 0x57 => 0x0007 | 0x5B => 0x0020 | 0x5C => 0x8000
  | 0x61 => 0x0100 | 0x62 => 0x0400 | 0x6A => 0xFFFF | 0x6B => 0x8020 | 0x6C => 0x8020 | 0x6D => 0x8000 | 0x6F => 0x0008
  | 0x70 => 0xE000 | 0x78 => 0x3FFF | 0x7A => 0x07FF
  | _ => 0

/-- Some field of the written word holds a reserved encoding. -/
def encBad (off : Nat) (v : Word) : Bool := (rwFields off).any fun (lo, n, ok) => !ok (fld v lo n)

/-- The RW fields of `v` merged into `old`: a field with a reserved encoding keeps its value (R10). -/
def rwMerge (off : Nat) (old v : Word) : Word :=
  (rwFields off).foldl (fun w (lo, n, ok) => if ok (fld v lo n) then setFld w lo n (fld v lo n) else setFld w lo n (fld old lo n)) 0

/-! ## What the RW fields of a direct write do -/

/-- Port registers of a substituted port C take no writes (R317). -/
def State.canDead (s : State) (p : Nat) : Bool := decide (p = 2) && s.cSubst

/-- ODEC stages the code into `FP_CHAIN.NOUT` of the facets of its scope (R125). -/
def State.odecPut (s : State) (code scope facet : Nat) : State :=
  let ns := match scope with
    | 0 => [facet] | 1 => List.range 448 | 2 => (List.range 64).map (448 + ·) | _ => allFacets
  let s := { s with chain := { s.chain with odecScope := scope } }
  s.forFacets ns fun n t => t.setFpS n 6 (setFld (t.fpS n 6) 0 4 code)

/-- A direct write to `BUDGET_SET` (R435). -/
def State.budgetWrite (s : State) (m : Master) (act v : Nat) : State :=
  let staged := Store.insert s.budget.staged act (4 * v)
  let result : List Nat := s.budget.set.mapIdx fun i x => ((staged.find? fun e => e.1 == i).map (·.2)).getD x
  let cause : Nat := if act = 0 ∧ 4 * v < 12000 then 1 else if 200000 < result.sum then 2 else 0
  let s := s.modMaster m fun x => { x with budgetCause := cause }
  if cause ≠ 0 then s else { s with budget := { s.budget with staged := staged } }

/-- Timing fields take writes in INIT only (R290). -/
def State.timingPut (s : State) (m : Master) (p off : Nat) (w : Word) : State :=
  let c := s.canPort p
  if !s.inInit p then s.logIgnored m off 0 else
  s.setCanPort p (match off with
    | 0x63 => { c with nbtp0 := w } | 0x64 => { c with nbtp1 := w }
    | 0x65 => { c with dbtp0 := w } | 0x66 => { c with dbtp1 := w }
    | _ => { c with tdc := w })

/-- The RW fields of a register take the word `w`; `v` is the word written. -/
def State.regStore (s : State) (m : Master) (off : Nat) (w v : Word) : State :=
  let x := s.master m
  match off with
  | 0x03 => { s with ctl := { s.ctl with station := w.toNat } }
  | 0x04 => { s with ctl := { s.ctl with modePend := some w.toNat } }
  | 0x06 => if fld w 15 1 = 1 then s.setDbgLock else s
  | 0x0C => s.wdtWrite m v
  | 0x10 => s.tbCtlWrite w
  | 0x19 => s.refCtlWrite w
  | 0x1B => s.refPeriodWrite w
  | 0x1C => { s with time := { s.time with syncCtl := w } }
  | 0x1E => { s with time := { s.time with syncAtLo := w } }
  | 0x1F => { s with time := { s.time with syncAt := w.toNat * 65536 + s.time.syncAtLo.toNat } }
  | 0x21 => { s with needSpare := fld w 2 1 == 1 }
  | 0x24 => { s with fctRead := { s.fctRead with ctl := w } }
  | 0x28 => { s with exc := { s.exc with ctl := w } }
  | 0x2A => { s with exc := { s.exc with cmw := w } }
  | 0x2B => s.ztoneWrite w
  | 0x2D => s.spareCtl w
  | 0x30 => { s with chain := { s.chain with ctl := w } }
  | 0x32 => { s with chain := { s.chain with shStaged := w } }
  | 0x33 => { s with chain := { s.chain with tracStaged := fld w 0 1 == 1, trPend := true } }
  | 0x34 =>
    if encBad 0x34 v then { s with chain := { s.chain with odecScope := fld w 4 2 } }
    else s.odecPut (fld w 0 4) (fld w 4 2) x.fctSel
  | 0x35 => { s with chain := { s.chain with bankSel := w } }
  | 0x37 => { s with chain := { s.chain with xfadeLen := w } }
  | 0x3C => if encBad 0x3C v then s else s.budgetWrite m x.budgetSel w.toNat
  | 0x41 => s.modPort x.posSel fun q => { q with cfg := w, cfgPend := true }
  | 0x46 => s.posRevWrite x.posSel w.toNat
  | 0x47 => s.modPort x.posSel fun q => { q with lenLo := w }
  | 0x48 => s.modPort x.posSel fun q => { q with lenStaged := w.toNat * 65536 + q.lenLo.toNat }
  | 0x49 => s.beadPortsWrite m (fld w 0 4) (fld w 4 1 == 1)
  | 0x4C => { s with bead := { s.bead with tareCtl := w } }
  | 0x4E => { s with ctl := { s.ctl with tallyCtl := w } }
  | 0x50 => if fld w 0 1 = 1 then s.trgEnable else s.trgStop
  | 0x54 =>
    if trgMask x.trgSel = 0 then s
    else if s.winLocked m 0 0xB x.trgSel w then s.logIgnored m 0x54 0
    else s.winDirect m 0 0xB x.trgSel w
  | 0x55 => { s with trg := { s.trg with auto := w } }
  | 0x57 => s.hsEnableWrite (fld w 5 1 == 1) (fld w 3 1 == 1) (fld w 4 1 == 1)
  | 0x58 => { s with cap := { s.cap with pre := w } }
  | 0x59 => { s with cap := { s.cap with post := w } }
  | 0x5C => { s with cap := { s.cap with partStaged := s.cap.partStaged.set 0 w.toNat } }
  | 0x5D => { s with cap := { s.cap with partStaged := s.cap.partStaged.set 1 w.toNat } }
  | 0x5E => { s with cap := { s.cap with partStaged := s.cap.partStaged.set 2 w.toNat } }
  | 0x61 => s.canCtlWrite m x.canSel w
  | 0x63 | 0x64 | 0x65 | 0x66 | 0x67 => s.timingPut m x.canSel off w
  | 0x6D => s.modCanPort x.canSel fun c => { c with fltSel := w }
  | 0x6E => s.modCanPort x.canSel fun c => { c with loneLim := w }
  | 0x6F => s.failoverWrite w
  | 0x70 => { s with cal := { s.cal with ctl := w } }
  | 0x75 => { s with cal := { s.cal with refMv := w } }
  | 0x76 => { s with cal := { s.cal with limits := w } }
  | 0x79 => { s with ctl := { s.ctl with mask0 := w } }
  | 0x7B => { s with ctl := { s.ctl with mask1 := w } }
  | _ => s

/-! ## What the WSC, W1C and WO fields of a write do -/

/-- One step after another, each when its bit is set. -/
def steps (v : Word) (fs : List (Nat × (State → State))) (s : State) : State :=
  fs.foldl (fun t (b, f) => if fld v b 1 = 1 then f t else t) s

/-- The calibration run that `CAL_CTL` names. -/
def State.calGoCtl (s : State) (m : Master) : State :=
  let c := s.cal.ctl
  s.calGo m (fld c 0 4) (fld c 4 1 == 1) (fld c 5 1 == 1) (fld c 6 1 == 1)

/-- The fields of a register that act at once, from the bits of the written word; parameters are the values in force. Where a
write sets several of them, they act in the order given here: the spec orders those of SYNC_CTL alone (R180), and for
FCT_APPLY, TARE_CTL, CAP_CTL, CAL_CTL and CAN_TXREQ the order is the model's (DESIGN CHOICE, log 195). -/
def State.regNow (s : State) (m : Master) (off : Nat) (v : Word) : State :=
  let x := s.master m
  match off with
  | 0x06 => steps v [(0, fun t => t.svcRelease m), (1, fun t => t.profSave m)] s
  | 0x07 => s.resetKey v true
  | 0x0B => s.aliveWrite m
  | 0x0F => steps v [(15, State.loupeRelease)] s
  | 0x1C => steps v [(2, State.syncCancel), (1, State.syncArm), (0, State.syncNow)] s
  | 0x1D => { s with time := { s.time with
      syncLate := s.time.syncLate && fld v 1 1 == 0, syncMulti := s.time.syncMulti && fld v 2 1 == 0 } }
  | 0x21 => steps v [(0, fun t => t.applyRequest m [x.fctSel] t.needSpare),
                     (1, fun t => t.applyRequest m t.changedFacets t.needSpare)] s
  | 0x24 => steps v [(15, fun t => t.fctReadGo (fld t.fctRead.ctl 0 9) (fld t.fctRead.ctl 9 3))] s
  | 0x2D => steps v [(15, fun t => t.spareGo (t.spare.ctl ||| 0x8000) x.fctSel x.canSel)] s
  | 0x2F => steps v [(9, fun t => { t with spare := { t.spare with refWarn := false } })] s
  | 0x31 => steps v [(1, fun t => { t with chain := { t.chain with shRej := false } })] s
  | 0x35 => steps v [(15, fun t => t.bankRequest (fld t.chain.bankSel 0 1) t.chain.xfadeLen.toNat (fld t.chain.bankSel 1 1 == 1))] s
  | 0x38 => steps v [(2, fun t => { t with chain := { t.chain with replaced := false } })] s
  | 0x41 => steps v [(15, fun t => t.posApply m x.posSel)] s
  | 0x42 => s.modPort x.posSel fun q => { q with
      qerr := q.qerr && fld v 2 1 == 0, stepFlag := q.stepFlag && fld v 5 1 == 0
      revAdj := q.revAdj && fld v 7 1 == 0, tableDiff := q.tableDiff && fld v 8 1 == 0 }
  | 0x4A => { s with bead := { s.bead with
      rej := s.bead.rej && fld v 12 1 == 0, late := s.bead.late && fld v 13 1 == 0
      backtrack := s.bead.backtrack && fld v 14 1 == 0 } }
  | 0x4C => steps v [(14, fun t => t.tareGo m (fld t.bead.tareCtl 0 2) (fld t.bead.tareCtl 2 3) (fld t.bead.tareCtl 5 2)),
                     (15, State.tareAbort)] s
  | 0x50 => steps v [(1, State.trgForce)] s
  | 0x57 => steps v [(0, State.capArm), (1, State.capRelease), (2, State.capAbort)] s
  | 0x5B => steps v [(5, fun t => { t with cap := { t.cap with clamp := false } })] s
  | 0x5C => steps v [(15, fun t => t.memPartGo (t.cap.partStaged.getD 0 0))] s
  | 0x61 => steps v [(8, fun t => t.recover x.canSel)] s
  | 0x62 => steps v [(10, fun t => t.modCanPort x.canSel fun c => { c with tdcSat := false })] s
  | 0x6A => (s.txreq m x.canSel (fld v 0 8)).txAbort x.canSel (fld v 8 8)
  | 0x6B => steps v [(5, fun t => t.modCanPort x.canSel fun c => { c with rx0 := { c.rx0 with ovr := false } }),
                     (15, fun t => t.rxPop x.canSel 0)] s
  | 0x6C => steps v [(5, fun t => t.modCanPort x.canSel fun c => { c with rx1 := { c.rx1 with ovr := false } }),
                     (15, fun t => t.rxPop x.canSel 1)] s
  | 0x6D => steps v [(15, fun t =>
      let c := t.canPort x.canSel
      t.filterEnable x.canSel (fld c.fltSel 0 5) (fld c.fltSel 5 1 == 1))] s
  | 0x6F => steps v [(3, State.failoverEnd)] s
  | 0x70 => steps v [(13, fun t => t.calGoCtl m), (14, State.calNext), (15, State.calAbort)] s
  | 0x78 => { s with ctl := { s.ctl with irq0 := s.ctl.irq0 &&& ~~~v } }
  | 0x7A => { s with ctl := { s.ctl with irq1 := s.ctl.irq1 &&& ~~~v } }
  | _ => s

/-! ## Clasps: opening, staging, closing (R419 to R421, R424) -/

/-- CLASP_TIMEOUT (R424): 1,000 ms after BEGIN. -/
def State.timeoutClasp (s : State) (m : Master) : State :=
  let c := (s.master m).clasp
  if c.isOpen && decide (c.beginTick + 4000 ≤ s.tick) then s.claspDrop m 4 0xFF else s

/-- CLASP_BEGIN (R419); a clasp whose time has run out is open no longer (R424). -/
def State.beginClasp (s : State) (m : Master) : State :=
  let s := s.timeoutClasp m
  let c := (s.master m).clasp
  if c.isOpen || c.pend then s else
  let s := s.nextStamp
  s.modClasp m fun _ => { isOpen := true, beginTick := s.tick, beginStamp := s.ctl.stamp }

/-- CLASP_COMMIT accepted (R422, R424). -/
def State.commitClasp (s : State) (m : Master) : State :=
  let s := s.timeoutClasp m
  if (s.master m).clasp.isOpen = false then s else
  let s := s.nextStamp
  s.modClasp m fun c => { c with isOpen := false, pend := true, acceptStamp := s.ctl.stamp }

/-- A master's own ROLLBACK (R424). -/
def State.rollbackClasp (s : State) (m : Master) : State :=
  let s := s.timeoutClasp m
  if (s.master m).clasp.isOpen = false then s else
  s.modClasp m fun c => { c with isOpen := false, full := false, writes := [], result := 3 }

/-- Stage a write; one beyond the 64th is not staged (R421). -/
def State.stage (s : State) (m : Master) (tgt : Target) (v : Word) : State :=
  s.modClasp m fun c =>
    if 64 ≤ c.writes.length then { c with full := true } else { c with writes := c.writes ++ [{ tgt := tgt, val := v }] }

/-- `CLASP_CTL`. -/
def State.claspCtl (s : State) (m : Master) (v : Word) : State :=
  steps v [(0, fun t => t.beginClasp m), (1, fun t => t.commitClasp m), (2, fun t => t.rollbackClasp m)] s

/-! ## Register writes -/

/-- A write of a master to one of its own copies, or to `CLASP_CTL` (R427, R518). -/
def State.ownWrite (s : State) (m : Master) (off : Nat) (v : Word) : State :=
  match off with
  | 0x08 => s.claspCtl m v
  | 0x20 => s.modMaster m fun x => { x with fctSel := fld v 0 9 }
  | 0x40 => s.modMaster m fun x => { x with posSel := fld v 0 2 }
  | 0x3B => s.modMaster m fun x => { x with budgetSel := fld v 0 3 }
  | 0x60 => if fld v 0 2 = 3 then s.logIgnored m 0x60 0 else s.modMaster m fun x => { x with canSel := fld v 0 2 }
  | 0x53 =>
    let s := s.modMaster m fun x => { x with
      trgSel := fld v 0 4 + 16 * (if 8 < fld v 4 4 then x.trgSel / 16 else fld v 4 4) }
    if 8 < fld v 4 4 then s.logIgnored m 0x53 0 else s
  | 0x7C =>
    let s := s.modMaster m fun x => { x with
      winSpace := if 13 < fld v 0 4 then x.winSpace else fld v 0 4
      winErr := x.winErr && fld v 14 1 == 0, winStall := x.winStall && fld v 15 1 == 0 }
    if 13 < fld v 0 4 then s.logIgnored m 0x7C 0 else s
  | 0x7D => s.modMaster m fun x => { x with winLo := v }
  | 0x7E => s.modMaster m fun x => { x with winAddr := v.toNat * 65536 + x.winLo.toNat }
  | _ => s

/-- `TRG_SEQ_DATA` moves its selector on (R453). -/
def State.afterAccess (s : State) (m : Master) (off : Nat) : State :=
  if off = 0x54 then s.modMaster m fun x => { x with trgSel := nextTrgSel x.trgSel } else s

/-- The registers of a substituted port C ignore writes (R317). -/
def State.portIgnores (s : State) (m : Master) (off : Nat) : Bool :=
  decide (0x61 ≤ off ∧ off ≤ 0x6E) && s.canDead (s.master m).canSel

/-- A direct write of `CAN_CTL` that R286 has ignored whole. -/
def State.canIgnores (s : State) (m : Master) (off : Nat) (v : Word) : Bool :=
  off == 0x61 && s.canModeBad (s.master m).canSel v

/-- A direct write: the RW fields, each with a listed value, then the fields that act at once (R8, R10). -/
def State.regDirect (s : State) (m : Master) (off : Nat) (v : Word) : State :=
  if s.portIgnores m off then s else
  let bad := encBad off v
  let ignored := s.canIgnores m off v
  let s := if bad && off != 0x0C then s.logIgnored m off 0 else s
  let s := if rwFields off = [] then s else s.regStore m off (rwMerge off (s.regWord m off) v) v
  let s := if !ignored ∧ (v &&& nowMask off ≠ 0 ∨ off = 0x0B) then s.regNow m off v else s
  s.afterAccess m off

/-- A write while the master's clasp is open: the RW fields are staged, the others act at once (R420). -/
def State.regStaged (s : State) (m : Master) (off : Nat) (v : Word) (e : Nat) : State :=
  let x := s.master m
  let s := if (rwFields off).isEmpty ∨ (off = 0x54 ∧ trgMask x.trgSel = 0) then s else s.stage m (.reg off (x.selOf off)) v
  let s :=
    if v &&& nowMask off ≠ 0 ∨ off = 0x0B then
      (if e ≠ 3 then s.deny m (regTarget off) true else if s.portIgnores m off then s else s.regNow m off v)
    else s
  s.afterAccess m off

/-- Registers whose writes act in the fatal state (R492). -/
def fatalReg (off : Nat) : Bool := selReg off || off == 0x07 || off == 0x0F || off == 0x78 || off == 0x7A

/-- Registers whose HOST writes act in standalone service (R485). -/
def svcReg (off : Nat) : Bool := fatalReg off || off == 0x0B

/-- A write to a register word other than `WIN_DATA`, in every phase. -/
def State.regWrite (s : State) (m : Master) (off : Nat) (v : Word) : State :=
  if s.life.phase = .fatal then
    (if selReg off then s.ownWrite m off v else if fatalReg off then s.regNow m off v else s)
  else if m = .host ∧ s.ctl.svc = true ∧ !svcReg off then
    (if off = 0x06 then
      (let s := if fld v 0 1 = 1 then s.svcRelease m else s
       if v &&& 0x8002 ≠ 0 then s.logIgnored m off 0 else s)
     else s.logIgnored m off 0)
  else if ownReg off then s.ownWrite m off v
  else
    let e := s.entry m (regTarget off)
    if e < 2 then s.deny m (regTarget off) true
    else if (s.master m).clasp.isOpen then s.regStaged m off v e
    else if e ≠ 3 then s.deny m (regTarget off) true
    else s.regDirect m off v

/-! ## Windows (R413, R415, R420, R429) -/

/-- The window address moves on, from 0xFFFF_FFFF to 0. -/
def State.winStep (s : State) (m : Master) : State := s.modMaster m fun x => { x with winAddr := (x.winAddr + 1) % 2 ^ 32 }

def State.winErrSet (s : State) (m : Master) : State := s.modMaster m fun x => { x with winErr := true }

def State.winStallSet (s : State) (m : Master) : State := s.modMaster m fun x => { x with winStall := true }

/-- A value returned to a master. -/
def State.ret (s : State) (m : Master) (v : Word) : State := s.modMaster m fun x => { x with rdata := v }

/-- A read of `WIN_DATA`. -/
def State.winRead (s : State) (m : Master) : State :=
  let x := s.master m
  let sp := x.winSpace
  let a := x.winAddr
  if s.entry m (winTarget sp) = 0 then (((s.deny m (winTarget sp) false).winStep m).ret m 0)
  else if sp = 0xD then
    match s.chargeQueue m with
    | none => ((s.stall actHost).winStallSet m).ret m 0
    | some t => ((t.popQueue.2).winStep m).ret m t.popQueue.1
  else if s.nvmBusy sp then (s.winStallSet m).ret m 0
  else if !s.winInside sp a then ((s.winErrSet m).winStep m).ret m 0
  else
    match s.chargeWin m sp a with
    | none => ((s.stall actHost).winStallSet m).ret m 0
    | some t => ((t.winClear m x.canSel sp a).winStep m).ret m (t.winWord x.canSel sp a)

/-- A write of `WIN_DATA` that its entry permits. -/
def State.winTake (s : State) (m : Master) (e port space addr : Nat) (v : Word) : State :=
  let clasp := (s.master m).clasp.isOpen
  if s.winRw space addr then
    (if clasp then s.stage m (.win space addr port) v
     else if e ≠ 3 then s.deny m (winTarget space) true
     else s.winDirect m port space addr v)
  else if winNow space addr then
    (if e ≠ 3 then s.deny m (winTarget space) true else s.winPut m port space addr v)
  else s

/-- The word takes no write: it lies beyond the size, or is read-only or reserved (R413, R444). -/
def State.winNoWrite (s : State) (space addr : Nat) : Bool :=
  space == 0xD || !s.winInside space addr || !(s.winRw space addr || winNow space addr)

/-- A write of `WIN_DATA`: its entry comes first, a page being programmed next, then the word (R413, R429, R466). -/
def State.winWrite (s : State) (m : Master) (v : Word) : State :=
  let x := s.master m
  let sp := x.winSpace
  let a := x.winAddr
  if s.life.phase = .fatal then s
  else if m = .host ∧ s.ctl.svc = true then s.logIgnored m (0x1000 + sp) a
  else
    let e := s.winEntry m sp
    if e < 2 ∨ (e ≠ 3 ∧ ¬((s.master m).clasp.isOpen = true ∧ s.winRw sp a = true)) then (s.deny m (winTarget sp) true).winStep m
    else if s.nvmBusy sp then s.winStallSet m
    else if s.winNoWrite sp a then (s.winErrSet m).winStep m
    else match s.chargeWin m sp a with
      | none => (s.stall actHost).winStallSet m
      | some t => (t.winTake m e x.canSel sp a v).winStep m

/-! ## Cycles (R410 to R412) -/

/-- A cycle of HOST that nACK answers. -/
def State.ack (s : State) (m : Master) (b : Bool) : State :=
  if m = .host then { s with ctl := { s.ctl with acked := b } } else s

/-- A write cycle: it takes effect at the fall of nACK. -/
def State.writeCycle (s : State) (m : Master) (off : Nat) (v : Word) : State :=
  if !s.responds m ∨ !s.sessionOk m then s.ack m false else
  (if off = 0x7F then s.winWrite m v else s.regWrite m off v).ack m true

/-- Registers that every master may read (R427). -/
def openReg (off : Nat) : Bool := ownReg off || off ≤ 0x03

/-- A read cycle, `ns` after the last tick boundary. -/
def State.readCycle (s : State) (m : Master) (off ns : Nat) : State :=
  if !s.responds m then s.ack m false
  else if off = 0x7F then (s.winRead m).ack m true
  else if !openReg off ∧ s.entry m (regTarget off) = 0 then
    ((s.deny m (regTarget off) false).ret m 0).ack m true
  else
    let (v, t) := s.regRead m off ns
    (t.ret m v).ack m true

/-- CYCLE_CUT_SHORT (R412): no effect, but for the log. -/
def State.cutShort (s : State) (m : Master) (off : Nat) : State :=
  if !s.responds m then s else (s.logE 5 (masterCode m) off 0).ack m false

end Sys2Proof.Machine
end

