-- ==== Sys2Proof/Machine/Clasp.lean ====
section
/-! DEFINITION. A clasp at its frame boundary (R420 to R425): the checks of the two stages, and the writes as the commit
makes them. -/

namespace Sys2Proof.Machine

open Sys2Proof

/-- The target of the bezel tables that a staged write meets (R464), with the NVM beside space 0x8. -/
def Target.targets : Target → List Nat
  | .reg off _ => [regTarget off]
  | .win 8 _ _ => [winTarget 8, 22]
  | .win sp _ _ => [winTarget sp]

/-- The unit of a staged write (R423); declarations belong to none. -/
def Target.unit : Target → Option CUnit
  | .reg off sel => if off = 0x54 then some .trgTable else some (.reg off sel)
  | .win sp a port =>
    match sp with
    | 0x0 => some (.facet (a / 32))
    | 0x1 => some (.bank (a / 0x4000))
    | 0x2 => if a < 0xE000 then some .restoreArea else none
    | 0x4 => if a % 0x40000 < 0x3F000 then some (.tare (a / 0x40000)) else some (.portBlock (a / 0x40000))
    | 0x7 => some (.bezel a)
    | 0x8 => some (.nvmPage (a / 128))
    | 0xA => some (.canSpace port)
    | 0xB => some .trgTable
    | 0xC => some (.curve (a / 256))
    | _ => none

/-- Ports whose staged settings the clasp activates (R195): it stages a `BELT_LEN` or `PB_` word, be it a low word that stays
held, or a changed DIR. -/
def State.claspPorts (s : State) (ws : List StagedWrite) : List Nat :=
  (List.range 4).filter fun p => ws.any fun w => match w.tgt with
    | .reg 0x47 q => q == p
    | .reg 0x48 q => q == p
    | .reg 0x41 q => q == p && fld w.val 1 1 != fld (s.port p).cfg 1 1
    | .win 4 a _ =>
      decide (a / 0x40000 = p) && decide (0x3F000 ≤ a % 0x40000) && decide (a % 0x40000 - 0x3F000 ≤ 191)
    | _ => false

/-! ## Values of several words (R9, R444) -/

/-- The low words that a run of staged writes holds for their highest words, and the writes that take effect. -/
structure Settled where
  /-- window words held, by `holdKey`, and register words held, by offset and selector -/
  win : Store (Option Word)
  reg : List (Nat × Nat × Word)
  out : List StagedWrite := []
deriving DecidableEq, Repr

/-- The low word of a register value as it is held: by an earlier write of the clasp, or by a direct write. -/
def State.heldLow (s : State) (z : Settled) (off sel : Nat) : Word :=
  match z.reg.find? fun e => e.1 == off && e.2.1 == sel with
  | some e => e.2.2
  | none => if off = 0x1E then s.time.syncAtLo else (s.port sel).lenLo

/-- One staged write: a low word of a value is held, and the highest word takes effect with the low words that are held
(R9, R444). -/
def State.settleWrite (s : State) (z : Settled) (w : StagedWrite) : Settled :=
  match w.tgt with
  | .reg off sel =>
    if off = 0x54 then
      -- the words of the trigger table are held like those of its window space (R9, R465)
      let (idx, len) := winValue 0xB sel
      if idx + 1 < len then { z with win := Store.set none z.win (holdKey 0 0xB sel) (some w.val) } else
      let lows := (List.range idx).filterMap fun j =>
        (Store.get none z.win (holdKey 0 0xB (sel - idx + j))).map fun v => ({ tgt := .reg 0x54 (sel - idx + j), val := v } : StagedWrite)
      { z with
        win := (List.range idx).foldl (fun h j => Store.set none h (holdKey 0 0xB (sel - idx + j)) none) z.win
        out := z.out ++ lows ++ [w] }
    else if off = 0x1E ∨ off = 0x47 then
      { z with reg := (off, sel, w.val) :: z.reg.filter fun e => !(e.1 == off && e.2.1 == sel) }
    else if off = 0x1F ∨ off = 0x48 then
      { z with out := z.out ++ [{ tgt := .reg (off - 1) sel, val := s.heldLow z (off - 1) sel }, w] }
    else { z with out := z.out ++ [w] }
  | .win sp a port =>
    let (idx, len) := winValue sp a
    if idx + 1 < len then { z with win := Store.set none z.win (holdKey port sp a) (some w.val) } else
    let lows := (List.range idx).filterMap fun j =>
      (Store.get none z.win (holdKey port sp (a - idx + j))).map fun v => ({ tgt := .win sp (a - idx + j) port, val := v } : StagedWrite)
    { z with
      win := (List.range idx).foldl (fun h j => Store.set none h (holdKey port sp (a - idx + j)) none) z.win
      out := z.out ++ lows ++ [w] }

/-- The writes of a clasp as they take effect, in staging order. -/
def State.settled (s : State) (ws : List StagedWrite) : Settled := ws.foldl s.settleWrite { win := s.winHold, reg := [] }

/-- The low words that a clasp leaves held. -/
def State.holdLows (s : State) (z : Settled) : State :=
  z.reg.foldl (fun s e => if e.1 = 0x1E then { s with time := { s.time with syncAtLo := e.2.2 } }
    else s.modPort e.2.1 fun q => { q with lenLo := e.2.2 }) { s with winHold := z.win }

/-- Half of a number of 32 bits replaced. -/
def halfNat (n : Nat) (hi : Bool) (v : Word) : Nat :=
  if hi then v.toNat * 65536 + n % 65536 else n / 65536 * 65536 + v.toNat

/-! ## The result that the checks judge (R422) -/

/-- What a staged write would leave in the settings that the checks read. -/
def State.overlay (s : State) (w : StagedWrite) : State :=
  let v := w.val
  match w.tgt with
  | .reg off sel =>
    match off with
    | 0x03 => { s with ctl := { s.ctl with station := fld v 0 8 } }
    | 0x21 => { s with needSpare := fld v 2 1 == 1 }
    | 0x3C => { s with budget := { s.budget with set := s.budget.set.set sel (4 * v.toNat) } }
    | 0x41 => s.modPort sel fun q => { q with cfg := rwMerge 0x41 q.cfg v }
    | 0x47 => s.modPort sel fun q => { q with lenStaged := halfNat q.lenStaged false v }
    | 0x48 => s.modPort sel fun q => { q with lenStaged := halfNat q.lenStaged true (v &&& 0x01FF) }
    | 0x49 => { s with bead := { s.bead with ctl := v &&& 0x001F } }
    | 0x54 => { s with trg := { s.trg with table := Store.set (trgReset sel) s.trg.table sel (v &&& trgMask sel) } }
    | _ => s
  | .win sp a _ =>
    match sp with
    | 0x2 => if 0xE000 ≤ a then { s with cal := { s.cal with decl := Store.set 0 s.cal.decl (a - 0xE000) v } } else s
    | 0x4 =>
      if a % 0x40000 < 0x3F000 then s else s.modPort (a / 0x40000) fun q => q.pbPut (a % 0x40000 - 0x3F000) v
    | 0xB => { s with trg := { s.trg with table := Store.set (trgReset a) s.trg.table a (v &&& trgMask a) } }
    | 0xC => { s with curves := Store.set 0 s.curves a (if a % 256 = 0 then v &&& 0x0033 else v) }
    | _ => s

/-- The declaration that a write to its word, or its highest word, completes has a listed value (R353); `d` gives the values of
two words. -/
def declListed (w : Nat) (v : Word) (d : Nat → DWord) : Bool :=
  let x := v.toNat
  let within (a : Nat) (lo hi : Rat) : Bool := f32Finite (d a) && decide (lo ≤ f32R (d a) ∧ f32R (d a) ≤ hi)
  match w with
  | 1 => decide ((d 0).toInt.natAbs ≤ 999999)
  | 3 => within 2 100 100000
  | 7 => within 6 (15 / 10) 80
  | 10 => within 9 (1 / 10) 100000
  | 4 => decide (x ≤ 511 ∨ (0x200 ≤ x ∧ x < 0x200 + kindCount 0) ∨ (0x210 ≤ x ∧ x < 0x210 + kindCount 1)
      ∨ (0x220 ≤ x ∧ x < 0x220 + kindCount 2) ∨ (0x240 ≤ x ∧ x < 0x244))
  | 5 => decide (x ≤ 5)
  | 8 => decide (x ≤ 1)
  | 11 => decide (1 ≤ x ∧ x ≤ 8)
  | _ => true

/-- A state of the trigger table holds a reserved encoding (R258). -/
def TrgState.reserved (t : TrgState) : Bool :=
  decide (11 < t.cond) || !f32Finite t.thrA || !f32Finite t.thrB || t.count == 0 || decide (2 < t.actMet)
    || decide (2 < t.actTo)

/-- A staged write places a reserved encoding (R10); `t` is the result. -/
def State.writeReserved (t : State) (w : StagedWrite) : Bool :=
  let trg (a : Nat) : Bool :=
    (decide (a < 128) && (t.trgState (a / 16)).reserved) || (decide (128 ≤ a ∧ a ≤ 131) && decide (511 < w.val.toNat))
  match w.tgt with
  | .reg off sel => if off = 0x54 then trg sel else encBad off w.val
  | .win sp a _ =>
    match sp with
    | 0x2 => decide (0xE000 ≤ a) && !declListed (a - 0xE000) w.val t.declF
    | 0xC => a % 256 == 0 && curveEnc w.val
    | 0x4 =>
      let q := t.port (a / 0x40000)
      let k := a % 0x40000 - 0x3F000
      if k = 320 ∨ k = 321 then !spanOk (q.spanPend.getD q.span)
      else if k = 322 ∨ k = 323 then !zeroOk (q.zeroPend.getD q.zero)
      else false
    | 0xA =>
      decide (0x500 ≤ a ∧ a < 0x600) && a % 8 == 4 && fltEnc w.val
    | 0xB => trg a
    | _ => false

/-- The configuration that would result of a clasp that activates these ports. -/
def State.claspCand (s t : State) (ws : List StagedWrite) (ports : List Nat) : Cand :=
  { blk := s.claspBlk ws, listed := (s.listedFacets ++ claspFacets ws).dedup
    port := fun p => if ports.contains p then (t.port p).cfgS else (s.port p).cfgA
    mask := fld t.bead.ctl 0 4
    anchor := fun n => s.anchorWith n (s.claspBlk ws n) s.tick }

/-- A staged write to a timing field of a port out of INIT (R290). -/
def State.timingRun (s : State) (w : StagedWrite) : Bool :=
  match w.tgt with
  | .reg off p => decide (0x63 ≤ off ∧ off ≤ 0x67) && !s.inInit p
  | _ => false

/-- `UC_CTL.ACT` staged for a curve whose staged copy fails its check (R117). -/
def State.curveFails (t : State) (w : StagedWrite) : Bool :=
  match w.tgt with
  | .win 0xC a _ => a % 256 == 0 && fld w.val 15 1 == 1 && curveErr (fun k => t.ucS (48 + a / 256) k) != 0
  | _ => false

/-- A staged `BUDGET_SET`, or a staged `CAP_CTL.HS_EN`. -/
def StagedWrite.isBudget (w : StagedWrite) : Bool := match w.tgt with | .reg 0x3C _ => true | _ => false
def StagedWrite.setsHs (w : StagedWrite) : Bool := match w.tgt with | .reg 0x57 _ => fld w.val 5 1 == 1 | _ => false

/-- The codes of the second stage that apply (R422). -/
def State.claspCodes (s : State) (ws : List StagedWrite) : List Nat :=
  let es := (s.settled ws).out
  let t := es.foldl State.overlay s
  let c := s.claspCand t es (s.claspPorts ws)
  let ports := (s.claspPorts ws).map fun p => t.portCause p (c.port p) c
  let ns := claspFacets es
  (match if ns.isEmpty then none else s.refusal c ns t.needSpare with | some (k, _) => [k] | none => [])
  ++ (if ws.any t.writeReserved then [10] else [])
  ++ (if ws.any t.curveFails then [15] else [])
  ++ (if ports.any (fun k => k != 0 && k != 7) then [18] else [])
  ++ (if ports.contains 7 then [20] else [])
  ++ (if ws.any StagedWrite.setsHs && !t.hsSpanOk then [21] else [])
  ++ (if ws.any s.timingRun then [22] else [])
  ++ (if ws.any StagedWrite.isBudget && (decide (t.budget.set.getD 0 0 < 12000) || decide (200000 < t.budget.set.sum))
      then [28] else [])

/-- The lowest code of the first stage, else of the second; 0 when the clasp passes (R422). -/
def State.claspCode (s : State) (m : Master) (c : Clasp) : Nat :=
  if c.writes.any (fun w => w.tgt.targets.any fun t => decide (s.entry m t < 2)) then 25
  else if c.full then 26
  else if c.writes.any (fun w => match w.tgt.unit with
      | some u => s.conflicts m c.beginStamp u
      | none => false)
      || (s.claspPorts c.writes).any fun p => s.conflicts m c.beginStamp (.portBlock p) then 27
  else match s.claspCodes c.writes with
    | [] => 0
    | k :: ks => ks.foldl min k

/-! ## The writes of a commit -/

/-- The selectors of a master as they stood when a register write was staged. -/
def MasterSt.withSel (x : MasterSt) (off sel : Nat) : MasterSt :=
  if off = 0x34 then { x with fctSel := sel }
  else if 0x41 ≤ off ∧ off ≤ 0x48 then { x with posSel := sel }
  else if 0x3C ≤ off ∧ off ≤ 0x3E then { x with budgetSel := sel }
  else if 0x61 ≤ off ∧ off ≤ 0x6E then { x with canSel := sel }
  else if off = 0x54 then { x with trgSel := sel }
  else x

/-- The selectors back as the master has them now. -/
def MasterSt.selsOf (x y : MasterSt) : MasterSt :=
  { x with fctSel := y.fctSel, posSel := y.posSel, budgetSel := y.budgetSel, canSel := y.canSel, trgSel := y.trgSel }

/-- The scale values written for a port take effect (R225, R250). -/
def State.scaleEffect (s : State) (p : Nat) : State :=
  let q := s.port p
  if q.spanPend.isNone && q.zeroPend.isNone then s else
  (s.setScale p (q.spanPend.getD q.span) (q.zeroPend.getD q.zero)).modPort p fun q => { q with spanPend := none, zeroPend := none }

/-- A staged register write at its commit: what direct writes leave to the next frame boundary takes effect now. -/
def State.regCommit (s : State) (m : Master) (off sel : Nat) (v : Word) : State :=
  match off with
  | 0x04 => { s with ctl := { s.ctl with modeSel := fld v 0 2, modePend := none } }
  | 0x1E => { s with time := { s.time with syncAt := halfNat s.time.syncAt false v } }
  | 0x1F => { s with time := { s.time with syncAt := halfNat s.time.syncAt true v } }
  | 0x3C => { s with budget := { s.budget with set := s.budget.set.set sel (4 * v.toNat) } }
  | 0x41 => (s.modPort sel fun q => { q with cfg := rwMerge 0x41 q.cfg v, cfgPend := true }).posCfgEffect sel
  | 0x46 => (s.posRevWrite sel v.toNat).modPort sel (·.revEffect s.tick)
  | 0x47 => s.modPort sel fun q => { q with lenStaged := halfNat q.lenStaged false v }
  | 0x48 => s.modPort sel fun q => { q with lenStaged := halfNat q.lenStaged true (v &&& 0x01FF) }
  | 0x49 => (s.beadPortsWrite m (fld v 0 4) (fld v 4 1 == 1) true).beadPortsEffect
  | 0x54 => if s.winLocked m 0 0xB sel v then s.logIgnored m 0x54 0 else s.winPut m 0 0xB sel v
  | off =>
    let x := s.master m
    let s := s.modMaster m fun y => y.withSel off sel
    let s := if s.portIgnores m off then s else s.regStore m off (rwMerge off (s.regWord m off) v) v
    s.modMaster m fun y => y.selsOf x

/-- A staged window write at its commit; the words of facets are taken with their facet. -/
def State.winCommit (s : State) (m : Master) (port sp a : Nat) (v : Word) : State :=
  match sp with
  | 0x0 => s.setFpS (a / 32) (a % 32) (v &&& fpMask (a / 32) (a % 32))
  | 0x7 => if s.winLocked m port sp a v then s.logIgnored m 0x1007 a else s.bezelSet a v
  | 0x8 => if s.winRw sp a then s.nvmPut m a v else s.logIgnored m 0x1008 a
  | 0xC => s.winPut m port sp a (if a % 256 = 0 then v &&& 0x7FFF else v)
  | sp => if s.winLocked m port sp a v then s.logIgnored m (0x1000 + sp) a else s.winPut m port sp a v

def State.writeCommit (s : State) (m : Master) (w : StagedWrite) : State :=
  match w.tgt with
  | .reg off sel => s.regCommit m off sel w.val
  | .win sp a port => s.winCommit m port sp a w.val

/-- Curves that a clasp activates (R117). -/
def claspCurves (ws : List StagedWrite) : List Nat :=
  (List.range 16).filter fun c => ws.any fun w => match w.tgt with
    | .win 0xC a _ => a == c * 256 && fld w.val 15 1 == 1
    | _ => false

/-- The staged copy of a curve becomes active with its clasp. -/
def State.curveCommit (s : State) (c : Nat) : State :=
  (s.setUcStat c (setFld (Store.get 0 s.curves (ucStatAddr c)) 1 2 0)).ucActivate c

/-- Setting `TRG_CTL.EN` comes after the writes to its table. -/
def StagedWrite.isLast (w : StagedWrite) : Bool := match w.tgt with | .reg 0x50 _ => true | _ => false

/-- The writes of a clasp that has passed its checks (R422). -/
def State.claspWrites (s : State) (m : Master) (all : List StagedWrite) : State :=
  let z := s.settled all
  let ws := z.out
  let ns := claspFacets ws
  let blks : List (Nat × List Word) := ns.map fun n => (n, (List.range 32).map (s.claspBlk ws n))
  let ports := s.claspPorts all
  let was := s.budget.low
  let units := (all.filterMap fun w => w.tgt.unit) ++ ports.map CUnit.portBlock
  let s := (ws.filter fun w => !w.isLast).foldl (fun s w => s.writeCommit m w) s
  let s := blks.foldl (fun s (n, b) => s.applyFacet n (fun k => b.getD k 0)) s
  let s := ports.foldl (fun s p => (s.activatePort p).modPort p fun q => { q with cause := 0 }) s
  let s := (List.range 4).foldl State.scaleEffect s
  let s := (claspCurves ws).foldl State.curveCommit s
  let s := (ws.filter StagedWrite.isLast).foldl (fun s w => s.writeCommit m w) s
  units.dedup.foldl (fun s u => s.committed m u) ((s.holdLows z).fabricEdge was).tallyJudge

/-- The curve checks of a clasp that fails at its second stage: each failed one shows in `UC_STAT.ERR` (R117). -/
def State.claspCurveErrs (s : State) (ws : List StagedWrite) : State :=
  let t := (s.settled ws).out.foldl State.overlay s
  (claspCurves ws).foldl (fun s c =>
    match curveErr (fun k => t.ucS (48 + c) k) with
    | 0 => s
    | e => s.ucFail c e) s

/-- The activations that a clasp asks for and that are refused show their codes in `POS_STAT.CAUSE` (R196). -/
def State.claspPortCauses (s : State) (ws : List StagedWrite) : State :=
  let es := (s.settled ws).out
  let t := es.foldl State.overlay s
  let c := s.claspCand t es (s.claspPorts ws)
  (s.claspPorts ws).foldl (fun s p =>
    let k := t.portCause p (c.port p) c
    if k = 0 then s else s.modPort p fun q => { q with cause := k }) s

/-- CLASP_APPLY (R422, R425): the commit of a master takes effect, or fails, at its frame boundary. -/
def State.claspApply (s : State) (m : Master) : State :=
  let c := (s.master m).clasp
  if c.pend = false ∨ !s.turn c.acceptStamp then s else
  let code := s.claspCode m c
  let close (t : State) (result fail : Nat) : State :=
    t.modClasp m fun c => { c with pend := false, full := false, writes := [], result := result, fail := fail }
  if code ≠ 0 then
    let s := if 25 ≤ code ∧ code ≤ 27 then s else (s.claspCurveErrs c.writes).claspPortCauses c.writes
    ((close s 2 code).irq0 8).logE 3 (masterCode m) 0 (BitVec.ofNat 32 code)
  else close (if c.writes.isEmpty then s else s.claspWrites m c.writes) 1 0

end Sys2Proof.Machine
end

