-- ==== Sys2Proof/Machine/Profile.lean ====
section
/-! DEFINITION. The load of a profile bank, or of the factory configuration, at L (R473, R477 to R479, R482). -/

namespace Sys2Proof.Machine

open Sys2Proof

/-- The register list of a bank: offset, selector, value (R477). -/
def State.bankList (s : State) (b : Nat) : List (Nat × Nat × Word) :=
  let es := (List.range 256).map fun i => (s.bankW b (bkList + 2 * i), s.bankW b (bkList + 2 * i + 1))
  (es.takeWhile fun e => fld e.1 0 8 != 0xFF).map fun e =>
    (fld e.1 0 8, if fld e.1 8 8 = 0xFF then 0 else fld e.1 8 8, e.2)

/-- Registers that a load takes after the tables that they use: `TRG_CTL`, `CAP_CTL` and `CAN_CTL`. -/
def lateReg (off : Nat) : Bool := off == 0x50 || off == 0x57 || off == 0x61

/-- One register of a list: `CHN_SHIFT` and TRAC become active at L (R478). -/
def State.loadReg (s : State) (e : Nat × Nat × Word) : State :=
  let (off, sel, v) := e
  let s := s.regCommit .mp off sel v
  match off with
  | 0x32 => { s with chain := { s.chain with shActive := s.chain.shStaged } }
  | 0x33 => { s with chain := { s.chain with trac := s.chain.tracStaged, trPend := false } }
  | _ => s

/-- The facet blocks of a bank, as a table by facet × 32 + word. -/
def State.bankFacets (s : State) (b : Nat) : Mem16 :=
  (List.range 16384).filterMap fun k =>
    let v := s.bankW b (bkFacets + k) &&& fpMask (k / 32) (k % 32)
    if fpIsParam (k / 32) (k % 32) && v != fpReset (k / 32) (k % 32) then some (k, v) else none

/-- The coefficient banks of a bank. -/
def State.bankCoefs (s : State) (b : Nat) : Store (Option (BitVec 24)) :=
  (List.range (2 * bankSize)).map fun i =>
    (i, some (BitVec.ofNat 24 ((s.bankW b (bkCoef + 2 * i)).toNat + 65536 * (s.bankW b (bkCoef + 2 * i + 1)).toNat)))

/-- Curves that a bank stores as activated. -/
def State.bankCurves (s : State) (b : Nat) : List Nat :=
  (List.range 16).filter fun c => fld (s.bankW b (bkCurves + 136 * c + 1)) 0 1 == 1

/-- The active copies of a bank's curves. -/
def State.bankCurveWords (s : State) (b : Nat) : Mem16 :=
  (s.bankCurves b).flatMap fun c => (List.range 136).filterMap fun w =>
    let v : Word := if w = 1 ∨ w = 2 then 1 else if w = 3 then 0
      else if w = 0 then s.bankW b (bkCurves + 136 * c) &&& 0x0033 else s.bankW b (bkCurves + 136 * c + w)
    if v = 0 then none else some (0x1000 + c * 256 + w, v)

/-- The stored active words of a port block, as staged words. -/
def State.bankPort (s : State) (b p : Nat) : Mem16 :=
  let w (k : Nat) : Word := s.bankW b (bkPorts + 344 * p + k)
  ((List.range 17).map (fun k => (k, w (32 + k) &&& pbMask k)) ++ (List.range 128).map (fun k => (64 + k, w (192 + k)))).filter
    fun e => e.2 != pbReset e.1

/-- A port takes its block: staged words, scale and staged mean; its loop length and DIR stand staged already. -/
def State.loadPort (s : State) (b p : Nat) : State :=
  let d (k : Nat) : DWord := dw (s.bankW b (bkPorts + 344 * p + k)) (s.bankW b (bkPorts + 344 * p + k + 1))
  s.modPort p fun q => { q with
    staged := s.bankPort b p, strWritten := true, span := d 320, zero := d 322, tareStgMean := d 326 }

/-- A loaded port whose staged settings are not those in force is activated. -/
def PosPort.loadsAnew (q : PosPort) : Bool :=
  q.staged != q.active || q.lenStaged != q.len || fld q.cfg 1 1 != fld q.cfgAct 1 1

/-- The remote entries of the bezel tables in a bank (R430). -/
def State.loadBezel (s : State) (b : Nat) : State :=
  (List.range 23).foldl (fun s t => s.bezelSet t ((s.bankW b (bkBezel + t) &&& 0x00F0) ||| 0x0300)) s

/-- The trigger table of a bank. -/
def State.bankTrg (s : State) (b : Nat) : Mem16 :=
  (List.range 144).filterMap fun k =>
    let v := s.bankW b (bkTrg + k) &&& trgMask k
    if trgMask k != 0 && v != trgReset k then some (k, v) else none

/-- Filter words without EN, and `CP_REF_DELAY` of a CAN port (R465; log 34). -/
def State.loadCan (s : State) (b p : Nat) : State :=
  let w (k : Nat) : Word := s.bankW b (bkCan + 257 * p + k)
  s.modCanPort p fun c => { c with
    refDelay := w 256
    flt := (List.range 256).filterMap fun k =>
      let v : Word := if k % 8 = 4 then w k &&& 0x003F else if k % 8 = 1 ∨ k % 8 = 3 then w k &&& 0x1FFF else w k
      if k % 8 ≤ 4 ∧ v ≠ fltReset k then some (k, v) else none }

/-- A partition that R255 and R256 allow takes effect at L. -/
def State.loadPart (s : State) : State :=
  let c := s.cap.partStaged.getD 0 0
  let t := s.cap.partStaged.getD 1 0
  let g := s.cap.partStaged.getD 2 0
  if c + t + g ≤ 126 ∧ 8 ≤ c ∧ c ≤ 122 ∧ t ≤ 16 ∧ 4 ≤ g ∧ g ≤ 16 then { s with cap := { s.cap with part := [c, t, g] } } else s

/-- The image copy of a bank: as stored, the cell constants alone, or the factory image (R479). -/
def State.loadImage (s : State) (b : Nat) : State :=
  let area : Mem16 := (List.range imageWords).map fun k => (k, s.bankW b (bkImage + k))
  let a : State := { s with cal := { s.cal with restore := area } }
  if a.restoreReason false = 0 then
    { s with
      cal := { s.cal with
        image := (List.range 20964).map fun i => (i + 16, some (a.restW (i + 16)))
        gen := (a.restD 8).toNat, count := (a.restW 6).toNat, last := (a.restD 16).toNat }
      nvm := { s.nvm with factoryImg := false, cellsOnly := false } }
  else if a.restoreReason false = 20 ∧ a.restoreReason true = 0 then
    { s with
      cal := { s.cal with image := sysWords.map (fun k => (k, some (a.restW k))), gen := ((a.restD 8).toNat + 1) % 2 ^ 32 }
      nvm := { s.nvm with factoryImg := false, cellsOnly := true } }
  else s

/-- A facet whose own part the spare-map log marks failed, with nothing in its place, enters PATH (R397, R407). -/
def State.loadFaults (s : State) : State :=
  s.forFacets (s.facets.map (·.1)) fun n t =>
    if ((t.facet n).needPath || (t.facet n).needExc) && (t.blkA n).type != 0 then t.enterCause n 10 else t

/-- The state that a bank's clasp would leave (R478). -/
def State.loadBank (s : State) (b : Nat) : State :=
  let es := s.bankList b
  let s := (es.filter fun e => !lateReg e.1).foldl State.loadReg s
  let fs := s.bankFacets b
  let cs := s.bankCurveWords b
  let s := { s with
    fpStaged := fs, fpActive := fs, curves := cs
    chain := { s.chain with coef := s.bankCoefs b, bank := fld (s.bankW b 15) 0 1 }
    trg := { s.trg with table := s.bankTrg b } }
  let s := (List.range 4).foldl (fun s p => s.loadPort b p) s
  let s := (List.range 4).foldl (fun s p => if (s.port p).loadsAnew then s.activatePort p else s) s
  let s := (s.loadBezel b).loadPart
  let s := (List.range 3).foldl (fun s p => s.loadCan b p) s
  let s := (es.filter fun e => lateReg e.1).foldl State.loadReg s
  (s.loadImage b).loadFaults

/-- The codes of R422 that refuse a bank's clasp: `s` before it, `t` the state that it would leave. -/
def State.loadCodes (s t : State) (b : Nat) : List Nat :=
  let es := s.bankList b
  let staged (p : Nat) : PosPort := ({ (t.port p) with staged := s.bankPort b p })
  (match ({ t with fpActive := s.fpActive } : State).refusal t.cand allFacets false with | some (k, _) => [k] | none => [])
  ++ (if es.any (fun e => encBad e.1 e.2.2) || (List.range 8).any (fun i => (t.trgState i).reserved)
        || (List.range 4).any (fun p => !spanOk (t.port p).span || !zeroOk (t.port p).zero)
        || (List.range 4).any (fun i => decide (511 < (s.bankW b (bkTrg + 128 + i)).toNat))
        || (s.bankCurves b).any (fun c => curveEnc (s.bankW b (bkCurves + 136 * c)))
        || (List.range 3).any (fun p => (List.range 32).any fun i => fltEnc (s.bankW b (bkCan + 257 * p + 8 * i + 4)))
      then [10] else [])
  ++ (if (s.bankCurves b).any (fun c => curveErr (fun w => s.bankW b (bkCurves + 136 * c + w)) != 0) then [15] else [])
  ++ (if !t.chainOk t.chain.bank t.chain.shActive then [17] else [])
  ++ (if (List.range 4).any (fun p => (staged p).cfgS.cause t.ctl.station != 0 
        && ((t.port p).active != [] || (t.port p).len != 0)) then [18] else [])
  ++ (if es.any (fun e => e.1 == 0x57 && fld e.2.2 5 1 == 1) && !t.hsSpanOk then [21] else [])
  ++ (if decide (t.budget.set.getD 0 0 < 12000) || decide (200000 < t.budget.set.sum) then [28] else [])

/-- L: the configuration is committed, the host port is ready, the host watchdog starts (R473, R482, R483). A timebase that is not
in UNSET has its ports listen from here on (R172). -/
def State.atL (s : State) (bank : Option Nat) : State :=
  ({ s with
    life := { s.life with phase := .ready, lTick := s.tick }
    ctl := { s.ctl with wdtFrom := some s.tick }
    time := { s.time with tx := Store.build {} 2 fun _ => { quietFrom := s.tick } }
    nvm := { s.nvm with bank := bank } }).bankRecord 0

/-- Remote entries of the factory configuration (R430). -/
def factoryEntry (t : Nat) : Nat :=
  if t < 6 then 2 else if t < 8 then 1
  else match t - 8 with
    | 0x0 => 2 | 0x4 => 2 | 0xB => 2 | 0xC => 2 | 0x3 => 0 | 0xD => 0 | _ => 1

/-- The factory configuration: reset values with the remote entries of R430 (R478). -/
def State.loadFactory (s : State) : State :=
  (List.range 23).foldl (fun s t => s.bezelSet t (w16 (0x300 + 80 * factoryEntry t))) s.loadFaults

/-- Commit the bank that is to be tried, or the factory configuration when no valid bank remains. -/
def State.tryLoad (s : State) : State :=
  let s := { s with nvm := { s.nvm with triedAt := s.tick } }
  match s.nvm.chosen with
  | none => s.loadFactory.atL none
  | some b =>
    let t := s.loadBank b
    match s.loadCodes t b with
    | [] => t.atL (some b)
    | k :: ks =>
      let code := ks.foldl min k
      let other : Option Nat := if s.nvm.refused = 0 ∧ s.bankValid (1 - b) = true then some (1 - b) else none
      let s := { s with nvm := { s.nvm with chosen := other, refused := s.nvm.refused + 1 } }
      ((s.modClasp .mp fun c => { c with result := 2, fail := code }).irq0 8).logE 3 (masterCode .mp) 0 (BitVec.ofNat 32 code)

/-- PROFILE_LOAD: L, a frame boundary (R473, R478). -/
def State.profileLoad (s : State) : State :=
  if s.life.phase ≠ .booting ∨ s.ctl.frameAt ≠ some s.tick ∨ s.nvm.refused ≠ 0 then s else s.tryLoad

/-- PROFILE_FALLBACK_LOAD: the frame boundary after a refused commit (R478). -/
def State.profileFallback (s : State) : State :=
  if s.life.phase ≠ .booting ∨ s.ctl.frameAt ≠ some s.tick ∨ s.nvm.refused = 0 ∨ s.tick ≤ s.nvm.triedAt then s
  else s.tryLoad

end Sys2Proof.Machine
end

