-- ==== Sys2Proof/Machine/Remote.lean ====
section
/-! DEFINITION. Remote requests (R341 to R347): sessions, the operations of R343, their status and responses. The MP serves the
requests of a port in the order of their arrival, each in the step that receives it, but that the requests of a port await service
while the answer to a CLASP_COMMIT waits for its frame boundary (DESIGN CHOICE, log 35) and while the MP's budget does not
carry the transfers of the first of them (R434; DESIGN CHOICE, log 240). -/

namespace Sys2Proof.Machine

open Sys2Proof

/-- Operation codes of R343. -/
def opOpen : Nat := 0x01
def opClose : Nat := 0x02
def opKeep : Nat := 0x03
def opSetKey : Nat := 0x04
def opRegRead : Nat := 0x10
def opRegWrite : Nat := 0x11
def opWinRead : Nat := 0x12
def opWinWrite : Nat := 0x13
def opBegin : Nat := 0x20
def opCommit : Nat := 0x21
def opRollback : Nat := 0x22
def opFacetRead : Nat := 0x30

/-- What an operation answers: its status, the words done, and the data of its result. -/
structure Answer where
  status : Nat
  done : Nat := 0
  data : List Byte := []
deriving DecidableEq, Repr

/-- The RRSP of a request (R342), which the port keeps for its requester (R347). -/
def State.respond (s : State) (p : Nat) (op : Nat) (r : Req) (a : Answer) : State :=
  let body := leBytes 1 op ++ leBytes 1 a.status ++ leBytes 2 a.done ++ leBytes 4 r.addr.toNat ++ a.data
  let s := s.modSession p fun x => { x with
    recent := ({ node := r.node.toNat, tag := r.tag.toNat, op, req := { r with ns := 0 }, data := body, tick := s.tick } ::
      x.recent.filter fun y => y.node != r.node.toNat).take 8 }
  s.emit .rrsp p (r.node.toNat * 32 + r.tag.toNat) body 0 511 s.tick 1

/-- The kept response that answers a repeated request (R347). -/
def State.kept (s : State) (p op : Nat) (r : Req) : Option Resp :=
  (s.session p).recent.find? fun y =>
    y.node == r.node.toNat && y.tag == r.tag.toNat && y.op == op && y.req == { r with ns := 0 } && decide (s.tick ≤ y.tick + 4000)

/-- The requester holds the port's session. -/
def State.holds (s : State) (p : Nat) (r : Req) : Bool := (s.session p).holder == some r.node.toNat

/-- The device receives requests on the port: outside the fatal state, with the port on its bus and not in internal loopback (R301,
R341, R492). -/
def State.serves (s : State) (p : Nat) : Bool := s.ready && s.onBusOk p && (s.canPort p).mode != 4

/-- The frame is for this station (R341). -/
def State.addressed (s : State) (r : Req) : Bool := r.station.toNat == s.ctl.station

/-- Answer with the kept response, whose requester is then the one heard last (R347). -/
def State.repeatAnswer (s : State) (p : Nat) (y : Resp) : State :=
  (s.modSession p fun x => { x with recent := y :: x.recent.filter fun z => z.node != y.node }).emit .rrsp p
    (y.node * 32 + y.tag) y.data 0 511 s.tick 1

/-- What shedding leaves of an operation: a status below BUSY, with what such an answer does, else BUSY (R344, R441). -/
def shedAnswer (s : State) (x : Option Answer × State) : Option Answer × State :=
  match x with
  | (some a, t) => if 0 < a.status ∧ a.status < 6 then (some a, t) else (some { status := 6 }, s)
  | (none, _) => (some { status := 6 }, s)

/-- The port's count of consecutive BAD_KEY answers ends (R345). -/
def State.keyRun (s : State) (p : Nat) : State := s.modSession p fun x => { x with badKeys := 0 }

/-- The addresses of a window operation. -/
def reqAddrs (r : Req) : List Nat := (List.range r.count).map fun i => (r.addr.toNat + i) % 2 ^ 32

/-- 64-bit words that an operation touches: transfers of the MP's path (R432). -/
def reqLines (r : Req) : Nat := (((reqAddrs r).map (· / 4)).dedup).length

/-- Transfers that an operation draws on the MP's budget: those of a window operation, and the key's one to the NVM (R432). -/
def opCost (op : Nat) (r : Req) : Nat :=
  if op = opWinRead ∨ op = opWinWrite then reqLines r else if op = opSetKey then 1 else 0

/-- The MP's budget of the frame carries the operation. One of more transfers than the whole budget takes a frame that has all
of it (DESIGN CHOICE, log 240). -/
def State.mpFree (s : State) (op : Nat) (r : Req) : Bool :=
  let used := s.budget.used.getD actMp 0
  opCost op r == 0 || (!s.budget.stalled.getD actMp false
    && (decide (used + opCost op r ≤ s.budget.limit actMp) || (used == 0 && s.budget.limit actMp != 0)))

/-- Charge an operation that the budget carries. -/
def State.payOp (s : State) (op : Nat) (r : Req) : State := s.spendAll actMp (min (opCost op r) (s.budget.limit actMp))

/-- Carry out an operation and answer it. An operation without an answer answers later; one that resets the device answers
nothing. An OPEN that shedding answers with BUSY ends a run of BAD_KEY answers as any other answer does (R345). -/
def State.answer (s : State) (p op : Nat) (r : Req) (f : State → Option Answer × State) : State :=
  let (a, t) := if 3 ≤ s.ctl.shed then shedAnswer (if op = opOpen then s.keyRun p else s) (f s) else f s
  match a with
  | some a => if t.ready then t.respond p op r a else t
  | none => t

/-- Serve a request: activity of the holder, a copy for a repetition, service in its turn, of which 4 wait at most, else the
operation (R341, R345, R347, R434, R441). -/
def State.serve (s : State) (p op : Nat) (r : Req) (f : State → Option Answer × State) : State :=
  if !s.serves p ∨ !s.addressed r then s else
  let s := if s.holds p r then s.modSession p fun x => { x with lastTick := s.tick } else s
  match s.kept p op r with
  | some y => s.repeatAnswer p y
  | none =>
    let x := s.session p
    let free := x.commitReq.isNone && x.waiting.isEmpty
    if free ∧ s.mpFree op r = true then s.answer p op r f
    else if 4 ≤ x.waiting.length then (if op = opOpen then s.keyRun p else s).respond p op r { status := 6 }
    else
      let s := if free then s.stall actMp else s
      s.setSession p { x with waiting := x.waiting ++ [(op, { r with ns := 0 })] }

/-- An answer without an effect. -/
def refuse (status : Nat) (s : State) : Option Answer × State := (some { status }, s)

/-- The master of port A or B (R341). -/
def portMaster (p : Nat) : Master := if p = 0 then .canA else .canB

/-- The operation needs the session (R343). -/
def needsSession (p : Nat) (r : Req) (f : State → Option Answer × State) (s : State) : Option Answer × State :=
  if s.holds p r then f s else refuse 1 s

/-! ## Sessions (R345) -/

/-- The session of a port ends: its open clasp is rolled back. -/
def State.endSession (s : State) (p : Nat) : State :=
  let s := s.modSession p fun x => { x with holder := none }
  if (s.master (portMaster p)).clasp.isOpen then s.claspDrop (portMaster p) 3 0xFE else s

/-- OPEN: the lowest status that applies; a request too short to hold a key holds a wrong one (R344, R345). -/
def State.doOpen (s : State) (p : Nat) (r : Req) : Option Answer × State :=
  let x := s.session p
  let key := BitVec.ofNat 32 (leNat (r.data.take 4))
  if r.data.length < 4 ∨ key ≠ s.nvm.key ∨ s.nvm.key = 0 then
    if x.badKeys = 2 then
      refuse 2 ((s.setSession p { x with badKeys := 0, lockFrom := some s.tick }).alarm 10 r.node.toNat p)
    else refuse 2 (s.setSession p { x with badKeys := x.badKeys + 1 })
  else if x.lockFrom.isSome then refuse 3 (s.keyRun p)
  else if x.holder.isSome ∧ x.holder ≠ some r.node.toNat then refuse 8 (s.keyRun p)
  else (some { status := 0 }, s.setSession p { x with holder := some r.node.toNat, lastTick := s.tick, badKeys := 0 })

/-- CLOSE. -/
def State.doClose (s : State) (p : Nat) : Option Answer × State := (some { status := 0 }, s.endSession p)

/-- SET_KEY needs write access at the NVM target. -/
def State.doSetKey (s : State) (p : Nat) (r : Req) : Option Answer × State :=
  let m := portMaster p
  if s.entry m 22 ≠ 3 then refuse 4 (s.deny m 22 true)
  else if r.data.length < 4 then refuse 5 s
  else
    let s := s.payOp opSetKey r
    (some { status := 0 }, { s with nvm := { s.nvm with key := BitVec.ofNat 32 (leNat (r.data.take 4)) } })

/-- SESSION_TIMEOUT: 60 s without a request of the holder. -/
def State.sessionTimeout (s : State) (p : Nat) : State :=
  let x := s.session p
  if x.holder.isSome ∧ x.lastTick + 240000 ≤ s.tick then s.endSession p else s

/-- OPEN_LOCK_EXPIRY: 60 s after the third BAD_KEY. -/
def State.lockExpiry (s : State) (p : Nat) : State :=
  match (s.session p).lockFrom with
  | some t => if t + 240000 ≤ s.tick then s.modSession p fun x => { x with lockFrom := none } else s
  | none => s

/-! ## Register operations (R343, R344, R346) -/

/-- Offsets that register operations never touch. -/
def remoteBarred (off : Nat) : Bool := (0x24 ≤ off && off ≤ 0x27) || (0x7C ≤ off && off ≤ 0x7F)

/-- The offsets of a register operation. -/
def reqOffs (r : Req) : List Nat := (List.range r.count).map (r.addr.toNat + ·)

def reqArgBad (r : Req) : Bool :=
  r.count == 0 || decide (28 < r.count) || decide (128 < r.addr.toNat + r.count) || (reqOffs r).any remoteBarred

/-- The data words of a request. -/
def reqWords (r : Req) : List Word := wordsOfBytes (r.data.take (2 * r.count))

/-- REG_READ: latches at the instant of its service (R157). -/
def State.doRegRead (s : State) (p : Nat) (r : Req) : Option Answer × State :=
  let m := portMaster p
  let offs := (reqOffs r).filter fun o => decide (o < 128)
  match offs.find? fun o => !openReg o && s.entry m (regTarget o) == 0 with
  | some o => refuse 4 (s.deny m (regTarget o) false)
  | none =>
    if (reqArgBad r) then refuse 5 s else
    let (ws, s) := offs.foldl (fun (acc : List Word × State) o =>
      let (v, t) := acc.2.regRead m o r.ns
      (acc.1 ++ [v], t)) (([] : List Word), s)
    (some { status := 0, done := r.count, data := bytesOfWords ws }, s)

/-- A register write of the request is denied: by its entry, direct under 10, or with fields that act at once under 10. -/
def State.regDenied (s : State) (m : Master) (off : Nat) (v : Word) : Bool :=
  let e := s.entry m (regTarget off)
  !ownReg off &&
    (decide (e < 2) || (e == 2 && (!(s.master m).clasp.isOpen || v &&& nowMask off != 0 || off == 0x0B)))

/-- A selector of the remote master's own takes a reserved encoding (R281, R453). -/
def selBad (off : Nat) (v : Word) : Bool :=
  (off == 0x60 && fld v 0 2 == 3) || (off == 0x53 && decide (8 < fld v 4 4))

/-- REG_WRITE. -/
def State.doRegWrite (s : State) (p : Nat) (r : Req) : Option Answer × State :=
  let m := portMaster p
  let ops := ((reqOffs r).zip (reqWords r)).filter fun x => decide (x.1 < 128)
  match ops.find? fun x => s.regDenied m x.1 x.2 with
  | some x => refuse 4 (s.deny m (regTarget x.1) true)
  | none =>
    if (reqArgBad r) ∨ r.data.length < 2 * r.count then refuse 5 s else
    let enc := (ops.filter fun x => selBad x.1 x.2 || (!(s.master m).clasp.isOpen && encBad x.1 x.2)).length
    let s := ops.foldl (fun s x => if s.ready then s.regWrite m x.1 x.2 else s) s
    (some { status := if enc = 0 then 0 else 9, done := r.count - enc }, s)

/-! ## Window operations -/

/-- Space, address or count invalid. -/
def State.winArgBad (s : State) (r : Req) : Bool :=
  let sp := r.space.toNat
  r.count == 0 || decide (28 < r.count) || decide (12 < sp) || sp == 3 || (reqAddrs r).any fun a => !s.winInside sp a

/-- WIN_READ: it clears nothing (R346). -/
def State.doWinRead (s : State) (p : Nat) (r : Req) : Option Answer × State :=
  let m := portMaster p
  let sp := r.space.toNat
  if sp < 14 ∧ s.entry m (winTarget sp) = 0 then refuse 4 (s.deny m (winTarget sp) false)
  else if s.winArgBad r then refuse 5 s
  else if s.nvmBusy sp then refuse 6 s
  else
    (some { status := 0, done := r.count, data := bytesOfWords ((reqAddrs r).map fun a => s.winWord (s.master m).canSel sp a) },
     s.payOp opWinRead r)

/-- A window write places a reserved encoding and is ignored under R10. -/
def State.winEnc (s : State) (port space addr : Nat) (v : Word) : Bool :=
  let (idx, len) := winValue space addr
  if space = 4 ∧ idx + 1 = len then
    (let ws := s.winWords port space addr idx v
     winReserved space (addr - idx) ((List.range len).map fun j =>
      ((ws.find? (fun x => x.1 == addr - idx + j)).map (·.2)).getD (s.winWord port space (addr - idx + j))))
  else if space = 0xA ∧ 0x500 ≤ addr ∧ addr < 0x600 ∧ addr % 8 = 4 then
    fltEnc v
  else false

/-- WIN_WRITE. -/
def State.doWinWrite (s : State) (p : Nat) (r : Req) : Option Answer × State :=
  let m := portMaster p
  let sp := r.space.toNat
  let port := (s.master m).canSel
  let e := s.winEntry m sp
  let clasp := (s.master m).clasp.isOpen
  if sp < 14 ∧ (e < 2 ∨ (e = 2 ∧ (clasp = false ∨ (reqAddrs r).any (winNow sp) = true))) then
    refuse 4 (s.deny m (winTarget sp) true)
  else if s.winArgBad r ∨ r.data.length < 2 * r.count ∨ (reqAddrs r).any (s.winNoWrite sp) then refuse 5 s
  else if s.nvmBusy sp then refuse 6 s
  else
    let (enc, s) := ((reqAddrs r).zip (reqWords r)).foldl (fun (acc : Nat × State) x =>
      let bad : Bool := !clasp && acc.2.winEnc port sp x.1 x.2
      (acc.1 + b2n bad, acc.2.winTake m e port sp x.1 x.2)) (0, s.payOp opWinWrite r)
    (some { status := if enc = 0 then 0 else 9, done := r.count - enc }, s)

/-! ## Clasps and facet reads -/

/-- An answer with `CLASP_FAIL`. -/
def State.claspAnswer (s : State) (p status : Nat) : Answer :=
  { status, data := leBytes 2 (s.master (portMaster p)).clasp.fail }

/-- CLASP_BEGIN. -/
def State.doBegin (s : State) (p : Nat) : Option Answer × State :=
  let c := (s.master (portMaster p)).clasp
  if c.isOpen || c.pend then (some (s.claspAnswer p 7), s) else (some { status := 0 }, s.beginClasp (portMaster p))

/-- CLASP_COMMIT: the answer follows the frame boundary (R347). -/
def State.doCommit (s : State) (p : Nat) (r : Req) : Option Answer × State :=
  if (s.master (portMaster p)).clasp.isOpen then
    (none, (s.commitClasp (portMaster p)).modSession p fun x => { x with commitReq := some r })
  else (some (s.claspAnswer p 7), s)

/-- CLASP_ROLLBACK. -/
def State.doRollback (s : State) (p : Nat) : Option Answer × State :=
  if (s.master (portMaster p)).clasp.isOpen then (some { status := 0 }, s.rollbackClasp (portMaster p))
  else (some (s.claspAnswer p 7), s)

/-- FACET_READ (R59, R60, R98). -/
def State.doFacetRead (s : State) (p : Nat) (r : Req) : Option Answer × State :=
  let a := r.addr.toNat
  let kind := bits a 16 3
  let m := portMaster p
  if s.entry m (regTarget 0x24) = 0 then refuse 4 (s.deny m (regTarget 0x24) false)
  else if 4 < kind ∨ a ≠ a % 512 + 65536 * kind then refuse 5 s
  else
    let (v, age) := s.facetRead (a % 512) kind
    (some { status := 0, data := leBytes 4 v.toNat ++ leBytes 2 (min 1023 age) }, s)

/-! ## Service (R341, R343, R347) -/

/-- The operation of an `OP` byte; any other is answered with ARG (R343). -/
def State.opEffect (p op : Nat) (r : Req) (s : State) : Option Answer × State :=
  match op with
  | 0x01 => s.doOpen p r
  | 0x02 => needsSession p r (fun t => t.doClose p) s
  | 0x03 => needsSession p r (fun t => refuse 0 t) s
  | 0x04 => needsSession p r (fun t => t.doSetKey p r) s
  | 0x10 => s.doRegRead p r
  | 0x11 => needsSession p r (fun t => t.doRegWrite p r) s
  | 0x12 => s.doWinRead p r
  | 0x13 => needsSession p r (fun t => t.doWinWrite p r) s
  | 0x20 => needsSession p r (fun t => t.doBegin p) s
  | 0x21 => needsSession p r (fun t => t.doCommit p r) s
  | 0x22 => needsSession p r (fun t => t.doRollback p) s
  | 0x30 => s.doFacetRead p r
  | _ => refuse 5 s

/-- The requests that waited are served in their order, until a CLASP_COMMIT among them waits in its turn or the MP's budget does
not carry one (R347, R434). -/
def State.serveWaiting (s : State) (p : Nat) : State :=
  let ws := (s.session p).waiting
  ws.foldl (fun s (e : Nat × Req) =>
    let free := (s.session p).commitReq.isNone && (s.session p).waiting.isEmpty
    if !s.ready then s
    else if free ∧ s.mpFree e.1 e.2 = true then s.answer p e.1 e.2 (State.opEffect p e.1 e.2)
    else (if free then s.stall actMp else s).modSession p fun x => { x with waiting := x.waiting ++ [e] })
    (s.modSession p fun x => { x with waiting := [] })

/-- With its budget renewed the MP serves the requests that await it (R433, R434). -/
def State.serveRenewed (s : State) : State :=
  (List.range 2).foldl (fun s p => if (s.session p).commitReq.isNone then s.serveWaiting p else s) s

/-- A request as it stands in an RREQ frame; none where the frame is too short for the head (R319, R342). -/
def reqOf (f : Frame) (ns : Nat) : Nat × Req :=
  let d := fun i n => leNat ((f.data.drop i).take n)
  (d 0 1,
    { station := BitVec.ofNat 8 (idStation f), node := BitVec.ofNat 8 (idSub f / 32), tag := BitVec.ofNat 5 (idSub f)
      space := BitVec.ofNat 8 (d 1 1), count := d 2 2, addr := BitVec.ofNat 32 (d 4 4), data := f.data.drop 8, ns })

/-- The copies of a received frame that the timebase and the MP take (R301, R322). A frame that comes without its instant of
validity is measured at the last tick boundary, and is served at its start of frame where that lies in the present tick (DESIGN
CHOICE, log 198). -/
def State.frameCopies (s : State) (p : Nat) (f : Frame) (ns : Nat) : State :=
  if (s.canPort p).mode = 4 ∨ !s.consumes p f ∨ !f.fdf ∨ f.data.length < contentLen (idType f) then s
  else if idType f = 0 then s.refCopy p f ns (s.nowNs 0)
  else if idType f = 7 then
    let (op, r) := reqOf f (ns - s.tick * 250000)
    s.serve p op r (State.opEffect p op r)
  else s

/-- FRAME_RECEIVED: into its queue, and to every internal consumer (R299 to R302). -/
def State.frameIn (s : State) (p : Nat) (f : Frame) (ns : Nat) : State :=
  if s.onBusOk p then (s.frameReceived p f ns).frameCopies p f ns else s

/-- FRAME_TRANSMITTED: in external loopback the port receives its own frame as any other (R286, R301). -/
def State.frameOut (s : State) (p tdc : Nat) : State :=
  let c := s.canPort p
  let t := s.frameTransmitted p tdc
  match c.onBus with
  | some (i, ns) => if c.mode = 3 then t.frameCopies p (c.sentFrame i) ns else t
  | none => t

/-- The answer to a CLASP_COMMIT once its clasp has been applied or refused (R343, R347). -/
def State.commitReply (s : State) (m : Master) : State :=
  match m with
  | .canA | .canB =>
    let p : Nat := if m = .canA then 0 else 1
    match (s.session p).commitReq with
    | some r =>
      if (s.master m).clasp.pend then s else
      let s := s.modSession p fun x => { x with commitReq := none }
      (s.respond p opCommit r (s.claspAnswer p (if (s.master m).clasp.result = 1 then 0 else 7))).serveWaiting p
    | none => s
  | _ => s

end Sys2Proof.Machine
end

