-- ==== Sys2Proof/Machine/Tick.lean ====
section
/-! DEFINITION. Tick boundaries, frame boundaries, synchronising resets, and the two changes of the count: the
continuation that ends UNSET, and a step (R11, R12, R19, R52, R147, R160, R175, R176, R179 to R185, R433, R437). -/

namespace Sys2Proof.Machine

open Sys2Proof

/-! ## The tick that ends -/

/-- The land signals that a tick's monitors see. -/
def State.storeSigs (s : State) (lands : List (Fin 512 × Analog)) : State :=
  lands.foldl (fun s x => s.modFacet x.1.val fun f => { f with sig := x.2 }) s

/-- The counts of R52 over the tick that ends. -/
def State.judgeRail (s : State) (ma mv : Nat) : State :=
  { s with exc := { s.exc with
      railNow := ma, railFrame := s.exc.railFrame ++ [ma], exvdd := mv
      overCnt := if 2000 < ma then min 8 (s.exc.overCnt + 1) else 0
      underCnt := if ma ≤ 2000 then min 8 (s.exc.underCnt + 1) else 0 } }

/-- The MP's accesses to the event log over the tick that ends: two transfers for each new entry (R432; log 232). Its exhausted
budget delays no entry. -/
def State.payMp (s : State) : State :=
  let n := (s.logSeq + 65536 - s.budget.logMark) % 65536 * 2
  if n = 0 then s else
  ({ s with budget := { s.budget with logMark := s.logSeq } }).spendAll actMp n

/-- The tick `s.tick` ends: triggered checks, the sequencer's judgement, apertures, groups of time records, and the monitors' judgement of it. -/
def State.endTick (s : State) (i : TickIn) : State :=
  let k := s.tick
  let s := s.startWanted.trgEnd
  let s := (s.apertures k).sendGroups
  let s := s.payChecks.payCal.payMp
  let s := s.storeSigs i.lands
  let s := (s.forFacets s.watched fun n t => t.judgeFacet n k).judgeDrivers k
  let s := (s.judgeRail i.railMa i.exvdd).judgeRefs i.refDiff i.devA i.devB
  { s with trg := { s.trg with level := i.trigIn } }

/-- The monitors' inputs as they stand, for a tick that a change of the count cuts. -/
def State.sameIn (s : State) : TickIn :=
  { railMa := s.exc.railNow, exvdd := s.exc.exvdd, refDiff := s.spare.refDiff, devA := s.spare.devA, devB := s.spare.devB
    trigIn := s.trg.level }

/-! ## The boundary that comes -/

/-- One tick of slewing: at most the slew limit over 250 µs (R175). -/
def State.slewTick (s : State) : State :=
  let t := s.time
  let lim : Rat := (t.slewLimit : Rat) / 4000
  let d := max (-lim) (min lim t.slew)
  { s with time := { t with slew := t.slew - d, slewed := t.slewed + d } }

/-- `SYNC_STAT.ARMED` clears when the target is reached (R180). -/
def State.passArmed (s : State) : State :=
  match s.time.armed with
  | some y => if y ≤ s.tick then { s with time := { s.time with armed := none } } else s
  | none => s

/-- The position port's part of a tick boundary, with what a step does to its beads (R193, R200, R207, R247). -/
def State.portTick (s : State) (p : Nat) : State :=
  let q := s.port p
  (s.posTick p).stepBeads p q

/-- What every tick boundary does once its tick number stands. -/
def State.beginTick (s : State) : State :=
  let s := s.slewTick.periodTick
  let s := if s.spare.refSwitch then (s.switchRef 3).vrefExhausted else s
  let s := s.passArmed
  let s := s.forFacets (s.facets.map Prod.fst) fun n t => (t.rangeRelease n).swapTick n
  let s := s.spare.chks.foldl (fun t c => t.checkTick c) s
  let s := s.calTick
  let s := (List.range 4).foldl (fun s p => s.portTick p) s
  s.trgTick

/-- The count stands before a boundary that a continuation or a step replaces (R160, R176). -/
def State.changes (s : State) : Bool :=
  s.ready && ((match s.time.cont with | some (_, k, _, _) => k == s.tick | none => false) ||
    (match s.time.step with | some (_, k, _) => k == s.tick | none => false))

/-- TICK_BOUNDARY: the next tick of the count. Outside the states from L to a fatal error only the count runs, and the EXVDD
that the checks of the profile load take (R50, R478) is measured. -/
def State.tickBoundary (s : State) (i : TickIn) : State :=
  if s.changes then s else
  let s := if s.ready then s.endTick i else { s with exc := { s.exc with exvdd := i.exvdd } }
  let s := { s with time := { s.time with tick := s.time.tick + 1 } }
  if s.ready then s.beginTick else s

/-! ## Frame boundaries -/

/-- Every activity receives its budget afresh (R433, R436). -/
def BudgetSt.renew (b : BudgetSt) (fabric : Nat) : BudgetSt :=
  { b with
    set := b.set.mapIdx fun i v => (Store.get none (b.staged.map fun (e : Nat × Nat) => (e.1, some e.2)) i).getD v
    staged := [], usedLast := b.used, used := b.used.map fun _ => 0, stalled := b.stalled.map fun _ => false
    fabric := fabric }

/-- The frame that ends, which began at `first`, joins the frame trace of 256 frames (R494). -/
def State.traceFrame (s : State) (fabric first : Nat) : State :=
  { s with trace := (s.trace ++
      [FrameTrace.mk first fabric s.budget.used s.budget.stalled]).drop (s.trace.length + 1 - 256) }

/-- The fabric's measurement and the budgets of the frame that begins (R433, R437). -/
def State.fabricFrame (s : State) (fabric first : Nat) : State :=
  let was := s.budget.low
  let s := s.traceFrame fabric first
  let s := if s.life.phase = .fatal ∧ s.life.fatalStall = none then
    { s with life := { s.life with fatalStall := some s.budget.stalled } } else s
  let s := { s with budget := s.budget.renew fabric }
  s.fabricEdge was

/-- Direct writes that take effect at a frame boundary (R19 step 3, R195, R211, R216, R225, R229, R428). -/
def State.directEffects (s : State) : State :=
  let s := s.ctl.bezelPend.foldl (fun t (x : Nat × Word × Master) => t.bezelEffect x.1 x.2.1 x.2.2) s
  let s := { s with ctl := { s.ctl with
    bezelPend := [], modeSel := s.ctl.modePend.getD s.ctl.modeSel, modePend := none } }
  let s := (List.range 4).foldl (fun s p => ((s.posCfgEffect p).modPort p (·.revEffect s.tick)).scaleEffect p) s
  s.beadPortsEffect

/-- Averages and counts of the frame that has ended (R52, R58, R190). -/
def State.frameMeasures (s : State) : State :=
  let r := s.exc.railFrame
  let s := { s with
    exc := { s.exc with railMa := if r = [] then s.exc.railMa else r.foldl (· + ·) 0 / r.length, railFrame := [] }
    faultSum := s.faultCount }
  (List.range 4).foldl (fun s p => s.modPort p PosPort.frameSpeed) s

/-- The MP's own work at a frame boundary: the sequencer's start, substitutions, checks (R258, R394, R397, R398). -/
def State.frameWork (s : State) : State :=
  let s := s.trgStart
  let s := s.forFacets (s.facets.map Prod.fst) fun n t => (t.substAtFrame n).autoSubst n
  s.checksAtFrame

/-- The per-frame measurement of CANCLK: one outside its range is a loss, the first within it the return (R283). -/
def State.canclkFrame (s : State) (khz : Nat) : State :=
  let s := { s with candev := { s.candev with clkKhz := khz } }
  if khz < 20000 ∨ 80000 < khz then s.canclkLoss else s.canclkReturn khz

/-- FRAME_BOUNDARY, once at a tick boundary whose number is a multiple of 4: what was accepted before is due from here. -/
def State.frameBoundary (s : State) (fabric canclk : Nat) : State :=
  if !s.isFrame ∨ s.ctl.frameAt = some s.tick then s else
  let first := s.ctl.frameAt.getD (s.tick - 4)
  let s := { s with ctl := { s.ctl with
    frameStamp := s.ctl.stamp, frameAt := some s.tick, loadFrames := if s.ready then s.ctl.loadFrames + 1 else 0 } }
  let s := if s.ready then s.frameMeasures.directEffects.tallyJudge else s
  let s := (s.fabricFrame fabric first).canclkFrame canclk
  let s := if s.ready then s.serveRenewed else s
  let s := s.formClosing s.bead.closing
  if s.ready then s.scrubFrame.frameWork else s

/-! ## Synchronising resets (R86, R147, R179 to R185) -/

/-- A synchronising reset on one facet: its chain clears; a scheduled Z-facet re-anchors. -/
def State.syncFacet (s : State) (n : Nat) : State :=
  let s := s.rangeSync n
  let b := s.blkA n
  let y := s.tick
  s.modFacet n fun f =>
    let f := { f with swap := f.swap.map fun (w : Swap) => if w.freeAt.isNone then { w with left := settleLen n b } else w }
    if scheduled n b then
      { (f.openSettle 1).cutChain y with
        fadeJ := none, anchor := y, cycles := 0, acc := [], cycMarks := [], slot := (slotAt b 0).1, slotFrom := y }
    else { f.clearChain y (settleLen n b) with fadeJ := none }

/-- The whole of a synchronising reset's effect at the present boundary. -/
def State.syncEffect (s : State) : State :=
  let s := s.chainSync
  let s := s.forFacets allFacets fun n t => t.syncFacet n
  (s.checksSync s.tick).calSync s.tick

/-- SYNC_RESET: the sources that have resolved to the present boundary produce one reset. Two requests of one source for it, as
with `SYNC_CTL.NOW` written twice in a tick, count as two and set MULTI: R179 does not say (DESIGN CHOICE, log 239). -/
def State.syncReset (s : State) : State :=
  if !s.ready then s else
  let (due, rest) := s.time.syncReq.partition fun (r : Nat × Nat) => decide (r.1 ≤ s.tick)
  match due with
  | [] => s
  | (_, src) :: more =>
    let s := { s with time := { s.time with
      syncReq := rest, syncSrc := src, syncCount := (s.time.syncCount + 1) % 256
      syncMulti := s.time.syncMulti || !more.isEmpty } }
    (s.syncEffect.irq0 4).logE 7 noMaster src 0

/-! ## Changes of the count -/

/-- What moves with the count when boundary K + 1 becomes boundary Y: instants from which durations run. `d` is Y − (K + 1),
`x` the offset in ns that local time loses. -/
structure Shift where
  d : Int
  x : Int
deriving DecidableEq, Repr

def Shift.t (h : Shift) (k : Nat) : Nat := ((k : Int) + h.d).toNat
def Shift.ns (h : Shift) (v : Nat) : Nat := ((v : Int) - h.x).toNat

/-- A facet's instants; its spans of fault continue in the new count (R57, R327). -/
def Shift.facet (h : Shift) (k1 y : Nat) (f : FacetRT) : FacetRT :=
  { f with
    faultSpans := (f.faultSpans.flatMap fun (x : Nat × Option Nat) =>
      match x.2 with
      | none => if x.1 < k1 then [(x.1, some k1), (y, none)] else [(y, none)]
      | some _ => [x])
    alarmFrom := f.alarmFrom.map h.t
    beadFrom := h.t f.beadFrom
    last := { f.last with formTick := h.t f.last.formTick }
    prev := { f.prev with formTick := h.t f.prev.formTick }
    older := f.older.map fun (o : OutRec) => { o with formTick := h.t o.formTick }
    blkOld := if h.d < 0 then [] else f.blkOld
    pend := f.pend.map fun (p : PendOut) => { p with formTick := h.t p.formTick, formed := p.formed.map h.t }
    tickPend := f.tickPend.map fun (p : TickPend) => { p with formTick := h.t p.formTick, formed := p.formed.map h.t }
    rangeChg := f.rangeChg.map fun (r : RangeChg) => { r with freeAt := r.freeAt.map h.t }
    swap := f.swap.map fun (w : Swap) => { w with freeAt := w.freeAt.map h.t } }

/-- The timebase's own instants. -/
def Shift.time (h : Shift) (t : TimeSt) : TimeSt :=
  { t with
    holdFrom := h.t t.holdFrom, unsetFrom := h.t t.unsetFrom, ppsLast := t.ppsLast.map h.ns, syncEdge := t.syncEdge.map h.ns
    rx := Store.mapV {} (fun _ (r : RefRx) => { r with last := r.last.map fun (z : Nat × Nat) => (z.1, h.ns z.2) }) t.rx
    tx := Store.mapV {} (fun _ (r : RefTx) => { r with
      prev := r.prev.map fun (z : Nat × Nat) => (z.1, h.ns z.2), quietFrom := h.t r.quietFrom, sentAt := r.sentAt.map h.t }) t.tx
    syncReq := t.syncReq.map fun (r : Nat × Nat) => if r.2 = 0 ∨ r.2 = 2 then (h.t r.1, r.2) else r }

/-- A position port's instants. The speeds of before the step count towards the 2,000 ms and 5,000 ms of R218 after it, on
the new count: R217 and R218 say nothing of a step (DESIGN CHOICE, log 236). -/
def Shift.port (h : Shift) (q : PosPort) : PosPort :=
  { q with fastFrom := q.fastFrom.map h.t, slowFrom := q.slowFrom.map h.t, zeroAt := q.zeroAt.map h.t
           edgeA := q.edgeA.map h.ns, edgeB := q.edgeB.map h.ns }

def Shift.can (h : Shift) (c : CanPort) : CanPort :=
  { c with activeFrom := h.t c.activeFrom, paceFrom := h.t c.paceFrom
           onBus := c.onBus.map fun (z : Nat × Nat) => (z.1, h.ns z.2) }

def Shift.sess (h : Shift) (x : Session) : Session :=
  { x with lastTick := h.t x.lastTick, lockFrom := x.lockFrom.map h.t
           recent := x.recent.map fun (r : Resp) => { r with tick := h.t r.tick } }

def Shift.run (h : Shift) (r : CalRun) : CalRun :=
  { r with measFrom := h.t r.measFrom, waitFrom := h.t r.waitFrom, freeAt := r.freeAt.map h.t, gapFrom := r.gapFrom.map h.t
           gapFirst := h.t r.gapFirst }

def Shift.spare (h : Shift) (u : SpareUnit) : SpareUnit :=
  { u with chks := u.chks.map fun (c : Check) => { c with from_ := h.t c.from_ }
           drv := u.drv.map fun (d : DrvCheck) => { d with from_ := h.t d.from_ }
           rowHits := u.rowHits.map fun (e : Nat × Nat) => (e.1, h.t e.2), shadowFrom := h.t u.shadowFrom }

def Shift.clasp (h : Shift) (x : MasterSt) : MasterSt :=
  { x with clasp := { x.clasp with beginTick := h.t x.clasp.beginTick } }

/-- Instants across the state, but for those that belong to apertures of the old count. -/
def State.shiftTicks (s : State) (h : Shift) (k1 y : Nat) : State :=
  { s with
    host := h.clasp s.host, mp := h.clasp s.mp, canA := h.clasp s.canA, canB := h.clasp s.canB, debug := h.clasp s.debug
    facets := Store.mapV {} (fun _ f => h.facet k1 y f) s.facets
    spare := h.spare s.spare, time := h.time s.time
    ports := Store.mapV {} (fun _ q => h.port q) s.ports
    can := Store.mapV {} (fun _ c => h.can c) s.can
    sess := Store.mapV {} (fun _ x => h.sess x) s.sess
    curveOld := s.curveOld.map fun (e : Nat × Nat × List Word) => (h.t e.1, e.2)
    cal := { s.cal with run := s.cal.run.map h.run, imgHist := if h.d < 0 then [] else s.cal.imgHist
                        refHist := if h.d < 0 then [] else s.cal.refHist }
    msg := { s.msg with group := s.msg.group.map fun (g : Nat × Nat × List TrecEntry) => (g.1, h.t g.2.1, g.2.2) }
    ctl := { s.ctl with wdtFrom := s.ctl.wdtFrom.map h.t } }

/-- Boundary Y takes the place of boundary K + 1: the tick K has ended. -/
def State.jump (s : State) (y : Nat) (x : Int) : State :=
  let k1 := s.tick + 1
  let s := s.endTick s.sameIn
  let s := s.shiftTicks { d := (y : Int) - (k1 : Int), x := x } k1 y
  { s with time := { s.time with tick := y } }

/-- TIMEBASE_CONTINUATION: at Y the provisional count continues as corridor time, and a synchronising reset acts (R160, R161). -/
def State.continuation (s : State) : State :=
  match s.time.cont with
  | none => s
  | some (y, k, st, src) =>
    if !s.ready ∨ s.tick ≠ k then s else
    let s := s.jump y s.time.contX
    let s := { s with
      time := { s.time with cont := none, acquiring := true
                            tx := Store.build {} 2 fun p => { s.refTx p with quietFrom := y } }
      ctl := { s.ctl with modeRun := true } }
    let s := (s.setTb st src).requestSync y 4
    let s := (s.irq0 3).logE 6 noMaster 0 (BitVec.ofInt 32 (satS 32 (-s.time.contX)))
    s.announceRows.beginTick

/-- Ticks that do not exist count as gap samples in the bead that a facet's last output lies in (R176 step 7). -/
def State.voidTicks (s : State) (k y : Nat) : State :=
  let apertures (n : Nat) : Nat := let u := trecUnit n (s.blkA n); (y - 1) / u - k / u
  (List.range 4).foldl (fun s p =>
    let one (s : State) (n : Nat) (scale moist : Nat) : State :=
      match s.placeOutput n k true with
      | some (x, _) =>
        if !s.engaged p k then s else
        (s.countWaiting p k x scale moist).updateBead p k x fun b => { b with
          nGap := min 65535 (b.nGap + scale), nMoistX := min 65535 (b.nMoistX + moist) }
      | none => s
    let s := match s.loadOf p with | n :: _ => one s n (apertures n) 0 | [] => s
    (s.dutyOf p).foldl (fun s n => if (s.blkA n).role = 2 then one s n 0 (apertures n) else s) s) s

/-- The timebase's own reset at Y stands in the order of its decision: after the targets that were armed before it, ahead of
what resolved later (R179). -/
def State.stepSync (s : State) (y : Nat) : State :=
  let (before, after) := s.time.syncReq.partition s.time.stepReq.contains
  { s with time := { s.time with syncReq := before ++ (y, 4) :: after, stepReq := [] } }

/-- TIME_STEP: a step of corridor time acts at Y (R176). -/
def State.timeStep (s : State) : State :=
  match s.time.step with
  | none => s
  | some (y, k, x) =>
    if !s.ready ∨ s.tick ≠ k then s else
    let s := s.jump y x
    -- 3 and 4: the ticks that do not exist, or that are not delivered again
    let s := if k + 1 < y then s.lose 0 511 (k + 1) (y - 1 - k) 2 0
      else if y ≤ k then s.lose 0 511 y (k + 1 - y) 2 0 else s
    let s := { s with time := { s.time with
      step := none, slew := 0, noRepeat := if y ≤ k then some (max k (s.time.noRepeat.getD 0)) else s.time.noRepeat } }
    -- 5: an armed target at or before Y
    let s := match s.time.armed with
      | some a => if a ≤ y then
          let t := s.clearArmed
          { t with time := { t.time with syncLate := true } } else s
      | none => s
    -- 6 and 7
    let s := ((s.capStep k y).voidTicks k y).stepSync y
    let size := satS 32 (-x)
    let s := ((s.irq0 3).logE 6 noMaster 0 (BitVec.ofInt 32 size)).alarm 7 objDevice (s32 (max (-2147483647) size))
    s.beginTick

end Sys2Proof.Machine
end

