-- ==== Sys2Proof/Machine/Outcomes.lean ====
section
/-! DEFINITION. How a command's meaning answers: with a next state, always. A meaning leaves the queue as it is, and says
once what of `life` it may change. Commands of a master that stand for one field of a register are writes of that
register's word with its other fields as they stand. -/

namespace Sys2Proof.Machine

open Sys2Proof

/-- A command that changes nothing of the device's life from reset to reset. -/
def ok (s t : State) : Host.Outcome State Fault Refusal := .next { t with pending := s.pending, life := s.life }

/-- A command of the device's life itself: a reset, the boot, the start of the drives, a fatal error and its dump. -/
def okLife (s t : State) : Host.Outcome State Fault Refusal := .next { t with pending := s.pending }

/-- A commit: of the device's life it may set DBG_LOCK alone, which nothing clears but the removal of power (R431). -/
def okLock (s t : State) : Host.Outcome State Fault Refusal :=
  .next { t with pending := s.pending, life := { s.life with dbgLock := s.life.dbgLock || t.life.dbgLock } }

/-- A write of a register word: it may reset the device, set DBG_LOCK, or release the loupe (R431, R470, R493). -/
def okWrite (s t : State) : Host.Outcome State Fault Refusal :=
  .next { t with
    pending := s.pending
    life :=
      if t.life.phase = .reset then
        { t.life with drivesOn := false, fatalDone := false, alert := false, dbgLock := s.life.dbgLock }
      else { s.life with
        dbgLock := s.life.dbgLock || t.life.dbgLock
        loupeValid := s.life.loupeValid && t.life.loupeValid, alert := s.life.alert && t.life.alert } }

/-- L: the device becomes ready (R473). -/
def okLoad (s t : State) : Host.Outcome State Fault Refusal :=
  .next { t with
    pending := s.pending
    life := if t.life.phase = .ready ∧ s.life.phase = .booting then { s.life with phase := .ready, lTick := s.tick } else s.life }

/-- A: the references have settled, and the drives start (R473). -/
def okStart (s t : State) : Host.Outcome State Fault Refusal :=
  .next { t with
    pending := s.pending
    life := if t.life.phase = .settled ∧ s.life.phase = .ready
      then { s.life with phase := .settled, drivesOn := true, aTick := s.tick } else s.life }

/-- An event of the running device: from L until a fatal error (R473, R490). -/
def State.live (s : State) (f : State → State) : State := if s.ready then f s else s

/-- An event at the lands, which EXTEST takes from the device for as long as it is selected (R431). -/
def State.landed (s : State) (f : State → State) : State := if s.ctl.extest then s else f s

/-- The word that leaves a register as it stands: its RW fields as in `old`, and no WSC, W1C or WO bit set. -/
def heldWord (off : Nat) (old : Word) : Word := old &&& ~~~(nowMask off)

/-- The word that sets one bit of a register and leaves its other fields as in `old`. -/
def withBit (off : Nat) (old : Word) (b : Nat) : Word := setFld (heldWord off old) b 1 1

/-- A write of a window word by a master that has set its window there (R413); the window's own registers stand as before. -/
def State.winCmd (s : State) (m : Master) (space addr : Nat) (v : Word) : State :=
  let x := s.master m
  let t := (s.modMaster m fun y => { y with winSpace := space, winAddr := addr }).writeCycle m 0x7F v
  t.modMaster m fun y => { y with winSpace := x.winSpace, winAddr := x.winAddr }

/-- A write cycle of `RESET_CTL`: the key's warm reset, with REFCLK present throughout or not (R446, R470, R472). -/
def State.resetCycle (s : State) (m : Master) (v : Word) (refclk : Bool) : State :=
  let t := s.writeCycle m 0x07 v
  if t.life.phase = .reset ∧ s.life.phase ≠ .reset then (s.warm 2 refclk).ack m true else t

/-- A write of `CAN_FLT_SEL` with GO, `ns` after the last tick boundary (R300). -/
def State.filterCycle (s : State) (m : Master) (idx : Nat) (en : Bool) (ns : Nat) : State :=
  let t := s.writeCycle m 0x6D (w16 (idx + 32 * b2n en + 0x8000))
  let p := (s.master m).canSel
  if (t.canPort p).fltOld = (s.canPort p).fltOld then t else t.stampFilters p (s.nowNs ns)

/-- A read of `WIN_DATA` by a master whose window lies in space 0xD (R275). -/
def State.queueCycle (s : State) (m : Master) : State :=
  if (s.master m).winSpace = 0xD then s.readCycle m 0x7F 0 else s

/-- A host cycle with both strobes low is acknowledged and does nothing (R412). -/
def State.doubleStrobe (s : State) : State := s.ack .host (s.responds .host)

/-- EXTEST selected or left; once DEBUG is locked, selecting it acts as BYPASS (R431). -/
def State.selectExtest (s : State) (sel : Bool) : State :=
  if s.life.dbgLock ∧ sel = true then s else { s with ctl := { s.ctl with extest := sel } }

/-- REFERENCE_FAILURE: 8 ticks of deviation; with both references failed the device halts (R401, R489). -/
def State.referenceFailure (s : State) (b : Bool) : State :=
  let u := s.spare
  if (if b then u.failB else u.failA) = true ∨ (if b then u.failCntB else u.failCntA) < 8 then s else
  let t := { s.refFails b with life := s.life }
  if t.spare.failA && t.spare.failB then t.fatal .reference (BitVec.ofNat 32 (fld t.refStat 0 8)) else t

/-- SRAM_SCRUB: the rows that a reading of the whole array corrects, once it has ended and its 600 s have run; the next reading
begins. While the MP sheds nothing is scrubbed. An uncorrectable word is fatal whenever it is read (R404, R441). -/
def State.scrub (s : State) (rows : List Nat) (bad : Option Nat) : State :=
  let t := if 1 ≤ s.ctl.shed ∨ !s.scrubDone then s else
    let t := s.scrubRows rows
    { t with life := s.life, spare := { t.spare with scrubFrames := 0, scrubRead := 0 } }
  match bad with
  | some a => t.fatal .sram (BitVec.ofNat 32 a)
  | none => t

/-- The shed level takes a new value (R440). -/
def State.setShed (s : State) (n : Nat) : State :=
  ({ s with ctl := { s.ctl with shed := n } }.irq0 12).logE 0x11 noMaster 0 (BitVec.ofNat 32 n)

/-- SHED_JUDGEMENT (R439, R440): `load` over the last 100 frames, in %; once they have passed since the last judgement. -/
def State.judgeLoad (s : State) (load : Nat) : State :=
  if s.ctl.loadFrames < 100 then s else
  let run := if load ≤ 60 then s.ctl.lowRun + 1 else 0
  let s := { s with ctl := { s.ctl with load, lowRun := if 10 ≤ run then 0 else run, loadFrames := s.ctl.loadFrames - 100 } }
  if 90 ≤ load ∧ s.ctl.shed < 4 then s.setShed (s.ctl.shed + 1)
  else if 10 ≤ run ∧ s.ctl.shed ≠ 0 then s.setShed (s.ctl.shed - 1)
  else s

end Sys2Proof.Machine
end

