-- ==== Sys2Proof/Machine/CmdSample.lean ====
section
/-! DEFINITION. Meanings of the commands of the sample path: ticks, frames, outputs, applies, faults, excitation, tones, banks and fades, user curves (chapters 1 to 5). -/

namespace Sys2Proof.Machine

open Sys2Proof

/-- TICK_BOUNDARY (R11). -/
def execTickBoundary (i : TickIn) (s : State) : Host.Outcome State Fault Refusal :=
  ok s (s.tickBoundary i)

/-- FRAME_BOUNDARY (R433). -/
def execFrameBoundary (fabric : Nat) (canclk : Nat) (s : State) : Host.Outcome State Fault Refusal :=
  ok s (s.frameBoundary fabric canclk)

/-- OUTPUT_FORMATION (R134). -/
def execOutputFormation (f : Fin 512) (o : OutIn) (s : State) : Host.Outcome State Fault Refusal :=
  ok s (s.outputFormation f.val o)

/-- Z_SLOT_SWITCH (R81). -/
def execZSlotSwitch (f : Fin 512) (s : State) : Host.Outcome State Fault Refusal :=
  ok s (s.live fun t => t.slotSwitch f.val)

/-- CYCLE_OUTPUT (R84). -/
def execCycleOutput (f : Fin 512) (sense : List Rat) (s : State) : Host.Outcome State Fault Refusal :=
  ok s (s.live fun t => t.cycleOutput f.val sense)

/-- ACQ_OUTPUT_LOST (R438). -/
def execAcqOutputLost (f : Fin 512) (s : State) : Host.Outcome State Fault Refusal :=
  ok s (s.live fun t => t.acqLost f.val)

/-- FCT_APPLY_GO (R46). -/
def execFctApplyGo (m : Master) (needSpare : Bool) (s : State) : Host.Outcome State Fault Refusal :=
  ok s (s.writeCycle m 0x21 (w16 (1 + 4 * b2n needSpare)))

/-- FCT_APPLY_ALL (R46). -/
def execFctApplyAll (m : Master) (needSpare : Bool) (s : State) : Host.Outcome State Fault Refusal :=
  ok s (s.writeCycle m 0x21 (w16 (2 + 4 * b2n needSpare)))

/-- APPLY_EFFECT (R49). -/
def execApplyEffect (s : State) : Host.Outcome State Fault Refusal :=
  ok s (s.live State.applyEffect)

/-- RANGE_CHANGE_SWAP (R61). -/
def execRangeChangeSwap (f : Fin 512) (s : State) : Host.Outcome State Fault Refusal :=
  ok s (s.live fun t => t.rangeSwap f.val)

/-- RANGE_CHANGE_SWAP_BACK (R61). -/
def execRangeChangeSwapBack (f : Fin 512) (s : State) : Host.Outcome State Fault Refusal :=
  ok s (s.live fun t => t.rangeSwapBack f.val)

/-- FCT_READ_GO (R59). -/
def execFctReadGo (m : Master) (f : Fin 512) (kind : BitVec 3) (s : State) : Host.Outcome State Fault Refusal :=
  ok s (s.writeCycle m 0x24 (w16 (f.val + 512 * kind.toNat + 0x8000)))

/-- FCT_READ_READY (R59). -/
def execFctReadReady (s : State) : Host.Outcome State Fault Refusal :=
  ok s (s.live State.fctReadReady)

/-- PROTECTION_ISOLATION (R30). -/
def execProtectionIsolation (f : Fin 512) (s : State) : Host.Outcome State Fault Refusal :=
  ok s (s.live fun t => t.isolate f.val)

/-- ISOLATION_END (R30). -/
def execIsolationEnd (f : Fin 512) (s : State) : Host.Outcome State Fault Refusal :=
  ok s (s.live fun t => t.isolationEnd f.val)

/-- FAULT_ENTER (R53). -/
def execFaultEnter (f : Fin 512) (c : Cause) (s : State) : Host.Outcome State Fault Refusal :=
  ok s (s.live fun t => t.faultEnter f.val c)

/-- FAULT_LEAVE (R53). -/
def execFaultLeave (f : Fin 512) (c : Cause) (s : State) : Host.Outcome State Fault Refusal :=
  ok s (s.live fun t => t.faultLeave f.val c)

/-- ALARM_WINDOW_END (R327). -/
def execAlarmWindowEnd (f : Fin 512) (s : State) : Host.Outcome State Fault Refusal :=
  ok s (s.live fun t => t.alarmWindowEnd f.val)

/-- EXC_RAIL_OVER (R52). -/
def execExcRailOver (s : State) : Host.Outcome State Fault Refusal :=
  ok s (s.live State.excRailOver)

/-- EXC_RAIL_OVER_CLEAR (R448). -/
def execExcRailOverClear (s : State) : Host.Outcome State Fault Refusal :=
  ok s (s.live State.excRailOverClear)

/-- EXC_RAIL_FOLD (R52). -/
def execExcRailFold (s : State) : Host.Outcome State Fault Refusal :=
  ok s (s.live State.excRailFold)

/-- EXC_HEADROOM (R52). -/
def execExcHeadroom (s : State) : Host.Outcome State Fault Refusal :=
  ok s (s.live State.excHeadroom)

/-- TONE_LOCK_LOSS (R75). -/
def execToneLockLoss (s : State) : Host.Outcome State Fault Refusal :=
  ok s (s.live State.toneLoss)

/-- TONE_LOCK_RETURN (R75). -/
def execToneLockReturn (s : State) : Host.Outcome State Fault Refusal :=
  ok s (s.live State.toneReturn)

/-- Z_DRIVES_RESUME (R75). -/
def execZDrivesResume (s : State) : Host.Outcome State Fault Refusal :=
  ok s (s.live State.zResume)

/-- ODEC_WRITE (R125). -/
def execOdecWrite (m : Master) (code : BitVec 4) (scope : BitVec 2) (s : State) : Host.Outcome State Fault Refusal :=
  ok s (s.writeCycle m 0x34 (w16 (code.toNat + 16 * scope.toNat)))

/-- BANK_SEL_GO (R139). -/
def execBankSelGo (m : Master) (target : Bool) (atSync : Bool) (s : State) : Host.Outcome State Fault Refusal :=
  ok s (s.writeCycle m 0x35 (w16 (b2n target + 2 * b2n atSync + 0x8000)))

/-- FADE_START (R140). -/
def execFadeStart (s : State) : Host.Outcome State Fault Refusal :=
  ok s (s.live State.fadeStart)

/-- FADE_END (R142). -/
def execFadeEnd (s : State) : Host.Outcome State Fault Refusal :=
  ok s (s.live State.fadeEnd)

/-- UC_CTL_ACT (R117). -/
def execUcCtlAct (m : Master) (c : Fin 16) (s : State) : Host.Outcome State Fault Refusal :=
  ok s (s.winCmd m 0xC (c.val * 256) (setFld (s.ucS (48 + c.val) 0) 15 1 1))

/-- USER_CURVE_ACTIVATION (R117). -/
def execUserCurveActivation (c : Fin 16) (s : State) : Host.Outcome State Fault Refusal :=
  ok s (s.live fun t => t.userCurve' c.val)

/-- EXC_FOLD_CLEAR (R448). -/
def execExcFoldClear (s : State) : Host.Outcome State Fault Refusal :=
  ok s (s.live State.excFoldClear)

/-- EXC_HEADROOM_CLEAR (R52). -/
def execExcHeadroomClear (s : State) : Host.Outcome State Fault Refusal :=
  ok s (s.live State.excHeadroomClear)

end Sys2Proof.Machine
end

