-- ==== Sys2Proof/Machine/CmdTime.lean ====
section
/-! DEFINITION. Meanings of the commands of corridor time: synchronising resets, PPS, reference messages, the count (chapter 6). -/

namespace Sys2Proof.Machine

open Sys2Proof

/-- SYNC_RESET (R147). -/
def execSyncReset (s : State) : Host.Outcome State Fault Refusal :=
  ok s s.syncReset

/-- SYNC_NOW (R179). -/
def execSyncNow (m : Master) (s : State) : Host.Outcome State Fault Refusal :=
  ok s (s.writeCycle m 0x1C (withBit 0x1C s.time.syncCtl 0))

/-- SYNC_ARM (R180). -/
def execSyncArm (m : Master) (s : State) : Host.Outcome State Fault Refusal :=
  ok s (s.writeCycle m 0x1C (withBit 0x1C s.time.syncCtl 1))

/-- SYNC_CANCEL (R180). -/
def execSyncCancel (m : Master) (s : State) : Host.Outcome State Fault Refusal :=
  ok s (s.writeCycle m 0x1C (withBit 0x1C s.time.syncCtl 2))

/-- SYNC_LAND_EDGE (R181). -/
def execSyncLandEdge (falling : Bool) (width : Nat) (ns : Nat) (s : State) : Host.Outcome State Fault Refusal :=
  ok s (s.landed fun t => t.live fun t => t.syncLandEdge falling width ns)

/-- PPS_EDGE (R163). -/
def execPpsEdge (falling : Bool) (width : Nat) (ns : Nat) (s : State) : Host.Outcome State Fault Refusal :=
  ok s (s.landed fun t => t.live fun t => t.ppsEdge falling width ns)

/-- PPS_LOST (R163). -/
def execPpsLost (s : State) : Host.Outcome State Fault Refusal :=
  ok s (s.live State.ppsLost)

/-- REF_FRAME_RECEIVE (R167). -/
def execRefFrameReceive (p : Fin 3) (fr : Frame) (ns : Nat) (valid : Nat) (s : State) : Host.Outcome State Fault Refusal :=
  ok s (s.landed fun t => t.live fun t => t.refFrame p.val fr ns valid)

/-- REF_SEND (R171). -/
def execRefSend (p : Fin 2) (s : State) : Host.Outcome State Fault Refusal :=
  ok s (s.live fun t => t.refSend p.val)

/-- REF_PERIOD_MISSED (R171). -/
def execRefPeriodMissed (p : Fin 3) (s : State) : Host.Outcome State Fault Refusal :=
  ok s (s.live fun t => t.refMissed p.val)

/-- REF_SENDER_START (R172). -/
def execRefSenderStart (p : Fin 2) (s : State) : Host.Outcome State Fault Refusal :=
  ok s (s.live fun t => t.refSenderStart p.val)

/-- FREE_ENTRY (R161). -/
def execFreeEntry (s : State) : Host.Outcome State Fault Refusal :=
  ok s (s.live State.freeRun)

/-- TIMEBASE_CONTINUATION (R160). -/
def execTimebaseContinuation (s : State) : Host.Outcome State Fault Refusal :=
  ok s s.continuation

/-- TIME_STEP (R176). -/
def execTimeStep (s : State) : Host.Outcome State Fault Refusal :=
  ok s s.timeStep

end Sys2Proof.Machine
end

