-- ==== Sys2Proof/Machine/CmdBelt.lean ====
section
/-! DEFINITION. Meanings of the commands of the belt: position, modes, beads, tare (chapters 7 and 8). -/

namespace Sys2Proof.Machine

open Sys2Proof

/-- MODE_CHANGE (R220). -/
def execModeChange (s : State) : Host.Outcome State Fault Refusal :=
  ok s (s.live State.modeChange)

/-- BEAD_CLOSE (R245). -/
def execBeadClose (p : Fin 4) (rev : Nat) (idx : Nat) (s : State) : Host.Outcome State Fault Refusal :=
  ok s (s.live fun t => t.beadClose p.val rev idx)

/-- BEAD_LATE_OPEN (R230). -/
def execBeadLateOpen (p : Fin 4) (s : State) : Host.Outcome State Fault Refusal :=
  ok s (s.live fun t => t.beadLateOpen p.val)

/-- QUADRATURE_EDGE (R188). -/
def execQuadratureEdge (p : Fin 4) (e : QuadIn) (s : State) : Host.Outcome State Fault Refusal :=
  ok s (s.landed fun t => t.live fun t => t.quadrature p.val e.change e.width e.ns)

/-- MARKER_PULSE (R199). -/
def execMarkerPulse (p : Fin 4) (x : MarkerIn) (s : State) : Host.Outcome State Fault Refusal :=
  ok s (s.landed fun t => t.live fun t => t.markerPulse p.val x.falling x.width)

/-- MARKER_MISSED (R203). -/
def execMarkerMissed (p : Fin 4) (s : State) : Host.Outcome State Fault Refusal :=
  ok s (s.live fun t => t.markerMissed p.val)

/-- POS_CFG_APPLY (R195). -/
def execPosCfgApply (m : Master) (cfg : BitVec 5) (s : State) : Host.Outcome State Fault Refusal :=
  ok s (s.writeCycle m 0x41 (w16 (cfg.toNat + 0x8000)))

/-- PORT_ACTIVATION (R195). -/
def execPortActivation (p : Fin 4) (s : State) : Host.Outcome State Fault Refusal :=
  ok s (s.live fun t => t.portActivation p.val)

/-- POS_REV_WRITE (R211). -/
def execPosRevWrite (m : Master) (v : Word) (s : State) : Host.Outcome State Fault Refusal :=
  ok s (s.writeCycle m 0x46 v)

/-- BEAD_PORTS_WRITE (R229). -/
def execBeadPortsWrite (m : Master) (ports : BitVec 4) (pub : Bool) (s : State) : Host.Outcome State Fault Refusal :=
  ok s (s.writeCycle m 0x49 (w16 (ports.toNat + 16 * b2n pub)))

/-- TARE_GO (R237). -/
def execTareGo (m : Master) (p : BitVec 2) (revs : BitVec 3) (tol : BitVec 2) (s : State) : Host.Outcome State Fault Refusal :=
  ok s (s.writeCycle m 0x4C (w16 (p.toNat + 4 * revs.toNat + 32 * tol.toNat + 0x4000)))

/-- TARE_ABORT (R237). -/
def execTareAbort (m : Master) (s : State) : Host.Outcome State Fault Refusal :=
  ok s (s.writeCycle m 0x4C (withBit 0x4C s.bead.tareCtl 15))

/-- TARE_LEARN_START (R237). -/
def execTareLearnStart (s : State) : Host.Outcome State Fault Refusal :=
  ok s (s.live State.tareLearnStart)

/-- TARE_RUN_END (R238). -/
def execTareRunEnd (s : State) : Host.Outcome State Fault Refusal :=
  ok s (s.live State.tareRunEnd)

/-- PB_TARE_LOAD (R462). -/
def execPbTareLoad (m : Master) (p : Fin 4) (s : State) : Host.Outcome State Fault Refusal :=
  ok s (s.winCmd m 0x4 (p.val * 0x40000 + 0x3F144) 1)

/-- TARE_LOAD_ACTIVATION (R462). -/
def execTareLoadActivation (p : Fin 4) (s : State) : Host.Outcome State Fault Refusal :=
  ok s (s.live fun t => t.tareLoadActivate p.val)

end Sys2Proof.Machine
end

