-- ==== Sys2Proof/Machine/CmdCapture.lean ====
section
/-! DEFINITION. Meanings of the commands of captures and streams: the sequencer, captures, the partition, the host stream, gap records (chapter 9). -/

namespace Sys2Proof.Machine

open Sys2Proof

/-- GAP_RECORD (R277). -/
def execGapRecord (s : State) : Host.Outcome State Fault Refusal :=
  ok s (s.live State.gapRecord)

/-- GAP_HELD_RECORD_QUEUE (R277). -/
def execGapHeldRecordQueue (p : Fin 2) (s : State) : Host.Outcome State Fault Refusal :=
  ok s (s.gapHeldQueue p.val)

/-- TRG_ENABLE (R258). -/
def execTrgEnable (m : Master) (s : State) : Host.Outcome State Fault Refusal :=
  ok s (s.writeCycle m 0x50 1)

/-- TRG_FORCE (R261). -/
def execTrgForce (m : Master) (s : State) : Host.Outcome State Fault Refusal :=
  ok s (s.writeCycle m 0x50 (w16 (b2n s.trg.en + 2)))

/-- TRIG_IN_EDGE (R259). -/
def execTrigInEdge (falling : Bool) (width : Nat) (s : State) : Host.Outcome State Fault Refusal :=
  ok s (s.landed fun t => t.live fun t => t.trigInEdge falling width)

/-- AUTO_TRIGGER (R262). -/
def execAutoTrigger (s : State) : Host.Outcome State Fault Refusal :=
  ok s (s.live State.autoTrigger)

/-- CAP_ARM (R264). -/
def execCapArm (m : Master) (s : State) : Host.Outcome State Fault Refusal :=
  ok s (s.writeCycle m 0x57 (withBit 0x57 s.cap.ctl 0))

/-- FILL_START (R264). -/
def execFillStart (s : State) : Host.Outcome State Fault Refusal :=
  ok s (s.live State.fillStart)

/-- CAPTURE_HOLD (R267). -/
def execCaptureHold (s : State) : Host.Outcome State Fault Refusal :=
  ok s (s.live State.captureHold)

/-- CAP_RELEASE (R267). -/
def execCapRelease (m : Master) (s : State) : Host.Outcome State Fault Refusal :=
  ok s (s.writeCycle m 0x57 (withBit 0x57 s.cap.ctl 1))

/-- CAP_ABORT (R272). -/
def execCapAbort (m : Master) (s : State) : Host.Outcome State Fault Refusal :=
  ok s (s.writeCycle m 0x57 (withBit 0x57 s.cap.ctl 2))

/-- LINE_DRAIN (R270). -/
def execLineDrain (s : State) : Host.Outcome State Fault Refusal :=
  ok s (s.live State.lineDrain)

/-- MEM_PART_GO (R256). -/
def execMemPartGo (m : Master) (capt : BitVec 7) (s : State) : Host.Outcome State Fault Refusal :=
  ok s (s.writeCycle m 0x5C (w16 (capt.toNat + 0x8000)))

/-- PARTITION_EFFECT (R257). -/
def execPartitionEffect (s : State) : Host.Outcome State Fault Refusal :=
  ok s (s.live State.partitionEffect)

/-- HS_ENABLE_WRITE (R275). -/
def execHsEnableWrite (m : Master) (en : Bool) (rearm : Bool) (can : Bool) (s : State) : Host.Outcome State Fault Refusal :=
  ok s (s.writeCycle m 0x57 (w16 (8 * b2n rearm + 16 * b2n can + 32 * b2n en)))

/-- HOST_STREAM_START (R275). -/
def execHostStreamStart (s : State) : Host.Outcome State Fault Refusal :=
  ok s (s.live State.hostStreamStart)

/-- HOST_STREAM_END (R275). -/
def execHostStreamEnd (s : State) : Host.Outcome State Fault Refusal :=
  ok s (s.live State.hostStreamEnd)

/-- TICK_PACKET (R275). -/
def execTickPacket (s : State) : Host.Outcome State Fault Refusal :=
  ok s (s.live State.tickPacket)

/-- EGRESS_STAGING (R274). -/
def execEgressStaging (s : State) : Host.Outcome State Fault Refusal :=
  ok s s.egressStaging

end Sys2Proof.Machine
end

