-- ==== Sys2Proof/Machine/CmdCan.lean ====
section
/-! DEFINITION. Meanings of the commands of the CAN FD ports: port states, frames, failover, the heartbeat (chapters 10 and 11). -/

namespace Sys2Proof.Machine

open Sys2Proof

/-- CAN_INIT_SET (R285). -/
def execCanInitSet (m : Master) (s : State) : Host.Outcome State Fault Refusal :=
  ok s (s.writeCycle m 0x61 (withBit 0x61 (s.canPort (s.master m).canSel).ctl 0))

/-- CAN_INIT_CLEAR (R285). -/
def execCanInitClear (m : Master) (s : State) : Host.Outcome State Fault Refusal :=
  ok s (s.writeCycle m 0x61 (setFld (heldWord 0x61 (s.canPort (s.master m).canSel).ctl) 0 1 0))

/-- CAN_MODE_WRITE (R286). -/
def execCanModeWrite (m : Master) (mode : BitVec 3) (s : State) : Host.Outcome State Fault Refusal :=
  ok s (s.writeCycle m 0x61 (setFld (heldWord 0x61 (s.canPort (s.master m).canSel).ctl) 1 3 mode.toNat))

/-- CAN_MODE_EFFECT (R286). -/
def execCanModeEffect (p : Fin 3) (s : State) : Host.Outcome State Fault Refusal :=
  ok s (s.modeEffect p.val)

/-- CAN_RECOVER (R307). -/
def execCanRecover (m : Master) (s : State) : Host.Outcome State Fault Refusal :=
  ok s (s.writeCycle m 0x61 (withBit 0x61 (s.canPort (s.master m).canSel).ctl 8))

/-- BUS_INTEGRATION_DONE (R285). -/
def execBusIntegrationDone (p : Fin 3) (s : State) : Host.Outcome State Fault Refusal :=
  ok s (s.landed fun t => t.integrationDone p.val)

/-- CAN_FRAME_START (R295). -/
def execCanFrameStart (p : Fin 3) (ns : Nat) (s : State) : Host.Outcome State Fault Refusal :=
  ok s (s.landed fun t => t.canFrameStart p.val ns)

/-- FRAME_TRANSMITTED (R294). -/
def execFrameTransmitted (p : Fin 3) (tdc : Nat) (s : State) : Host.Outcome State Fault Refusal :=
  okWrite s (s.landed fun t => t.frameOut p.val tdc)

/-- FRAME_RECEIVED (R302). -/
def execFrameReceived (p : Fin 3) (fr : Frame) (ns : Nat) (s : State) : Host.Outcome State Fault Refusal :=
  okWrite s (s.landed fun t => t.frameIn p.val fr ns)

/-- BUS_ERROR (R305). -/
def execBusError (p : Fin 3) (e : BusError) (dataPhase : Bool) (tx : Bool) (excused : Bool) (x : ErrTail) (s : State) : Host.Outcome State Fault Refusal :=
  ok s (s.landed fun t => t.busErrorCmd p.val e dataPhase tx excused x)

/-- BUS_OFF_RECOVERY_DONE (R307). -/
def execBusOffRecoveryDone (p : Fin 3) (s : State) : Host.Outcome State Fault Refusal :=
  ok s (s.landed fun t => t.recoveryDone p.val)

/-- LONE_PACED_ATTEMPT (R310). -/
def execLonePacedAttempt (p : Fin 3) (ns : Nat) (s : State) : Host.Outcome State Fault Refusal :=
  ok s (s.landed fun t => t.lonePaced p.val ns)

/-- DEFERRED_FAILOVER (R313). -/
def execDeferredFailover (s : State) : Host.Outcome State Fault Refusal :=
  ok s s.deferredFailover

/-- FAILOVER_RETURN (R314). -/
def execFailoverReturn (s : State) : Host.Outcome State Fault Refusal :=
  ok s s.failoverReturn

/-- FAILOVER_HOME (R314). -/
def execFailoverHome (m : Master) (s : State) : Host.Outcome State Fault Refusal :=
  ok s (s.writeCycle m 0x6F (withBit 0x6F s.candev.ctl 3))

/-- FAILOVER_DISABLE (R521). -/
def execFailoverDisable (m : Master) (s : State) : Host.Outcome State Fault Refusal :=
  ok s (s.writeCycle m 0x6F (setFld (heldWord 0x6F s.candev.ctl) 0 1 0))

/-- CANCLK_LOSS (R283). -/
def execCanclkLoss (s : State) : Host.Outcome State Fault Refusal :=
  ok s s.canclkLoss

/-- CANCLK_RETURN (R283). -/
def execCanclkReturn (khz : Nat) (s : State) : Host.Outcome State Fault Refusal :=
  ok s (s.canclkReturn khz)

/-- TXREQ (R296). -/
def execTxreq (m : Master) (req : BitVec 8) (s : State) : Host.Outcome State Fault Refusal :=
  ok s (s.writeCycle m 0x6A (w16 req.toNat))

/-- TXREQ_ABORT (R296). -/
def execTxreqAbort (m : Master) (ab : BitVec 8) (s : State) : Host.Outcome State Fault Refusal :=
  ok s (s.writeCycle m 0x6A (w16 (256 * ab.toNat)))

/-- RXQ_POP (R304). -/
def execRxqPop (m : Master) (q : Fin 2) (s : State) : Host.Outcome State Fault Refusal :=
  ok s (s.writeCycle m (0x6B + q.val) 0x8000)

/-- FILTER_ENABLE (R300). -/
def execFilterEnable (m : Master) (idx : BitVec 5) (sw : FilterSwitch) (s : State) : Host.Outcome State Fault Refusal :=
  ok s (s.filterCycle m idx.toNat sw.en sw.ns)

/-- EGRESS_MAILBOX_LOAD (R294). -/
def execEgressMailboxLoad (p : Fin 2) (s : State) : Host.Outcome State Fault Refusal :=
  ok s (s.mailboxLoad p.val)

/-- PORT_C_SHADOW_SWITCH (R402). -/
def execPortCShadowSwitch (s : State) : Host.Outcome State Fault Refusal :=
  ok s (s.live State.shadowSwitch)

/-- CONTROLLER_FAILURE (R402). -/
def execControllerFailure (p : Fin 2) (x : CtrlFail) (s : State) : Host.Outcome State Fault Refusal :=
  ok s (s.live fun t => t.controllerFailure p.val x)

/-- HBEAT_SEND (R336). -/
def execHbeatSend (s : State) : Host.Outcome State Fault Refusal :=
  ok s s.hbeatSend

end Sys2Proof.Machine
end

