-- ==== Sys2Proof/Machine/CmdRemote.lean ====
section
/-! DEFINITION. Meanings of the commands of remote requests: sessions and their operations (R341 to R347). -/

namespace Sys2Proof.Machine

open Sys2Proof

/-- RREQ_OPEN (R345). -/
def execRreqOpen (p : Fin 2) (r : Req) (s : State) : Host.Outcome State Fault Refusal :=
  ok s (s.serve p.val opOpen r (fun t => t.doOpen p.val r))

/-- RREQ_CLOSE (R345). -/
def execRreqClose (p : Fin 2) (r : Req) (s : State) : Host.Outcome State Fault Refusal :=
  ok s (s.serve p.val opClose r (needsSession p.val r fun t => t.doClose p.val))

/-- RREQ_KEEP (R343). -/
def execRreqKeep (p : Fin 2) (r : Req) (s : State) : Host.Outcome State Fault Refusal :=
  ok s (s.serve p.val opKeep r (needsSession p.val r fun t => refuse 0 t))

/-- RREQ_SET_KEY (R345). -/
def execRreqSetKey (p : Fin 2) (r : Req) (s : State) : Host.Outcome State Fault Refusal :=
  ok s (s.serve p.val opSetKey r (needsSession p.val r fun t => t.doSetKey p.val r))

/-- RREQ_REG_READ (R343). -/
def execRreqRegRead (p : Fin 2) (r : Req) (s : State) : Host.Outcome State Fault Refusal :=
  ok s (s.serve p.val opRegRead r (fun t => t.doRegRead p.val r))

/-- RREQ_REG_WRITE (R343). -/
def execRreqRegWrite (p : Fin 2) (r : Req) (s : State) : Host.Outcome State Fault Refusal :=
  okWrite s (s.serve p.val opRegWrite r (needsSession p.val r fun t => t.doRegWrite p.val r))

/-- RREQ_WIN_READ (R343). -/
def execRreqWinRead (p : Fin 2) (r : Req) (s : State) : Host.Outcome State Fault Refusal :=
  ok s (s.serve p.val opWinRead r (fun t => t.doWinRead p.val r))

/-- RREQ_WIN_WRITE (R343). -/
def execRreqWinWrite (p : Fin 2) (r : Req) (s : State) : Host.Outcome State Fault Refusal :=
  ok s (s.serve p.val opWinWrite r (needsSession p.val r fun t => t.doWinWrite p.val r))

/-- RREQ_CLASP_BEGIN (R343). -/
def execRreqClaspBegin (p : Fin 2) (r : Req) (s : State) : Host.Outcome State Fault Refusal :=
  ok s (s.serve p.val opBegin r (needsSession p.val r fun t => t.doBegin p.val))

/-- RREQ_CLASP_COMMIT (R343). -/
def execRreqClaspCommit (p : Fin 2) (r : Req) (s : State) : Host.Outcome State Fault Refusal :=
  ok s (s.serve p.val opCommit r (needsSession p.val r fun t => t.doCommit p.val r))

/-- RREQ_CLASP_ROLLBACK (R343). -/
def execRreqClaspRollback (p : Fin 2) (r : Req) (s : State) : Host.Outcome State Fault Refusal :=
  ok s (s.serve p.val opRollback r (needsSession p.val r fun t => t.doRollback p.val))

/-- RREQ_FACET_READ (R343). -/
def execRreqFacetRead (p : Fin 2) (r : Req) (s : State) : Host.Outcome State Fault Refusal :=
  ok s (s.serve p.val opFacetRead r (fun t => t.doFacetRead p.val r))

/-- RREQ_UNKNOWN_OP (R343). -/
def execRreqUnknownOp (p : Fin 2) (op : BitVec 8) (r : Req) (s : State) : Host.Outcome State Fault Refusal :=
  ok s (s.serve p.val op.toNat r (refuse 5))

/-- SESSION_TIMEOUT (R345). -/
def execSessionTimeout (p : Fin 2) (s : State) : Host.Outcome State Fault Refusal :=
  ok s (s.live fun t => t.sessionTimeout p.val)

/-- OPEN_LOCK_EXPIRY (R345). -/
def execOpenLockExpiry (p : Fin 2) (s : State) : Host.Outcome State Fault Refusal :=
  ok s (s.live fun t => t.lockExpiry p.val)

end Sys2Proof.Machine
end

