-- ==== Sys2Proof/Machine/CmdCal.lean ====
section
/-! DEFINITION. Meanings of the commands of calibration and spares: runs, restores, substitutions, checks, references, SRAM rows (chapters 12 and 13). -/

namespace Sys2Proof.Machine

open Sys2Proof

/-- CAL_GO (R355). -/
def execCalGo (m : Master) (proc : BitVec 4) (scope : Bool) (allowGap : Bool) (sysOnly : Bool) (s : State) : Host.Outcome State Fault Refusal :=
  ok s (s.writeCycle m 0x70 (w16 (proc.toNat + 16 * b2n scope + 32 * b2n allowGap + 64 * b2n sysOnly + 0x2000)))

/-- CAL_NEXT (R366). -/
def execCalNext (m : Master) (s : State) : Host.Outcome State Fault Refusal :=
  ok s (s.writeCycle m 0x70 (withBit 0x70 s.cal.ctl 14))

/-- CAL_ABORT (R356). -/
def execCalAbort (m : Master) (s : State) : Host.Outcome State Fault Refusal :=
  ok s (s.writeCycle m 0x70 (withBit 0x70 s.cal.ctl 15))

/-- CAL_RUN_START (R359). -/
def execCalRunStart (s : State) : Host.Outcome State Fault Refusal :=
  ok s (s.live State.calRunStart)

/-- CAL_STANDIN_SWAP (R359). -/
def execCalStandinSwap (s : State) : Host.Outcome State Fault Refusal :=
  ok s (s.live State.calStandinSwap)

/-- CAL_MEASUREMENT_DONE (R359). -/
def execCalMeasurementDone (x : MeasIn) (s : State) : Host.Outcome State Fault Refusal :=
  ok s (s.live fun t => t.calMeasured x)

/-- CAL_RESULT_APPLY (R376). -/
def execCalResultApply (s : State) : Host.Outcome State Fault Refusal :=
  ok s (s.live State.calResultApply)

/-- CAL_SWAP_BACK (R359). -/
def execCalSwapBack (s : State) : Host.Outcome State Fault Refusal :=
  ok s (s.live State.calSwapBack)

/-- REF_SCALE_STEP (R364). -/
def execRefScaleStep (s : State) : Host.Outcome State Fault Refusal :=
  ok s (s.live State.refScaleStep)

/-- Z_CELL_WAIT_TIMEOUT (R367). -/
def execZCellWaitTimeout (s : State) : Host.Outcome State Fault Refusal :=
  ok s (s.live State.zCellTimeout)

/-- BELT_CAL_REVOLUTION_END (R369). -/
def execBeltCalRevolutionEnd (s : State) : Host.Outcome State Fault Refusal :=
  ok s (s.live State.beltRevEnd)

/-- RESTORE_APPLY (R384). -/
def execRestoreApply (s : State) : Host.Outcome State Fault Refusal :=
  ok s (s.live State.restoreApply)

/-- SPARE_PIN (R390). -/
def execSparePin (s : State) : Host.Outcome State Fault Refusal :=
  ok s (s.live fun t => t.spareCommand 1)

/-- SPARE_UNPIN (R390). -/
def execSpareUnpin (s : State) : Host.Outcome State Fault Refusal :=
  ok s (s.live fun t => t.spareCommand 2)

/-- SPARE_SUBSTITUTE (R398). -/
def execSpareSubstitute (s : State) : Host.Outcome State Fault Refusal :=
  ok s (s.live fun t => t.spareCommand 3)

/-- SPARE_RELEASE (R399). -/
def execSpareRelease (s : State) : Host.Outcome State Fault Refusal :=
  ok s (s.live fun t => t.spareCommand 4)

/-- SPARE_CHECK (R393). -/
def execSpareCheck (s : State) : Host.Outcome State Fault Refusal :=
  ok s (s.live fun t => t.spareCommand 5)

/-- SPARE_REF_SWITCH (R401). -/
def execSpareRefSwitch (s : State) : Host.Outcome State Fault Refusal :=
  ok s (s.live fun t => t.spareCommand 6)

/-- SPARE_FORBID (R403). -/
def execSpareForbid (s : State) : Host.Outcome State Fault Refusal :=
  ok s (s.live fun t => t.spareCommand 7)

/-- SPARE_ALLOW (R403). -/
def execSpareAllow (s : State) : Host.Outcome State Fault Refusal :=
  ok s (s.live fun t => t.spareCommand 8)

/-- BACKGROUND_CHECK_START (R392). -/
def execBackgroundCheckStart (z : Bool) (s : State) : Host.Outcome State Fault Refusal :=
  ok s (s.live fun t => t.backgroundCheck z)

/-- SHADOW_DECISION (R394). -/
def execShadowDecision (z : Bool) (own : IQ) (spare : IQ) (rms : IQ) (s : State) : Host.Outcome State Fault Refusal :=
  ok s (s.live fun t => t.shadowDecision z own spare rms)

/-- REFEREE_DECISION (R395). -/
def execRefereeDecision (z : Bool) (offs : IQ) (gain : IQ) (s : State) : Host.Outcome State Fault Refusal :=
  ok s (s.live fun t => t.refereeDecision z offs gain)

/-- DRIVER_CHECK_RESULT (R396). -/
def execDriverCheckResult (f : Fin 512) (spare : Fin 8) (s : State) : Host.Outcome State Fault Refusal :=
  ok s (s.live fun t => t.driverCheckResult f.val spare.val)

/-- REFERENCE_FAILURE (R401). -/
def execReferenceFailure (b : Bool) (s : State) : Host.Outcome State Fault Refusal :=
  okLife s (s.live fun t => t.referenceFailure b)

/-- REFERENCE_WARNING (R400). -/
def execReferenceWarning (s : State) : Host.Outcome State Fault Refusal :=
  ok s (s.live State.referenceWarning)

/-- SRAM_SCRUB (R404). -/
def execSramScrub (rows : List Nat) (bad : Option Nat) (s : State) : Host.Outcome State Fault Refusal :=
  okLife s (s.live fun t => t.scrub rows bad)

end Sys2Proof.Machine
end

