-- ==== Sys2Proof/Machine/CmdControl.lean ====
section
/-! DEFINITION. Meanings of the commands of control: resets, start-up, the loupe, standalone service, host cycles, clasps, budgets, NVM (chapters 14 to 16). -/

namespace Sys2Proof.Machine

open Sys2Proof

/-- POWER_ON_RESET (R470). -/
def execPowerOnReset (s : State) : Host.Outcome State Fault Refusal :=
  okLife s s.powerOn

/-- WARM_RESET (R470). -/
def execWarmReset (refclk : ResetPulse) (s : State) : Host.Outcome State Fault Refusal :=
  okLife s (s.warmPulse refclk)

/-- RESET_KEY (R470). -/
def execResetKey (m : Master) (v : Word) (refclk : Bool) (s : State) : Host.Outcome State Fault Refusal :=
  okWrite s (s.resetCycle m v refclk)

/-- BOOT_SEQUENCE (R473). -/
def execBootSequence (badRows : List Nat) (trimOk : Bool) (patchOk : Bool) (iosel : ResetEnd) (s : State) : Host.Outcome State Fault Refusal :=
  okLife s (s.boot badRows trimOk patchOk iosel)

/-- PROFILE_LOAD (R478). -/
def execProfileLoad (s : State) : Host.Outcome State Fault Refusal :=
  okLoad s s.profileLoad

/-- PROFILE_FALLBACK_LOAD (R478). -/
def execProfileFallbackLoad (s : State) : Host.Outcome State Fault Refusal :=
  okLoad s s.profileFallback

/-- REFERENCES_SETTLED (R473). -/
def execReferencesSettled (s : State) : Host.Outcome State Fault Refusal :=
  okStart s s.referencesSettled

/-- ACQUISITION_START (R475). -/
def execAcquisitionStart (s : State) : Host.Outcome State Fault Refusal :=
  ok s s.acquisitionStart

/-- FATAL_ERROR (R490). -/
def execFatalError (c : FatalClass) (detail : BitVec 32) (s : State) : Host.Outcome State Fault Refusal :=
  okLife s (s.fatalEvent c detail)

/-- LOUPE_DUMP_COMPLETE (R490). -/
def execLoupeDumpComplete (hwSeq : Bool) (inLoupe : Bool) (s : State) : Host.Outcome State Fault Refusal :=
  okLife s (s.dumpComplete hwSeq inLoupe)

/-- FATAL_HBEAT (R490). -/
def execFatalHbeat (s : State) : Host.Outcome State Fault Refusal :=
  ok s s.fatalHbeat

/-- LOUPE_RELEASE (R493). -/
def execLoupeRelease (m : Master) (s : State) : Host.Outcome State Fault Refusal :=
  okWrite s (s.writeCycle m 0x0F 0x8000)

/-- DBG_LOCK (R431). -/
def execDbgLock (m : Master) (s : State) : Host.Outcome State Fault Refusal :=
  okLock s (s.writeCycle m 0x06 0x8000)

/-- PROF_SAVE (R480). -/
def execProfSave (m : Master) (s : State) : Host.Outcome State Fault Refusal :=
  ok s (s.writeCycle m 0x06 0x0002)

/-- PROFILE_SAVE_DONE (R480). -/
def execProfileSaveDone (good : Bool) (s : State) : Host.Outcome State Fault Refusal :=
  ok s (s.live fun t => t.profSaveDone good)

/-- HOST_ALIVE (R483). -/
def execHostAlive (m : Master) (v : Word) (s : State) : Host.Outcome State Fault Refusal :=
  ok s (s.writeCycle m 0x0B v)

/-- HOST_WDT_WRITE (R483). -/
def execHostWdtWrite (m : Master) (v : Word) (s : State) : Host.Outcome State Fault Refusal :=
  ok s (s.writeCycle m 0x0C v)

/-- WATCHDOG_EXPIRY (R483). -/
def execWatchdogExpiry (s : State) : Host.Outcome State Fault Refusal :=
  ok s (s.live State.watchdogExpiry)

/-- STANDALONE_SERVICE_BEGIN (R484). -/
def execStandaloneServiceBegin (s : State) : Host.Outcome State Fault Refusal :=
  ok s (s.live State.serviceBegin)

/-- SVC_RELEASE (R487). -/
def execSvcRelease (m : Master) (s : State) : Host.Outcome State Fault Refusal :=
  ok s (s.writeCycle m 0x06 0x0001)

/-- STANDALONE_SERVICE_END (R487). -/
def execStandaloneServiceEnd (s : State) : Host.Outcome State Fault Refusal :=
  ok s (s.live State.serviceEnd)

/-- REGISTER_WRITE (R8). -/
def execRegisterWrite (m : Master) (off : BitVec 7) (v : Word) (s : State) : Host.Outcome State Fault Refusal :=
  okWrite s (s.writeCycle m off.toNat v)

/-- RC_READ (R8). -/
def execRcRead (m : Master) (off : BitVec 7) (s : State) : Host.Outcome State Fault Refusal :=
  ok s (s.readCycle m off.toNat 0)

/-- LATCHED_GROUP_READ (R9). -/
def execLatchedGroupRead (m : Master) (off : BitVec 7) (ns : Nat) (s : State) : Host.Outcome State Fault Refusal :=
  ok s (s.readCycle m off.toNat ns)

/-- FCT_FAULT_NEXT_READ (R58). -/
def execFctFaultNextRead (m : Master) (s : State) : Host.Outcome State Fault Refusal :=
  ok s (s.readCycle m 0x23 0)

/-- WIN_DATA_READ (R413). -/
def execWinDataRead (m : Master) (s : State) : Host.Outcome State Fault Refusal :=
  ok s (s.readCycle m 0x7F 0)

/-- WIN_DATA_WRITE (R413). -/
def execWinDataWrite (m : Master) (v : Word) (s : State) : Host.Outcome State Fault Refusal :=
  ok s (s.writeCycle m 0x7F v)

/-- STREAM_QUEUE_READ (R275). -/
def execStreamQueueRead (m : Master) (s : State) : Host.Outcome State Fault Refusal :=
  ok s (s.queueCycle m)

/-- CYCLE_CUT_SHORT (R412). -/
def execCycleCutShort (m : Master) (off : BitVec 7) (s : State) : Host.Outcome State Fault Refusal :=
  ok s (s.cutShort m off.toNat)

/-- DOUBLE_STROBE_CYCLE (R412). -/
def execDoubleStrobeCycle (s : State) : Host.Outcome State Fault Refusal :=
  ok s s.doubleStrobe

/-- CLASP_BEGIN (R419). -/
def execClaspBegin (m : Master) (s : State) : Host.Outcome State Fault Refusal :=
  ok s (s.writeCycle m 0x08 1)

/-- CLASP_COMMIT (R422). -/
def execClaspCommit (m : Master) (s : State) : Host.Outcome State Fault Refusal :=
  ok s (s.writeCycle m 0x08 2)

/-- CLASP_APPLY (R422). -/
def execClaspApply (m : Master) (s : State) : Host.Outcome State Fault Refusal :=
  okWrite s (s.live fun t => (t.claspApply m).commitReply m)

/-- CLASP_ROLLBACK (R424). -/
def execClaspRollback (m : Master) (s : State) : Host.Outcome State Fault Refusal :=
  ok s (s.writeCycle m 0x08 4)

/-- CLASP_TIMEOUT (R424). -/
def execClaspTimeout (m : Master) (s : State) : Host.Outcome State Fault Refusal :=
  ok s (s.live fun t => t.timeoutClasp m)

/-- BUDGET_SET_WRITE (R435). -/
def execBudgetSetWrite (m : Master) (v : Word) (s : State) : Host.Outcome State Fault Refusal :=
  ok s (s.writeCycle m 0x3C v)

/-- NVM_PAGE_PROGRAMMED (R466). -/
def execNvmPageProgrammed (s : State) : Host.Outcome State Fault Refusal :=
  ok s s.nvmProgrammed

/-- SHED_JUDGEMENT (R440). -/
def execShedJudgement (load : Fin 101) (s : State) : Host.Outcome State Fault Refusal :=
  ok s (s.live fun t => t.judgeLoad load.val)

/-- EXTEST_SELECTED (R431). -/
def execExtestSelected (sel : Bool) (s : State) : Host.Outcome State Fault Refusal :=
  ok s (s.selectExtest sel)

end Sys2Proof.Machine
end

