-- ==== Sys2Proof/Machine/Dispatch.lean ====
section
/-! DEFINITION. The dispatch: one arm per command, each one direct call of the command's meaning. -/

namespace Sys2Proof.Machine

open Sys2Proof

def exec (i : Instr) (s : State) : Host.Outcome State Fault Refusal :=
  match i with
  | .tickBoundary x => Sys2Proof.Machine.execTickBoundary x s
  | .frameBoundary fabric canclk => Sys2Proof.Machine.execFrameBoundary fabric canclk s
  | .modeChange => Sys2Proof.Machine.execModeChange s
  | .outputFormation f o => Sys2Proof.Machine.execOutputFormation f o s
  | .zSlotSwitch f => Sys2Proof.Machine.execZSlotSwitch f s
  | .cycleOutput f sense => Sys2Proof.Machine.execCycleOutput f sense s
  | .beadClose p rev idx => Sys2Proof.Machine.execBeadClose p rev idx s
  | .beadLateOpen p => Sys2Proof.Machine.execBeadLateOpen p s
  | .acqOutputLost f => Sys2Proof.Machine.execAcqOutputLost f s
  | .gapRecord => Sys2Proof.Machine.execGapRecord s
  | .gapHeldRecordQueue p => Sys2Proof.Machine.execGapHeldRecordQueue p s
  | .powerOnReset => Sys2Proof.Machine.execPowerOnReset s
  | .warmReset refclk => Sys2Proof.Machine.execWarmReset refclk s
  | .resetKey m v refclk => Sys2Proof.Machine.execResetKey m v refclk s
  | .bootSequence badRows trimOk patchOk iosel => Sys2Proof.Machine.execBootSequence badRows trimOk patchOk iosel s
  | .profileLoad => Sys2Proof.Machine.execProfileLoad s
  | .profileFallbackLoad => Sys2Proof.Machine.execProfileFallbackLoad s
  | .referencesSettled => Sys2Proof.Machine.execReferencesSettled s
  | .acquisitionStart => Sys2Proof.Machine.execAcquisitionStart s
  | .fatalError c detail => Sys2Proof.Machine.execFatalError c detail s
  | .loupeDumpComplete hwSeq inLoupe => Sys2Proof.Machine.execLoupeDumpComplete hwSeq inLoupe s
  | .fatalHbeat => Sys2Proof.Machine.execFatalHbeat s
  | .loupeRelease m => Sys2Proof.Machine.execLoupeRelease m s
  | .dbgLock m => Sys2Proof.Machine.execDbgLock m s
  | .profSave m => Sys2Proof.Machine.execProfSave m s
  | .profileSaveDone good => Sys2Proof.Machine.execProfileSaveDone good s
  | .hostAlive m v => Sys2Proof.Machine.execHostAlive m v s
  | .hostWdtWrite m v => Sys2Proof.Machine.execHostWdtWrite m v s
  | .watchdogExpiry => Sys2Proof.Machine.execWatchdogExpiry s
  | .standaloneServiceBegin => Sys2Proof.Machine.execStandaloneServiceBegin s
  | .svcRelease m => Sys2Proof.Machine.execSvcRelease m s
  | .standaloneServiceEnd => Sys2Proof.Machine.execStandaloneServiceEnd s
  | .registerWrite m off v => Sys2Proof.Machine.execRegisterWrite m off v s
  | .rcRead m off => Sys2Proof.Machine.execRcRead m off s
  | .latchedGroupRead m off ns => Sys2Proof.Machine.execLatchedGroupRead m off ns s
  | .fctFaultNextRead m => Sys2Proof.Machine.execFctFaultNextRead m s
  | .winDataRead m => Sys2Proof.Machine.execWinDataRead m s
  | .winDataWrite m v => Sys2Proof.Machine.execWinDataWrite m v s
  | .streamQueueRead m => Sys2Proof.Machine.execStreamQueueRead m s
  | .cycleCutShort m off => Sys2Proof.Machine.execCycleCutShort m off s
  | .doubleStrobeCycle => Sys2Proof.Machine.execDoubleStrobeCycle s
  | .claspBegin m => Sys2Proof.Machine.execClaspBegin m s
  | .claspCommit m => Sys2Proof.Machine.execClaspCommit m s
  | .claspApply m => Sys2Proof.Machine.execClaspApply m s
  | .claspRollback m => Sys2Proof.Machine.execClaspRollback m s
  | .claspTimeout m => Sys2Proof.Machine.execClaspTimeout m s
  | .fctApplyGo m needSpare => Sys2Proof.Machine.execFctApplyGo m needSpare s
  | .fctApplyAll m needSpare => Sys2Proof.Machine.execFctApplyAll m needSpare s
  | .applyEffect => Sys2Proof.Machine.execApplyEffect s
  | .rangeChangeSwap f => Sys2Proof.Machine.execRangeChangeSwap f s
  | .rangeChangeSwapBack f => Sys2Proof.Machine.execRangeChangeSwapBack f s
  | .fctReadGo m f kind => Sys2Proof.Machine.execFctReadGo m f kind s
  | .fctReadReady => Sys2Proof.Machine.execFctReadReady s
  | .protectionIsolation f => Sys2Proof.Machine.execProtectionIsolation f s
  | .isolationEnd f => Sys2Proof.Machine.execIsolationEnd f s
  | .faultEnter f c => Sys2Proof.Machine.execFaultEnter f c s
  | .faultLeave f c => Sys2Proof.Machine.execFaultLeave f c s
  | .alarmWindowEnd f => Sys2Proof.Machine.execAlarmWindowEnd f s
  | .excRailOver => Sys2Proof.Machine.execExcRailOver s
  | .excRailOverClear => Sys2Proof.Machine.execExcRailOverClear s
  | .excRailFold => Sys2Proof.Machine.execExcRailFold s
  | .excHeadroom => Sys2Proof.Machine.execExcHeadroom s
  | .toneLockLoss => Sys2Proof.Machine.execToneLockLoss s
  | .toneLockReturn => Sys2Proof.Machine.execToneLockReturn s
  | .zDrivesResume => Sys2Proof.Machine.execZDrivesResume s
  | .odecWrite m code scope => Sys2Proof.Machine.execOdecWrite m code scope s
  | .bankSelGo m target atSync => Sys2Proof.Machine.execBankSelGo m target atSync s
  | .fadeStart => Sys2Proof.Machine.execFadeStart s
  | .fadeEnd => Sys2Proof.Machine.execFadeEnd s
  | .syncReset => Sys2Proof.Machine.execSyncReset s
  | .syncNow m => Sys2Proof.Machine.execSyncNow m s
  | .syncArm m => Sys2Proof.Machine.execSyncArm m s
  | .syncCancel m => Sys2Proof.Machine.execSyncCancel m s
  | .syncLandEdge falling width ns => Sys2Proof.Machine.execSyncLandEdge falling width ns s
  | .ppsEdge falling width ns => Sys2Proof.Machine.execPpsEdge falling width ns s
  | .ppsLost => Sys2Proof.Machine.execPpsLost s
  | .refFrameReceive p fr ns valid => Sys2Proof.Machine.execRefFrameReceive p fr ns valid s
  | .refSend p => Sys2Proof.Machine.execRefSend p s
  | .refPeriodMissed p => Sys2Proof.Machine.execRefPeriodMissed p s
  | .refSenderStart p => Sys2Proof.Machine.execRefSenderStart p s
  | .freeEntry => Sys2Proof.Machine.execFreeEntry s
  | .timebaseContinuation => Sys2Proof.Machine.execTimebaseContinuation s
  | .timeStep => Sys2Proof.Machine.execTimeStep s
  | .quadratureEdge p e => Sys2Proof.Machine.execQuadratureEdge p e s
  | .markerPulse p x => Sys2Proof.Machine.execMarkerPulse p x s
  | .markerMissed p => Sys2Proof.Machine.execMarkerMissed p s
  | .posCfgApply m cfg => Sys2Proof.Machine.execPosCfgApply m cfg s
  | .portActivation p => Sys2Proof.Machine.execPortActivation p s
  | .posRevWrite m v => Sys2Proof.Machine.execPosRevWrite m v s
  | .beadPortsWrite m ports pub => Sys2Proof.Machine.execBeadPortsWrite m ports pub s
  | .tareGo m p revs tol => Sys2Proof.Machine.execTareGo m p revs tol s
  | .tareAbort m => Sys2Proof.Machine.execTareAbort m s
  | .tareLearnStart => Sys2Proof.Machine.execTareLearnStart s
  | .tareRunEnd => Sys2Proof.Machine.execTareRunEnd s
  | .pbTareLoad m p => Sys2Proof.Machine.execPbTareLoad m p s
  | .tareLoadActivation p => Sys2Proof.Machine.execTareLoadActivation p s
  | .trgEnable m => Sys2Proof.Machine.execTrgEnable m s
  | .trgForce m => Sys2Proof.Machine.execTrgForce m s
  | .trigInEdge falling width => Sys2Proof.Machine.execTrigInEdge falling width s
  | .autoTrigger => Sys2Proof.Machine.execAutoTrigger s
  | .capArm m => Sys2Proof.Machine.execCapArm m s
  | .fillStart => Sys2Proof.Machine.execFillStart s
  | .captureHold => Sys2Proof.Machine.execCaptureHold s
  | .capRelease m => Sys2Proof.Machine.execCapRelease m s
  | .capAbort m => Sys2Proof.Machine.execCapAbort m s
  | .lineDrain => Sys2Proof.Machine.execLineDrain s
  | .memPartGo m capt => Sys2Proof.Machine.execMemPartGo m capt s
  | .partitionEffect => Sys2Proof.Machine.execPartitionEffect s
  | .hsEnableWrite m en rearm can => Sys2Proof.Machine.execHsEnableWrite m en rearm can s
  | .hostStreamStart => Sys2Proof.Machine.execHostStreamStart s
  | .hostStreamEnd => Sys2Proof.Machine.execHostStreamEnd s
  | .tickPacket => Sys2Proof.Machine.execTickPacket s
  | .canInitSet m => Sys2Proof.Machine.execCanInitSet m s
  | .canInitClear m => Sys2Proof.Machine.execCanInitClear m s
  | .canModeWrite m mode => Sys2Proof.Machine.execCanModeWrite m mode s
  | .canModeEffect p => Sys2Proof.Machine.execCanModeEffect p s
  | .canRecover m => Sys2Proof.Machine.execCanRecover m s
  | .busIntegrationDone p => Sys2Proof.Machine.execBusIntegrationDone p s
  | .canFrameStart p ns => Sys2Proof.Machine.execCanFrameStart p ns s
  | .frameTransmitted p tdc => Sys2Proof.Machine.execFrameTransmitted p tdc s
  | .frameReceived p fr ns => Sys2Proof.Machine.execFrameReceived p fr ns s
  | .busError p e dataPhase tx excused extra => Sys2Proof.Machine.execBusError p e dataPhase tx excused extra s
  | .busOffRecoveryDone p => Sys2Proof.Machine.execBusOffRecoveryDone p s
  | .lonePacedAttempt p ns => Sys2Proof.Machine.execLonePacedAttempt p ns s
  | .deferredFailover => Sys2Proof.Machine.execDeferredFailover s
  | .failoverReturn => Sys2Proof.Machine.execFailoverReturn s
  | .failoverHome m => Sys2Proof.Machine.execFailoverHome m s
  | .failoverDisable m => Sys2Proof.Machine.execFailoverDisable m s
  | .canclkLoss => Sys2Proof.Machine.execCanclkLoss s
  | .canclkReturn khz => Sys2Proof.Machine.execCanclkReturn khz s
  | .txreq m req => Sys2Proof.Machine.execTxreq m req s
  | .txreqAbort m ab => Sys2Proof.Machine.execTxreqAbort m ab s
  | .rxqPop m q => Sys2Proof.Machine.execRxqPop m q s
  | .filterEnable m idx en => Sys2Proof.Machine.execFilterEnable m idx en s
  | .egressStaging => Sys2Proof.Machine.execEgressStaging s
  | .egressMailboxLoad p => Sys2Proof.Machine.execEgressMailboxLoad p s
  | .portCShadowSwitch => Sys2Proof.Machine.execPortCShadowSwitch s
  | .controllerFailure p stall => Sys2Proof.Machine.execControllerFailure p stall s
  | .hbeatSend => Sys2Proof.Machine.execHbeatSend s
  | .rreqOpen p r => Sys2Proof.Machine.execRreqOpen p r s
  | .rreqClose p r => Sys2Proof.Machine.execRreqClose p r s
  | .rreqKeep p r => Sys2Proof.Machine.execRreqKeep p r s
  | .rreqSetKey p r => Sys2Proof.Machine.execRreqSetKey p r s
  | .rreqRegRead p r => Sys2Proof.Machine.execRreqRegRead p r s
  | .rreqRegWrite p r => Sys2Proof.Machine.execRreqRegWrite p r s
  | .rreqWinRead p r => Sys2Proof.Machine.execRreqWinRead p r s
  | .rreqWinWrite p r => Sys2Proof.Machine.execRreqWinWrite p r s
  | .rreqClaspBegin p r => Sys2Proof.Machine.execRreqClaspBegin p r s
  | .rreqClaspCommit p r => Sys2Proof.Machine.execRreqClaspCommit p r s
  | .rreqClaspRollback p r => Sys2Proof.Machine.execRreqClaspRollback p r s
  | .rreqFacetRead p r => Sys2Proof.Machine.execRreqFacetRead p r s
  | .rreqUnknownOp p op r => Sys2Proof.Machine.execRreqUnknownOp p op r s
  | .sessionTimeout p => Sys2Proof.Machine.execSessionTimeout p s
  | .openLockExpiry p => Sys2Proof.Machine.execOpenLockExpiry p s
  | .calGo m proc scope allowGap sysOnly => Sys2Proof.Machine.execCalGo m proc scope allowGap sysOnly s
  | .calNext m => Sys2Proof.Machine.execCalNext m s
  | .calAbort m => Sys2Proof.Machine.execCalAbort m s
  | .calRunStart => Sys2Proof.Machine.execCalRunStart s
  | .calStandinSwap => Sys2Proof.Machine.execCalStandinSwap s
  | .calMeasurementDone x => Sys2Proof.Machine.execCalMeasurementDone x s
  | .calResultApply => Sys2Proof.Machine.execCalResultApply s
  | .calSwapBack => Sys2Proof.Machine.execCalSwapBack s
  | .refScaleStep => Sys2Proof.Machine.execRefScaleStep s
  | .zCellWaitTimeout => Sys2Proof.Machine.execZCellWaitTimeout s
  | .beltCalRevolutionEnd => Sys2Proof.Machine.execBeltCalRevolutionEnd s
  | .restoreApply => Sys2Proof.Machine.execRestoreApply s
  | .sparePin => Sys2Proof.Machine.execSparePin s
  | .spareUnpin => Sys2Proof.Machine.execSpareUnpin s
  | .spareSubstitute => Sys2Proof.Machine.execSpareSubstitute s
  | .spareRelease => Sys2Proof.Machine.execSpareRelease s
  | .spareCheck => Sys2Proof.Machine.execSpareCheck s
  | .spareRefSwitch => Sys2Proof.Machine.execSpareRefSwitch s
  | .spareForbid => Sys2Proof.Machine.execSpareForbid s
  | .spareAllow => Sys2Proof.Machine.execSpareAllow s
  | .backgroundCheckStart z => Sys2Proof.Machine.execBackgroundCheckStart z s
  | .shadowDecision z own spare rms => Sys2Proof.Machine.execShadowDecision z own spare rms s
  | .refereeDecision z offs gain => Sys2Proof.Machine.execRefereeDecision z offs gain s
  | .driverCheckResult f spare => Sys2Proof.Machine.execDriverCheckResult f spare s
  | .referenceFailure b => Sys2Proof.Machine.execReferenceFailure b s
  | .referenceWarning => Sys2Proof.Machine.execReferenceWarning s
  | .sramScrub rows bad => Sys2Proof.Machine.execSramScrub rows bad s
  | .ucCtlAct m c => Sys2Proof.Machine.execUcCtlAct m c s
  | .userCurveActivation c => Sys2Proof.Machine.execUserCurveActivation c s
  | .budgetSetWrite m v => Sys2Proof.Machine.execBudgetSetWrite m v s
  | .nvmPageProgrammed => Sys2Proof.Machine.execNvmPageProgrammed s
  | .shedJudgement load => Sys2Proof.Machine.execShedJudgement load s
  | .excFoldClear => Sys2Proof.Machine.execExcFoldClear s
  | .excHeadroomClear => Sys2Proof.Machine.execExcHeadroomClear s
  | .extestSelected sel => Sys2Proof.Machine.execExtestSelected sel s

end Sys2Proof.Machine
end

