-- ==== Sys2Proof/Safety.lean ====
section
/-! DEFINITION. The terms in which statements speak of a safe device: the invariant of the device's life (R473, R474, R490),
and when a master's register write acts directly (R410, R420, R427, R429, R485, R492). -/

namespace Sys2Proof.Machine

open Sys2Proof

/-- The device's life is consistent: the drives run exactly from A to a fatal error (R473, R474, R490), a dump is complete
only in the fatal state, and nALERT is asserted only with a complete dump (R490, R493). -/
abbrev State.LifeInv (s : State) : Prop :=
  (s.life.drivesOn = true ↔ s.life.phase = .settled) ∧
  (s.life.fatalDone = true → s.life.phase = .fatal) ∧
  (s.life.alert = true → s.life.fatalDone = true)

/-- A write by the master to the register word `off` acts directly: the device answers the master, which holds its session
where it needs one, the device is not in the fatal state, standalone service leaves the register to the master, no clasp of
the master is open, and the master's entry for the register's group is 11. -/
abbrev State.directs (s : State) (m : Master) (off : Nat) : Prop :=
  s.ready = true ∧ (m = .host → s.ctl.extest = false ∧ (s.ctl.svc = true → svcReg off = true)) ∧
  s.sessionOk m = true ∧ (s.master m).clasp.isOpen = false ∧ s.entry m (regTarget off) = 3

/-- A write by the master to one of its own copies or clasp registers is taken: the device answers the master, which holds
its session where it needs one, and standalone service leaves the register to the master (R412, R418, R427, R485). -/
abbrev State.owns (s : State) (m : Master) (off : Nat) : Prop :=
  s.ready = true ∧ (m = .host → s.ctl.extest = false ∧ (s.ctl.svc = true → svcReg off = true)) ∧
  s.sessionOk m = true ∧ ownReg off = true

/-- Register words that hold what is written to them and have no other effect while no WSC, W1C or WO bit is set. -/
def plainRegs : List Nat :=
  [0x03, 0x10, 0x19, 0x1B, 0x1C, 0x24, 0x28, 0x2A, 0x2B, 0x2D, 0x30, 0x32, 0x35, 0x37, 0x4C, 0x55, 0x58, 0x59, 0x70, 0x75,
   0x76, 0x79, 0x7B]

/-- A read by the master of the register word `off` is answered: the device answers the master, and its entry for the
register's group is not 00, or every master may read the register. -/
abbrev State.reads (s : State) (m : Master) (off : Nat) : Prop :=
  s.ready = true ∧ (m = .host → s.ctl.extest = false) ∧ (openReg off = true ∨ s.entry m (regTarget off) ≠ 0)

/-- The MP serves a new request of the operation that arrives on the port: the device runs, the port is on the bus, the
request is for its station and repeats none that has been answered, no request of the port waits before it, the MP's budget has
room for the lines it moves, and the MP does not shed remote requests (R341, R344, R347, R434, R441). -/
abbrev State.serving (s : State) (p op : Nat) (r : Req) : Prop :=
  s.serves p = true ∧ s.addressed r = true ∧ s.kept p op r = none ∧ (s.session p).commitReq = none ∧
    (s.session p).waiting = [] ∧ s.mpFree op r = true ∧ s.ctl.shed < 3

/-- A quadrature change that the port counts as an error: both inputs at once, or an edge less than 500 ns after the last edge of
its input or less than 125 ns after that of the other one (R188). -/
def PosPort.tooClose (q : PosPort) (e : QuadEdge) (now : Nat) : Bool :=
  match e with
  | .both _ _ => true
  | .edge b _ => within now (if b then q.edgeB else q.edgeA) 500 || within now (if b then q.edgeA else q.edgeB) 125

/-- Port C shadows the controller of the port: it is free for that, in INIT, and the turn of 60 s is the port's (R402). -/
abbrev State.shadows (s : State) (p : Nat) : Prop :=
  (s.canPort p).subst = false ∧ s.xcEn = true ∧ (s.canPort 2).st = .init ∧ s.spare.shadow = p ∧ s.cSubst = false ∧
    s.tick < s.spare.shadowFrom + 240000

/-- The last record formed is a response on the port, of the operation and with the status (R342, R344). -/
def State.answers (t : State) (p op status : Nat) : Prop :=
  ∃ x : Rec, t.msg.out.getLast? = some (p, x) ∧ x.ty = .rrsp ∧ x.data.take 2 = leBytes 1 op ++ leBytes 1 status

end Sys2Proof.Machine
end

