-- ==== Sys2Proof/Certificates/Slice0/Obligations.lean ====
section
/-! DEFINITION. The statements about the block, one definition each. -/

open Sys2Proof Sys2Proof.Machine

/-- A step takes the command at the front of the queue and runs it on the state with the queue's rest; on an empty queue the
block idles, which is the model's choice (log 2). -/
def Obligations.StepRunsFrontCommand : Prop :=
  (∀ (c : Instr) (rest : List Instr) (s : State),
    step { s with pending := c :: rest } = exec c { s with pending := rest }) ∧
  ∀ s : State, s.pending = [] → step s = .next s

/-- Every command answers a next state, whatever the state, and leaves the queue as it is. -/
def Obligations.EveryCommandAnswers : Prop :=
  ∀ (c : Instr) (s : State), ∃ t, exec c s = .next t ∧ t.pending = s.pending

/-- In the state after reset the drives are off, no dump is complete and nALERT is not asserted, as the invariant of the
device's life asks. -/
def Obligations.ResetHoldsLifeInvariant : Prop :=
 State.reset.LifeInv

/-- The drives run exactly from the start of acquisition A to a fatal error, a dump is complete only in the fatal state, and
nALERT stands only for a complete dump: whatever step is taken from a state in which that holds, it holds after it. -/
def Obligations.StepKeepsLifeInvariant : Prop :=
  ∀ s t : State, s.LifeInv → step s = .next t → t.LifeInv

/-- RUN_CTL.DBG_LOCK is set by a direct write, and no command but the return of power clears it (R431). -/
def Obligations.DbgLockHoldsUntilPowerOnReset : Prop :=
  (∀ (m : Master) (s : State), s.directs m 0x06 → s.life.dbgLock = false →
    (s.master .debug).clasp.isOpen = false → (s.master .debug).clasp.pend = false →
    exec (.dbgLock m) s = .next (({ s with
      life := { s.life with dbgLock := true }, ctl := { s.ctl with extest := false } }).ack m true)) ∧
  (∀ (m : Master) (s : State), s.directs m 0x06 → s.life.dbgLock = false →
    ∃ t, exec (.dbgLock m) s = .next t ∧ t.life = { s.life with dbgLock := true } ∧ t.ctl.extest = false ∧
      (t.master .debug).clasp.isOpen = false ∧ (t.master .debug).clasp.pend = false ∧ t.fpActive = s.fpActive) ∧
  ∀ (c : Instr) (s t : State), exec c s = .next t → s.life.dbgLock = true → c ≠ .powerOnReset → t.life.dbgLock = true

/-- From the fatal state every command leads to the fatal state or to reset, and to reset only the return of power, nRESET,
or the key in RESET_CTL (R492). -/
def Obligations.FatalEndsOnlyByReset : Prop :=
  ∀ (c : Instr) (s t : State), s.life.phase = .fatal → exec c s = .next t →
    t.life.phase = .fatal ∨ (t.life.phase = .reset ∧
      (c = .powerOnReset ∨ (∃ r, c = .warmReset r) ∨ (∃ m r, c = .resetKey m 0xA55A r) ∨ ∃ m, c = .registerWrite m 7 0xA55A))

/-- No command but the settling of the references starts the excitation and Z drives (R473, R474). -/
def Obligations.DrivesStartOnlyAtA : Prop :=
  ∀ (c : Instr) (s t : State), s.life.drivesOn = false → exec c s = .next t → t.life.drivesOn = true → c = .referencesSettled

/-- A power-on reset keeps the NVM and the spare map and clears all else. A warm reset also keeps the log with its numbers,
the dump and DBG_LOCK, keeps corridor time while REFCLK was present and the timebase was out of UNSET (in FREE, else in
HOLDOVER from the reset or from where holdover began), closes every clasp and ends every session; both empty the staging,
the mailboxes, the stream queue and the capture region, and restart the numbers of the messages, beads and resets; that it
keeps EXTEST is the model's choice (log 106). RESET_CTL resets for the key 0xA55A alone, in the fatal state too (R470 to
R472, R446). -/
def Obligations.ResetsKeepAndClear : Prop :=
  (∀ s : State, ∃ t, exec .powerOnReset s = .next t ∧
    t = { State.reset with
          pending := s.pending, free := t.free, nvm := t.nvm, spare := t.spare, facets := t.facets, can := t.can
          candev := { State.reset.candev with waiting := [0, 1].filter fun p => (s.canPort p).failed } } ∧
    t.life.phase = .reset ∧ t.life.dbgLock = false ∧ t.time.state = .unset ∧ t.log = [] ∧ t.loupe = [] ∧ t.sess = [] ∧
    t.msg.seq = {} ∧ t.cap.queue = [] ∧ t.cap.mem = [] ∧ t.bead.seq = 0 ∧ t.trg.missed = 0 ∧ t.time.syncCount = 0 ∧
    (∀ p, (t.canPort p).staging = [] ∧ (t.canPort p).onBus = none ∧ (t.canPort p).st = .init ∧
      ∀ i, ((t.canPort p).mbox i).full = false) ∧
    (s.nvm.prog = none → t.nvm.words = s.nvm.words ∧ t.nvm.key = s.nvm.key) ∧
    t.spare.rowsDone = s.spare.rowsDone ∧ t.spare.rowsNew = s.spare.rowsNew ∧
    t.spare.exhausted = s.spare.exhausted.filter s.spare.stillExhausted ∧ t.spare.logSeq = s.spare.logSeq ∧
    ∀ n, (t.facet n).subst = (s.facet n).subst ∧ (t.facet n).excSubst = (s.facet n).excSubst ∧
      (t.facet n).last = {} ∧ (t.facet n).pend = []) ∧
  ((∀ (r : ResetPulse) (s : State), r.lowNs < 1000 → exec (.warmReset r) s = .next s) ∧
  ∀ (r : ResetPulse) (s : State), 10000 ≤ r.lowNs → ∃ t, exec (.warmReset r) s = .next t ∧
    t = { State.reset with
          pending := s.pending, free := t.free, nvm := t.nvm, spare := t.spare, facets := t.facets, can := t.can
          candev := { State.reset.candev with waiting := [0, 1].filter fun p => (s.canPort p).failed }
          time := t.time
          log := s.log, logSeq := s.logSeq, loupe := s.loupe, ctl := { extest := s.ctl.extest }
          life := { resetKind := 1, dbgLock := s.life.dbgLock, loupeValid := s.life.loupeValid
                    loupeClass := if s.life.loupeValid then s.life.loupeClass else 0 } } ∧
    (r.refclk = false ∨ s.time.state = .unset → t.time = {}) ∧
    (r.refclk = true → s.time.state ≠ .unset → s.life.phase ≠ .fatal ∨ s.life.fatalClass ≠ 1 →
      t.time.state = (if s.time.state = .free then .free else .holdover) ∧ t.time.freq = s.time.freq ∧
      t.time.tick = s.time.tick ∧ t.time.acquiring = false ∧ t.time.carried = true ∧
      (s.time.state ≠ .free →
        t.time.holdFrom = (if s.time.state = .holdover then s.time.holdFrom else s.time.tick))) ∧
    t.life.phase = .reset ∧ t.msg.seq = {} ∧ t.cap.queue = [] ∧ t.cap.mem = [] ∧ t.bead.seq = 0 ∧ t.trg.missed = 0 ∧
    t.time.syncCount = 0 ∧
    (∀ p, (t.canPort p).staging = [] ∧ (t.canPort p).onBus = none ∧ (t.canPort p).st = .init ∧
      ∀ i, ((t.canPort p).mbox i).full = false) ∧
    (∀ m, (t.master m).clasp.isOpen = false ∧ (t.master m).clasp.pend = false) ∧ t.sess = []) ∧
  (∀ (m : Master) (r : Bool) (s : State), s.directs m 0x07 →
    ∃ t u, exec (.resetKey m 0xA55A r) s = .next t ∧ exec (.warmReset { lowNs := 10000, refclk := r }) s = .next u ∧
      t = { u with life := { u.life with resetKind := 2 }, ctl := { u.ctl with acked := t.ctl.acked } } ∧
      t.life.phase = .reset ∧ t.life.drivesOn = false ∧ t.life.alert = false ∧ t.life.dbgLock = s.life.dbgLock ∧
      t.log = s.log ∧ t.loupe = s.loupe) ∧
  (∀ (r : Bool) (s : State), s.life.phase = .fatal → s.ctl.extest = false →
    ∃ t, exec (.resetKey .host 0xA55A r) s = .next t ∧ t.life.phase = .reset ∧ t.life.resetKind = 2) ∧
  ∀ (m : Master) (v : Word) (r : Bool) (s : State), s.directs m 0x07 → v ≠ 0xA55A →
    exec (.resetKey m v r) s = .next (s.ack m true)

/-- More failed rows than spare rows, or bad trim, is a fatal error of class BOOT; otherwise the device boots from the first
bank that R476 tries. With no valid bank the factory configuration takes effect at a frame boundary, at once or, after a
bank has been refused, at a later one: the device is ready, the watchdog starts and a bank record is appended. A bank whose
clasp passes its checks is in force and the device is ready; one that fails a check is refused with its code in the log,
nothing of it is in force, and the other valid bank is to be tried (R473, R475, R476, R478, R482). -/
def Obligations.BootAndLoadMakeReady : Prop :=
  ((∀ (rows : List Nat) (trim patch : Bool) (x : ResetEnd) (s : State), s.life.phase = .reset →
    x.dvdd < 620 ∨ x.avdd5 < 4300 ∨ x.avdd18 < 1500 ∨ x.iovdd < (if x.iosel then 2700 else 1450) ∨
      (s.life.resetKind = 0 ∧
        (x.dvdd ≤ 660 ∨ x.avdd5 ≤ 4500 ∨ x.avdd18 ≤ 1620 ∨ x.iovdd ≤ (if x.iosel then 2950 else 1600))) →
    exec (.bootSequence rows trim patch x) s = .next s) ∧
  ∀ (rows : List Nat) (trim patch : Bool) (x : ResetEnd) (s : State), s.life.phase = .reset →
    660 < x.dvdd → 4500 < x.avdd5 → 1620 < x.avdd18 → (if x.iosel then 2950 else 1600) < x.iovdd →
    ∃ t, exec (.bootSequence rows trim patch x) s = .next t ∧ t.life.iosel = x.iosel ∧
      (if 160 < ((rows ++ s.spare.rowsMarked).dedup).length ∨ trim = false then
        t.life.phase = .fatal ∧ t.life.fatalClass = fatalCode .boot ∧ t.life.drivesOn = false
      else
        t = { s with
              life := { s.life with phase := .booting, patched := patch, iosel := x.iosel }
              spare := { s.spare with
                rowsUsed := ((rows ++ s.spare.rowsMarked).dedup).length
                rowsNew := t.spare.rowsNew, rowsDone := t.spare.rowsDone }
              nvm := { s.nvm with chosen := s.firstBank, refused := 0 } })) ∧
  (∀ s : State, s.life.phase = .booting → s.ctl.frameAt = some s.tick → s.nvm.chosen = none →
    (s.nvm.refused = 0 → ∃ t, exec .profileLoad s = .next t ∧
      t.life = { s.life with phase := .ready, lTick := s.tick } ∧ t.ready = true ∧ t.ctl.wdtFrom = some s.tick ∧
      t.nvm.bank = none ∧ t.nvm.brSeq = s.nvm.brSeq + 1) ∧
    (s.nvm.refused ≠ 0 → s.nvm.triedAt < s.tick → ∃ t, exec .profileFallbackLoad s = .next t ∧
      t.life = { s.life with phase := .ready, lTick := s.tick } ∧ t.ready = true ∧ t.ctl.wdtFrom = some s.tick ∧
      t.nvm.bank = none ∧ t.nvm.brSeq = s.nvm.brSeq + 1)) ∧
  ∀ (s u : State) (b : Nat), s.life.phase = .booting → s.ctl.frameAt = some s.tick → s.nvm.chosen = some b →
    u = { s with nvm := { s.nvm with triedAt := s.tick } } → ∀ c : Instr,
    (c = .profileLoad ∧ s.nvm.refused = 0) ∨ (c = .profileFallbackLoad ∧ s.nvm.refused ≠ 0 ∧ s.nvm.triedAt < s.tick) →
    ∃ t, exec c s = .next t ∧
    (u.loadCodes (u.loadBank b) b = [] →
      t.life = { s.life with phase := .ready, lTick := s.tick } ∧ t.ready = true ∧ t.nvm.bank = some b) ∧
    (u.loadCodes (u.loadBank b) b ≠ [] → t.life = s.life ∧ t.fpActive = s.fpActive ∧
      t.ports = s.ports ∧ t.trg = s.trg ∧ t.nvm.refused = s.nvm.refused + 1 ∧ t.nvm.triedAt = s.tick ∧
      t.nvm.chosen = (if s.nvm.refused = 0 ∧ s.bankValid (1 - b) = true then some (1 - b) else none) ∧
      ∃ e, Store.get none t.log ((t.logSeq + 65535) % 65536 % 256) = some e ∧ e.code = 3)

/-- At a frame boundary after the load the settled references start the drives and clear every chain with a SETTLE window;
where corridor time was carried over the reset, a synchronising reset is asked for 2 ms later, and acquisition starts there;
in UNSET a measurement made before A counts as made at A (R473, R475). -/
def Obligations.StartOfAcquisition : Prop :=
  (∀ s : State, s.life.phase = .ready → s.ctl.frameAt = some s.tick →
    ∃ t, exec .referencesSettled s = .next t ∧
      t = { s with life := { s.life with phase := .settled, drivesOn := true, aTick := s.tick }
                   facets := t.facets, time := t.time } ∧
      (∀ n < 512, (t.facet n).clearTick = some s.tick ∧ (t.facet n).settle ≠ []) ∧
      ∀ x src, s.time.early = some (x, src) → s.time.carried = false → s.time.cont = none →
        ∃ y k, t.time.cont = some (y, k, .acquiring, src)) ∧
  (∀ s : State, s.life.phase = .ready → s.ctl.frameAt = some s.tick → s.time.early = none →
    ∃ t, exec .referencesSettled s = .next t ∧
      t = { s with life := { s.life with phase := .settled, drivesOn := true, aTick := s.tick }
                   facets := t.facets, time := t.time } ∧
      (∀ n < 512, (t.facet n).clearTick = some s.tick ∧ (t.facet n).settle ≠ []) ∧
      t.time = (if s.time.carried = true ∧ s.time.state ≠ .unset then
        { s.time with syncReq := s.time.syncReq ++ [(s.tick + 8, 4)] } else s.time)) ∧
  (∀ s : State, s.life.phase = .settled → s.time.carried = true → s.life.aTick + 8 ≤ s.tick → s.isFrame = true →
    ∃ t, exec .acquisitionStart s = .next t ∧ t.time = { s.time with carried := false, acquiring := true } ∧
      t.ctl.modeRun = true ∧ t.facets = s.facets) ∧
  ∀ s : State, s.life.phase = .settled → s.time.carried = true → s.life.aTick + 8 ≤ s.tick → s.isFrame = true →
    s.spare.rowsNew = 0 → s.spare.rowsUsed < 160 → s.spare.exhausted.contains 6 = false →
    exec .acquisitionStart s = .next { s with
      time := { s.time with carried := false, acquiring := true }, ctl := { s.ctl with modeRun := true } }

/-- A fatal error turns the drives off, stops acquisition, the sequencer and standalone service, and stops REF sending,
discards the open beads, and records its class and detail; a level of AVDD5 or AVDD18 is one only outside its operating
range and not below its power-on threshold. A further error in the fatal state, with a dump held, updates LOUPE_STAT.CLASS,
logs code 0x15 and asserts nALERT; that it changes nothing without one is the model's choice (log 242). The dump completes
once, asserts nALERT and puts the class in LOUPE_STAT; a dump already held is kept, and an error of class 3 or 6 in the
loupe unit leaves none; heartbeats then go on, each port with the next number; LOUPE_STAT.RELEASE clears the dump and nALERT
and leaves the device halted (R490 to R493, R504). -/
def Obligations.FatalErrorAndItsDump : Prop :=
  (∀ (c : FatalClass) (d : BitVec 32) (s : State),
    ((∀ v, c = .supply v → supplyEffect v s.life.iosel false d.toNat = .fatal) →
      (s.life.phase ≠ .fatal → ∃ t, exec (.fatalError c d) s = .next t ∧
        t.life = { s.life with phase := .fatal, drivesOn := false, fatalClass := fatalCode c, fatalDetail := d
                               fatalTick := s.tick, fatalDone := false, fatalStall := none } ∧
        t.time.acquiring = false ∧ t.trg.running = false ∧ t.ctl.svc = false ∧ t.ctl.svcPend = none ∧
        (∀ p < 2, (t.refTx p).sending = false) ∧ (s.time.acquiring = true → t.bead.beads = []) ∧ t.ready = false) ∧
      (s.life.phase = .fatal → s.life.loupeValid = true →
        ∃ t, exec (.fatalError c d) s = .next t ∧
          t = { s with log := t.log, logSeq := t.logSeq
                       life := { s.life with fatalDone := true, alert := true, loupeClass := fatalCode c } } ∧
          ∃ e, Store.get none t.log ((t.logSeq + 65535) % 65536 % 256) = some e ∧ e.code = 0x15)) ∧
    (s.life.phase = .fatal → s.life.loupeValid = false → exec (.fatalError c d) s = .next s) ∧
    ∀ v, c = .supply v → supplyEffect v s.life.iosel false d.toNat ≠ .fatal → exec (.fatalError c d) s = .next s) ∧
  (∀ (hw il : Bool) (s : State), s.life.phase = .fatal → s.life.fatalDone = false →
    ∃ t, exec (.loupeDumpComplete hw il) s = .next t ∧
      t.life.fatalDone = true ∧ t.life.alert = true ∧ t.life.loupeClass = s.life.fatalClass ∧
      (s.life.loupeValid = true → t.loupe = s.loupe ∧ t.life.loupeValid = true) ∧
      (s.life.loupeValid = false → il = true → s.life.fatalClass = 3 ∨ s.life.fatalClass = 6 →
        t.loupe = s.loupe ∧ t.life.loupeValid = false ∧ t.log = s.log) ∧
      (s.life.loupeValid = false → il = false ∨ (s.life.fatalClass ≠ 3 ∧ s.life.fatalClass ≠ 6) →
        t.life.loupeValid = true) ∧
      (s.life.loupeValid = true ∨ il = false ∨ (s.life.fatalClass ≠ 3 ∧ s.life.fatalClass ≠ 6) →
        ∃ e, Store.get none t.log ((t.logSeq + 65535) % 65536 % 256) = some e ∧ e.code = 0x15) ∧
      t.life.phase = .fatal) ∧
  (∀ s : State, s.life.phase = .fatal → s.life.fatalDone = true →
    ∃ t, exec .fatalHbeat s = .next t ∧ t.life = s.life ∧
      (∀ p < 2, (t.canPort p).hSeq = ((s.canPort p).hSeq + 1) % 65536) ∧
      t = { s with can := t.can, msg := t.msg }) ∧
  (∀ (m : Master) (s : State), s.directs m 0x0F →
    exec (.loupeRelease m) s =
      .next (({ s with loupe := [], life := { s.life with alert := false, loupeValid := false } }).ack m true)) ∧
  ∀ (m : Master) (s : State), s.life.phase = .fatal → m = .debug ∨ (m = .host ∧ s.ctl.extest = false) →
    exec (.loupeRelease m) s =
      .next (({ s with loupe := [], life := { s.life with alert := false, loupeValid := false } }).ack m true)

/-- A write of HOST_ALIVE by HOST restarts the watchdog and one by another master does not; a period of 1 s to 600 s alone
is taken; an expiry begins service at the next frame boundary with the bank's mode policy and IRQ_STAT0.SVC; SVC_RELEASE by
HOST, after a write of HOST_ALIVE in service, ends it at a frame boundary (R483 to R488). -/
def Obligations.WatchdogAndService : Prop :=
  (∀ (v : Word) (s : State), s.directs .host 0x0B → ∃ t, exec (.hostAlive .host v) s = .next t ∧
    t = { s with ctl := { s.ctl with
      wdtFrom := some s.tick, aliveInSvc := s.ctl.svc || s.ctl.aliveInSvc, acked := true } }) ∧
  (∀ (m : Master) (v : Word) (s : State), s.directs m 0x0B → m ≠ .host →
    ∃ t, exec (.hostAlive m v) s = .next t ∧ t.ctl.wdtFrom = s.ctl.wdtFrom ∧ t.ctl.aliveInSvc = s.ctl.aliveInSvc) ∧
  (∀ (v : Word) (s : State), s.directs .host 0x0C → 10 ≤ v.toNat → v.toNat ≤ 6000 →
    exec (.hostWdtWrite .host v) s = .next { s with ctl := { s.ctl with hostWdt := v, wdtFrom := some s.tick, acked := true } }) ∧
  (∀ (v : Word) (s : State), s.directs .host 0x0C → v.toNat < 10 ∨ 6000 < v.toNat →
    ∃ t, exec (.hostWdtWrite .host v) s = .next t ∧ t.ctl.hostWdt = s.ctl.hostWdt ∧ t.ctl.wdtFrom = s.ctl.wdtFrom) ∧
  (∀ (s : State) (b : Nat), s.ready = true → s.ctl.wdtFrom = some b → b + 400 * s.ctl.hostWdt.toNat ≤ s.tick →
    exec .watchdogExpiry s = .next { s with ctl := { s.ctl with
      stamp := s.ctl.stamp + 1, wdtFrom := none, aliveInSvc := false
      svcPend := if s.ctl.svc = true ∧ s.ctl.svcEndPend = none then s.ctl.svcPend else some (s.ctl.stamp + 1) } }) ∧
  (∀ (s : State) (st : Nat), s.ready = true → s.ctl.svcPend = some st → s.due st = true → s.serviceDue = false →
    fld s.cap.ctl 5 1 = 0 → s.host.clasp.isOpen = false →
    ∃ t, exec .standaloneServiceBegin s = .next t ∧ t.ctl.svc = true ∧ t.ctl.svcPend = none ∧
      t.ctl.modeSel = s.bankMode ∧ fld t.ctl.irq0 13 1 = 1 ∧
      t = { s with ctl := t.ctl, log := t.log, logSeq := t.logSeq, msg := t.msg }) ∧
  (∀ s : State, s.ready = true → s.ctl.extest = false → s.ctl.svc = true → s.ctl.aliveInSvc = true →
    exec (.svcRelease .host) s = .next { s with ctl := { s.ctl with
      stamp := s.ctl.stamp + 1, svcEndPend := some (s.ctl.stamp + 1), acked := true } }) ∧
  ∀ (s : State) (st : Nat), s.ready = true → s.ctl.svcEndPend = some st → s.due st = true →
    ∃ t, exec .standaloneServiceEnd s = .next t ∧ t.ctl.svc = false ∧ t.ctl.svcEndPend = none ∧
      fld t.ctl.irq0 13 1 = 1 ∧ t = { s with ctl := t.ctl, log := t.log, logSeq := t.logSeq, msg := t.msg }

/-- PROF_SAVE writes the words of a save (their first words, PR_GEN and the facet blocks as R477 lays them out, PR_GEN_T
erased) to the bank that is not in force and sets PROF_BUSY; no other word of the NVM changes, so that the bank in force
keeps its words; a setting while a save runs is logged alone. The bank in force changes only when the save has been read
back as valid. A page takes its staged words when it is programmed, and no other word changes; the key page sets the station
key alone (R466, R480). -/
def Obligations.SavesToNvm : Prop :=
  (∀ (m : Master) (s : State) (b gen : Nat), s.directs m 0x06 → s.nvm.saving = none → s.saveTarget = (b, gen) →
    ∃ t, exec (.profSave m) s = .next t ∧
      t = ({ (s.putBank b 0 (s.saveWords gen)) with
        nvm := { (s.putBank b 0 (s.saveWords gen)).nvm with saving := some b }
        ctl := { s.ctl with profBusy := true } } : State).ack m true ∧
      (∀ k < 65536, Store.get 0xFFFF t.nvm.words (bankBase b + k) = (s.saveWords gen).getD k 0) ∧
      (∀ a, a < bankBase b ∨ bankBase b + 65536 ≤ a → Store.get 0xFFFF t.nvm.words a = Store.get 0xFFFF s.nvm.words a) ∧
      (∀ c, s.nvm.bank = some c → b = 1 - c ∧ gen = (s.bankGen c + 1) % 2 ^ 32 ∧
        ∀ k < 65536, Store.get 0xFFFF t.nvm.words (bankBase c + k) = Store.get 0xFFFF s.nvm.words (bankBase c + k)) ∧
      (s.saveWords gen).getD 0 0 = 0xB0A7 ∧ (s.saveWords gen).getD 1 0 = 0x5120 ∧
      (s.saveWords gen).getD 6 0 = wordOf gen 0 ∧ (s.saveWords gen).getD 7 0 = wordOf gen 1 ∧
      (∀ n < 512, ∀ w < 32, (s.saveWords gen).getD (bkFacets + n * 32 + w) 0 = s.fpWord n w true) ∧
      (s.saveWords gen).getD 65534 0 = 0xFFFF ∧ (s.saveWords gen).getD 65535 0 = 0xFFFF) ∧
  (∀ (m : Master) (s : State), s.directs m 0x06 → s.nvm.saving.isSome = true →
    ∃ t, exec (.profSave m) s = .next t ∧
      t = { s with log := t.log, logSeq := t.logSeq, ctl := { s.ctl with acked := t.ctl.acked } }) ∧
  (∀ (s : State) (b : Nat), s.ready = true → s.nvm.saving = some b →
    ∃ t, exec (.profileSaveDone false) s = .next t ∧ t.ctl.profBusy = false ∧ t.nvm.saving = none ∧
      t.nvm.bank = s.nvm.bank) ∧
  (∀ (s u : State) (b : Nat), s.ready = true → s.nvm.saving = some b →
    u = ({ s with nvm := { s.nvm with saving := none }, ctl := { s.ctl with profBusy := false } } : State).putBank b 65534
      [s.bankW b 6, s.bankW b 7] →
    ∃ t, exec (.profileSaveDone true) s = .next t ∧
      t = (if u.bankValid b then ({ u with nvm := { u.nvm with bank := some b } } : State).bankRecord 1
        else u.bankRecord 2) ∧ t.ctl.profBusy = false ∧ t.nvm.saving = none ∧
      t.nvm.bank = (if u.bankValid b then some b else s.nvm.bank)) ∧
  (∀ (s : State) (page : Nat) (ws : List (Nat × Word)), s.nvm.prog = some (page, ws) → page ≠ keyPage →
    ∃ t, exec .nvmPageProgrammed s = .next t ∧ t.nvm.prog = none ∧ t.nvm.key = s.nvm.key ∧
      (∀ k < 128, ∀ w, ws.find? (fun x => x.1 == k) = some (k, w) → Store.get 0xFFFF t.nvm.words (page * 128 + k) = w) ∧
      (∀ a, a < page * 128 ∨ page * 128 + 128 ≤ a → Store.get 0xFFFF t.nvm.words a = Store.get 0xFFFF s.nvm.words a)) ∧
  ∀ (s : State) (ws : List (Nat × Word)), s.nvm.prog = some (keyPage, ws) →
    ∃ t, exec .nvmPageProgrammed s = .next t ∧ t.nvm.prog = none ∧ t.nvm.words = s.nvm.words ∧
      t.nvm.key = dw (pageWord s.free ws 0) (pageWord s.free ws 1)

/-- A direct write of a plain register word whose fields all hold listed values reads back with its reserved bits 0; one
with a field out of its list is logged with code 0x01; neither changes another plain register word (R10, R444). -/
def Obligations.RegisterWriteReadsBack : Prop :=
  ∀ (m : Master) (off : BitVec 7) (v : Word) (s : State), off.toNat ∈ plainRegs → s.directs m off.toNat →
    v &&& nowMask off.toNat = 0 →
    ∃ t, exec (.registerWrite m off v) s = .next t ∧
      (encBad off.toNat v = false → heldWord off.toNat (t.regWord m off.toNat) = rwMerge off.toNat 0 v ∧ t.log = s.log) ∧
      (encBad off.toNat v = true → ∃ e, Store.get none t.log ((t.logSeq + 65535) % 65536 % 256) = some e ∧ e.code = 1) ∧
      (∀ k ∈ plainRegs, k ≠ off.toNat → t.regWord m k = s.regWord m k) ∧
      (off.toNat ≠ 0x2B → t.facets = s.facets) ∧ (off.toNat ≠ 0x19 → off.toNat ≠ 0x2B → t.msg = s.msg) ∧
      (off.toNat ≠ 0x19 → t.can = s.can) ∧
      t = { s with ctl := t.ctl, time := t.time, fctRead := t.fctRead, exc := t.exc, spare := t.spare, chain := t.chain
                   bead := t.bead, trg := t.trg, cap := t.cap, cal := t.cal, log := t.log, logSeq := t.logSeq
                   facets := t.facets, msg := t.msg, can := t.can }

/-- A read of any register without an effect on reading returns the word in force and changes nothing else. A count that
clears on reading is 0 after a read by a local master, and a remote master clears nothing. The first word of the time group,
of the position group and of CAL_LAST captures its whole group for the master that reads it. FCT_FAULT_NEXT gives that
master the lowest facet with a fault above its last, or 0x8000 when none is left (R8, R9, R58, R346). -/
def Obligations.ReadsReturnLatchAndClear : Prop :=
  ((∀ (m : Master) (off : BitVec 7) (ns : Nat) (s : State), s.reads m off.toNat →
    off.toNat ∉ [0x12, 0x23, 0x3E, 0x43, 0x54, 0x56, 0x69, 0x73, 0x7F] →
    exec (.rcRead m off) s = .next ((s.ret m (s.regWord m off.toNat)).ack m true) ∧
    exec (.latchedGroupRead m off ns) s = .next ((s.ret m (s.regWord m off.toNat)).ack m true)) ∧
  (∀ (m : Master) (s : State), s.reads m 0x54 →
    exec (.rcRead m 0x54) s = .next (((s.modMaster m fun x => { x with trgSel := nextTrgSel x.trgSel }).ret m
      (s.regWord m 0x54)).ack m true)) ∧
  (∀ (m : Master) (off : BitVec 7) (s : State), exec (.rcRead m off) s = exec (.latchedGroupRead m off 0) s) ∧
  ∀ (m : Master) (off : BitVec 7) (s : State), off.toNat ∈ [0x3E, 0x56, 0x69] → s.reads m off.toNat →
    ∃ t, exec (.rcRead m off) s = .next t ∧ (t.master m).rdata = s.regWord m off.toNat ∧
      (isRemote m = false → t.regWord m off.toNat = 0) ∧
      (isRemote m = true → t.budget = s.budget ∧ t.trg = s.trg ∧ t.can = s.can) ∧
      t.log = s.log ∧ t.bead = s.bead ∧ t.facets = s.facets ∧ t.time = s.time) ∧
  ((∀ (m : Master) (ns : Nat) (s : State), s.reads m 0x12 →
    ∃ t, exec (.latchedGroupRead m 0x12 ns) s = .next t ∧ (t.master m).rdata = wordOf (s.nowNs ns % 2 ^ 64) 0 ∧
      t.regWord m 0x13 = wordOf (s.nowNs ns % 2 ^ 64) 1 ∧ t.regWord m 0x14 = wordOf (s.nowNs ns % 2 ^ 64) 2 ∧
      t.regWord m 0x15 = wordOf (s.nowNs ns % 2 ^ 64) 3 ∧
      ∀ n, n ≠ m → t.master n = s.master n) ∧
  (∀ (m : Master) (ns : Nat) (s : State), s.reads m 0x43 →
    ∃ t, exec (.latchedGroupRead m 0x43 ns) s = .next t ∧
      (t.master m).rdata = (s.port (s.master m).posSel).group.getD 0 0 ∧
      (∀ i < 4, t.regWord m (0x43 + i) = (s.port (s.master m).posSel).group.getD i 0) ∧ t.ports = s.ports) ∧
  ∀ (m : Master) (ns : Nat) (s : State), s.reads m 0x73 →
    ∃ t, exec (.latchedGroupRead m 0x73 ns) s = .next t ∧ (t.master m).rdata = wordOf s.cal.last 0 ∧
      t.regWord m 0x74 = wordOf s.cal.last 1 ∧ t.cal = s.cal) ∧
  ∀ (m : Master) (s : State), s.reads m 0x23 → Store.wf (fun _ => {}) s.facets = true →
    ∃ t, exec (.fctFaultNextRead m) s = .next t ∧
      (match s.nextFault (s.master m).faultPos with
        | some n => (t.master m).rdata = w16 n ∧ (t.master m).faultPos = some n ∧
            ((s.facet n).faultNow ≠ 0 ∨ (s.facet n).faultSeen ≠ 0) ∧ (∀ a, (s.master m).faultPos = some a → a < n) ∧
            ∀ k < n, (∀ a, (s.master m).faultPos = some a → a < k) → (s.facet k).faultNow = 0 ∧ (s.facet k).faultSeen = 0
        | none => (t.master m).rdata = 0x8000 ∧ (t.master m).faultPos = none) ∧
      (∀ n, n ≠ m → t.master n = s.master n) ∧ t.facets = s.facets

/-- A read of the stream queue gives its oldest word and removes it, or 0 when it is empty. A read of another space gives
the word in force at the address, or 0 with ERR beyond the space; the address steps by one. A direct write of a facet's
parameter stages that one word and puts nothing in force (R413, R415, R458). -/
def Obligations.WindowsReadAndWrite : Prop :=
  (∀ (m : Master) (s t' : State) (w : Word) (ws : List Word), s.ready = true → (m = .host → s.ctl.extest = false) →
    s.entry m (winTarget 0xD) ≠ 0 → (s.master m).winSpace = 0xD →
    (s.cap.queue = w :: ws → s.chargeQueue m = some t' →
      ∃ t, exec (.streamQueueRead m) s = .next t ∧ (t.master m).rdata = w ∧ ws <+: t.cap.queue ∧
        (s.cap.gapWait = [] → t.cap = { s.cap with queue := ws, packets := t.cap.packets }) ∧
        (t.master m).winAddr = ((t'.master m).winAddr + 1) % 2 ^ 32) ∧
    (s.cap.queue = [] → ∃ t, exec (.streamQueueRead m) s = .next t ∧ (t.master m).rdata = 0 ∧ t.cap = s.cap ∧
      t.budget = s.budget)) ∧
  (∀ (m : Master) (s u : State), s.ready = true → (m = .host → s.ctl.extest = false) →
    s.entry m (winTarget (s.master m).winSpace) ≠ 0 → (s.master m).winSpace < 0xD →
    (s.nvmBusy (s.master m).winSpace = true →
      ∃ t, exec (.winDataRead m) s = .next t ∧ (t.master m).rdata = 0 ∧ (t.master m).winAddr = (s.master m).winAddr ∧
        t.budget = s.budget) ∧
    (s.winInside (s.master m).winSpace (s.master m).winAddr = false → s.nvmBusy (s.master m).winSpace = false →
      ∃ t, exec (.winDataRead m) s = .next t ∧ (t.master m).rdata = 0 ∧ (t.master m).winErr = true ∧
        (t.master m).winAddr = ((s.master m).winAddr + 1) % 2 ^ 32 ∧ t.budget = s.budget) ∧
    (s.winInside (s.master m).winSpace (s.master m).winAddr = true → s.nvmBusy (s.master m).winSpace = false →
      s.chargeWin m (s.master m).winSpace (s.master m).winAddr = some u →
      ∃ t, exec (.winDataRead m) s = .next t ∧
        (t.master m).rdata = u.winWord (s.master m).canSel (s.master m).winSpace (s.master m).winAddr ∧
        (t.master m).winAddr = ((u.master m).winAddr + 1) % 2 ^ 32 ∧ (t.master m).winErr = (u.master m).winErr)) ∧
  ∀ (m : Master) (v : Word) (s u : State) (n w : Nat), s.owns m 0x7D → s.winEntry m 0 = 3 → (m = .host → s.ctl.svc = false) →
    (s.master m).clasp.isOpen = false → (s.master m).winSpace = 0 → n < 512 → w < 32 → fpIsParam n w = true →
    winValue 0 (n * 32 + w) = (0, 1) → (s.master m).winAddr = n * 32 + w → s.chargeWin m 0 (n * 32 + w) = some u →
    ∃ t, exec (.winDataWrite m v) s = .next t ∧ t.fpS n w = v &&& fpMask n w ∧
      (∀ k j, j < 32 → (k, j) ≠ (n, w) → t.fpS k j = s.fpS k j) ∧
      (t.master m).winAddr = ((u.master m).winAddr + 1) % 2 ^ 32 ∧ t.fpActive = s.fpActive ∧ t.facets = s.facets

/-- A cycle cut short changes nothing but the log, which holds it, and HOST's is not acknowledged; a cycle with both strobes
is acknowledged and has no effect; EXTEST is taken unless DBG_LOCK is set, which withdraws it, and another instruction of
the test port gives the lands back (R412, R431). -/
def Obligations.CyclesWithoutEffect : Prop :=
  (∀ (m : Master) (off : BitVec 7) (s : State), s.responds m = true →
    ∃ t, exec (.cycleCutShort m off) s = .next t ∧
      t = { s with log := t.log, logSeq := t.logSeq, ctl := { s.ctl with acked := t.ctl.acked } } ∧
      (m = .host → t.ctl.acked = false) ∧ ∃ e, Store.get none t.log ((t.logSeq + 65535) % 65536 % 256) = some e ∧ e.code = 5) ∧
  (∀ s : State, exec .doubleStrobeCycle s = .next { s with ctl := { s.ctl with acked := s.responds .host } }) ∧
  (∀ s : State, s.life.dbgLock = false → exec (.extestSelected true) s = .next { s with ctl := { s.ctl with extest := true } }) ∧
  (∀ s : State, s.life.dbgLock = true → exec (.extestSelected true) s = .next s) ∧
  ∀ s : State, exec (.extestSelected false) s = .next { s with ctl := { s.ctl with extest := false } }

/-- BEGIN opens a clasp unless the master has one open or committing; COMMIT accepts it; the master's own ROLLBACK discards
an open one without interrupt or log entry; a clasp still open 1,000 ms after its BEGIN rolls back, by itself or at the next
BEGIN or COMMIT of its master, with TIMEOUT and IRQ_STAT0.CLASP, and no other master's clasp changes (R419, R422, R424). -/
def Obligations.ClaspsOpenCommitAndEnd : Prop :=
  (∀ (m : Master) (s : State), s.owns m 0x08 →
    ((s.master m).clasp.isOpen = false → (s.master m).clasp.pend = false →
      ∃ t, exec (.claspBegin m) s = .next t ∧
        (t.master m).clasp = { isOpen := true, beginTick := s.tick, beginStamp := s.ctl.stamp + 1 } ∧
        t.ctl.stamp = s.ctl.stamp + 1 ∧ t.log = s.log ∧ t.ctl.irq0 = s.ctl.irq0 ∧ ∀ n, n ≠ m → t.master n = s.master n) ∧
    (((s.master m).clasp.isOpen = true ∧ s.tick < (s.master m).clasp.beginTick + 4000) ∨
        ((s.master m).clasp.isOpen = false ∧ (s.master m).clasp.pend = true) →
      exec (.claspBegin m) s = .next (s.ack m true)) ∧
    ((s.master m).clasp.isOpen = true → (s.master m).clasp.beginTick + 4000 ≤ s.tick →
      (∃ t, exec (.claspBegin m) s = .next t ∧ fld t.ctl.irq0 8 1 = 1 ∧
        (t.master m).clasp = { isOpen := true, beginTick := s.tick, beginStamp := s.ctl.stamp + 1 }) ∧
      ∃ t, exec (.claspCommit m) s = .next t ∧ (t.master m).clasp.isOpen = false ∧ (t.master m).clasp.writes = [] ∧
        (t.master m).clasp.pend = false ∧ (t.master m).clasp.result = 4 ∧ fld t.ctl.irq0 8 1 = 1) ∧
    ((s.master m).clasp.isOpen = true → s.tick < (s.master m).clasp.beginTick + 4000 →
      (∃ t, exec (.claspCommit m) s = .next t ∧
        (t.master m).clasp = { (s.master m).clasp with isOpen := false, pend := true, acceptStamp := s.ctl.stamp + 1 } ∧
        ∀ n, n ≠ m → t.master n = s.master n) ∧
      ∃ t, exec (.claspRollback m) s = .next t ∧ (t.master m).clasp.isOpen = false ∧ (t.master m).clasp.writes = [] ∧
        (t.master m).clasp.result = 3 ∧ t.log = s.log ∧ t.ctl.irq0 = s.ctl.irq0 ∧ ∀ n, n ≠ m → t.master n = s.master n) ∧
    ((s.master m).clasp.isOpen = false → exec (.claspRollback m) s = .next (s.ack m true))) ∧
  ∀ (m : Master) (s : State), s.ready = true →
    ((s.master m).clasp.isOpen = true → (s.master m).clasp.beginTick + 4000 ≤ s.tick →
      ∃ t, exec (.claspTimeout m) s = .next t ∧ (t.master m).clasp.isOpen = false ∧ (t.master m).clasp.writes = [] ∧
        (t.master m).clasp.result = 4 ∧ fld t.ctl.irq0 8 1 = 1 ∧
        (∃ e, Store.get none t.log ((t.logSeq + 65535) % 65536 % 256) = some e) ∧ t.fpStaged = s.fpStaged ∧ ∀ n, n ≠ m → t.master n = s.master n) ∧
    ((s.master m).clasp.isOpen = false ∨ s.tick < (s.master m).clasp.beginTick + 4000 →
      exec (.claspTimeout m) s = .next s)

/-- At its turn at a frame boundary a clasp that fails a check fails with that code, an entry in the log and
IRQ_STAT0.CLASP, and none of its writes is in force; an overflowed one fails with code 26, one that another master's commit
has overtaken with code 27; an empty clasp is committed and changes nothing. One of several writes that passes its checks,
the interrupt masks and any number of one-word parameters of facets, puts all of them in force at once and no other
parameter. The COMMIT of a remote master is answered with OK, or with CLASP and the code (R19, R343, R347, R419, R422,
R423). -/
def Obligations.ClaspApplies : Prop :=
  (∀ (m : Master) (s : State), s.ready = true → (isRemote m = true → ∀ p < 2, (s.session p).commitReq = none) →
    (s.master m).clasp.pend = true → s.turn (s.master m).clasp.acceptStamp = true →
    (s.claspCode m (s.master m).clasp ≠ 0 →
      ∃ t, exec (.claspApply m) s = .next t ∧ (t.master m).clasp.pend = false ∧ (t.master m).clasp.result = 2 ∧
        (t.master m).clasp.fail = s.claspCode m (s.master m).clasp ∧ fld t.ctl.irq0 8 1 = 1 ∧
        t.fpActive = s.fpActive ∧ t.fpStaged = s.fpStaged ∧ t.facets = s.facets ∧ t.nvm = s.nvm ∧ t.time = s.time ∧
        t.chain = s.chain ∧ t.budget = s.budget ∧ t.exc = s.exc ∧ t.cal = s.cal ∧ t.trg = s.trg ∧ t.cap = s.cap ∧
        t.can = s.can ∧ t.bead = s.bead ∧ t.ctl = { s.ctl with irq0 := t.ctl.irq0 } ∧
        (∀ p, t.port p = { s.port p with cause := (t.port p).cause }) ∧
        ∃ e, Store.get none t.log ((t.logSeq + 65535) % 65536 % 256) = some e ∧ e.code = 3) ∧
    ((s.master m).clasp.full = true → (s.master m).clasp.writes = [] →
      ∃ t, exec (.claspApply m) s = .next t ∧ (t.master m).clasp.result = 2 ∧ (t.master m).clasp.fail = 26) ∧
    ((s.master m).clasp.full = false → (s.master m).clasp.writes = [] →
      exec (.claspApply m) s = .next (s.modClasp m fun c => { c with pend := false, writes := [], result := 1, fail := 0 })) ∧
    (∀ v, (s.master m).clasp.full = false → (s.master m).clasp.writes = [{ tgt := .reg 0x79 0, val := v }] → 2 ≤ s.entry m 7 →
      s.conflicts m (s.master m).clasp.beginStamp (.reg 0x79 0) = true →
      ∃ t, exec (.claspApply m) s = .next t ∧ (t.master m).clasp.pend = false ∧ (t.master m).clasp.result = 2 ∧
        (t.master m).clasp.fail = 27 ∧ t.ctl.mask0 = s.ctl.mask0 ∧ fld t.ctl.irq0 8 1 = 1)) ∧
  (∀ (m : Master) (s : State) (v0 v1 : Word) (ps : List (Nat × Nat × Nat × Word)) (ws : List StagedWrite), s.ready = true →
    (isRemote m = true → ∀ p < 2, (s.session p).commitReq = none) →
    (s.master m).clasp.pend = true → s.turn (s.master m).clasp.acceptStamp = true →
    (∀ e ∈ ps, e.1 < 512 ∧ e.2.1 < 32 ∧ fpIsParam e.1 e.2.1 = true ∧ winValue 0 (e.1 * 32 + e.2.1) = (0, 1)) →
    ws = { tgt := .reg 0x79 0, val := v0 } :: ps.map (fun e =>
      { tgt := .win 0 (e.1 * 32 + e.2.1) e.2.2.1, val := e.2.2.2 : StagedWrite }) ++ [{ tgt := .reg 0x7B 0, val := v1 }] →
    (s.master m).clasp.writes = ws → (∀ n ∈ claspFacets ws, onlyRange n (s.blkA n) (s.claspBlk ws n) = false) →
    s.claspCode m (s.master m).clasp = 0 →
    ∃ t, exec (.claspApply m) s = .next t ∧ (t.master m).clasp.pend = false ∧ (t.master m).clasp.result = 1 ∧
      (t.master m).clasp.writes = [] ∧ t.ctl.mask0 = v0 ∧ t.ctl.mask1 = v1 ∧
      ∀ n < 512, ∀ w < 32, fpIsParam n w = true →
        t.fpA n w = (match ps.reverse.find? (fun e => e.1 == n && e.2.1 == w) with
          | some e => e.2.2.2 &&& fpMask n w
          | none => s.fpA n w)) ∧
  ∀ (p : Fin 2) (r : Req) (s : State), s.ready = true → (s.session p.val).commitReq = some r →
    (s.session p.val).waiting = [] → (s.master (portMaster p.val)).clasp.pend = true →
    s.turn (s.master (portMaster p.val)).clasp.acceptStamp = true →
    ∃ t, exec (.claspApply (portMaster p.val)) s = .next t ∧ (t.session p.val).commitReq = none ∧
      (t.master (portMaster p.val)).clasp.pend = false ∧
      (s.claspCode (portMaster p.val) (s.master (portMaster p.val)).clasp ≠ 0 → t.fpActive = s.fpActive) ∧
      ∃ rec ∈ t.msg.out, rec.1 = p.val ∧ rec.2.ty = .rrsp ∧
        rec.2.data = leBytes 1 opCommit
          ++ leBytes 1 (if s.claspCode (portMaster p.val) (s.master (portMaster p.val)).clasp = 0 then 0 else 7)
          ++ leBytes 2 0 ++ leBytes 4 r.addr.toNat
          ++ leBytes 2 (s.claspCode (portMaster p.val) (s.master (portMaster p.val)).clasp)

/-- While a master's clasp is open its write of a plain register word is staged and the register keeps its value; beyond 64
writes the clasp is marked FULL instead. A master whose entry lets it read at most changes nothing by such a write, and one
whose entry is 00 reads 0; IRQ_STAT0.BEZEL is set (R420, R421, R429). -/
def Obligations.OpenClaspStagesAndBezelDenies : Prop :=
  (∀ (m : Master) (off : BitVec 7) (v : Word) (s : State), off.toNat ∈ plainRegs → s.ready = true → s.sessionOk m = true →
    (m = .host → s.ctl.extest = false ∧ s.ctl.svc = false) → (s.master m).clasp.isOpen = true →
    2 ≤ s.entry m (regTarget off.toNat) → v &&& nowMask off.toNat = 0 →
    ∃ t, exec (.registerWrite m off v) s = .next t ∧
      (t.master m).clasp = (if 64 ≤ (s.master m).clasp.writes.length then { (s.master m).clasp with full := true }
        else { (s.master m).clasp with
          writes := (s.master m).clasp.writes ++ [{ tgt := .reg off.toNat ((s.master m).selOf off.toNat), val := v }] }) ∧
      t.regWord m off.toNat = s.regWord m off.toNat ∧ t.log = s.log ∧ t.time = s.time ∧ t.cal = s.cal) ∧
  ∀ (m : Master) (off : BitVec 7) (v : Word) (s : State), off.toNat ∈ plainRegs → 3 < off.toNat → s.ready = true →
    s.sessionOk m = true → m ≠ .host →
    (s.entry m (regTarget off.toNat) < 2 →
      ∃ t, exec (.registerWrite m off v) s = .next t ∧ fld t.ctl.irq0 9 1 = 1 ∧
        t = { s with ctl := { s.ctl with irq0 := t.ctl.irq0 }, log := t.log, logSeq := t.logSeq }) ∧
    (s.entry m (regTarget off.toNat) = 0 →
      ∃ t, exec (.rcRead m off) s = .next t ∧ (t.master m).rdata = 0 ∧ fld t.ctl.irq0 9 1 = 1)

/-- A direct write of BUDGET_SET is staged for the selected activity and changes no budget in force; one that would set ACQ
below 12,000 transfers is refused with code 1, one that would take the sum of the budgets as staged above 200,000 with code
2, and stages nothing. A judgement of the MP's load, 100 frames after the last at the earliest, raises the shed level by one
at 90 % or more, to 4 at most, and lowers it by one at the tenth in a row of 60 % or less; each change sets IRQ_STAT0.SHED
and is the newest entry of the log (R435, R440). -/
def Obligations.BudgetsAndShedding : Prop :=
  (∀ (m : Master) (v : Word) (s : State) (sum : Nat), s.directs m 0x3C → v.toNat ≤ 50000 →
    sum = (s.budget.set.mapIdx fun i x =>
      if i = (s.master m).budgetSel then 4 * v.toNat else Store.get x s.budget.staged i).sum →
    ∃ t, exec (.budgetSetWrite m v) s = .next t ∧ t.budget.set = s.budget.set ∧ t.budget.used = s.budget.used ∧
      ((s.master m).budgetSel = 0 ∧ v.toNat < 3000 → (t.master m).budgetCause = 1 ∧ t.budget.staged = s.budget.staged) ∧
      (¬((s.master m).budgetSel = 0 ∧ v.toNat < 3000) → 200000 < sum →
        (t.master m).budgetCause = 2 ∧ t.budget.staged = s.budget.staged) ∧
      (¬((s.master m).budgetSel = 0 ∧ v.toNat < 3000) → sum ≤ 200000 →
        (t.master m).budgetCause = 0 ∧
        t.budget.staged = Store.insert s.budget.staged (s.master m).budgetSel (4 * v.toNat)) ∧
      (∀ n, n ≠ m → t.master n = s.master n) ∧ t.fpActive = s.fpActive ∧ t.time = s.time ∧ t.chain = s.chain) ∧
  (∀ (load : Fin 101) (s : State), s.ctl.loadFrames < 100 → exec (.shedJudgement load) s = .next s) ∧
  ∀ (load : Fin 101) (s : State), s.ready = true → s.ctl.shed ≤ 4 → 100 ≤ s.ctl.loadFrames →
    ∃ t, exec (.shedJudgement load) s = .next t ∧ t.ctl.load = load.val ∧ t.ctl.loadFrames = s.ctl.loadFrames - 100 ∧
      (90 ≤ load.val → t.ctl.shed = min 4 (s.ctl.shed + 1)) ∧
      (load.val ≤ 60 → s.ctl.lowRun < 9 → t.ctl.shed = s.ctl.shed ∧ t.ctl.lowRun = s.ctl.lowRun + 1) ∧
      (load.val ≤ 60 → 9 ≤ s.ctl.lowRun → t.ctl.shed = s.ctl.shed - 1 ∧ t.ctl.lowRun = 0) ∧
      (60 < load.val → t.ctl.lowRun = 0) ∧
      (60 < load.val → load.val < 90 → t.ctl.shed = s.ctl.shed ∧ t.ctl.irq0 = s.ctl.irq0) ∧
      (t.ctl.shed ≠ s.ctl.shed → fld t.ctl.irq0 12 1 = 1 ∧
        ∃ e, Store.get none t.log ((t.logSeq + 65535) % 65536 % 256) = some e ∧ e.code = 0x11) ∧
      t = { s with ctl := t.ctl, log := t.log, logSeq := t.logSeq }

/-- A tick boundary advances the count of ticks by one, and does that alone before the device is ready; where a change of
the count stands for the boundary the command does nothing, which is the model's choice (log 40). A frame boundary comes
once at every fourth tick: the transfers used become those of the last frame, the written mode policy and the number of
facets in fault are taken, and RAIL_MA is the mean of the frame's ticks (R11, R52, R58, R216, R436). -/
def Obligations.TicksAndFrames : Prop :=
  (∀ (i : TickIn) (s : State),
    (s.changes = false → ∃ t, exec (.tickBoundary i) s = .next t ∧ t.time.tick = s.time.tick + 1) ∧
    (s.ready = false → exec (.tickBoundary i) s = .next { s with
      time := { s.time with tick := s.time.tick + 1 }, exc := { s.exc with exvdd := i.exvdd } }) ∧
    (s.changes = true → exec (.tickBoundary i) s = .next s)) ∧
  ∀ (fabric canclk : Nat) (s : State),
    (s.ready = true → s.isFrame = true → s.ctl.frameAt ≠ some s.tick → (∀ p < 2, (s.session p).waiting = []) →
      ∃ t, exec (.frameBoundary fabric canclk) s = .next t ∧ t.ctl.frameAt = some s.tick ∧
        t.ctl.frameStamp = s.ctl.stamp ∧ t.ctl.modePend = none ∧ t.ctl.modeSel = s.ctl.modePend.getD s.ctl.modeSel ∧
        t.faultSum = s.faultCount ∧ t.budget.usedLast = s.budget.used ∧ t.budget.fabric = fabric ∧
        t.candev.clkKhz = canclk ∧ t.candev.clkOk = decide (20000 ≤ canclk ∧ canclk ≤ 80000) ∧ t.exc.railFrame = [] ∧
        (s.exc.railFrame ≠ [] → t.exc.railMa = s.exc.railFrame.sum / s.exc.railFrame.length)) ∧
    (s.isFrame = false ∨ s.ctl.frameAt = some s.tick → exec (.frameBoundary fabric canclk) s = .next s)

/-- An output that is due is formed and published with its aperture while ACQ's budget lasts; with the budget spent nothing
is formed and the output waits; the tick words of scheduled operation form alike, and an output held back during a
calibration is not published. One that has waited for a frame leaves the queue, its ticks are counted as lost for its facet,
and the facet's next output carries GAP_EDGE. In scheduled operation the slot of the schedule runs from the first tick of
its dwell, counted from the anchor, and the cycle output of cycle k, once its words are formed or lost, is published with
the aperture of its middle and closes the sums of that cycle (R16, R80 to R83, R134, R276, R434). -/
def Obligations.OutputsFormWaitOrAreLost : Prop :=
  (∀ (f : Fin 512) (o : OutIn) (s : State) (p : PendOut) (rest : List PendOut), s.ready = true →
    (s.facet f.val).pend = p :: rest → p.formTick ≤ s.tick → (∀ c, p.formed = some c → s.tick ≤ c + 4) →
    p.withheld = false → s.sourceDue f.val = false → s.formedAt p ≠ s.tick ∨ s.boundaryOpen = false →
    (∀ u, s.spend actAcq (outTransfers f.val) = some u →
      ∃ t, exec (.outputFormation f o) s = .next t ∧ (t.facet f.val).pend = rest ∧ (t.facet f.val).last.valid = true ∧
        (t.facet f.val).last.aperture = p.aperture ∧
        (t.facet f.val).prev = (s.facet f.val).last ∧ (t.facet f.val).gapEdge = false ∧
        (∀ n, n ≠ f.val → t.facet n = s.facet n) ∧ (p.live = false → t.budget = u.budget) ∧
        t.fpActive = s.fpActive ∧ t.time = s.time ∧ t.ports = s.ports) ∧
    (s.spend actAcq (outTransfers f.val) = none →
      ∃ t, exec (.outputFormation f o) s = .next t ∧
        (t.facet f.val).pend = { p with formed := some (s.completed p) } :: rest ∧
        (t.facet f.val).last = (s.facet f.val).last ∧ (∀ n, n ≠ f.val → t.facet n = s.facet n) ∧
        t = { s with budget := t.budget, ctl := t.ctl, facets := t.facets })) ∧
  ((∀ (f : Fin 512) (o : OutIn) (s : State) (p : TickPend) (rest : List TickPend), s.ready = true →
    (s.facet f.val).pend = [] → (s.facet f.val).tickPend = p :: rest → p.formTick ≤ s.tick →
    (∀ c, p.formed = some c → s.tick ≤ c + 4) →
    (∀ u, s.spend actAcq (outTransfers f.val) = some u →
      ∃ t, exec (.outputFormation f o) s = .next t ∧ (t.facet f.val).tickPend = rest ∧
        (t.facet f.val).last = (s.facet f.val).last ∧ (∀ n, n ≠ f.val → t.facet n = s.facet n) ∧
        t.fpActive = s.fpActive ∧ t.time = s.time ∧ t.ports = s.ports) ∧
    (s.spend actAcq (outTransfers f.val) = none →
      ∃ t, exec (.outputFormation f o) s = .next t ∧ (∃ q, (t.facet f.val).tickPend = q :: rest ∧ q.aperture = p.aperture) ∧
        t = { s with budget := t.budget, ctl := t.ctl, facets := t.facets })) ∧
  ∀ (f : Fin 512) (o : OutIn) (s : State) (p : PendOut) (rest : List PendOut), s.ready = true →
    (s.facet f.val).pend = p :: rest → p.formTick ≤ s.tick → (∀ c, p.formed = some c → s.tick ≤ c + 4) → p.withheld = true →
    ∃ t, exec (.outputFormation f o) s = .next t ∧ (t.facet f.val).pend = rest ∧
      (t.facet f.val).last = (s.facet f.val).last ∧ ∀ n, n ≠ f.val → t.facet n = s.facet n) ∧
  ((∀ (f : Fin 512) (s : State) (p : TickPend) (rest : List TickPend), s.ready = true → s.unset = false →
    (s.facet f.val).pend = [] → (s.facet f.val).tickPend = p :: rest → p.formed.getD p.formTick + 4 ≤ s.tick → p.live = true →
    ∃ t, exec (.acqOutputLost f) s = .next t ∧ (t.facet f.val).tickPend = rest ∧ (t.facet f.val).tickEdge = true ∧
      ∃ l ∈ t.msg.losses, l.first = f.val ∧ l.last = f.val ∧ l.cause = 1 ∧
        l.start ≤ p.aperture ∧ p.aperture + 1 ≤ l.start + l.len) ∧
  ∀ (f : Fin 512) (s : State) (p : PendOut) (rest : List PendOut), s.ready = true → s.unset = false →
    (s.facet f.val).pend = p :: rest → p.formed.getD p.formTick + 4 ≤ s.tick → p.withheld = false → p.live = true → 0 < p.nout →
    ∃ t, exec (.acqOutputLost f) s = .next t ∧ (t.facet f.val).gapEdge = true ∧ (t.facet f.val).pend = rest ∧
      ∃ l ∈ t.msg.losses, l.first = f.val ∧ l.last = f.val ∧ l.cause = 1 ∧
        l.start ≤ p.aperture + 1 - p.nout ∧ p.aperture + 1 ≤ l.start + l.len) ∧
  (∀ (f : Fin 512) (s : State), s.ready = true → scheduled f.val (s.blkA f.val) = true → (s.facet f.val).anchor ≤ s.tick →
    exec (.zSlotSwitch f) s = .next (
      if (slotAt (s.blkA f.val) ((s.tick - (s.facet f.val).anchor) % max 1 (cycleLen (s.blkA f.val)))).2 = 0 then
        s.setFacet f.val { s.facet f.val with
          slot := (slotAt (s.blkA f.val) ((s.tick - (s.facet f.val).anchor) % max 1 (cycleLen (s.blkA f.val)))).1
          slotFrom := s.tick }
      else s)) ∧
  ∀ (f : Fin 512) (x : List Rat) (s : State) (k : Nat), s.ready = true → scheduled f.val (s.blkA f.val) = true →
    s.tick = (s.facet f.val).anchor + k * cycleLen (s.blkA f.val) → (s.facet f.val).cycles + 1 = k →
    (∀ p ∈ (s.facet f.val).tickPend, p.aperture < (s.facet f.val).anchor ∨ s.tick ≤ p.aperture) → s.sourceDue f.val = false →
    s.boundaryOpen = false →
    ∃ t, exec (.cycleOutput f x) s = .next t ∧ (t.facet f.val).cycles = k ∧
      (t.facet f.val).acc = Store.keep (fun i => decide (accKey k 0 ≤ i)) (s.facet f.val).acc ∧
      (t.facet f.val).anchor = (s.facet f.val).anchor ∧ t.fpActive = s.fpActive ∧ t.time = s.time ∧
      (s.time.noRepeat = none → (∀ m ∈ (s.facet f.val).cycMarks, m.cyc = k → m.withheld = false) →
        (t.facet f.val).last.valid = true ∧ (t.facet f.val).last.formTick = s.tick ∧
        (t.facet f.val).last.aperture =
          (s.facet f.val).anchor + (k - 1) * cycleLen (s.blkA f.val) + cycleLen (s.blkA f.val) / 2)

/-- An apply is refused as a whole with the code of its first failed check in FCT_APPLY.CAUSE; an accepted one waits for its
frame boundary, for the facets that changed, with words that make of each parameter in force the staged one. At its turn its
words are in force for all of its facets and no word of another facet changes; a change of the range alone goes through a
spare path where one can be had; one that another master's commit has overtaken fails with code 27 and changes no parameter
(R47, R48, R50, R61, R423). -/
def Obligations.AppliesAreCheckedAndTakeEffect : Prop :=
  (∀ (m : Master) (b : Bool) (s : State), s.directs m 0x21 → ∀ all : Bool, ∀ ns : List Nat,
    ns = (if all then s.changedFacets else [(s.master m).fctSel]) →
    (∀ code n, s.refusal (s.candApply ns) ns b = some (code, n) →
      ∃ t, exec (if all then .fctApplyAll m b else .fctApplyGo m b) s = .next t ∧ t.applyCause = code ∧
        t = { s with needSpare := b, applyCause := code, log := t.log, logSeq := t.logSeq, ctl := { s.ctl with acked := t.ctl.acked } }) ∧
    (s.refusal (s.candApply ns) ns b = none →
      ∃ t r, exec (if all then .fctApplyAll m b else .fctApplyGo m b) s = .next t ∧ t.applyCause = 0 ∧
        t.applies = s.applies ++ [r] ∧ r.facets = ns.filter s.changedFacets.contains ∧ r.needSpare = b ∧ r.master = m ∧
        r.stamp = s.ctl.stamp + 1 ∧ t.fpActive = s.fpActive ∧ t.fpStaged = s.fpStaged ∧ t.facets = s.facets ∧
        ∀ n ∈ r.facets, ∀ w < 32, fpIsParam n w = true → Store.get (s.fpA n w) r.words (n * 32 + w) = s.fpS n w)) ∧
  ∀ (s : State) (r : ApplyReq) (rest : List ApplyReq), s.ready = true → s.applies = r :: rest → s.turn r.stamp = true →
    (r.facets.any (fun n => s.conflicts .host r.stamp (.facet n)) = true →
      ∃ t, exec .applyEffect s = .next t ∧ t.applyCause = 27 ∧
        t = { s with applies := rest, applyCause := 27, log := t.log, logSeq := t.logSeq }) ∧
    ((∀ n ∈ r.facets, s.conflicts .host r.stamp (.facet n) = false ∧
        onlyRange n (s.blkA n) (fun w => Store.get (s.fpA n w) r.words (n * 32 + w)) = false) →
      ∃ t, exec .applyEffect s = .next t ∧ t.applies = rest ∧
        (∀ n ∈ r.facets, ∀ w < 32, fpIsParam n w = true → t.fpA n w = Store.get (s.fpA n w) r.words (n * 32 + w)) ∧
        ∀ k w, k ∉ r.facets → w < 32 → t.fpA k w = s.fpA k w) ∧
    (∀ n, r.facets = [n] → s.conflicts .host r.stamp (.facet n) = false →
      onlyRange n (s.blkA n) (fun w => Store.get (s.fpA n w) r.words (n * 32 + w)) = true →
      (({ s with applies := rest } : State).rangeSpare n = none →
        ∃ t, exec .applyEffect s = .next t ∧ t.applies = rest ∧
          ∀ w < 32, fpIsParam n w = true → t.fpA n w = Store.get (s.fpA n w) r.words (n * 32 + w)) ∧
      ∀ i, ({ s with applies := rest } : State).rangeSpare n = some i →
        ∃ t c, exec .applyEffect s = .next t ∧ t.applies = rest ∧ (t.facet n).rangeChg = some c ∧ c.spare = i ∧ c.phase = 1 ∧
          t.fpActive = s.fpActive)

/-- Once the spare has settled, the new range is in force and the spare serves the facet; once the own path has settled it
serves again and the spare is to disconnect a tick later. FCT_READ_CTL.GO takes a request for one facet and one kind, which
a write without GO leaves as it is, and its answer holds the value and its age (R59 to R61). -/
def Obligations.RangeChangeAndFacetRead : Prop :=
  (∀ (f : Fin 512) (s : State) (r : RangeChg), s.ready = true → (s.facet f.val).rangeChg = some r → r.left = 0 →
    s.tick % (s.blkA f.val).nout = 0 →
    (r.phase = 1 → s.syncDue = false → ∃ t, exec (.rangeChangeSwap f) s = .next t ∧ (t.facet f.val).standin = some r.spare ∧
      (∀ w v, r.new = [(w, v)] → t.fpA f.val w = v) ∧ t.fpStaged = s.fpStaged ∧ (t.facet f.val).last = (s.facet f.val).last) ∧
    (r.phase = 2 → r.freeAt = none →
      exec (.rangeChangeSwapBack f) s = .next (s.setFacet f.val { s.facet f.val with
        standin := none, rangeChg := some { r with freeAt := some (s.tick + 1) } }))) ∧
  (∀ (m : Master) (f : Fin 512) (k : BitVec 3) (s : State), s.directs m 0x24 → k.toNat ≤ 4 →
    exec (.fctReadGo m f k) s = .next (({ s with fctRead := { s.fctRead with
      ctl := w16 (f.val + 512 * k.toNat), facet := f.val, kind := k.toNat, ready := false, pend := true } }).ack m true)) ∧
  (∀ (m : Master) (w : Word) (s : State), s.directs m 0x24 → fld w 9 3 ≤ 4 → fld w 15 1 = 0 →
    ∃ t, exec (.registerWrite m 0x24 w) s = .next t ∧ t.fctRead = { s.fctRead with ctl := w &&& 0x0FFF }) ∧
  ∀ s : State, s.ready = true → s.fctRead.pend = true →
    exec .fctReadReady s = .next { s with fctRead := { s.fctRead with
      result := (s.facetRead s.fctRead.facet s.fctRead.kind).1
      age := (s.facetRead s.fctRead.facet s.fctRead.kind).2, ready := true, pend := false } }

/-- The protection network isolates a facet outside its span, with the fault OVERVOLT where the facet is in use, and
reconnects it after 8 ticks in span with a SETTLE window. A cause of fault enters once its count of ticks has run, sets
IRQ_STAT0.FCT_FAULT and begins a span of fault, and leaves once its count has run; the causes seen stay. The end of a
facet's alarm window of 1,000 ms sends one alarm where some were held (R30, R53, R327). -/
def Obligations.FaultsAndProtection : Prop :=
  ((∀ (f : Fin 512) (s : State), s.ready = true → (s.facet f.val).sig.inSpan = false → (s.facet f.val).isolated = false →
    ∃ t, exec (.protectionIsolation f) s = .next t ∧ (t.facet f.val).isolated = true ∧
      ((s.blkA f.val).type ≠ 0 → (t.facet f.val).faultNow &&& 0x80 ≠ 0) ∧
      t = { s with facets := t.facets, ctl := t.ctl, msg := t.msg }) ∧
  ∀ (f : Fin 512) (s : State), s.ready = true → (s.facet f.val).isolated = true → 8 ≤ (s.facet f.val).inSpanCnt →
    ∃ t, exec (.isolationEnd f) s = .next t ∧ (t.facet f.val).isolated = false ∧
      (t.facet f.val).faultNow &&& 0x80 = 0 ∧ (s.facet f.val).settle.length < (t.facet f.val).settle.length ∧
      t = { s with facets := t.facets, msg := t.msg }) ∧
  ((∀ (f : Fin 512) (c : Cause) (s : State), s.ready = true → (s.blkA f.val).type ≠ 0 →
    (c ≠ .snsOpen ∧ (s.enterNeed c ≤ Store.get 0 (s.facet f.val).enterCnt (causeBit c) ∨
        s.enterNeed c ≤ Store.get 0 (s.facet f.val).enterCnt (16 + causeBit c))) ∨
      (c = .snsOpen ∧ ∃ j ∈ activeSlots (s.blkA f.val), (Store.get (0, 0, false) (s.facet f.val).sns j).2.2 = true) →
    (s.facet f.val).faultNow &&& w16 (2 ^ causeBit c) = 0 →
    ∃ t, exec (.faultEnter f c) s = .next t ∧
      (t.facet f.val).faultNow = (s.facet f.val).faultNow ||| w16 (2 ^ causeBit c) ∧
      (t.facet f.val).faultSeen = (s.facet f.val).faultSeen ||| w16 (2 ^ causeBit c) ∧
      ((s.facet f.val).faultNow = 0 → fld t.ctl.irq0 0 1 = 1 ∧ (t.facet f.val).faultSpans.head? = some (s.tick, none)) ∧
      (causeIsExc c = false → t = { s with facets := t.facets, ctl := t.ctl, msg := t.msg }) ∧ t.fpActive = s.fpActive) ∧
  ∀ (f : Fin 512) (c : Cause) (s : State), s.ready = true →
    (c ≠ .snsOpen ∧ s.leaveNeed c ≤ Store.get 0 (s.facet f.val).leaveCnt (causeBit c) ∧ s.standsNow f.val c = false) ∨
      (c = .snsOpen ∧ (∀ j ∈ activeSlots (s.blkA f.val), (Store.get (0, 0, false) (s.facet f.val).sns j).2.2 = false) ∧
        ∃ j ∈ activeSlots (s.blkA f.val), 8 ≤ (Store.get (0, 0, false) (s.facet f.val).sns j).2.1) →
    ∃ t, exec (.faultLeave f c) s = .next t ∧ (t.facet f.val).faultNow &&& w16 (2 ^ causeBit c) = 0 ∧
      (t.facet f.val).faultSeen = (s.facet f.val).faultSeen ∧ t = { s with facets := t.facets, msg := t.msg }) ∧
  ∀ (f : Fin 512) (s : State) (b : Nat), s.ready = true → (s.facet f.val).alarmFrom = some b → b + 4000 ≤ s.tick →
    ∃ t, exec (.alarmWindowEnd f) s = .next t ∧ (t.facet f.val).alarmFrom = none ∧ (t.facet f.val).alarmHeld = 0 ∧
      t.msg.seq.a = (if (s.facet f.val).alarmHeld = 0 then s.msg.seq.a else (s.msg.seq.a + 1) % 65536) ∧
      t.msg.out.length = s.msg.out.length + (if (s.facet f.val).alarmHeld = 0 then 0 else 1) ∧
      t = { s with facets := t.facets, msg := t.msg }

/-- RAIL_OVER is set, with IRQ_STAT0.RAIL, after 8 ticks over, and cleared after 8 that are not; FOLD is set from 2,400 mA;
HEADROOM while EXVDD is below 11.5 V and 10 V is asked for. Loss of the tones takes every assigned Z-facet's drive off with
its cause of fault; their return ends the cause, and the drives resume at the next frame boundary with SETTLE windows (R52,
R75, R87). -/
def Obligations.RailAndTones : Prop :=
  (∀ s : State, s.ready = true →
    (8 ≤ s.exc.overCnt → s.exc.railOver = false →
      ∃ t, exec .excRailOver s = .next t ∧ t.exc = { s.exc with railOver := true } ∧ fld t.ctl.irq0 1 1 = 1 ∧
        t = { s with exc := t.exc, ctl := { s.ctl with irq0 := t.ctl.irq0 }, msg := t.msg }) ∧
    (8 ≤ s.exc.underCnt → exec .excRailOverClear s = .next { s with exc := { s.exc with railOver := false } }) ∧
    (2400 ≤ s.exc.railNow → s.exc.fold = false →
      ∃ t, exec .excRailFold s = .next t ∧ t.exc = { s.exc with fold := true } ∧ t = { s with exc := t.exc, msg := t.msg }) ∧
    (s.exc.railNow < 2400 → exec .excFoldClear s = .next { s with exc := { s.exc with fold := false } }) ∧
    (s.exc.exvdd < 11500 → s.any10V = true → s.exc.headroom = false →
      ∃ t, exec .excHeadroom s = .next t ∧ t.exc = { s.exc with headroom := true } ∧
        t = { s with exc := t.exc, msg := t.msg }) ∧
    (11500 ≤ s.exc.exvdd ∨ s.any10V = false →
      exec .excHeadroomClear s = .next { s with exc := { s.exc with headroom := false } })) ∧
  ∀ s : State, s.ready = true →
    (∃ t, exec .toneLockLoss s = .next t ∧ t.exc = { s.exc with lock := false, resume := false } ∧
      (∀ n ∈ s.zAssigned, (t.facet n).driveOff = true ∧ (t.facet n).faultNow &&& 0x100 ≠ 0) ∧ t.fpActive = s.fpActive) ∧
    (fld s.exc.ztone 0 1 = 1 → s.exc.lock = false →
      ∃ t, exec .toneLockReturn s = .next t ∧ t.exc = { s.exc with
        lock := true, resume := true, resumeStamp := s.ctl.stamp + 1 } ∧
        (∀ n ∈ s.zAssigned, (t.facet n).faultNow &&& 0x100 = 0 ∧ (t.facet n).driveOff = (s.facet n).driveOff)) ∧
    (s.exc.resume = true → s.due s.exc.resumeStamp = true →
      ∃ t, exec .zDrivesResume s = .next t ∧ t.exc = { s.exc with resume := false } ∧
        (∀ n ∈ s.zAssigned, (t.facet n).driveOff = false ∧ (t.facet n).settle ≠ []) ∧
        t = { s with exc := t.exc, facets := t.facets })

/-- ODEC stages the code of N_out for the facets of its scope, keeps every other staged word and puts nothing in force. A
bank request that fails a check is dropped with its cause; one that passes waits, in place of one that waited for its frame
boundary, which the model counts as queued (log 76), fades from a frame boundary over the outputs it asks for, and makes its
target the active bank when it ends. A user curve that passes its checks is copied to its active block at a frame boundary
with the next generation; one that fails does not wait (R115, R117, R125, R139 to R143). -/
def Obligations.CoefficientsAndCurves : Prop :=
  (∀ (m : Master) (code : BitVec 4) (scope : BitVec 2) (s : State), s.directs m 0x34 → code.toNat ≤ 10 →
    ∃ t, exec (.odecWrite m code scope) s = .next t ∧ t.chain.odecScope = scope.toNat ∧ t.fpActive = s.fpActive ∧
      (∀ n < 512, (scope.toNat = 3 ∨ (scope.toNat = 2 ∧ isZ n = true) ∨ (scope.toNat = 1 ∧ isZ n = false) ∨
          (scope.toNat = 0 ∧ n = (s.master m).fctSel)) →
        fld (t.fpS n 6) 0 4 = code.toNat ∧ fld (t.fpS n 6) 4 12 = fld (s.fpS n 6) 4 12) ∧
      (∀ n w, w < 32 → w ≠ 6 ∨ ¬(scope.toNat = 3 ∧ n < 512 ∨ (scope.toNat = 2 ∧ 448 ≤ n ∧ n < 512) ∨
          (scope.toNat = 1 ∧ n < 448) ∨ (scope.toNat = 0 ∧ n = (s.master m).fctSel)) → t.fpS n w = s.fpS n w) ∧
      t = { s with chain := t.chain, fpStaged := t.fpStaged, ctl := { s.ctl with acked := t.ctl.acked } }) ∧
  ((∀ (m : Master) (target sync : Bool) (s : State), s.directs m 0x35 →
    (s.bankCause (b2n target) (if sync then s.chain.shStaged else s.chain.shActive) ≠ 0 →
      ∃ t, exec (.bankSelGo m target sync) s = .next t ∧ t.chain.queue = s.chain.queue ∧ t.chain.bank = s.chain.bank ∧
        t.chain.cause = s.bankCause (b2n target) (if sync then s.chain.shStaged else s.chain.shActive)) ∧
    (s.bankCause (b2n target) (if sync then s.chain.shStaged else s.chain.shActive) = 0 →
      ∃ t, exec (.bankSelGo m target sync) s = .next t ∧ t.chain.cause = 0 ∧ t.chain.bank = s.chain.bank ∧
        t.chain.queue = some { target := b2n target, len := s.chain.xfadeLen.toNat, atSync := sync } ∧
        t.chain.replaced = (s.chain.replaced || s.chain.queue.isSome))) ∧
  (∀ (s : State) (q : FadeReq), s.ready = true → s.chain.fade = none → s.chain.queue = some q → q.atSync = false →
    s.due s.chain.queueStamp = true → s.chain.fadeBar ≠ some s.tick → s.stepsDone = true →
    ∃ t, exec .fadeStart s = .next t ∧ t.chain.queue = none ∧ t.chain.bank = s.chain.bank ∧
      (q.target ≠ s.chain.bank →
        ∃ g, t.chain.fade = some { start := s.tick, source := s.chain.bank, target := q.target, len := q.len, gen := g }) ∧
      (q.target = s.chain.bank → t.chain.fade = none ∧ fld t.ctl.irq1 4 1 = 1)) ∧
  ∀ (s : State) (fd : Fade), s.ready = true → s.chain.fade = some fd →
    (allFacets.filter fun n => !scheduled n (s.blkA n)).all (s.fadeDoneOn fd) = true →
    ∃ t, exec .fadeEnd s = .next t ∧ t.chain.bank = fd.target ∧ t.chain.fade = none ∧ fld t.ctl.irq1 4 1 = 1 ∧
      t = { s with chain := t.chain, ctl := { s.ctl with irq1 := t.ctl.irq1 } }) ∧
  (∀ (m : Master) (c : Fin 16) (s u : State), s.owns m 0x7D → s.winEntry m 0xC = 3 → (m = .host → s.ctl.svc = false) →
    (s.master m).clasp.isOpen = false → s.chargeWin m 0xC (c.val * 256) = some u →
    ∃ t, exec (.ucCtlAct m c) s = .next t ∧ (t.master m).winAddr = (s.master m).winAddr ∧
      (curveErr (fun w => s.ucS (48 + c.val) w) = 0 → ∃ st, (c.val, st, m) ∈ t.curvePend) ∧
      (curveErr (fun w => s.ucS (48 + c.val) w) ≠ 0 → t.curvePend = s.curvePend) ∧ t.fpActive = s.fpActive) ∧
  ∀ (c : Fin 16) (s : State) (st : Nat) (m : Master), s.ready = true →
    s.curvePend.find? (fun x => x.1 == c.val) = some (c.val, st, m) → s.turn st = true →
    ∃ t, exec (.userCurveActivation c) s = .next t ∧
      (∀ w, w = 0 ∨ (4 ≤ w ∧ w < 136) →
        Store.get 0 t.curves (0x1000 + c.val * 256 + w) = s.ucS (48 + c.val) w) ∧
      Store.get 0 t.curves (0x1000 + c.val * 256 + 2) = Store.get 0 s.curves (0x1000 + c.val * 256 + 2) + 1 ∧
      t.curvePend = s.curvePend.filter (fun x => x.1 != c.val)

/-- SYNC_NOW asks for a reset at the next tick; SYNC_ARM arms the tick that SYNC_AT names, unless it is nearer than 8 ticks;
SYNC_CANCEL disarms; in UNSET the first two ask for nothing. An enabled edge of the SYNC land, of the polarity and width
asked for, asks for a reset at the first tick 250 us after it or later. A reset that is due acts once and counts in
SYNC_STAT, with IRQ_STAT0.SYNC, and with MULTI where several were due (R179 to R181, R185). -/
def Obligations.SynchronisingResets : Prop :=
  (∀ (m : Master) (s : State), s.directs m 0x1C →
    (∃ t, exec (.syncNow m) s = .next t ∧ t.time = { s.time with
        syncCtl := t.time.syncCtl
        syncReq := if s.unset then s.time.syncReq else s.time.syncReq ++ [(s.tick + 1, 0)] } ∧
      t = { s with time := t.time, ctl := { s.ctl with acked := t.ctl.acked } }) ∧
    (∃ t, exec (.syncArm m) s = .next t ∧
      (s.unset = true → t.time = { s.time with syncCtl := t.time.syncCtl }) ∧
      (s.unset = false → ∀ y, nearest 32 s.time.syncAt s.tick = some y →
        (y < s.tick + 8 → t.time.syncLate = true ∧ t.time.armed = s.time.armed ∧ t.time.syncReq = s.time.syncReq) ∧
        (s.tick + 8 ≤ y → t.time.armed = some y ∧ (y, 1) ∈ t.time.syncReq)) ∧
      t = { s with time := t.time, ctl := { s.ctl with acked := t.ctl.acked } }) ∧
    (∃ t, exec (.syncCancel m) s = .next t ∧ t.time.armed = none ∧
      t.time.syncReq = s.time.syncReq.filter (fun r => r.2 != 1 && r.2 != 3) ∧
      t = { s with time := t.time, ctl := { s.ctl with acked := t.ctl.acked } })) ∧
  (∀ (fall : Bool) (width ns : Nat) (s : State), s.ctl.extest = false → s.ready = true → s.unset = false →
    (fld s.time.syncCtl 3 1 = 1 → (fld s.time.syncCtl 4 1 == 1) = fall → 1000 ≤ width → s.time.syncEdge = none →
      exec (.syncLandEdge fall width ns) s = .next { s with time := { s.time with
        syncEdge := some (s.nowNs ns)
        syncReq := s.time.syncReq ++ [((s.nowNs ns + 250000 + 249999) / 250000, 2)] } }) ∧
    (fld s.time.syncCtl 3 1 = 0 ∨ (fld s.time.syncCtl 4 1 == 1) ≠ fall ∨ width < 1000 →
      exec (.syncLandEdge fall width ns) s = .next s)) ∧
  ∀ (s : State) (y src : Nat) (more : List (Nat × Nat)), s.ready = true →
    s.time.syncReq.filter (fun r => decide (r.1 ≤ s.tick)) = (y, src) :: more →
    ∃ t, exec .syncReset s = .next t ∧ t.time.syncSrc = src ∧ t.time.syncCount = (s.time.syncCount + 1) % 256 ∧
      t.time.syncReq = s.time.syncReq.filter (fun r => !decide (r.1 ≤ s.tick)) ∧
      (more ≠ [] → t.time.syncMulti = true) ∧ fld t.ctl.irq0 4 1 = 1 ∧ t.time.tick = s.time.tick

/-- A PPS edge that counts sets the offset from the nearest whole second; in LOCKED_PPS one more than 10 us off is rejected;
3 s without one, with no other source, lead to HOLDOVER. A REF frame on a selected port is kept with its sequence number and
its start of frame; the third period missed in a row takes a follower of that port with no other master to HOLDOVER; a
sender sends one frame in each period with the next number; a backup starts once its master is lost; a device that starts to
send on the port it follows leaves it, to HOLDOVER where no other port is heard (R162, R163, R168, R171 to R174). -/
def Obligations.TimebaseIsSteered : Prop :=
  ((∀ (fall : Bool) (width ns e : Nat) (s : State), s.ctl.extest = false → s.ready = true → fld s.time.ctl 0 1 = 1 →
    (fld s.time.ctl 1 1 == 1) = fall → 1000 ≤ width → (∀ l, s.time.ppsLast = some l → l + 900000000 ≤ s.nowNs ns) →
    s.errNs = some e → e < 250000000 →
    (s.time.state ≠ .lockedPps ∨
        ((s.nowNs ns : Int) - ((s.nowNs ns + 500000000) / 1000000000 * 1000000000 : Nat)).natAbs ≤ 10000 →
      ∃ t, exec (.ppsEdge fall width ns) s = .next t ∧ t.time.ppsLast = some (s.nowNs ns) ∧ t.time.src = 1 ∧
        t.time.offset = (s.nowNs ns : Int) - ((s.nowNs ns + 500000000) / 1000000000 * 1000000000 : Nat) ∧
        t.time.tick = s.time.tick) ∧
    (s.time.state = .lockedPps →
      10000 < ((s.nowNs ns : Int) - ((s.nowNs ns + 500000000) / 1000000000 * 1000000000 : Nat)).natAbs →
      exec (.ppsEdge fall width ns) s = .next { s with time := { s.time with ppsRej := min 3 (s.time.ppsRej + 1) } })) ∧
  ∀ (s : State) (l : Nat), s.ready = true → s.time.src = 1 → s.time.ppsLast = some l → l + 3000000000 < s.nowNs 250000 →
    (∀ q ∈ s.refPorts, (s.refRx q).pairs = 0) →
    ∃ t, exec .ppsLost s = .next t ∧ t.time.state = .holdover ∧ t.time.src = 0 ∧ t.time.holdFrom = s.tick ∧
      t.time.holdE0 = s.time.window) ∧
  (∀ (p : Fin 3) (fr : Frame) (ns valid : Nat) (s u : State), s.ctl.extest = false → s.ready = true →
    u = s.frameReceived p.val fr ns → u.onBusOk p.val = true → (u.canPort p.val).mode ≠ 4 → idType fr = 0 →
    u.refSel p.val = true → fr.rtr = false → fr.ide = true → fr.fdf = true → 24 ≤ fr.data.length →
    (u.refTx p.val).sending = false → (u.refRx p.val).last = none →
    ∃ t, exec (.refFrameReceive p fr ns valid) s = .next t ∧
      (t.refRx p.val).last = some (leNat (fr.data.take 2), ns) ∧ (t.refRx p.val).missed = 0 ∧
      (t.refRx p.val).mstation = idStation fr ∧ t.time.tick = s.time.tick ∧
      (refRank (leNat ((fr.data.drop 12).take 1) % 8) (idStation fr) < refRank (fld u.time.refCtl 2 3) u.ctl.station →
        (t.refRx p.val).lost = false)) ∧
  (∀ (p : Fin 3) (s : State) (q l : Nat), s.ready = true → (s.refRx p.val).last = some (q, l) → s.refSel p.val = true →
    (s.refRx p.val).missed < 3 →
    l + (s.refRx p.val).period * 1500000 + (s.refRx p.val).missed * (s.refRx p.val).period * 1000000 < s.nowNs 250000 →
    ∃ t, exec (.refPeriodMissed p) s = .next t ∧ (t.refRx p.val).missed = (s.refRx p.val).missed + 1 ∧
      ((s.refRx p.val).missed = 2 → s.time.src = 2 + p.val → s.time.refPort = p.val → s.unset = false →
        (∀ q < 3, q ≠ p.val → s.refHeard q = false) → t.time.state = .holdover ∧ t.time.src = 0)) ∧
  (∀ (p : Fin 2) (s : State), s.ready = true → (s.refTx p.val).sending = true → s.mayRef p.val = true →
    s.tick % (4 * s.time.refPeriod.toNat) = 0 → (s.refTx p.val).sentAt ≠ some s.tick →
    ∃ t, exec (.refSend p) s = .next t ∧ (t.refTx p.val).seq = ((s.refTx p.val).seq + 1) % 65536 ∧
      (t.refTx p.val).sentAt = some s.tick ∧ (∃ i < 2, ((t.canPort p.val).mbox i).full = true) ∧
      t = { s with time := t.time, can := t.can }) ∧
  ∀ (p : Fin 2) (s : State), s.ready = true → (s.refTx p.val).sending = false → s.mayRef p.val = true →
    s.tick % (4 * s.time.refPeriod.toNat) = 0 →
    (fld s.time.refCtl 0 2 = 1 ∧ (s.refRx p.val).lost = true ∧ (s.refTx p.val).listen = false) ∨
      (fld s.time.refCtl 0 2 = 2 ∧ (s.refTx p.val).quietFrom + s.listenTicks ≤ s.tick) →
    ∃ t, exec (.refSenderStart p) s = .next t ∧ (t.refTx p.val).sending = true ∧
      t = { s with time := t.time, ctl := t.ctl, msg := t.msg } ∧ (s.time.src < 2 → t = { s with time := t.time }) ∧
      (s.time.src = 2 + p.val → s.time.refPort = p.val → (∀ q < 3, q ≠ p.val → s.refHeard q = false) →
        t.time.state = .holdover ∧ t.time.src = 0)

/-- FREE is decided 10 s after UNSET began, where it is allowed. At its tick a continuation takes the new count, enters its
state and starts acquisition; a step takes the new count alone. Both set IRQ_STAT0.TB_STEP (R159, R160, R176). -/
def Obligations.TheCountChangesWhereDecided : Prop :=
  (∀ s : State, s.life.phase = .settled → s.time.state = .unset → fld s.time.ctl 2 1 = 1 →
    s.time.unsetFrom + 40000 ≤ s.tick → s.time.cont = none →
    ∃ t, exec .freeEntry s = .next t ∧ (∃ y k, t.time.cont = some (y, k, .free, 0) ∧ y % 4 = 0) ∧ t = { s with time := t.time }) ∧
  (∀ (s : State) (y k src : Nat) (st : TbState), s.ready = true → s.time.cont = some (y, k, st, src) → s.tick = k →
    ∃ t, exec .timebaseContinuation s = .next t ∧ t.time.tick = y ∧ t.time.state = st ∧ t.time.src = src ∧
      t.time.cont = none ∧ t.time.acquiring = true ∧ fld t.ctl.irq0 3 1 = 1 ∧ t.ctl.modeRun = true) ∧
  ∀ (s : State) (y k : Nat) (x : Int), s.ready = true → s.time.step = some (y, k, x) → s.tick = k →
    ∃ t, exec .timeStep s = .next t ∧ t.time.tick = y ∧ t.time.step = none ∧ fld t.ctl.irq0 3 1 = 1 ∧
      t.time.state = s.time.state ∧ (y ≤ k → t.time.noRepeat = some (max k (s.time.noRepeat.getD 0)))

/-- At a frame boundary, after its commits, the mode becomes what the mode policy asks for, with its cause, IRQ_STAT1.MODE
and an entry in the log; where that runs already nothing changes. A forced policy gives cause 4. Under Auto a selected port
that has been VALID and at the minimum speed for 2,000 ms brings Tally with cause 1; Survey returns once no selected port
holds Tally, with cause 3 where every selected port is out of VALID and 2 otherwise, and one port that holds keeps Tally.
Before the mode is evaluated, in UNSET, it is Survey (R216 to R219). -/
def Obligations.ModeFollowsThePolicy : Prop :=
  ∀ s : State, s.ready = true → s.ctl.frameAt = some s.tick → s.commitStamps.any s.due = false →
    (s.modeWanted.1 ≠ s.ctl.tally →
      ∃ t, exec .modeChange s = .next t ∧ t.ctl.tally = s.modeWanted.1 ∧ t.ctl.modeCause = s.modeWanted.2 ∧
        fld t.ctl.irq1 1 1 = 1 ∧ t.time = s.time ∧ t.fpActive = s.fpActive) ∧
    (s.modeWanted.1 = s.ctl.tally → exec .modeChange s = .next s) ∧
    (s.ctl.modeRun = true → s.ctl.modeSel = 1 → s.ctl.tally = true →
      ∃ t, exec .modeChange s = .next t ∧ t.ctl.tally = false ∧ t.ctl.modeCause = 4 ∧ t.fpActive = s.fpActive ∧
        ∃ e, Store.get none t.log ((t.logSeq + 65535) % 65536 % 256) = some e ∧ e.code = 9) ∧
    (s.ctl.modeRun = true → s.ctl.modeSel = 2 → s.ctl.tally = false →
      ∃ t, exec .modeChange s = .next t ∧ t.ctl.tally = true ∧ t.ctl.modeCause = 4 ∧ t.fpActive = s.fpActive ∧
        ∃ e, Store.get none t.log ((t.logSeq + 65535) % 65536 % 256) = some e ∧ e.code = 9) ∧
    (∀ p b, s.ctl.modeRun = true → s.ctl.modeSel = 0 → s.ctl.tally = false → p < 4 →
      fld s.ctl.tallyCtl (10 + p) 1 = 1 → (s.port p).fastFrom = some b → b + 8000 ≤ s.tick →
      ∃ t, exec .modeChange s = .next t ∧ t.ctl.tally = true ∧ t.ctl.modeCause = 1 ∧ fld t.ctl.irq1 1 1 = 1) ∧
    (s.ctl.modeRun = true → s.ctl.modeSel = 0 → s.ctl.tally = true →
      (∀ p < 4, fld s.ctl.tallyCtl (10 + p) 1 = 1 →
        (s.port p).st ≠ .valid ∨ ∃ b, (s.port p).slowFrom = some b ∧ b + 20000 ≤ s.tick) →
      ∃ t, exec .modeChange s = .next t ∧ t.ctl.tally = false ∧ fld t.ctl.irq1 1 1 = 1 ∧
        ((∃ p < 4, fld s.ctl.tallyCtl (10 + p) 1 = 1) →
          (∀ p < 4, fld s.ctl.tallyCtl (10 + p) 1 = 1 → (s.port p).st ≠ .valid) → t.ctl.modeCause = 3) ∧
        ((∀ p < 4, fld s.ctl.tallyCtl (10 + p) 1 = 0) ∨
          (∃ p < 4, fld s.ctl.tallyCtl (10 + p) 1 = 1 ∧ (s.port p).st = .valid) → t.ctl.modeCause = 2)) ∧
    (∀ p, s.ctl.modeRun = true → s.ctl.modeSel = 0 → s.ctl.tally = true → p < 4 → fld s.ctl.tallyCtl (10 + p) 1 = 1 →
      (s.port p).st = .valid → (∀ b, (s.port p).slowFrom = some b → s.tick < b + 20000) →
      exec .modeChange s = .next s) ∧
    (s.ctl.modeRun = false → s.ctl.tally = true →
      ∃ t, exec .modeChange s = .next t ∧ t.ctl.tally = false ∧ t.ctl.modeCause = 0)

/-- An edge of PA or PB moves the odometer by the resolution, with the sign that the channels and DIR give; a quadrature
error counts and shows in POS_STAT, and at its limit takes the port out of VALID; a disabled port counts nothing, and the
filter takes a short pulse and its return away. In SEEKING a pulse whose intervals match one marker alone identifies it; in
VALID one in its window that matches is identified, with its slip. A marker pulse that is disabled, of the wrong polarity,
of a port that is OFF, within 50 mm of the last, or the return from one that the filter took away is ignored; in VALID one
off its window is spurious and one that does not come is missed, each counts, and the limit of events takes the port out of
VALID (R190 to R204). -/
def Obligations.PositionPortsCountAndIdentify : Prop :=
  (∀ (p : Fin 4) (s : State), s.ctl.extest = false → s.ready = true →
    (∀ (e : QuadEdge) (b level : Bool) (width ns : Nat), fld (s.port p.val).cfgAct 0 1 = 1 →
      (s.port p.val).filterNs ≤ width → (s.port p.val).change e = some (.edge b level) →
      (s.port p.val).tooClose (.edge b level) (s.nowNs ns) = false →
      ∃ t, exec (.quadratureEdge p ⟨e, width, ns⟩) s = .next t ∧
        (t.port p.val).odo = (s.port p.val).odo +
          (if ((if b then level == (s.port p.val).pa else level != (s.port p.val).pb) != (s.port p.val).cfgA.dir) = true
           then ((s.port p.val).cfgA.res : Rat) / 1000000 else -(((s.port p.val).cfgA.res : Rat) / 1000000)) ∧
        (t.port p.val).qerrCnt = (s.port p.val).qerrCnt ∧ ∀ k, k ≠ p.val → t.port k = s.port k) ∧
    (∀ (e c : QuadEdge) (width ns : Nat), fld (s.port p.val).cfgAct 0 1 = 1 → (s.port p.val).filterNs ≤ width →
      (s.port p.val).change e = some c → (s.port p.val).tooClose c (s.nowNs ns) = true →
      ∃ t, exec (.quadratureEdge p ⟨e, width, ns⟩) s = .next t ∧ (t.port p.val).qerr = true ∧
        (t.port p.val).qerrCnt = satInc (s.port p.val).qerrCnt ∧ (t.port p.val).odo = (s.port p.val).odo ∧
        ((s.port p.val).st = .valid → (s.port p.val).cfgA.qerrLim ≤ (s.port p.val).qerrs + 1 →
          (t.port p.val).next = some .seeking) ∧ ∀ k, k ≠ p.val → t.port k = s.port k) ∧
    (∀ (e c : QuadEdge) (width ns : Nat), (s.port p.val).filterNs ≤ width → (s.port p.val).change e = some c →
      fld (s.port p.val).cfgAct 0 1 = 0 →
      exec (.quadratureEdge p ⟨e, width, ns⟩) s = .next (s.setPort p.val ((s.port p.val).takeEdge c (s.nowNs ns)))) ∧
    (∀ (e : QuadEdge) (width ns : Nat), width < (s.port p.val).filterNs ∨ (s.port p.val).change e = none → exec (.quadratureEdge p ⟨e, width, ns⟩) s = .next s)) ∧
  (∀ (p : Fin 4) (fall : Bool) (width : Nat) (s : State), s.ctl.extest = false → s.ready = true →
    (width < (s.port p.val).filterNs →
      exec (.markerPulse p ⟨fall, width⟩) s = .next (s.setPort p.val { s.port p.val with pzGlitch := some fall })) ∧
    ((s.port p.val).filterNs ≤ width →
      (s.port p.val).pzGlitch = some (!fall) ∨ fld (s.port p.val).cfgAct 0 1 = 0 ∨ (s.port p.val).st = .off ∨
        (fld (s.port p.val).cfgAct 2 1 == 1) ≠ fall ∨ (s.port p.val).dead.isSome = true →
      exec (.markerPulse p ⟨fall, width⟩) s = .next (s.setPort p.val { s.port p.val with pzGlitch := none }))) ∧
  (∀ (p : Fin 4) (fall : Bool) (width j : Nat) (s : State), s.ctl.extest = false → s.ready = true →
    (s.port p.val).filterNs ≤ width → fld (s.port p.val).cfgAct 0 1 = 1 → (s.port p.val).st = .seeking →
    (s.port p.val).next = none → (fld (s.port p.val).cfgAct 2 1 == 1) = fall → (s.port p.val).dead = none → (s.port p.val).pzGlitch ≠ some (!fall) →
    (List.range (min (s.port p.val).cfgA.nmark 64)).filter
      ((s.port p.val).matchSig ((s.port p.val).withPulse (s.port p.val).odo)) = [j] →
    ∃ t, exec (.markerPulse p ⟨fall, width⟩) s = .next t ∧ (t.port p.val).next = some .valid ∧ (t.port p.val).lastMark = j ∧
      (t.port p.val).u = ((s.port p.val).cfgA.mark j : Rat) ∧ ∀ k, k ≠ p.val → t.port k = s.port k) ∧
  (∀ (p : Fin 4) (fall : Bool) (width : Nat) (s : State) (e : Rat), s.ctl.extest = false → s.ready = true →
    (s.port p.val).filterNs ≤ width → fld (s.port p.val).cfgAct 0 1 = 1 → (s.port p.val).st = .valid →
    (s.port p.val).next = none → (fld (s.port p.val).cfgAct 2 1 == 1) = fall → (s.port p.val).dead = none → (s.port p.val).pzGlitch ≠ some (!fall) →
    e = circ (s.port p.val).len ((s.port p.val).u - ((s.port p.val).cfgA.mark (s.port p.val).want : Rat)) →
    rabs e * 200 ≤ ((s.port p.val).cfgA.ival (s.port p.val).want : Rat) →
    (s.port p.val).matchSig ((s.port p.val).withPulse (s.port p.val).odo) (s.port p.val).want = true →
    ∃ t, exec (.markerPulse p ⟨fall, width⟩) s = .next t ∧ (t.port p.val).lastMark = (s.port p.val).want ∧
      (t.port p.val).events = 0 ∧ (t.port p.val).qerrs = 0 ∧ (t.port p.val).slipLast = roundHalf (e * 10) ∧
      (t.port p.val).spurCnt = (s.port p.val).spurCnt ∧ (t.port p.val).st = .valid ∧
      (t.port p.val).want = (s.port p.val).nextMark (s.port p.val).want ∧ ∀ k, k ≠ p.val → t.port k = s.port k) ∧
  (∀ (p : Fin 4) (fall : Bool) (width : Nat) (s : State), (s.port p.val).filterNs ≤ width → s.ctl.extest = false → s.ready = true →
    fld (s.port p.val).cfgAct 0 1 = 1 → (s.port p.val).st = .valid → (s.port p.val).next = none →
    (fld (s.port p.val).cfgAct 2 1 == 1) = fall → (s.port p.val).dead = none → (s.port p.val).pzGlitch ≠ some (!fall) →
    ((s.port p.val).cfgA.ival (s.port p.val).want : Rat) <
      rabs (circ (s.port p.val).len ((s.port p.val).u - ((s.port p.val).cfgA.mark (s.port p.val).want : Rat))) * 200 →
    ∃ t, exec (.markerPulse p ⟨fall, width⟩) s = .next t ∧ (t.port p.val).spurCnt = satInc (s.port p.val).spurCnt ∧
      (t.port p.val).events = (s.port p.val).events + 1 ∧ (t.port p.val).lastMark = (s.port p.val).lastMark ∧
      ((s.port p.val).cfgA.missLim ≤ (s.port p.val).events + 1 → (t.port p.val).next = some .seeking) ∧
      t = { s with ports := t.ports }) ∧
  ∀ (p : Fin 4) (s : State), s.ready = true → (s.port p.val).st = .valid → (s.port p.val).next = none →
    ((s.port p.val).cfgA.ival (s.port p.val).want : Rat) / 200 < (s.port p.val).beyond →
    ∃ t, exec (.markerMissed p) s = .next t ∧ (t.port p.val).missCnt = satInc (s.port p.val).missCnt ∧
      (t.port p.val).events = (s.port p.val).events + 1 ∧
      ((s.port p.val).cfgA.missLim ≤ (s.port p.val).events + 1 → (t.port p.val).next = some .seeking) ∧
      t = { s with ports := t.ports, msg := t.msg }

/-- POS_CFG.APPLY checks the staged block of the selected port and reports its cause or asks for activation; at its turn the
staged words, the staged length and the enable are in force. A write of POS_REV waits for the frame boundary where the port
counts its own revolutions and is on, and is refused otherwise (R194, R196, R211). -/
def Obligations.PortBlocksActivate : Prop :=
  (∀ (m : Master) (cfg : BitVec 5) (s : State), s.directs m 0x41 →
    let p := (s.master m).posSel
    let k := s.portCause p ({ s.port p with cfg := w16 cfg.toNat, cfgPend := true } : PosPort).cfgS
      ({ s with ports := Store.set {} s.ports p { s.port p with cfg := w16 cfg.toNat, cfgPend := true } } : State).cand
    ∃ t, exec (.posCfgApply m cfg) s = .next t ∧ (t.port p).cfg = w16 cfg.toNat ∧ (t.port p).cfgPend = true ∧
      (t.port p).cause = k ∧ (t.port p).active = (s.port p).active ∧ (t.port p).len = (s.port p).len ∧
      (k = 0 → (t.port p).actPend = some (s.ctl.stamp + 1, m)) ∧ (k ≠ 0 → (t.port p).actPend = (s.port p).actPend)) ∧
  (∀ (p : Fin 4) (s : State) (st : Nat) (m : Master), s.ready = true → (s.port p.val).actPend = some (st, m) →
    s.turn st = true →
    ∃ t, exec (.portActivation p) s = .next t ∧ (t.port p.val).active = (s.port p.val).staged ∧
      (t.port p.val).len = (s.port p.val).lenStaged ∧ (t.port p.val).actPend = none ∧
      fld (t.port p.val).cfgAct 1 1 = fld (s.port p.val).cfg 1 1) ∧
  ∀ (m : Master) (v : Word) (s : State), s.directs m 0x46 →
    ((s.port (s.master m).posSel).cfgA.revSrc = 0 → (s.port (s.master m).posSel).st ≠ .off →
      exec (.posRevWrite m v) s = .next ((s.setPort (s.master m).posSel
        { s.port (s.master m).posSel with revPend := some v.toNat }).ack m true)) ∧
    ((s.port (s.master m).posSel).cfgA.revSrc ≠ 0 ∨ (s.port (s.master m).posSel).st = .off →
      exec (.posRevWrite m v) s = .next (s.ack m true))

/-- BEAD_CTL takes the ports written unless they would need more than 48 open beads, which BEAD_STAT.REJ reports. A bead
that is forced to close, or that every facet of its port has passed, closes at a frame boundary: its record takes the next
sequence number and IRQ_STAT1.BEAD is set, and with PUB its BEAD message goes to egress; with BEAD's budget spent its record
waits. One that waited for a place opens late, INCOMPLETE (R223, R230, R245). -/
def Obligations.BeadsOpenAndClose : Prop :=
  (∀ (m : Master) (ports : BitVec 4) (pub : Bool) (s : State), s.directs m 0x49 →
    (({ s.cand with mask := ports.toNat } : Cand).needSum ≤ 48 →
      exec (.beadPortsWrite m ports pub) s =
        .next (({ s with bead := { s.bead with ctl := w16 (ports.toNat + 16 * b2n pub) } }).ack m true)) ∧
    (48 < ({ s.cand with mask := ports.toNat } : Cand).needSum → fld s.bead.ctl 0 4 ≠ ports.toNat →
      ∃ t, exec (.beadPortsWrite m ports pub) s = .next t ∧ t.bead.rej = true ∧
        fld t.bead.ctl 0 4 = fld s.bead.ctl 0 4 ∧ t.bead.beads = s.bead.beads)) ∧
  (∀ (p : Fin 4) (rev idx : Nat) (s : State) (b : Bead) (bs : List Bead) (c k : Nat), s.ready = true →
    s.ctl.frameAt = some s.tick → s.bead.beads = b :: bs → b.port = p.val → b.rev = rev → b.idx = idx →
    (b.forced = some (c, k) ∧ k ≤ s.tick) ∨ (b.forced = none ∧ s.beadDone b = true ∧ c = 0) →
    (∀ u, s.bead.closing = [] → s.spend actBead 8 = some u →
      ∃ t, exec (.beadClose p rev idx) s = .next t ∧ t.bead.beads = bs ∧ t.bead.seq = (s.bead.seq + 1) % 65536 ∧
        fld t.ctl.irq1 0 1 = 1 ∧ t.facets = s.facets ∧ t.ports = s.ports ∧ t.time = s.time ∧
        (fld s.bead.ctl 4 1 = 1 → ∃ r : Rec, r.ty = .bead ∧ t.msg.out = s.msg.out ++ [(2, r)] ∧
          r.data = b.bytes b.emptyQ c ((s.bead.seq + 1) % 65536) (s.tick % 2 ^ 48))) ∧
    (s.bead.closing ≠ [] ∨ s.spend actBead 8 = none →
      ∃ t, exec (.beadClose p rev idx) s = .next t ∧ t.bead.beads = bs ∧ t.bead.seq = s.bead.seq ∧
        t.bead.closing = s.bead.closing ++ [(b, c, s.tick)] ∧ t.msg = s.msg ∧ t.facets = s.facets)) ∧
  ∀ (p : Fin 4) (s : State) (w : WaitBead) (ws : List WaitBead), s.ready = true → s.bead.beads.length < 48 →
    (s.beadPort p.val).wait = w :: ws →
    ∃ t b, exec (.beadLateOpen p) s = .next t ∧ t.bead.beads = s.bead.beads ++ [b] ∧ b.port = p.val ∧ b.rev = w.rev ∧
      b.idx = w.idx ∧ b.openTick = s.tick ∧ fld b.flags 0 1 = 1 ∧ t.bead.late = true ∧ (t.beadPort p.val).wait = ws ∧
      t = { s with bead := t.bead, msg := t.msg }

/-- GO while a run waits or learns, or while a belt-scale run of the port runs, is ignored; it fails with cause 1 on a port
out of VALID, and waits on one that can learn; ABORT ends a run with cause 8; at the wrap the run learns, and once its
revolutions are done it puts its profile in force or fails with the code of its checks. PB_TARE_LOAD waits for the wrap and
then puts the staged profile in force (R236 to R239, R462). -/
def Obligations.TareIsLearnedAndLoaded : Prop :=
  ((∀ (m : Master) (p : BitVec 2) (revs : BitVec 3) (tol : BitVec 2) (s : State), s.directs m 0x4C →
    (s.bead.tareState = 1 ∨ s.bead.tareState = 2 →
      ∃ t, exec (.tareGo m p revs tol) s = .next t ∧ t.bead.tareState = s.bead.tareState ∧
        t.bead.tarePort = s.bead.tarePort ∧ t.bead.tareAcc = s.bead.tareAcc) ∧
    (∀ r, s.cal.run = some r → (r.proc = 7 ∨ r.proc = 8) → r.target = 0x240 + p.toNat →
      ∃ t, exec (.tareGo m p revs tol) s = .next t ∧ t.bead = { s.bead with tareCtl := t.bead.tareCtl }) ∧
    ((∀ r, s.cal.run = some r → (r.proc ≠ 7 ∧ r.proc ≠ 8) ∨ r.target ≠ 0x240 + p.toNat) →
      s.bead.tareState ≠ 1 → s.bead.tareState ≠ 2 → (s.port p.toNat).st ≠ .valid →
      ∃ t, exec (.tareGo m p revs tol) s = .next t ∧ t.bead.tareState = 4 ∧ t.bead.tareCause = 1 ∧ fld t.ctl.irq1 3 1 = 1) ∧
    ((∀ r, s.cal.run = some r → (r.proc ≠ 7 ∧ r.proc ≠ 8) ∨ r.target ≠ 0x240 + p.toNat) →
      s.bead.tareState ≠ 1 → s.bead.tareState ≠ 2 → (s.port p.toNat).st = .valid → s.tareRoom p.toNat = true →
      s.loadOf p.toNat ≠ [] →
      ∃ t, exec (.tareGo m p revs tol) s = .next t ∧ t.bead.tareState = 1 ∧ t.bead.tarePort = p.toNat ∧
        t.bead.tareRevs = revs.toNat + 1 ∧ t.bead.tareTol = tol.toNat)) ∧
  (∀ (m : Master) (s : State), s.directs m 0x4C →
    (s.bead.tareState = 1 ∨ s.bead.tareState = 2 →
      ∃ t, exec (.tareAbort m) s = .next t ∧ t.bead.tareState = 4 ∧ t.bead.tareCause = 8 ∧ t.ports = s.ports) ∧
    (s.bead.tareState ≠ 1 → s.bead.tareState ≠ 2 →
      ∃ t, exec (.tareAbort m) s = .next t ∧ t.bead = { s.bead with tareCtl := t.bead.tareCtl })) ∧
  (∀ s : State, s.ready = true → s.bead.tareState = 1 → s.bead.tareWrap.isSome = true →
    ∃ t, exec .tareLearnStart s = .next t ∧ t.bead.tareState = 2 ∧ t = { s with bead := t.bead }) ∧
  ∀ s : State, s.ready = true → s.bead.tareState = 2 → s.bead.tareRevs ≤ s.bead.tareDone →
    ∃ t, exec .tareRunEnd s = .next t ∧ fld t.ctl.irq1 3 1 = 1 ∧
      (let l := learnProfile s.bead (s.port s.bead.tarePort).len
       if l.code = 0 then t.bead.tareState = 3 ∧ t.bead.tareCause = 0 ∧
         (t.port s.bead.tarePort).tareGen = ((s.port s.bead.tarePort).tareGen + 1) % 65536 ∧
         (t.port s.bead.tarePort).tareLen = some (s.port s.bead.tarePort).len ∧
         (t.port s.bead.tarePort).tareMean = l.mean
       else t.bead.tareState = 4 ∧ t.bead.tareCause = l.code ∧ t.ports = s.ports)) ∧
  (∀ (m : Master) (p : Fin 4) (s u : State), s.owns m 0x7D → s.winEntry m 4 = 3 → (m = .host → s.ctl.svc = false) →
    (s.master m).clasp.isOpen = false → s.chargeWin m 4 (p.val * 0x40000 + 0x3F144) = some u →
    s.bead.tareState ≠ 1 → s.bead.tareState ≠ 2 →
    ∃ t, exec (.pbTareLoad m p) s = .next t ∧ (t.port p.val).tareLoad = true ∧ (t.beadPort p.val).wrapSeen = false ∧
      (t.port p.val).tare = (s.port p.val).tare ∧ ∀ k, k ≠ p.val → t.port k = s.port k) ∧
  ∀ (p : Fin 4) (s : State), s.ready = true → (s.port p.val).tareLoad = true → (s.beadPort p.val).wrapSeen = true →
    ∃ t, exec (.tareLoadActivation p) s = .next t ∧ (t.port p.val).tareLoad = false ∧
      (t.port p.val).tareLen = some (s.port p.val).len ∧ (t.port p.val).tareMean = (s.port p.val).tareStgMean.toInt ∧
      (t.port p.val).tareGen = ((s.port p.val).tareGen + 1) % 65536 ∧ fld t.ctl.irq1 3 1 = 1 ∧
      t = { s with ports := t.ports, bead := t.bead, ctl := { s.ctl with irq1 := t.ctl.irq1 } }

/-- The oldest loss that is over, has reached 4,000 ticks or is the record of a step, a calibration or a bead is recorded
with IRQ_STAT0.GAP, at most 4,000 ticks of a loss that continues in time; the rest of it stays. Causes ACQ, TIME_STEP and
CAL are entered in the log. With no record held it takes the next gap number and goes to egress, or is held; with one held
it merges into that one, as MIXED and over both spans. A held record is staged once there is room and budget, and waits
otherwise (R276, R277, R329). -/
def Obligations.GapsAreRecorded : Prop :=
  (∀ (s : State) (pre post : List Loss) (g : Loss), s.ready = true → s.msg.losses = pre ++ g :: post →
    (∀ l ∈ pre, l.over s.tick = false) → g.until_ < s.tick ∨ 4000 ≤ g.len ∨ g.cause ∈ [2, 6, 7] →
    ∃ t, exec .gapRecord s = .next t ∧ fld t.ctl.irq0 5 1 = 1 ∧ t.bead = s.bead ∧ t.facets = s.facets ∧ t.time = s.time ∧
      (4000 < g.len → g.cause ∉ [2, 6, 7] →
        t.msg.losses = pre ++ { g with start := g.start + 4000, len := g.len - 4000 } :: post) ∧
      (g.len ≤ 4000 ∨ (g.cause ∈ [2, 6, 7] ∧ g.len < 2 ^ 32) → t.msg.losses = pre ++ post) ∧
      (g.cause ∈ [1, 2, 6] → ∃ e, Store.get none t.log ((t.logSeq + 65535) % 65536 % 256) = some e ∧ e.code = 8) ∧
      (g.cause ∉ [1, 2, 6] → t.log = s.log) ∧
      ((s.canPort (s.routeOf .gap 2)).held = none → t.msg.seq.gap = (s.msg.seq.gap + 1) % 65536 ∧
        ((∃ r : Rec, r.ty = .gap ∧ t.msg.out = s.msg.out ++ [(2, r)] ∧
            r.data = gapBody ((s.msg.seq.gap + 1) % 65536) { g with len := min g.len g.limit } s.tick) ∨
          ∃ h, (t.canPort (s.routeOf .gap 2)).held = some h ∧ h.seq = (s.msg.seq.gap + 1) % 65536 ∧
            h.gap = { g with len := min g.len g.limit } ∧ h.made = s.tick)) ∧
      ∀ h, (s.canPort (s.routeOf .gap 2)).held = some h → t.msg.seq.gap = s.msg.seq.gap ∧ t.msg.out = s.msg.out ∧
        ∃ h', (t.canPort (s.routeOf .gap 2)).held = some h' ∧ h'.seq = h.seq ∧ h'.gap.cause = 255 ∧
          h'.gap.first = min h.gap.first g.first ∧ h'.gap.last = max h.gap.last g.last ∧
          h'.gap.start = min h.gap.start g.start) ∧
  ∀ (p : Fin 2) (s : State) (h : HeldGap), (s.canPort p.val).held = some h →
    (∀ u, s.hasRoom p.val .gap = true → s.spend actEgr 3 = some u →
      ∃ t, exec (.gapHeldRecordQueue p) s = .next t ∧ (t.canPort p.val).held = none ∧
        (t.canPort p.val).staging = (s.canPort p.val).staging ++ [u.gapRec h.seq h.gap h.made] ∧
        t = { s with budget := u.budget, can := t.can, cap := t.cap } ∧
        (s.cap.hsRun = false → s.cap.st ≠ .stream → t.cap = s.cap)) ∧
    (s.hasRoom p.val .gap = false → exec (.gapHeldRecordQueue p) s = .next s) ∧
    (s.hasRoom p.val .gap = true → s.spend actEgr 3 = none →
      ∃ t, exec (.gapHeldRecordQueue p) s = .next t ∧ (t.canPort p.val).held = some h ∧
        t = { s with budget := t.budget, ctl := t.ctl })

/-- EN starts the sequencer at the next frame boundary unless a state of its table is bad; FORCE asks for a trigger; an edge
of TRIG_IN of 1 us or more is kept with its direction. ARM is refused in UNSET and while a capture fills, records or
streams; accepted, it empties the region and waits; the ring fills from a frame boundary, and the automatic trigger fires
once its time has passed (R258 to R264, R266). -/
def Obligations.TriggersAndArming : Prop :=
  ((∀ (m : Master) (s : State), s.directs m 0x50 →
    ((List.range 8).any (fun i => (s.trgState i).bad) = false → s.trg.en = false →
      exec (.trgEnable m) s = .next (({ s with trg := { s.trg with
        en := true, cause := 0, startPend := true, running := false } }).ack m true)) ∧
    ((List.range 8).any (fun i => (s.trgState i).bad) = true →
      exec (.trgEnable m) s = .next (({ s with trg := { s.trg with en := false, cause := 1 } }).ack m true)) ∧
    ∃ t, exec (.trgForce m) s = .next t ∧ t.trg.force = true ∧
      t.trg.en = (s.trg.en && !(List.range 8).any fun i => (s.trgState i).bad) ∧
      t = { s with trg := t.trg, ctl := { s.ctl with acked := t.ctl.acked } }) ∧
  ∀ (fall : Bool) (width : Nat) (s : State), s.ctl.extest = false → s.ready = true →
    exec (.trigInEdge fall width) s = .next (
      if width < 1000 then s
      else if fall then { s with trg := { s.trg with edgeF := true } }
      else { s with trg := { s.trg with edgeR := true } })) ∧
  (∀ (m : Master) (s : State), s.directs m 0x57 → s.csFirst ≤ s.csLast → s.csLast ≤ 511 →
    (s.unset = false → s.cap.st = .idle ∨ s.cap.st = .hold →
      ∃ t, exec (.capArm m) s = .next t ∧ t.cap.st = .idle ∧ t.cap.armPend = true ∧ t.cap.cause = 0 ∧ t.cap.mem = [] ∧
        t.cap.lines = [] ∧ t.trg.logMiss = true) ∧
    (s.unset = true → ∃ t, exec (.capArm m) s = .next t ∧ t.cap.cause = 2 ∧ t.cap.st = s.cap.st ∧
      t.cap.armPend = s.cap.armPend) ∧
    (s.unset = false → s.cap.st = .fill ∨ s.cap.st = .post ∨ s.cap.st = .stream →
      ∃ t, exec (.capArm m) s = .next t ∧ t.cap.cause = 3 ∧ t.cap.st = s.cap.st ∧ t.cap.mem = s.cap.mem) ∧
    (s.unset = false → s.cap.st = .rearm →
      ∃ t, exec (.capArm m) s = .next t ∧ t.cap.cause = 0 ∧ t.cap.st = .rearm ∧ t.cap.armStamp = s.cap.armStamp)) ∧
  (∀ s : State, s.ready = true → s.unset = false → s.due s.cap.armStamp = true →
    (s.cap.st = .idle ∧ s.cap.armPend = true) ∨ s.cap.st = .rearm →
    ∃ t, exec .fillStart s = .next t ∧ t.cap.st = .fill ∧ t.cap.f = s.tick ∧ t.cap.armPend = false ∧ t.cap.mem = [] ∧
      t.cap.seq = s.cap.seq ∧ t = { s with cap := t.cap, ctl := { s.ctl with irq1 := t.ctl.irq1 } }) ∧
  ∀ s : State, s.ready = true → s.cap.st = .fill → s.cap.autoMs ≠ 0 → s.cap.f + 4 * s.cap.autoMs ≤ s.tick →
    ∃ t, exec .autoTrigger s = .next t ∧ t.cap.srcState = 9 ∧ t.cap.t = s.tick ∧ t.cap.seq = (s.cap.seq + 1) % 65536 ∧
      t.cap.endTick = s.tick + s.cap.p - 1 ∧ t.trg.count = (s.trg.count + 1) % 256 ∧
      t.cap.st = (if s.cap.c < min s.cap.grant (s.tick - s.cap.f) + s.cap.p then .stream else .post)

/-- A capture that has recorded its span is held, with IRQ_STAT1.CAP_HOLD; RELEASE ends a held one, which arms again where
REARM is set; ABORT asks a running one to end. A streamed capture drains its lines behind its header and in order while the
queue has room, drops a line that CAPT's budget cannot carry, and ends once the last is drained (R267, R268, R270, R272). -/
def Obligations.CapturesHoldDrainAndEnd : Prop :=
  ((∀ s : State, s.ready = true → s.cap.st = .post → s.spanFormed s.capSpan s.cap.endTick = true →
    ∃ t, exec .captureHold s = .next t ∧ t.cap.st = .hold ∧ fld t.ctl.irq1 5 1 = 1 ∧
      t.cap.mem = Store.keep s.capPlaces.contains s.cap.mem ∧ t.trg.logMiss = true) ∧
  (∀ (m : Master) (s : State), s.directs m 0x57 →
    (s.cap.st = .hold → ∃ t, exec (.capRelease m) s = .next t ∧ t.cap.mem = s.cap.mem ∧
      t.cap.st = (if fld s.cap.ctl 3 1 = 1 then .rearm else .idle)) ∧
    (s.cap.st ≠ .hold → ∃ t, exec (.capRelease m) s = .next t ∧ t.cap.st = s.cap.st ∧ t.cap.mem = s.cap.mem)) ∧
  ∀ (m : Master) (s : State), s.directs m 0x57 →
    ∃ t, exec (.capAbort m) s = .next t ∧ t.cap.st = s.cap.st ∧
      t.cap.abortPend = (s.cap.abortPend || decide (s.cap.st = .fill ∨ s.cap.st = .post ∨ s.cap.st = .stream))) ∧
  (∀ s : State, s.ready = true → s.cap.st = .stream → s.cap.headPend = true →
    (s.stagePacket 3 0 s.headLoss (wordsOfBytes s.capHeader) = none → exec .lineDrain s = .next s) ∧
    ∀ v, s.stagePacket 3 0 s.headLoss (wordsOfBytes s.capHeader) = some v → s.spanFormed s.capSpan s.cap.drain = false →
      s.cap.drain ≤ s.cap.endTick →
      exec .lineDrain s = .next { v with cap := { v.cap with headPend := false } }) ∧
  ∀ s : State, s.ready = true → s.cap.st = .stream → s.cap.headPend = false →
    (s.cap.endTick < s.cap.drain → ∃ t, exec .lineDrain s = .next t ∧ t.cap.queue = s.cap.queue ∧
      t.cap.st = (if fld s.cap.ctl 3 1 = 1 then .rearm else .idle)) ∧
    (s.cap.drain ≤ s.cap.endTick → s.spanFormed s.capSpan s.cap.drain = false → exec .lineDrain s = .next s) ∧
    (s.cap.drain < s.cap.endTick → s.spanFormed s.capSpan s.cap.drain = true → s.hasLine s.cap.drain = true →
      (s.stagePacket 2 s.cap.drain (lineLoss s.csFirst s.csLast s.cap.drain 1) (sampleWords (s.lineData s.cap.drain)) = none →
        exec .lineDrain s = .next s) ∧
      ∀ v, s.stagePacket 2 s.cap.drain (lineLoss s.csFirst s.csLast s.cap.drain 1) (sampleWords (s.lineData s.cap.drain)) = some v →
        (v.spend actCapt (((s.lineData s.cap.drain).length + 1) / 2) = none →
          ∃ t, exec .lineDrain s = .next t ∧ t.cap.drain = s.cap.drain + 1 ∧ t.cap.queue = s.cap.queue ∧ t.cap.st = .stream ∧
            t.cap.drops.contains s.cap.drain = true) ∧
        ∀ u, v.spend actCapt (((s.lineData s.cap.drain).length + 1) / 2) = some u →
          ∃ t, exec .lineDrain s = .next t ∧ t.cap.drain = s.cap.drain + 1 ∧ t.cap.queue = v.cap.queue ∧ t.cap.st = .stream ∧
            t.budget = u.budget ∧ t = { s with cap := t.cap, budget := t.budget, msg := t.msg } ∧
            (fld s.cap.ctl 4 1 = 0 → t.msg = s.msg))

/-- MEM_PART.GO takes a partition that fits and reports the cause of one that does not; at the frame boundary it is in
force, and the capture region, the queue and the staging of ports A and B are empty. HS_EN starts and ends the host stream
at a frame boundary; a line whose span is formed becomes a packet while HOST's budget and the queue have room, and a loss
otherwise (R256, R257, R275). -/
def Obligations.MemoryAndHostStream : Prop :=
  ((∀ (m : Master) (c : BitVec 7) (s : State) (x tare stage : Nat), s.directs m 0x5C → s.cap.partStaged = [x, tare, stage] →
    (126 < c.toNat + tare + stage →
      ∃ t, exec (.memPartGo m c) s = .next t ∧ t.cap.partCause = 1 ∧ t.cap.part = s.cap.part ∧ t.cap.partPend = s.cap.partPend) ∧
    (c.toNat + tare + stage ≤ 126 → 8 ≤ c.toNat → c.toNat ≤ 122 → tare ≤ 16 → 4 ≤ stage → stage ≤ 16 →
      (s.cap.st ≠ .idle ∨ s.hsEn = true →
        ∃ t, exec (.memPartGo m c) s = .next t ∧ t.cap.partCause = 3 ∧ t.cap.part = s.cap.part ∧ t.cap.partPend = s.cap.partPend) ∧
      (s.cap.st = .idle → s.hsEn = false → s.bead.tareState ≠ 1 → s.bead.tareState ≠ 2 →
        (∀ p < 4, (s.port p).tareLen = none) →
        ∃ t, exec (.memPartGo m c) s = .next t ∧ t.cap.partCause = 0 ∧ t.cap.part = s.cap.part ∧
          t.cap.partPend = some ([c.toNat, tare, stage], s.ctl.stamp + 1)))) ∧
  ∀ (s : State) (q : List Nat) (st : Nat), s.ready = true → s.cap.partPend = some (q, st) → s.due st = true →
    ∃ t, exec .partitionEffect s = .next t ∧ t.cap.part = q ∧ t.cap.partPend = none ∧ t.cap.mem = [] ∧
      (s.cap.gapWait = [] → t.cap.queue = []) ∧
      (t.canPort 0).staging = [] ∧ (t.canPort 1).staging = [] ∧ t = { s with cap := t.cap, can := t.can, msg := t.msg } ∧
      (s.unset = false → ∀ r ∈ (s.canPort 0).staging, r.len ≠ 0 → t.msg.losses ≠ [])) ∧
  (∀ (m : Master) (rearm can : Bool) (s : State), s.directs m 0x57 →
    (s.hsSpanOk = true → ∃ t, exec (.hsEnableWrite m true rearm can) s = .next t ∧
      t.cap.ctl = w16 (8 * b2n rearm + 16 * b2n can + 32) ∧ t.cap.cause = s.cap.cause ∧ t.cap.hsRun = s.cap.hsRun) ∧
    (s.hsSpanOk = false → ∃ t, exec (.hsEnableWrite m true rearm can) s = .next t ∧
      t.cap.ctl = w16 (8 * b2n rearm + 16 * b2n can) ∧ t.cap.cause = 1) ∧
    ∃ t, exec (.hsEnableWrite m false rearm can) s = .next t ∧ t.cap.ctl = w16 (8 * b2n rearm + 16 * b2n can) ∧
      t = { s with cap := t.cap, ctl := t.ctl }) ∧
  (∀ s : State, s.ready = true → s.hsEn = true → s.cap.hsRun = false → s.due s.cap.hsStamp = true →
    ∃ t, exec .hostStreamStart s = .next t ∧ t.cap.hsRun = true ∧
      t.cap.hsRuns.head? = some { from_ := s.tick, first := (s.trgWord 130).toNat, last := (s.trgWord 131).toNat } ∧
      t = { s with cap := { s.cap with hsRun := true, hsRuns := t.cap.hsRuns } }) ∧
  (∀ s : State, s.ready = true → s.hsEn = false → s.cap.hsRun = true → s.due s.cap.hsStamp = true →
    ∃ t, exec .hostStreamEnd s = .next t ∧ (∀ r ∈ t.cap.hsRuns, r.until_ ≠ none) ∧
      t = { s with cap := { s.cap with hsRun := false, hsRuns := t.cap.hsRuns } }) ∧
  ∀ (s : State) (k : Nat) (l : List (Nat × DWord)) (rest : Store (List (Nat × DWord))) (r : HsRun), s.ready = true →
    s.cap.hsLines = (k, l) :: rest → s.hsRunAt k = some r →
    (s.spanFormed (spanOf r.first r.last) k = false → exec .tickPacket s = .next s) ∧
    (s.spanFormed (spanOf r.first r.last) k = true →
      (s.spend actHost ((14 + 4 * l.length + 7) / 8) = none →
        ∃ t, exec .tickPacket s = .next t ∧ t.cap = { s.cap with hsLines := rest, hsNext := k + 1 } ∧
          (s.unset = false → t.msg.losses ≠ [])) ∧
      ∀ u, s.spend actHost ((14 + 4 * l.length + 7) / 8) = some u →
        (s.cap.gapWait = [] → s.cap.queue.length + 7 + 2 * l.length ≤ s.streamRoom →
          ∃ t, exec .tickPacket s = .next t ∧ t.cap.hsLines = rest ∧ t.cap.hsNext = k + 1 ∧ t.budget = u.budget ∧
            s.cap.queue <+: t.cap.queue ∧ t.cap.queue.length = s.cap.queue.length + 7 + 2 * l.length ∧ t.msg = s.msg) ∧
        (s.cap.gapWait ≠ [] ∨ s.streamRoom < s.cap.queue.length + 7 + 2 * l.length →
          ∃ t, exec .tickPacket s = .next t ∧ t.cap = { s.cap with hsLines := rest, hsNext := k + 1 } ∧
            (s.unset = false → t.msg.losses ≠ [])))

/-- The oldest record formed, an alarm, goes to the staging of its port while EGR's budget and the staging have room, and
waits with the budget spent. A staged record is loaded into the mailbox pair of its type and released. HBEAT is formed for
both ports once a second, each with its own number (R311, R336, R434). -/
def Obligations.RecordsReachTheBus : Prop :=
  (∀ (s : State) (q : Nat) (r : Rec) (rest : List (Nat × Rec)), s.msg.out = (q, r) :: rest → r.ty = .alarm →
    s.tick / 4 ≤ r.frame + 1 →
    (∀ u, s.spend actEgr ((r.data.length + 7) / 8) = some u → s.hasRoom (s.routeOf .alarm q) .alarm = true →
      s.cap.sending = false →
      ∃ t, exec .egressStaging s = .next t ∧ t.msg.out = rest ∧
        (t.canPort (s.routeOf .alarm q)).staging = (s.canPort (s.routeOf .alarm q)).staging ++ [r] ∧ t.budget = u.budget) ∧
    (s.spend actEgr ((r.data.length + 7) / 8) = none →
      ∃ t, exec .egressStaging s = .next t ∧ t.msg = s.msg ∧ t.can = s.can)) ∧
  (∀ (p : Fin 2) (s u : State) (r : Rec) (rest : List Rec), s.available p.val = true → s.candev.active = none →
    (s.canPort p.val).staging = r :: rest → ((s.canPort p.val).mbox (pairOf r.ty)).full = false →
    ((s.canPort p.val).mbox (pairOf r.ty + 1)).full = false → s.spend actEgr 9 = some u →
    ∃ t, exec (.egressMailboxLoad p) s = .next t ∧ (t.canPort p.val).staging = rest ∧
      ((t.canPort p.val).mbox (pairOf r.ty)).full = true ∧ ((t.canPort p.val).mbox (pairOf r.ty)).released = true ∧
      ((t.canPort p.val).mbox (pairOf r.ty)).record = some r ∧
      ((t.canPort p.val).mbox (pairOf r.ty)).frame = deviceFrame r.ident r.data ∧
      t = { s with can := t.can, budget := u.budget }) ∧
  ∀ s : State, s.ready = true → s.ctl.hbeatAt ≠ some s.tick →
    (if s.unset then s.life.lTick < s.tick ∧ (s.tick - s.life.lTick) % 4000 = 0 else s.tick % 4000 = 0) →
    ∃ t, exec .hbeatSend s = .next t ∧ t.ctl.hbeatAt = some s.tick ∧
      (∀ p < 2, (t.canPort p).hSeq = ((s.canPort p).hSeq + 1) % 65536) ∧
      (∃ a b : Rec, a.ty = .hbeat ∧ b.ty = .hbeat ∧ t.msg.out = s.msg.out ++ [(0, a), (1, b)]) ∧
      t = { s with can := t.can, msg := t.msg, ctl := { s.ctl with hbeatAt := some s.tick } }

/-- INIT takes a port off the bus; clearing it returns the port through integration, or through recovery where it was
bus-off, unless the timing fails its check, which keeps INIT and reports the cause. A mode written to a running port waits
for a pause of its sending, one written in INIT holds at once; RECOVER begins the recovery of a bus-off port; integration
and recovery end in error-active, or error-passive by the counters (R284 to R286, R307). -/
def Obligations.PortsStartStopAndRecover : Prop :=
  ((∀ (m : Master) (s : State), s.directs m 0x61 → s.canDead (s.master m).canSel = false →
    fld (s.canPort (s.master m).canSel).ctl 0 1 = 0 →
    ∃ t, exec (.canInitSet m) s = .next t ∧ (t.canPort (s.master m).canSel).st = .init ∧
      (t.canPort (s.master m).canSel).onBus = none ∧ fld (t.canPort (s.master m).canSel).ctl 0 1 = 1 ∧
      ∀ p, p ≠ (s.master m).canSel → t.canPort p = s.canPort p) ∧
  ∀ (m : Master) (s : State), s.directs m 0x61 → s.canDead (s.master m).canSel = false →
    fld (s.canPort (s.master m).canSel).ctl 0 1 = 1 →
    ∃ t, exec (.canInitClear m) s = .next t ∧
      ((t.canPort (s.master m).canSel).cause = 0 → fld (t.canPort (s.master m).canSel).ctl 0 1 = 0 ∧
        (t.canPort (s.master m).canSel).st =
          (if (s.canPort (s.master m).canSel).wasOff then .recovering else .integrating)) ∧
      ((t.canPort (s.master m).canSel).cause ≠ 0 → fld (t.canPort (s.master m).canSel).ctl 0 1 = 1 ∧
        (t.canPort (s.master m).canSel).st = (s.canPort (s.master m).canSel).st) ∧
      ∀ p, p ≠ (s.master m).canSel → t.canPort p = s.canPort p) ∧
  (∀ (m : Master) (mode : BitVec 3) (s : State), s.directs m 0x61 → s.canDead (s.master m).canSel = false →
    s.inInit (s.master m).canSel = true → mode.toNat ≤ 4 →
    ∃ t, exec (.canModeWrite m mode) s = .next t ∧ (t.canPort (s.master m).canSel).mode = mode.toNat ∧
      (t.canPort (s.master m).canSel).modePend = none ∧
      (t.canPort (s.master m).canSel).st = (s.canPort (s.master m).canSel).st) ∧
  (∀ (m : Master) (mode : BitVec 3) (s : State), s.directs m 0x61 → s.canDead (s.master m).canSel = false →
    s.inInit (s.master m).canSel = false → fld (s.canPort (s.master m).canSel).ctl 1 3 ≤ 2 → mode.toNat ≤ 2 →
    ∃ t, exec (.canModeWrite m mode) s = .next t ∧
      (t.canPort (s.master m).canSel).mode = (s.canPort (s.master m).canSel).mode ∧
      (t.canPort (s.master m).canSel).modePend =
        (if mode.toNat = (s.canPort (s.master m).canSel).mode then none else some mode.toNat) ∧
      (t.canPort (s.master m).canSel).st = (s.canPort (s.master m).canSel).st) ∧
  (∀ (p : Fin 3) (s : State) (k : Nat), (s.canPort p.val).modePend = some k → (s.canPort p.val).onBus = none →
    ∃ t, exec (.canModeEffect p) s = .next t ∧ (t.canPort p.val).mode = k ∧ (t.canPort p.val).modePend = none ∧
      t = { s with can := t.can, time := { s.time with tx := t.time.tx } }) ∧
  (∀ (m : Master) (s : State), s.directs m 0x61 → s.canDead (s.master m).canSel = false →
    (s.canPort (s.master m).canSel).st = .busOff → fld (s.canPort (s.master m).canSel).ctl 0 1 = 0 →
    fld (s.canPort (s.master m).canSel).ctl 1 3 ≤ 4 →
    ∃ t, exec (.canRecover m) s = .next t ∧ (t.canPort (s.master m).canSel).st = .recovering) ∧
  (∀ (p : Fin 3) (s : State), s.ctl.extest = false → s.candev.clkOk = true → (s.canPort p.val).failed = false →
    (s.canPort p.val).st = .integrating →
    ∃ t, exec (.busIntegrationDone p) s = .next t ∧ (t.canPort p.val).st =
      (if 128 ≤ (s.canPort p.val).tec ∨ 128 ≤ (s.canPort p.val).recCnt then .errorPassive else .errorActive)) ∧
  ∀ (p : Fin 3) (s : State), s.ctl.extest = false → s.candev.clkOk = true → (s.canPort p.val).failed = false →
    (s.canPort p.val).st = .recovering →
    ∃ t, exec (.busOffRecoveryDone p) s = .next t ∧ (t.canPort p.val).st = .errorActive ∧ (t.canPort p.val).tec = 0 ∧
      (t.canPort p.val).recCnt = 0 ∧ t.candev.waiting = s.candev.waiting.filter (· != p.val)

/-- A port that sends puts the frame it offers on the bus at its start of frame, a lone one only every 100 ms; a frame sent
leaves the bus, counts the transmit errors down and frees its mailbox, a host's with its interrupt. A received frame goes to
the queue that its first matching filter names, whose overflow is counted, or counts as unmatched; a bus error is recorded,
ends the attempt and sets the counters and the state (R295, R296, R299, R303, R305, R306). -/
def Obligations.FramesAreSentAndReceived : Prop :=
  ((∀ (p : Fin 3) (ns i : Nat) (s : State), s.ctl.extest = false → s.sends p.val = true → (s.canPort p.val).onBus = none →
    (s.canPort p.val).offered = some i →
    ((s.canPort p.val).lone = false → ∃ t, exec (.canFrameStart p ns) s = .next t ∧
      (t.canPort p.val).onBus = some (i, ns) ∧ t = { s with can := t.can }) ∧
    ((s.canPort p.val).lone = true → (s.canPort p.val).paceFrom + 400 ≤ s.tick →
      ∃ t, exec (.lonePacedAttempt p ns) s = .next t ∧ (t.canPort p.val).onBus = some (i, ns) ∧
        (t.canPort p.val).paceFrom = s.tick ∧ t = { s with can := t.can })) ∧
  ∀ (p : Fin 3) (tdc i ns : Nat) (s : State), s.ctl.extest = false → (s.canPort p.val).onBus = some (i, ns) →
    ((s.canPort p.val).mode = 3 → s.consumes p.val ((s.canPort p.val).sentFrame i) = false) → i < 32 →
    ∃ t, exec (.frameTransmitted p tdc) s = .next t ∧ (t.canPort p.val).onBus = none ∧
      (t.canPort p.val).tec = (s.canPort p.val).tec - 1 ∧ ((t.canPort p.val).mbox i).full = false ∧
      (t.canPort p.val).meas = (if fld (s.canPort p.val).tdc 0 1 = 1 ∧ ((s.canPort p.val).sentFrame i).brs = true then min tdc 255
        else (s.canPort p.val).meas) ∧
      (24 ≤ i → fld t.ctl.irq1 8 1 = 1 ∧ t.time = s.time)) ∧
  (∀ (p : Fin 3) (fr : Frame) (ns : Nat) (s : State), s.ctl.extest = false → s.onBusOk p.val = true → fr.rtr = false →
    (s.canPort p.val).mode = 4 ∨ s.consumes p.val fr = false →
    ((∀ k < 32, bits ((s.canPort p.val).filtersAt ns).fltEn.toNat k 1 = 1 → ((s.canPort p.val).filtersAt ns).matches k fr = false) →
      ∃ t, exec (.frameReceived p fr ns) s = .next t ∧ (t.canPort p.val).noMatch = satInc (s.canPort p.val).noMatch ∧
        (t.canPort p.val).rx0 = (s.canPort p.val).rx0 ∧ (t.canPort p.val).rx1 = (s.canPort p.val).rx1 ∧
        ((s.canPort p.val).recCnt = 0 → (s.canPort p.val).onBus = none → t = { s with can := t.can })) ∧
    ∀ k < 32, bits ((s.canPort p.val).filtersAt ns).fltEn.toNat k 1 = 1 → ((s.canPort p.val).filtersAt ns).matches k fr = true →
      (∀ j < k, bits ((s.canPort p.val).filtersAt ns).fltEn.toNat j 1 = 1 → ((s.canPort p.val).filtersAt ns).matches j fr = false) →
      (fld (((s.canPort p.val).filtersAt ns).fltWord (8 * k + 4)) 4 2 = 0 →
        ((s.canPort p.val).rx0.q.length < 17 → ∃ t, exec (.frameReceived p fr ns) s = .next t ∧
          (t.canPort p.val).rx0.q = (s.canPort p.val).rx0.q ++ [{ frame := fr, ts := ns % 2 ^ 64, pair := k }] ∧
          (t.canPort p.val).rx1 = (s.canPort p.val).rx1) ∧
        (17 ≤ (s.canPort p.val).rx0.q.length → ∃ t, exec (.frameReceived p fr ns) s = .next t ∧
          (t.canPort p.val).rx0.q = (s.canPort p.val).rx0.q ∧ (t.canPort p.val).rx0.ovr = true ∧
          (t.canPort p.val).rx0.lost = satInc (s.canPort p.val).rx0.lost)) ∧
      (fld (((s.canPort p.val).filtersAt ns).fltWord (8 * k + 4)) 4 2 = 1 →
        ((s.canPort p.val).rx1.q.length < 17 → ∃ t, exec (.frameReceived p fr ns) s = .next t ∧
          (t.canPort p.val).rx1.q = (s.canPort p.val).rx1.q ++ [{ frame := fr, ts := ns % 2 ^ 64, pair := k }] ∧
          (t.canPort p.val).rx0 = (s.canPort p.val).rx0)) ∧
      (fld (((s.canPort p.val).filtersAt ns).fltWord (8 * k + 4)) 4 2 = 2 → ∃ t, exec (.frameReceived p fr ns) s = .next t ∧
        (t.canPort p.val).rx0 = (s.canPort p.val).rx0 ∧ (t.canPort p.val).rx1 = (s.canPort p.val).rx1 ∧
        (t.canPort p.val).noMatch = (s.canPort p.val).noMatch)) ∧
  ∀ (p : Fin 3) (e : BusError) (dp tx ex : Bool) (x : ErrTail) (s : State), s.ctl.extest = false → s.onBusOk p.val = true →
    ((s.canPort p.val).exception e tx = true → ∃ t, exec (.busError p e dp tx ex x) s = .next t ∧
      (t.canPort p.val).st = .integrating ∧ (t.canPort p.val).onBus = none ∧ (t.canPort p.val).err = (s.canPort p.val).err ∧
      (t.canPort p.val).tec = (s.canPort p.val).tec ∧ (t.canPort p.val).recCnt = (s.canPort p.val).recCnt) ∧
    ((s.canPort p.val).exception e tx = false →
      (∃ t, exec (.busError p e dp tx ex x) s = .next t ∧ (t.canPort p.val).onBus = none ∧
        (t.canPort p.val).err = w16 (busErrorLec e + 16 * b2n dp + 32 * b2n tx) ∧
        (t.canPort p.val).errCnt = Store.mod 0 (s.canPort p.val).errCnt (busErrorLec e - 1 + 7 * b2n dp) satInc ∧
        (t.canPort p.val).meas = (match (if tx then (s.canPort p.val).onBus else none), x.delay with
          | some (i, _), some d => if fld (s.canPort p.val).tdc 0 1 = 1 ∧ ((s.canPort p.val).sentFrame i).brs = true
              then min d 255 else (s.canPort p.val).meas
          | _, _ => (s.canPort p.val).meas)) ∧
      ((s.canPort p.val).mode = 0 ∨ 3 ≤ (s.canPort p.val).mode → ∃ t, exec (.busError p e dp tx ex x) s = .next t ∧
        (t.canPort p.val).tec = min ((s.canPort p.val).errorCounts e tx ex x.extra).1 255 ∧
        (t.canPort p.val).recCnt = ((s.canPort p.val).errorCounts e tx ex x.extra).2 ∧
        (t.canPort p.val).st =
          (if 255 < ((s.canPort p.val).errorCounts e tx ex x.extra).1 then (if (s.canPort p.val).holdBo then .busOff else .recovering)
            else if 128 ≤ ((s.canPort p.val).errorCounts e tx ex x.extra).1 ∨ 128 ≤ ((s.canPort p.val).errorCounts e tx ex x.extra).2
              then .errorPassive else .errorActive)) ∧
      ((s.canPort p.val).mode = 1 ∨ (s.canPort p.val).mode = 2 → ∃ t, exec (.busError p e dp tx ex x) s = .next t ∧
        (t.canPort p.val).tec = (s.canPort p.val).tec ∧ (t.canPort p.val).recCnt = (s.canPort p.val).recCnt ∧
        (t.canPort p.val).st = (s.canPort p.val).st))

/-- TXREQ releases the mailbox it names and ABORT withdraws one that is not on the bus, with its result and done bit; RXQ
pops the oldest frame of its queue alone; a filter pair is enabled or disabled and no other changes (R296, R300, R304). -/
def Obligations.MailboxesQueuesAndFilters : Prop :=
  ∀ (m : Master) (s : State), s.canDead (s.master m).canSel = false →
    (∀ i < 8, s.directs m 0x6A → ((s.canPort (s.master m).canSel).mbox (24 + i)).full = false →
      (((s.canPort (s.master m).canSel).mbox (24 + i)).frame.fdf = true → (s.canPort (s.master m).canSel).fdEn = true) →
      ∃ t, exec (.txreq m (BitVec.ofNat 8 (2 ^ i))) s = .next t ∧
        ((t.canPort (s.master m).canSel).mbox (24 + i)).full = true ∧
        ((t.canPort (s.master m).canSel).mbox (24 + i)).released = true ∧
        (∀ j, j ≠ 24 + i → (t.canPort (s.master m).canSel).mbox j = (s.canPort (s.master m).canSel).mbox j)) ∧
    (∀ i < 8, s.directs m 0x6A → ((s.canPort (s.master m).canSel).mbox (24 + i)).full = true →
      (s.canPort (s.master m).canSel).onBus = none →
      ∃ t, exec (.txreqAbort m (BitVec.ofNat 8 (2 ^ i))) s = .next t ∧
        ((t.canPort (s.master m).canSel).mbox (24 + i)).full = false ∧
        fld (t.canPort (s.master m).canSel).res (2 * i) 2 = 2 ∧ fld (t.canPort (s.master m).canSel).done i 1 = 1 ∧
        fld t.ctl.irq1 8 1 = 1) ∧
    (∀ i < 8, ∀ ns, s.directs m 0x6A → ((s.canPort (s.master m).canSel).mbox (24 + i)).full = true →
      (s.canPort (s.master m).canSel).onBus = some (24 + i, ns) →
      ∃ t, exec (.txreqAbort m (BitVec.ofNat 8 (2 ^ i))) s = .next t ∧
        ((t.canPort (s.master m).canSel).mbox (24 + i)).full = true ∧
        ((t.canPort (s.master m).canSel).mbox (24 + i)).abort = true ∧
        (t.canPort (s.master m).canSel).onBus = some (24 + i, ns)) ∧
    (∀ q : Fin 2, s.directs m (0x6B + q.val) →
      ∃ t, exec (.rxqPop m q) s = .next t ∧
        (q = 0 → (t.canPort (s.master m).canSel).rx0.q = (s.canPort (s.master m).canSel).rx0.q.drop 1 ∧
          (t.canPort (s.master m).canSel).rx1 = (s.canPort (s.master m).canSel).rx1) ∧
        (q = 1 → (t.canPort (s.master m).canSel).rx1.q = (s.canPort (s.master m).canSel).rx1.q.drop 1 ∧
          (t.canPort (s.master m).canSel).rx0 = (s.canPort (s.master m).canSel).rx0) ∧
        t = { s with can := t.can, ctl := { s.ctl with acked := t.ctl.acked } }) ∧
    ∀ (idx : BitVec 5) (sw : FilterSwitch), s.directs m 0x6D →
      ∃ t, exec (.filterEnable m idx sw) s = .next t ∧
        bits (t.canPort (s.master m).canSel).fltEn.toNat idx.toNat 1 = b2n sw.en ∧
        (∀ k < 32, k ≠ idx.toNat → bits (t.canPort (s.master m).canSel).fltEn.toNat k 1 =
          bits (s.canPort (s.master m).canSel).fltEn.toNat k 1) ∧
        t = { s with can := t.can, ctl := { s.ctl with acked := t.ctl.acked } }

/-- A failover that waits moves once the other port can serve; it ends by HOME, or by itself once its port has been
error-active for 1 s where that is allowed; clearing EN drops one that waits and leaves one in progress. Without CANCLK no
port is on the bus; with its return each port that was there integrates again. Port C shadows ports A and B by turns of 60
s; a controller that stalls, or differs from port C's shadow, is replaced by it where it is free and allowed, and is marked
failed where AUTO is off (R283, R312 to R318, R402, R403). -/
def Obligations.PortsFailOverAndStandIn : Prop :=
  ((∀ (s : State) (p : Nat), p ∈ s.candev.waiting → (∀ q ∈ s.candev.waiting, q < 2) → s.available (1 - p) = true →
    (s.canPort p).st.off = true ∨ (s.canPort p).failed = true →
    ∃ t, exec .deferredFailover s = .next t ∧ t.candev.active = some p ∧
      t.candev.waiting = s.candev.waiting.filter (· != p) ∧
      fld t.ctl.irq0 6 1 = 1 ∧ t.time = s.time) ∧
  (∀ (s : State) (p : Nat), s.candev.active = some p → fld s.candev.ctl 2 1 = 1 → (s.canPort p).st = .errorActive →
    s.candev.clkOk = true → (s.canPort p).activeFrom + 4000 ≤ s.tick →
    (s.canPort p).failed = false → exec .failoverReturn s = .next { s with candev := { s.candev with active := none } }) ∧
  ∀ (m : Master) (s : State), s.directs m 0x6F →
    (∃ t, exec (.failoverHome m) s = .next t ∧ t.candev.active = none ∧
      t = { s with candev := t.candev, ctl := { s.ctl with acked := t.ctl.acked } }) ∧
    ∃ t, exec (.failoverDisable m) s = .next t ∧ fld t.candev.ctl 0 1 = 0 ∧ t.candev.waiting = [] ∧
      t.candev.active = s.candev.active ∧ t = { s with candev := t.candev, ctl := { s.ctl with acked := t.ctl.acked } }) ∧
  ((∀ s : State, s.candev.clkOk = true →
    ∃ t, exec .canclkLoss s = .next t ∧ t.candev = { s.candev with clkOk := false } ∧ (∀ p, t.shownSt p = .init) ∧
      (∀ p < 3, (t.canPort p).onBus = none ∧ (t.canPort p).lone = false ∧ (t.canPort p).st = (s.canPort p).st) ∧
      ∀ p, t.onBusOk p = false) ∧
  ∀ (khz : Nat) (s : State), s.candev.clkOk = false → 20000 ≤ khz → khz ≤ 80000 →
    ∃ t, exec (.canclkReturn khz) s = .next t ∧ t.candev.clkOk = true ∧ t.candev.clkKhz = khz ∧
      ∀ p < 3, (t.canPort p).st = (if (s.canPort p).st = .init ∨ (s.canPort p).st.off = true then (s.canPort p).st
        else .integrating)) ∧
  (∀ s : State, s.ready = true → (s.canPort 2).st = .init → s.xcEn = true → s.cSubst = false →
    s.spare.shadowFrom + 240000 ≤ s.tick →
    exec .portCShadowSwitch s = .next { s with spare := { s.spare with
      shadow := 1 - s.spare.shadow, shadowFrom := s.tick, shadowErrs := 0 } }) ∧
  (∀ (p : Fin 2) (s : State), s.ready = true → (s.canPort p.val).st ≠ .init → (s.canPort p.val).failed = false →
    s.shadows p.val → s.spare.shadowErrs < 2 →
    exec (.controllerFailure p .falseError) s = .next { s with spare := { s.spare with shadowErrs := s.spare.shadowErrs + 1 } }) ∧
  (∀ (p : Fin 2) (us : Nat) (s : State), s.ready = true → us < 10000 → exec (.controllerFailure p (.stall us)) s = .next s) ∧
  ∀ (p : Fin 2) (x : CtrlFail) (s : State), s.ready = true → (s.canPort p.val).st ≠ .init → (s.canPort p.val).failed = false →
    (match x with
      | .stall us => s.candev.clkOk = true ∧ 10000 ≤ us
      | .falseError => s.shadows p.val ∧ 2 ≤ s.spare.shadowErrs) →
    (s.autoSub = true → s.spare.forbid.getD p.val false = false → s.spare.portC.state = spFree →
      ∃ t, exec (.controllerFailure p x) s = .next t ∧ (t.canPort p.val).subst = true ∧
        t.spare.portC.state = spSubst ∧ t.spare.portC.target = p.val ∧
        (t.canPort p.val).st = (if (s.canPort p.val).st.off then .recovering else .integrating) ∧ fld t.ctl.irq0 7 1 = 1) ∧
    (s.autoSub = false → ∃ t, exec (.controllerFailure p x) s = .next t ∧ (t.canPort p.val).failed = true ∧
      (t.canPort p.val).onBus = none ∧ (t.canPort p.val).subst = (s.canPort p.val).subst ∧
      t.spare = { s.spare with shadowErrs := t.spare.shadowErrs })

/-- OPEN with the station key takes the port's session; a wrong key is answered BAD_KEY, and the third in a row locks OPEN
with an alarm; the lock ends after 60 s. CLOSE ends the holder's session and KEEP holds it; without its session KEEP is
answered NO_SESSION; SET_KEY sets the key where the bezel lets it; an unknown operation is answered ARG; 60 s without a
request end the session and roll its clasp back (R343 to R345). -/
def Obligations.SessionsOpenAndEnd : Prop :=
  ((∀ (p : Fin 2) (r : Req) (s : State), s.serving p.val opOpen r →
    (4 ≤ r.data.length → BitVec.ofNat 32 (leNat (r.data.take 4)) = s.nvm.key → s.nvm.key ≠ 0 → (s.session p.val).lockFrom = none →
      (s.session p.val).holder = none ∨ (s.session p.val).holder = some r.node.toNat →
      ∃ t, exec (.rreqOpen p r) s = .next t ∧ t.answers p.val opOpen 0 ∧
        (t.session p.val).holder = some r.node.toNat ∧ (t.session p.val).lastTick = s.tick ∧
        t = { s with sess := t.sess, msg := t.msg }) ∧
    (4 ≤ r.data.length → BitVec.ofNat 32 (leNat (r.data.take 4)) = s.nvm.key → s.nvm.key ≠ 0 → (s.session p.val).lockFrom ≠ none →
      ∃ t, exec (.rreqOpen p r) s = .next t ∧ t.answers p.val opOpen 3 ∧ (t.session p.val).holder = (s.session p.val).holder ∧
        (t.session p.val).badKeys = 0) ∧
    (4 ≤ r.data.length → BitVec.ofNat 32 (leNat (r.data.take 4)) = s.nvm.key → s.nvm.key ≠ 0 → (s.session p.val).lockFrom = none →
      (s.session p.val).holder ≠ none → (s.session p.val).holder ≠ some r.node.toNat →
      ∃ t, exec (.rreqOpen p r) s = .next t ∧ t.answers p.val opOpen 8 ∧ (t.session p.val).holder = (s.session p.val).holder ∧
        (t.session p.val).badKeys = 0) ∧
    (r.data.length < 4 ∨ BitVec.ofNat 32 (leNat (r.data.take 4)) ≠ s.nvm.key ∨ s.nvm.key = 0 →
      ∃ t, exec (.rreqOpen p r) s = .next t ∧ t.answers p.val opOpen 2 ∧
        (t.session p.val).holder = (s.session p.val).holder ∧
        ((s.session p.val).badKeys = 2 → (t.session p.val).lockFrom = some s.tick ∧ (t.session p.val).badKeys = 0 ∧
          t.msg.seq.a = (s.msg.seq.a + 1) % 65536) ∧
        ((s.session p.val).badKeys ≠ 2 → (t.session p.val).badKeys = (s.session p.val).badKeys + 1))) ∧
  ∀ (p : Fin 2) (s : State) (k : Nat), s.ready = true → (s.session p.val).lockFrom = some k → k + 240000 ≤ s.tick →
    ∃ t, exec (.openLockExpiry p) s = .next t ∧ (t.session p.val).lockFrom = none ∧ t = { s with sess := t.sess }) ∧
  (∀ (p : Fin 2) (r : Req) (s : State), s.serving p.val opClose r → s.holds p.val r = true →
    (s.master (portMaster p.val)).clasp.isOpen = false →
    ∃ t, exec (.rreqClose p r) s = .next t ∧ t.answers p.val opClose 0 ∧ (t.session p.val).holder = none ∧
      t = { s with sess := t.sess, msg := t.msg }) ∧
  (∀ (p : Fin 2) (r : Req) (s : State), s.serving p.val opKeep r →
    (s.holds p.val r = true → ∃ t, exec (.rreqKeep p r) s = .next t ∧ t.answers p.val opKeep 0 ∧
      (t.session p.val).lastTick = s.tick ∧ (t.session p.val).holder = (s.session p.val).holder ∧
      t = { s with sess := t.sess, msg := t.msg }) ∧
    (s.holds p.val r = false → ∃ t, exec (.rreqKeep p r) s = .next t ∧ t.answers p.val opKeep 1 ∧
      (t.session p.val).lastTick = (s.session p.val).lastTick ∧ t = { s with sess := t.sess, msg := t.msg })) ∧
  (∀ (p : Fin 2) (r : Req) (s : State), s.serving p.val opSetKey r → s.holds p.val r = true → 4 ≤ r.data.length →
    s.entry (portMaster p.val) 22 = 3 →
    ∃ t, exec (.rreqSetKey p r) s = .next t ∧ t.answers p.val opSetKey 0 ∧
      t.nvm = { s.nvm with key := BitVec.ofNat 32 (leNat (r.data.take 4)) }) ∧
  (∀ (p : Fin 2) (op : BitVec 8) (r : Req) (s : State), s.serving p.val op.toNat r →
    ∃ t, exec (.rreqUnknownOp p op r) s = .next t ∧ t.answers p.val op.toNat 5 ∧ t = { s with sess := t.sess, msg := t.msg }) ∧
  ∀ (p : Fin 2) (s : State), s.ready = true → (s.session p.val).holder.isSome = true →
    (s.session p.val).lastTick + 240000 ≤ s.tick → (s.master (portMaster p.val)).clasp.isOpen = true →
    ∃ t, exec (.sessionTimeout p) s = .next t ∧ (t.session p.val).holder = none ∧
      (t.master (portMaster p.val)).clasp.isOpen = false ∧ (t.master (portMaster p.val)).clasp.writes = [] ∧
      (t.master (portMaster p.val)).clasp.result = 3 ∧ fld t.ctl.irq0 8 1 = 1

/-- Remote reads need no session and clear nothing; one that the bezel forbids is answered DENIED. A write needs the
session; the holder's write of IRQ_MASK0 acts as its master's, and is answered DENIED and changes nothing where the bezel
allows no direct write; its window write stages a facet parameter. BEGIN opens the master's clasp, ROLLBACK discards it, and
COMMIT is not answered at once (R343, R344, R346, R427). -/
def Obligations.RemoteReadsAndWrites : Prop :=
  ((∀ (p : Fin 2) (r : Req) (s : State), s.serving p.val opRegRead r → reqArgBad r = false →
    ((∀ o ∈ reqOffs r, s.entry (portMaster p.val) (regTarget o) ≠ 0) →
      ∃ t, exec (.rreqRegRead p r) s = .next t ∧ t.answers p.val opRegRead 0 ∧ t.budget = s.budget ∧ t.trg = s.trg ∧
        t.can = s.can ∧ t.log = s.log ∧ t.fpActive = s.fpActive) ∧
    (∀ o ∈ reqOffs r, openReg o = false → s.entry (portMaster p.val) (regTarget o) = 0 →
      ∃ t, exec (.rreqRegRead p r) s = .next t ∧ t.answers p.val opRegRead 4 ∧ fld t.ctl.irq0 9 1 = 1)) ∧
  (∀ (p : Fin 2) (r : Req) (s : State), s.serving p.val opWinRead r → s.winArgBad r = false →
    s.nvmBusy r.space.toNat = false → s.entry (portMaster p.val) (winTarget r.space.toNat) ≠ 0 →
    ∃ t, exec (.rreqWinRead p r) s = .next t ∧ t.answers p.val opWinRead 0 ∧ t.log = s.log ∧ t.fpActive = s.fpActive ∧
      t.fpStaged = s.fpStaged ∧ t.nvm = s.nvm) ∧
  ∀ (p : Fin 2) (r : Req) (s : State) (n kind : Nat), s.serving p.val opFacetRead r → n < 512 → kind ≤ 4 →
    r.addr.toNat = n + 65536 * kind → s.entry (portMaster p.val) (regTarget 0x24) ≠ 0 →
    ∃ t x, exec (.rreqFacetRead p r) s = .next t ∧ t.answers p.val opFacetRead 0 ∧ t.msg.out = s.msg.out ++ [(p.val, x)] ∧
      x.data.drop 8 = leBytes 4 (s.facetRead n kind).1.toNat ++ leBytes 2 (min 1023 (s.facetRead n kind).2) ∧
      t.fctRead = s.fctRead) ∧
  ((∀ (p : Fin 2) (r : Req) (s : State), s.serving p.val opRegWrite r → s.holds p.val r = false →
    ∃ t, exec (.rreqRegWrite p r) s = .next t ∧ t.answers p.val opRegWrite 1 ∧ t = { s with sess := t.sess, msg := t.msg }) ∧
  (∀ (p : Fin 2) (r : Req) (s : State) (b0 b1 : Byte), s.serving p.val opRegWrite r → s.holds p.val r = true →
    r.addr.toNat = 0x79 → r.count = 1 → r.data = [b0, b1] → (s.master (portMaster p.val)).clasp.isOpen = false →
    (s.entry (portMaster p.val) 7 = 3 → ∃ t, exec (.rreqRegWrite p r) s = .next t ∧ t.answers p.val opRegWrite 0 ∧
      t.ctl.mask0.toNat = b0.toNat + 256 * b1.toNat ∧ t.ctl.mask1 = s.ctl.mask1 ∧ t.log = s.log) ∧
    (s.entry (portMaster p.val) 7 ≠ 3 → ∃ t, exec (.rreqRegWrite p r) s = .next t ∧ t.answers p.val opRegWrite 4 ∧
      t.ctl.mask0 = s.ctl.mask0 ∧ fld t.ctl.irq0 9 1 = 1)) ∧
  ∀ (p : Fin 2) (r : Req) (s : State) (b0 b1 : Byte) (n : Nat), s.serving p.val opWinWrite r → s.holds p.val r = true →
    n < 448 → r.space = 0 → r.addr.toNat = n * 32 → r.count = 1 → r.data = [b0, b1] →
    s.entry (portMaster p.val) 8 = 3 → (s.master (portMaster p.val)).clasp.isOpen = false →
    ∃ t, exec (.rreqWinWrite p r) s = .next t ∧ t.answers p.val opWinWrite 0 ∧
      t.fpS n 0 = (BitVec.ofNat 16 (b0.toNat + 256 * b1.toNat)) &&& fpMask n 0 ∧ t.fpActive = s.fpActive ∧ t.log = s.log) ∧
  (∀ (p : Fin 2) (r : Req) (s : State), s.serving p.val opBegin r → s.holds p.val r = true →
    (s.master (portMaster p.val)).clasp.isOpen = false → (s.master (portMaster p.val)).clasp.pend = false →
    ∃ t, exec (.rreqClaspBegin p r) s = .next t ∧ t.answers p.val opBegin 0 ∧
      (t.master (portMaster p.val)).clasp = { isOpen := true, beginTick := s.tick, beginStamp := s.ctl.stamp + 1 }) ∧
  (∀ (p : Fin 2) (r : Req) (s : State), s.serving p.val opCommit r → s.holds p.val r = true →
    (s.master (portMaster p.val)).clasp.isOpen = true → s.tick < (s.master (portMaster p.val)).clasp.beginTick + 4000 →
    ∃ t, exec (.rreqClaspCommit p r) s = .next t ∧ (t.master (portMaster p.val)).clasp.isOpen = false ∧
      (t.master (portMaster p.val)).clasp.pend = true ∧ (t.session p.val).commitReq = some r ∧ t.msg = s.msg) ∧
  ∀ (p : Fin 2) (r : Req) (s : State), s.serving p.val opRollback r → s.holds p.val r = true →
    (s.master (portMaster p.val)).clasp.isOpen = true → s.tick < (s.master (portMaster p.val)).clasp.beginTick + 4000 →
    ∃ t, exec (.rreqClaspRollback p r) s = .next t ∧ t.answers p.val opRollback 0 ∧
      (t.master (portMaster p.val)).clasp.isOpen = false ∧ (t.master (portMaster p.val)).clasp.writes = [] ∧
      t.log = s.log

/-- GO starts a run of a procedure on the declared target, which waits for its frame boundary or ends at once with the code
of a static check; a batch and a restore start or end in the same way; REF_SCALE with a declaration in range starts; a run
in progress is left as it is. NEXT goes on to the BLOCK step of a run that waits for it alone; ABORT marks the run and moves
no path (R353 to R358, R366). -/
def Obligations.CalibrationCommands : Prop :=
  ∀ (m : Master) (s : State), s.directs m 0x70 →
    (∀ (proc : BitVec 4) (gap sys : Bool), s.cal.run = none → proc.toNat ≤ 10 →
      ∃ t, exec (.calGo m proc false gap sys) s = .next t ∧ t.cal.proc = proc.toNat ∧ t.cal.image = s.cal.image ∧
        t.facets = s.facets ∧
        ((∃ r, t.cal.run = some r ∧ t.cal.state = 1 ∧ r.proc = proc.toNat ∧
            r.target = (if proc = 2 ∨ proc = 10 then objDevice else s.cdTarget) ∧ r.phase = (if proc = 10 then 3 else 0) ∧
            r.allowGap = gap ∧ r.sysOnly = sys ∧ r.limits = s.cal.limits ∧ r.decl = s.cal.decl) ∨
          t.cal.run = none ∧ t.cal.state = 4 ∧
            t.cal.reason ∈ (if proc = 10 then [4, 17, 18, 19, 20, 21] else [1, 2, 3, 4, 5, 10, 11]))) ∧
    (∀ (proc : BitVec 4) (gap sys : Bool), s.cal.run = none → proc.toNat ≤ 10 →
      ∃ t, exec (.calGo m proc true gap sys) s = .next t ∧ t.cal.proc = proc.toNat ∧ t.cal.image = s.cal.image ∧
        t.facets = s.facets ∧ (t.cal.run.isSome = true → t.cal.state = 1)) ∧
    (∀ gap sys : Bool, s.cal.run = none → s.unset = false → s.cal.refMv.toInt.natAbs ≤ 10240 →
      (s.declF 0).toInt.natAbs ≤ 999999 → 5 ≤ s.vDecl → s.vDecl ≤ 1024 / 100 →
      ∃ t r, exec (.calGo m 2 false gap sys) s = .next t ∧ t.cal.run = some r ∧ r.proc = 2 ∧ r.vDecl = s.vDecl ∧
        r.target = objDevice ∧ r.phase = 0 ∧ t.cal.state = 1) ∧
    (∀ (proc : BitVec 4) (scope gap sys : Bool) (r : CalRun), s.cal.run = some r →
      ∃ t, exec (.calGo m proc scope gap sys) s = .next t ∧ t.cal.run = some r ∧ t.cal.state = s.cal.state ∧
        t.cal.image = s.cal.image) ∧
    (∀ r : CalRun, s.cal.run = some r → r.phase = 5 →
      ∃ t, exec (.calNext m) s = .next t ∧ t.cal.state = 1 ∧
        t.cal.run = some { r with phase := 2, block := true, measFrom := s.tick, faulted := false }) ∧
    (∀ r : CalRun, s.cal.run = some r → r.phase ≠ 5 →
      ∃ t, exec (.calNext m) s = .next t ∧ t.cal.run = some r ∧ t.cal.state = s.cal.state) ∧
    ∀ r : CalRun, s.cal.run = some r → r.closed = false →
      ∃ t, exec (.calAbort m) s = .next t ∧ t.cal.run = some { r with aborted := true } ∧ t.facets = s.facets ∧
        t.spare = s.spare

/-- At T the stand-in connects, a driver taking the sensor over; once settled a path serves the facet in place of the own
one, which is measured; EXC_V gives the sense gain times the declared voltage over the measurement; at H a bad result
changes no image word, count or generation and a good one counts and the own path settles; then the own path serves again
(R359, R363, R376, R378). -/
def Obligations.CalibrationRollsOverAStandIn : Prop :=
  ∀ (s : State) (r : CalRun), s.ready = true → s.cal.run = some r → r.closed = false →
    (∀ i, r.phase = 0 → r.checked = true → s.due r.stamp = true → r.waitFrom + s.calSlow ≤ s.tick → r.borrows = true →
      s.commitStamps.any s.due = false → s.spareDue [3] = false →
      s.pickSpare (calKind r.proc r.target) r.target = some i →
      ∃ t, exec .calRunStart s = .next t ∧ t.cal.run = some { r with phase := 1, standin := some i, left := s.calLeft r } ∧
        (t.spareAt (calKind r.proc r.target) i).state = spLent ∧
        (t.spareAt (calKind r.proc r.target) i).target = r.target ∧ (t.facet r.target).standin = (s.facet r.target).standin ∧
        (t.facet r.target).excStandin = (if calKind r.proc r.target = 2 then some i else (s.facet r.target).excStandin) ∧
        (∀ k, k ≠ r.target → t.facet k = s.facet k) ∧ t.cal.image = s.cal.image) ∧
    (r.phase = 1 → r.left = 0 → s.aligned r.target = true →
      ∃ t, exec .calStandinSwap s = .next t ∧ t.cal.run = some { r with phase := 2, measFrom := s.tick } ∧
        (calKind r.proc r.target ≠ 2 → (t.facet r.target).standin = r.standin) ∧
        (t.facet r.target).excStandin = (s.facet r.target).excStandin ∧
        (∀ k, k ≠ r.target → t.facet k = s.facet k) ∧ t.spare = s.spare ∧ t.cal.image = s.cal.image) ∧
    (∀ x : MeasIn, r.phase = 2 → r.proc ≤ 5 ∨ r.proc = 9 → s.calSlow = 0 → r.measFrom + s.calTicks r ≤ s.tick →
      ∃ t r', exec (.calMeasurementDone x) s = .next t ∧ t.cal.run = some r' ∧ r'.phase = 3 ∧ r'.stamp = s.ctl.stamp + 1 ∧
        t.cal.image = s.cal.image ∧ t.facets = s.facets) ∧
    (∀ x : MeasIn, r.phase = 2 → r.proc = 3 → s.calSlow = 0 → r.measFrom + s.calTicks r ≤ s.tick → x.noisy = false →
      r.faulted = false → x.vals.getD 0 0 ≠ 0 → within2 (x.vals.getD 0 0) r.vDecl = true →
      nearOne (limGain r.limits) (some (s.imgR (senseAddr (s.calDriver r.target).1 (s.calDriver r.target).2) * r.vDecl
        / x.vals.getD 0 0)) = true →
      ∃ t r', exec (.calMeasurementDone x) s = .next t ∧ t.cal.run = some r' ∧ r'.phase = 3 ∧ r'.fail = 0 ∧
        r'.result = [(senseAddr (s.calDriver r.target).1 (s.calDriver r.target).2,
          f32OfRat (s.imgR (senseAddr (s.calDriver r.target).1 (s.calDriver r.target).2) * r.vDecl / x.vals.getD 0 0))]) ∧
    (r.phase = 3 → r.proc ≤ 9 → s.turn r.stamp = true → r.waitFrom + s.calSlow ≤ s.tick → r.owed = 0 →
      (r.fail ≠ 0 → ∃ t, exec .calResultApply s = .next t ∧ t.cal.image = s.cal.image ∧ t.cal.count = s.cal.count ∧
        t.cal.gen = s.cal.gen ∧ t.ports = s.ports) ∧
      (∀ i, r.fail = 0 → r.proc ≠ 2 → r.standin = some i → s.conflicts .mp r.stamp (calUnit r.target) = true →
        ∃ t r', exec .calResultApply s = .next t ∧ t.cal.run = some r' ∧ r'.phase = 4 ∧ r'.fail = 15 ∧ r'.counted = false ∧
          t.cal.image = s.cal.image ∧ t.cal.count = s.cal.count ∧ t.cal.gen = s.cal.gen ∧ fld t.ctl.irq0 8 1 = 1) ∧
      (∀ i, r.fail = 0 → r.proc ≠ 2 → r.proc ≤ 8 → r.standin = some i → calPort r.target = none →
        s.conflicts .mp r.stamp (calUnit r.target) = false →
        ∃ t r', exec .calResultApply s = .next t ∧ t.cal.run = some r' ∧ r'.phase = 4 ∧ r'.counted = true ∧
          (calKind r.proc r.target = 2 → (t.facet r.target).excStandin = none) ∧
          t.cal.count = min 65535 (s.cal.count + 1) ∧ t.nvm.factoryImg = (s.nvm.factoryImg && r.result.isEmpty))) ∧
    (r.phase = 4 → r.left = 0 → r.freeAt = none → s.aligned r.target = true →
      ∃ t, exec .calSwapBack s = .next t ∧ t.cal.run = some { r with freeAt := some (s.tick + 1) } ∧
        (calKind r.proc r.target ≠ 2 → (t.facet r.target).standin = none) ∧
        (∀ k, k ≠ r.target → t.facet k = s.facet k) ∧ t.spare = s.spare)

/-- REF_SCALE puts both scales in force on the sample after its measurement and counts once; WAIT_NEXT ends with code 13
after 600 s. A belt run counts its revolutions, fails with code 9 when the belt is loaded, and BELT_ZERO gives the zero in
force plus the mean. A restore takes the whole area with a new generation and the area's count at H, SYS_ONLY leaves the
count, and one that loses a conflict fails with code 15 and changes no word (R364, R367, R369, R370, R384). -/
def Obligations.ScalesAndRestores : Prop :=
  (∀ (s : State) (r : CalRun), s.ready = true → s.cal.run = some r → r.todo = [] → r.firstFail = 0 → r.owed = 0 →
    (∀ a b : DWord, r.proc = 2 → r.phase = 3 → r.fail = 0 → r.waitFrom + s.calSlow < s.tick → s.changesDone = true → r.result = [(32, a), (36, b)] →
      ∃ t, exec .refScaleStep s = .next t ∧ t.cal.run = none ∧ t.cal.state = 3 ∧ t.cal.reason = 0 ∧ t.img 32 = a ∧
        t.img 36 = b ∧ t.cal.count = min 65535 (s.cal.count + 1) ∧ t.nvm.factoryImg = false ∧ fld t.ctl.irq1 10 1 = 1) ∧
    (r.phase = 5 → r.waitFrom + 2400000 ≤ s.tick →
      ∃ t, exec .zCellWaitTimeout s = .next t ∧ t.cal.run = none ∧ t.cal.state = 4 ∧ t.cal.reason = 13 ∧
        t.cal.image = s.cal.image ∧ fld t.ctl.irq1 10 1 = 1) ∧
    (s.tick < r.waitFrom + 2400000 → exec .zCellWaitTimeout s = .next s)) ∧
  (∀ (s : State) (r : CalRun) (p : Nat), s.ready = true → s.cal.run = some r → r.phase = 6 → r.wrap = true →
    calPort r.target = some p →
    (r.proc = 8 → r.loaded = true → r.todo = [] → r.firstFail = 0 →
      ∃ t, exec .beltCalRevolutionEnd s = .next t ∧ t.cal.run = none ∧ t.cal.state = 4 ∧ t.cal.reason = 9 ∧ t.ports = s.ports) ∧
    (r.proc = 8 → r.loaded = false → r.faulted = false → r.revDone + 1 < r.revs →
      exec .beltCalRevolutionEnd s = .next (s.setRun { r with revDone := r.revDone + 1, wrap := false })) ∧
    ∀ (k : Nat) (len mass : Rat), r.proc = 7 → r.acc = [(k, len, mass)] → k / 2 ^ 20 = r.revDone → 0 < len →
      r.loaded = false → r.faulted = false → r.revs ≤ r.revDone + 1 → rabs (mass / len) ≤ limZero r.limits →
      rabs (f32R (s.port p).zero + mass / len) ≤ 1000 →
      ∃ t r', exec .beltCalRevolutionEnd s = .next t ∧ t.cal.run = some r' ∧ r'.phase = 3 ∧ r'.fail = 0 ∧
        r'.result = [(0, (s.port p).span), (1, f32OfRat (f32R (s.port p).zero + mass / len))] ∧ t.ports = s.ports) ∧
  ∀ (s : State) (r : CalRun), s.ready = true → s.cal.run = some r → r.proc = 10 → r.phase = 3 → s.turn r.stamp = true →
    r.todo = [] → r.firstFail = 0 → r.waitFrom + s.calSlow ≤ s.tick → r.owed = 0 →
    (s.conflicts .mp r.stamp (.corr 0x1FFF) = false → r.sysOnly = false →
      ∃ t, exec .restoreApply s = .next t ∧ t.cal.run = none ∧ t.cal.state = 3 ∧ t.cal.count = (s.restW 6).toNat ∧
        t.cal.gen = (max s.cal.gen (s.restD 8).toNat + 1) % 2 ^ 32 ∧ t.nvm.factoryImg = false ∧
        (∀ k, 16 ≤ k → k < 20980 → Store.get none t.cal.image k = some (s.restW k)) ∧
        ∀ k, k < 16 → Store.get none t.cal.image k = Store.get none s.cal.image k) ∧
    (s.conflicts .mp r.stamp (.corr 0x1FFF) = false → r.sysOnly = true →
      ∃ t, exec .restoreApply s = .next t ∧ t.cal.run = none ∧ t.cal.state = 3 ∧ t.cal.count = s.cal.count ∧
        t.cal.last = s.cal.last ∧ t.cal.gen = (max s.cal.gen (s.restD 8).toNat + 1) % 2 ^ 32 ∧ t.nvm.cellsOnly = true) ∧
    (s.conflicts .mp r.stamp (.corr 0x1FFF) = true →
      ∃ t, exec .restoreApply s = .next t ∧ t.cal.run = none ∧ t.cal.state = 4 ∧ t.cal.reason = 15 ∧
        t.cal.image = s.cal.image ∧ t.cal.gen = s.cal.gen ∧ fld t.ctl.irq0 8 1 = 1)

/-- A command of SPARE_CTL waits for its frame boundary and then acts, its cause 0 or the reason that fails it: PIN and
UNPIN set and clear the pin, SUBSTITUTE lends the spare and starts its settling, RELEASE starts the own part's return, CHECK
starts a triggered check, REF_SWITCH exchanges the references, and FORBID and ALLOW set the port's bit (R390, R391, R401,
R403). -/
def Obligations.SpareCommandsAct : Prop :=
  (∀ (m : Master) (v : Word) (s : State), s.directs m 0x2D → encBad 0x2D v = false → fld v 15 1 = 1 → 1 ≤ fld v 10 4 →
    fld v 10 4 ≤ 8 →
    ∃ t, exec (.registerWrite m 0x2D v) s = .next t ∧
      t.spare.cmd = some (fld v 10 4, fld v 4 3, fld v 7 3, (s.master m).fctSel, (s.master m).canSel) ∧
      t.facets = s.facets ∧ t.spare.sb = s.spare.sb ∧ t.spare.eb = s.spare.eb) ∧
  ∀ (s : State) (kind i n p : Nat), s.ready = true → s.due s.spare.cmdStamp = true →
    (s.spare.cmd = some (1, kind, i, n, p) → kind < 4 →
      ∃ t, exec .sparePin s = .next t ∧ t.spare.cmd = none ∧ t.spare.cause = s.spareNeed kind i n false false ∧
        (t.spare.cause = 0 → (t.spareAt kind i).pin = some n) ∧
        (t.spare.cause ≠ 0 → t.spareAt kind i = s.spareAt kind i)) ∧
    (s.spare.cmd = some (2, kind, i, n, p) → kind < 4 → memberOk kind i = true →
      ∃ t, exec .spareUnpin s = .next t ∧ t.spare.cmd = none ∧ t.spare.cause = 0 ∧ (t.spareAt kind i).pin = none) ∧
    (s.spare.cmd = some (3, kind, i, n, p) →
      ∃ t, exec .spareSubstitute s = .next t ∧ t.spare.cmd = none ∧
        t.spare.cause = s.spareNeed kind i n (s.facetBusy n) ((s.blkA n).policy == 2) ∧
        (t.spare.cause = 0 → (t.spareAt kind i).state = spLent ∧ (t.spareAt kind i).target = n ∧
          ∃ w, (t.facet n).swap = some w ∧ w.kind = kind ∧ w.spare = i ∧ w.back = false ∧ w.cause = 0) ∧
        (t.spare.cause ≠ 0 → t.facets = s.facets ∧ t.spareAt kind i = s.spareAt kind i)) ∧
    (s.spare.cmd = some (4, kind, i, n, p) → kind < 4 → memberOk kind i = true →
      ∃ t, exec .spareRelease s = .next t ∧ t.spare.cmd = none ∧
        ((s.spareAt kind i).state ≠ spSubst → t.spare.cause = 7 ∧ t.facets = s.facets) ∧
        ((s.spareAt kind i).state = spSubst → s.facetBusy (s.spareAt kind i).target = true → t.spare.cause = 4) ∧
        ((s.spareAt kind i).state = spSubst → s.facetBusy (s.spareAt kind i).target = false →
          t.spare.cause = 0 ∧ ∃ w, (t.facet (s.spareAt kind i).target).swap = some w ∧ w.spare = i ∧ w.back = true)) ∧
    (s.spare.cmd = some (5, kind, i, n, p) → kind < 2 → s.commitStamps.any s.due = false → s.calDue = false →
      ∃ t, exec .spareCheck s = .next t ∧ t.spare.cmd = none ∧
        t.spare.cause = s.spareNeed kind i n (s.facetBusy n) ((s.blkA n).policy == 2) ∧
        (t.spare.cause = 0 → (t.spareAt kind i).state = spChecking ∧
          ∃ c ∈ t.spare.chks, c.facet = n ∧ c.spare = i ∧ c.phase = 1 ∧ c.triggered = true) ∧
        ∀ k, (t.facet k).standin = (s.facet k).standin) ∧
    (s.spare.cmd = some (6, kind, i, n, p) → kind = 4 → i < 2 →
      ∃ t, exec .spareRefSwitch s = .next t ∧ t.spare.cmd = none ∧ t.spare.cause = (if s.stbyOk then 0 else 6) ∧
        t.spare.refActive = (if s.stbyOk then 1 - s.spare.refActive else s.spare.refActive)) ∧
    (s.spare.cmd = some (7, kind, i, n, p) →
      ∃ t, exec .spareForbid s = .next t ∧ t = { s with spare := { s.spare with
        cmd := none
        cause := if kind ≠ 5 ∨ i ≠ 2 ∨ 2 ≤ p then 1 else 0
        forbid := if kind ≠ 5 ∨ i ≠ 2 ∨ 2 ≤ p then s.spare.forbid else s.spare.forbid.set p true } }) ∧
    (s.spare.cmd = some (8, kind, i, n, p) →
      ∃ t, exec .spareAllow s = .next t ∧ t = { s with spare := { s.spare with
        cmd := none
        cause := if kind ≠ 5 ∨ i ≠ 2 ∨ 2 ≤ p then 1 else 0
        forbid := if kind ≠ 5 ∨ i ≠ 2 ∨ 2 ≤ p then s.spare.forbid else s.spare.forbid.set p false } })

/-- A background check shadows the next facet, and none starts while the MP sheds; means that agree end it, and others send
the referee; a failed own path is replaced, or marked as needing a spare; a failed spare is out of service. A driver check
with a stable substitute replaces the driver under the automatic policy and marks it as needing a spare otherwise; one that
is not stable for 2,080 ticks bars another (R392 to R398). -/
def Obligations.SparesAreCheckedAndReplace : Prop :=
  ((∀ (z : Bool) (s : State) (n i : Nat), s.ready = true → s.xcEn = true → s.isFrame = true → s.ctl.shed = 0 →
    2 ≤ (s.freeList (b2n z) n).length → s.spare.wanted = [] →
    s.commitStamps.any s.due = false → s.calDue = false → s.spareDue [3, 5] = false →
    s.spare.chks.all (fun c => isZ c.facet != z || c.triggered) = true → s.sweepNext z = some n →
    s.pickSpare (b2n z) n = some i →
    ∃ t, exec (.backgroundCheckStart z) s = .next t ∧ (t.spareAt (b2n z) i).state = spChecking ∧
      (∃ c ∈ t.spare.chks, c.facet = n ∧ c.spare = i ∧ c.phase = 1 ∧ c.triggered = false) ∧
      ∀ k, (t.facet k).standin = (s.facet k).standin) ∧
  (∀ (z : Bool) (s : State), 1 ≤ s.ctl.shed → exec (.backgroundCheckStart z) s = .next s) ∧
  (∀ (z : Bool) (own sp rms : IQ) (s : State) (c : Check), s.ready = true → s.dueCheck z 1 1 2080 = some c →
    (s.shadowAgrees z own sp rms = true →
      exec (.shadowDecision z own sp rms) s = .next (s.modCheck c.facet fun c => { c with phase := 4 })) ∧
    (s.shadowAgrees z own sp rms = false →
      ∃ t, exec (.shadowDecision z own sp rms) s = .next t ∧ (t.spareAt (pathKind c.facet) c.spare).state = spLent ∧
        t.spare.chks = s.spare.chks.map (fun (d : Check) =>
          if d.facet = c.facet then { d with phase := 2, waiting := true } else d) ∧ t.facets = s.facets)) ∧
  (∀ (z : Bool) (own sp rms : IQ) (s : State), s.shadowAgrees z own sp rms = true ↔
    (rabs (own.i - sp.i) ≤ s.xcTol ∧ rms.i ≤ 2 * s.xcTol) ∧
      (z = true → rabs (own.q - sp.q) ≤ s.xcTol ∧ rms.q ≤ 2 * s.xcTol)) ∧
  ∀ (z : Bool) (offs gain : IQ) (s : State) (c : Check), s.ready = true → s.isFrame = true → s.dueCheck z 2 3 4160 = some c →
    ((limOfs s.cal.limits < rabs offs.i ∨ limGain s.cal.limits < rabs (gain.i - 1)) ∨
      (z = true ∧ (limOfs s.cal.limits < rabs offs.q ∨ limGain s.cal.limits < rabs (gain.q - 1))) →
      ∃ t, exec (.refereeDecision z offs gain) s = .next t ∧ (∀ d ∈ t.spare.chks, d.facet ≠ c.facet) ∧
        (c.phase = 2 → (s.blkA c.facet).policy = 0 → s.autoSub = true →
          (t.facet c.facet).subst = some c.spare ∧ (t.facet c.facet).needPath = false ∧
          (t.spareAt (pathKind c.facet) c.spare).state = spSubst ∧ fld t.ctl.irq0 7 1 = 1) ∧
        (c.phase = 2 → (s.blkA c.facet).policy ≠ 0 ∨ s.autoSub = false → (t.facet c.facet).needPath = true) ∧
        (c.phase ≠ 2 → (t.spareAt (pathKind c.facet) c.spare).state = spFailed ∧ t.facets = s.facets)) ∧
    (rabs offs.i ≤ limOfs s.cal.limits → rabs (gain.i - 1) ≤ limGain s.cal.limits →
      (z = true → rabs offs.q ≤ limOfs s.cal.limits ∧ rabs (gain.q - 1) ≤ limGain s.cal.limits) →
      ∃ t, exec (.refereeDecision z offs gain) s = .next t ∧
        (c.phase = 2 → ∃ w, (t.facet c.facet).swap = some w ∧ w.back = true ∧ w.keep = true ∧ t.spare.sb = s.spare.sb ∧
          t.spare.sz = s.spare.sz) ∧
        (c.phase ≠ 2 → (∀ d ∈ t.spare.chks, d.facet ≠ c.facet) ∧ t.facets = s.facets))) ∧
  ∀ (f : Fin 512) (i : Fin 8) (s : State) (d : DrvCheck), s.ready = true → s.isFrame = true →
    s.spare.drv.find? (fun d => d.facet == f.val) = some d → d.spare = i.val →
    (d.ok = true → (s.blkA f.val).policy = 0 → s.autoSub = true →
      ∃ t, exec (.driverCheckResult f i) s = .next t ∧ (t.facet f.val).excSubst = some d.spare ∧
        (t.facet f.val).needExc = false ∧ (t.spareAt (drvKind f.val) d.spare).state = spSubst ∧
        ∀ e ∈ t.spare.drv, e.facet ≠ f.val) ∧
    (d.ok = true → (s.blkA f.val).policy ≠ 0 ∨ s.autoSub = false →
      ∃ t, exec (.driverCheckResult f i) s = .next t ∧ (t.facet f.val).excSubst = (s.facet f.val).excSubst ∧
        (t.facet f.val).excFailed = true ∧ (t.facet f.val).needExc = true ∧ (t.facet f.val).excStandin = none ∧
        ∀ e ∈ t.spare.drv, e.facet ≠ f.val) ∧
    (d.ok = false → d.from_ + 2080 ≤ s.tick →
      ∃ t, exec (.driverCheckResult f i) s = .next t ∧ (t.facet f.val).checkBarred = true ∧
        (t.facet f.val).excStandin = none ∧ (t.facet f.val).excSubst = (s.facet f.val).excSubst ∧
        ∀ e ∈ t.spare.drv, e.facet ≠ f.val) ∧
    (d.ok = false → s.tick < d.from_ + 2080 → exec (.driverCheckResult f i) s = .next s)

/-- A reference that has deviated for eight ticks has failed: the standby is to become active, or, with the other one failed
too, the device is in the fatal state of class REFERENCE. A wide difference for 4,000 ticks warns. A scrub marks a row
corrected twice within 86,400 s, an uncorrectable row is a fatal error of class SRAM, and nothing is scrubbed while the MP
sheds (R400, R401, R404, R489). -/
def Obligations.ReferencesAndMemoryFail : Prop :=
  ((∀ (b : Bool) (s : State), s.ready = true → (if b then s.spare.failB else s.spare.failA) = false →
    8 ≤ (if b then s.spare.failCntB else s.spare.failCntA) →
    ∃ t, exec (.referenceFailure b) s = .next t ∧ (if b then t.spare.failB else t.spare.failA) = true ∧
      t.spare.refActive = s.spare.refActive ∧
      ((if b then s.spare.failA else s.spare.failB) = true →
        t.life.phase = .fatal ∧ t.life.fatalClass = fatalCode .reference ∧ t.life.drivesOn = false) ∧
      ((if b then s.spare.failA else s.spare.failB) = false →
        t.life = s.life ∧ ((if b then 1 else 0) = s.spare.refActive → t.spare.refSwitch = true))) ∧
  (∀ (b : Bool) (s : State), (if b then s.spare.failCntB else s.spare.failCntA) < 8 →
    exec (.referenceFailure b) s = .next s) ∧
  (∀ s : State, s.ready = true → 4000 ≤ s.spare.warnCnt → s.spare.refWarn = false →
    ∃ t, exec .referenceWarning s = .next t ∧ t.spare = { s.spare with refWarn := true } ∧ fld t.ctl.irq0 7 1 = 1) ∧
  ∀ s : State, s.spare.warnCnt < 4000 ∨ s.spare.refWarn = true → exec .referenceWarning s = .next s) ∧
  (∀ (rows : List Nat) (s : State), 1 ≤ s.ctl.shed ∨ s.scrubDone = false → exec (.sramScrub rows none) s = .next s) ∧
  (∀ (rows : List Nat) (a : Nat) (s : State), s.ready = true →
    ∃ t, exec (.sramScrub rows (some a)) s = .next t ∧ t.life.phase = .fatal ∧ t.life.fatalClass = fatalCode .sram ∧
      t.life.fatalDetail = BitVec.ofNat 32 a ∧ t.life.drivesOn = false) ∧
  ∀ (r : Nat) (s : State), s.ready = true → s.ctl.shed = 0 → 600000 ≤ s.spare.scrubFrames → 1048576 ≤ s.spare.scrubRead →
    ∃ t, exec (.sramScrub [r] none) s = .next t ∧ t.life = s.life ∧ t.spare.scrubFrames = 0 ∧ t.spare.scrubRead = 0 ∧
      ((∀ e ∈ s.spare.rowHits, e.1 = r → e.2 + 345600000 < s.tick) → t.spare.rowsMarked = s.spare.rowsMarked) ∧
      (∀ e, s.spare.rowHits.find? (fun e => e.1 == r) = some e → s.tick ≤ e.2 + 345600000 → r ∈ t.spare.rowsMarked) ∧
      t.facets = s.facets ∧ t.cal = s.cal

/-- B-facet n has INP, INN, EXS and EXF in row index n / 14 from column 4 (n mod 14) + 1, and EXRET_g lies at BA(g + 1);
Z-facet m has ZDRV, ZDRS, ZGRD and ZSNS in row index 32 + m / 11 from column 5 (m mod 11) + 1, and the fifth column is AGND
(R498, R499). -/
def Obligations.LandsOfFacets : Prop :=
  (∀ n < 448, landAt (n / 14) (4 * (n % 14) + 1) = .inp n ∧ landAt (n / 14) (4 * (n % 14) + 1 + 1) = .inn n ∧
    landAt (n / 14) (4 * (n % 14) + 1 + 2) = .exs n ∧ landAt (n / 14) (4 * (n % 14) + 1 + 3) = .exf n) ∧
  (rowIndex ['B', 'A'] = some 38 ∧ ∀ g < 56, landAt 38 (g + 1) = .exret g) ∧
  ∀ m < 64, landAt (32 + m / 11) (5 * (m % 11) + 1) = .zdrv m ∧ landAt (32 + m / 11) (5 * (m % 11) + 1 + 1) = .zdrs m ∧
    landAt (32 + m / 11) (5 * (m % 11) + 1 + 2) = .zgrd m ∧ landAt (32 + m / 11) (5 * (m % 11) + 1 + 3) = .zsns m ∧
    landAt (32 + m / 11) (5 * (m % 11) + 1 + 4) = .power .agnd

/-- HOST and MP hold the entry 11 at every target in every state; whatever the bezel holds, every master reads the identity
registers, and reads and writes its own clasp registers and its own copies (R427). -/
def Obligations.BezelNeverBindsHostOrMp : Prop :=
  (∀ (t : Nat) (s : State), s.entry .host t = 3 ∧ s.entry .mp t = 3) ∧
  (∀ (m : Master) (off : BitVec 7) (s : State), s.ready = true → (m = .host → s.ctl.extest = false) →
    off.toNat ∈ [0x00, 0x01, 0x02, 0x03, 0x08, 0x09, 0x0A, 0x20, 0x3B, 0x40, 0x53, 0x60, 0x7C, 0x7D, 0x7E] →
    ∃ t, exec (.rcRead m off) s = .next t ∧ (t.master m).rdata = s.regWord m off.toNat ∧ t.log = s.log) ∧
  ∀ (m : Master) (v : Word) (s : State),
    (s.owns m 0x20 → ∃ t, exec (.registerWrite m 0x20 v) s = .next t ∧ t.regWord m 0x20 = w16 (fld v 0 9) ∧ t.log = s.log ∧
      ∀ n, n ≠ m → t.master n = s.master n) ∧
    (s.owns m 0x40 → ∃ t, exec (.registerWrite m 0x40 v) s = .next t ∧ t.regWord m 0x40 = w16 (fld v 0 2) ∧ t.log = s.log) ∧
    (s.owns m 0x60 → fld v 0 2 ≠ 3 → ∃ t, exec (.registerWrite m 0x60 v) s = .next t ∧ t.regWord m 0x60 = w16 (fld v 0 2) ∧
      t.log = s.log) ∧
    (s.owns m 0x53 → fld v 4 4 ≤ 8 → ∃ t, exec (.registerWrite m 0x53 v) s = .next t ∧
      (t.master m).trgSel = fld v 0 4 + 16 * fld v 4 4 ∧ t.log = s.log) ∧
    (s.owns m 0x3B → ∃ t, exec (.registerWrite m 0x3B v) s = .next t ∧ (t.master m).budgetSel = fld v 0 3 ∧ t.log = s.log) ∧
    (s.owns m 0x7C → fld v 0 4 ≤ 13 → ∃ t, exec (.registerWrite m 0x7C v) s = .next t ∧
      (t.master m).winSpace = fld v 0 4 ∧ t.log = s.log) ∧
    (s.owns m 0x7D → ∀ w : Word, ∃ t u, exec (.registerWrite m 0x7D v) s = .next t ∧
      exec (.registerWrite m 0x7E w) t = .next u ∧ (u.master m).winAddr = w.toNat * 65536 + v.toNat ∧ u.log = s.log) ∧
    (s.owns m 0x08 → (s.master m).clasp.isOpen = false → (s.master m).clasp.pend = false →
      ∃ t, exec (.registerWrite m 0x08 1) s = .next t ∧ (t.master m).clasp.isOpen = true ∧ t.log = s.log)

/-- No command but the completion of the dump of a fatal error, or a further fatal error while a complete dump is held,
asserts nALERT, and the completion does so whatever the interrupt masks hold (R417, R493). -/
def Obligations.AlertOnlyForADump : Prop :=
  (∀ (c : Instr) (s t : State), s.life.alert = false → exec c s = .next t → t.life.alert = true →
    s.life.phase = .fatal ∧ t.life.fatalDone = true ∧
    ((∃ hw il, c = .loupeDumpComplete hw il) ∨ s.life.loupeValid = true ∧ ∃ e d, c = .fatalError e d)) ∧
  ∀ (hw il : Bool) (m0 m1 : Word) (s : State), s.life.phase = .fatal → s.life.fatalDone = false →
    ∃ t, exec (.loupeDumpComplete hw il) { s with ctl := { s.ctl with mask0 := m0, mask1 := m1 } } = .next t ∧
      t.life.alert = true

/-- A Z-facet with exactly one slot whose dwell is not 0 runs in continuous operation and an assigned one with two to four
in scheduled operation; an unassigned one runs in continuous operation; FP_ZSTAT.SCHED shows which (R71, R78). -/
def Obligations.OperationFollowsActiveSlots : Prop :=
  ∀ (s : State) (n : Nat), 448 ≤ n → n < 512 →
    (((List.range 4).filter fun j => (s.blkA n).zDwell j != 0).length = 1 → scheduled n (s.blkA n) = false ∧
      fld (s.fpWord n 15 true) 0 1 = 0) ∧
    ((s.blkA n).type = 0 → scheduled n (s.blkA n) = false ∧ fld (s.fpWord n 15 true) 0 1 = 0) ∧
    ((s.blkA n).type ≠ 0 → 2 ≤ ((List.range 4).filter fun j => (s.blkA n).zDwell j != 0).length → scheduled n (s.blkA n) = true ∧
      fld (s.fpWord n 15 true) 0 1 = 1)

/-- BUDGET_USED reads the transfers that the selected activity used in the last complete frame, in units of 4, rounded up;
BUDGET_OVR reads its overrun count, which a local master's read clears (R436). -/
def Obligations.BudgetReadsUseAndOverruns : Prop :=
  (∀ (fabric canclk : Nat) (s : State), s.ready = true → s.isFrame = true →
    s.ctl.frameAt ≠ some s.tick →
    ∃ t, exec (.frameBoundary fabric canclk) s = .next t ∧ t.budget.usedLast = s.budget.used) ∧
  ∀ (m : Master) (s : State), isRemote m = false →
    (s.reads m 0x3D → s.budget.usedLast.getD (s.master m).budgetSel 0 ≤ 262140 →
      ∃ t, exec (.rcRead m 0x3D) s = .next t ∧
        (t.master m).rdata.toNat = (s.budget.usedLast.getD (s.master m).budgetSel 0 + 3) / 4 ∧ t.budget = s.budget) ∧
    (s.reads m 0x3E → (s.master m).budgetSel < s.budget.ovr.length →
      ∃ t, exec (.rcRead m 0x3E) s = .next t ∧ (t.master m).rdata = w16 (s.budget.ovr.getD (s.master m).budgetSel 0) ∧
        t.budget = { s.budget with ovr := s.budget.ovr.set (s.master m).budgetSel 0 })

/-- Each listed register reads, after reset, the value that chapter 15 gives its fields (R443, R446 to R457). -/
def Obligations.ResetRegisterValues : Prop :=
  ∀ e ∈ ([(0x00, 0x5120), (0x02, 0x0E00), (0x03, 0x0000), (0x04, 0x0000), (0x05, 0x0000), (0x06, 0x0000), (0x08,
       0x0000), (0x09, 0x0000), (0x0A, 0x0000), (0x0C, 0x0064), (0x0D, 0x0000), (0x0F, 0x0000), (0x10, 0x0150),
       (0x11, 0x1E00), (0x16, 0x0000), (0x17, 0x0000), (0x18, 0x0000), (0x19, 0x007C), (0x1A, 0x0000), (0x1B,
       0x0064), (0x1C, 0x0000), (0x1D, 0x0000), (0x20, 0x0000), (0x21, 0x0000), (0x22, 0x0000)] ++
      [(0x24, 0x0000), (0x27, 0x0000), (0x28, 0x0002), (0x29, 0x0000), (0x2A, 0x0047), (0x2B, 0x0001), (0x2C,
       0x0000), (0x2D, 0x0007), (0x2E, 0x0000), (0x2F, 0x0400), (0x30, 0x0001), (0x31, 0x0000), (0x32, 0x000B),
       (0x33, 0x0000), (0x34, 0x0000), (0x35, 0x0000), (0x36, 0x0000), (0x37, 0x0040), (0x38, 0x0000), (0x39,
       0x001B), (0x3A, 0x0151), (0x3B, 0x0000), (0x3D, 0x0000), (0x3E, 0x0000), (0x3F, 0x0000)] ++
      [(0x40, 0x0000), (0x41, 0x0008), (0x42, 0x0000), (0x45, 0x0000), (0x46, 0x0000), (0x47, 0x0000), (0x48,
       0x0000), (0x49, 0x001F), (0x4A, 0x0000), (0x4B, 0x0000), (0x4C, 0x0020), (0x4D, 0x0000), (0x4E, 0x3C32),
       (0x4F, 0x0000), (0x50, 0x0000), (0x51, 0x0000), (0x52, 0x0000), (0x53, 0x0000), (0x55, 0x0000), (0x56,
       0x0000), (0x57, 0x0000), (0x58, 0x0000), (0x59, 0x0001), (0x5A, 0x0000), (0x5B, 0x0000)] ++
      [(0x5C, 0x0068), (0x5D, 0x0006), (0x5E, 0x0010), (0x5F, 0x0000), (0x60, 0x0000), (0x61, 0x0001), (0x62,
       0x0000), (0x63, 0x0F00), (0x64, 0x0F3E), (0x65, 0x0100), (0x66, 0x0106), (0x67, 0x000F), (0x68, 0x0000),
       (0x69, 0x0000), (0x6A, 0x0000), (0x6B, 0x0000), (0x6D, 0x0000), (0x6E, 0x0040), (0x6F, 0x0005), (0x70,
       0x0000), (0x71, 0x0000), (0x72, 0x0000), (0x75, 0x0000), (0x76, 0x2222), (0x7C, 0x0000)] : List (Nat × Nat)),
    (State.reset.regWord .host e.1).toNat = e.2
end

