-- ==== Sys2Proof/Laws/State.lean ====
section
/-! SUPPORT. One lemma per field per update of the shared operations: what each leaves as it stands, and what it writes. -/

namespace Sys2Proof.Laws

open Sys2Proof Sys2Proof.Machine

variable (s : State)

/-- A log entry touches the log alone (R467). -/
theorem logT_ex (t c m o : Nat) (d : BitVec 32) :
    ∃ l q, s.logT t c m o d = { s with log := l, logSeq := q } := by
  unfold State.logT
  dsimp only
  split
  · exact ⟨_, _, rfl⟩
  · split <;> exact ⟨_, _, rfl⟩

theorem logT_eq (t c m o : Nat) (d : BitVec 32) :
    s.logT t c m o d = { s with log := (s.logT t c m o d).log, logSeq := (s.logT t c m o d).logSeq } := by
  obtain ⟨l, q, h⟩ := logT_ex s t c m o d
  rw [h]

/-- A facet's alarm touches its record and the messages alone (R327). -/
theorem facetAlarm_ex (n c d : Nat) : ∃ f m, s.facetAlarm n c d = { s with facets := f, msg := m } := by
  unfold State.facetAlarm
  dsimp only
  split
  · exact ⟨_, _, rfl⟩
  · split <;> exact ⟨_, _, rfl⟩

theorem facetAlarm_eq (n c d : Nat) :
    s.facetAlarm n c d = { s with facets := (s.facetAlarm n c d).facets, msg := (s.facetAlarm n c d).msg } := by
  obtain ⟨l, q, h⟩ := facetAlarm_ex s n c d
  rw [h]

/-- A loss touches the messages' losses alone (R276). -/
theorem lose_ex (a b c d e f : Nat) : ∃ m, s.lose a b c d e f = { s with msg := m } := by
  unfold State.lose
  split <;> exact ⟨_, rfl⟩

theorem lose_eq (a b c d e f : Nat) : s.lose a b c d e f = { s with msg := (s.lose a b c d e f).msg } := by
  obtain ⟨m, h⟩ := lose_ex s a b c d e f
  rw [h]

/-- A flag added to the open beads of a port touches the beads alone (R463). -/
theorem flagBeads_ex (p : Nat) (m : Word) : ∃ b, s.flagBeads p m = { s with bead := b } := by
  have h : ∀ (l : List Bead) (u : State), ∃ b, l.foldl (fun s b => s.touchEntry b.entry) u = { u with bead := b } := by
    intro l
    induction l with
    | nil => exact fun u => ⟨_, rfl⟩
    | cons x xs ih =>
      intro u
      obtain ⟨b, hb⟩ := ih (u.touchEntry x.entry)
      exact ⟨b, by rw [List.foldl_cons, hb]; rfl⟩
  obtain ⟨b, hb⟩ := h (s.bead.beads.filter fun (b : Bead) => b.port == p && (b.flags &&& m) != m)
    { s with bead := { s.bead with beads := s.bead.beads.map fun (b : Bead) =>
      if b.port = p then { b with flags := b.flags ||| m } else b } }
  exact ⟨b, hb⟩

theorem flagBeads_eq (p : Nat) (m : Word) : s.flagBeads p m = { s with bead := (s.flagBeads p m).bead } := by
  obtain ⟨b, h⟩ := flagBeads_ex s p m
  rw [h]

/-- A stall touches the budgets and the interrupt status (R434). -/
theorem stall_ex (a : Nat) : ∃ b c, s.stall a = { s with budget := b, ctl := c } := by
  unfold State.stall
  split <;> exact ⟨_, _, rfl⟩

theorem stall_eq (a : Nat) : s.stall a = { s with budget := (s.stall a).budget, ctl := (s.stall a).ctl } := by
  obtain ⟨b, c, h⟩ := stall_ex s a
  rw [h]

/-! ### setMaster -/

@[simp] theorem setMaster_pending (m : Master) (v : MasterSt) : (s.setMaster m v).pending = s.pending := by cases m <;> rfl
@[simp] theorem setMaster_free (m : Master) (v : MasterSt) : (s.setMaster m v).free = s.free := by cases m <;> rfl
@[simp] theorem setMaster_fpStaged (m : Master) (v : MasterSt) : (s.setMaster m v).fpStaged = s.fpStaged := by cases m <;> rfl
@[simp] theorem setMaster_fpActive (m : Master) (v : MasterSt) : (s.setMaster m v).fpActive = s.fpActive := by cases m <;> rfl
@[simp] theorem setMaster_facets (m : Master) (v : MasterSt) : (s.setMaster m v).facets = s.facets := by cases m <;> rfl
@[simp] theorem setMaster_applies (m : Master) (v : MasterSt) : (s.setMaster m v).applies = s.applies := by cases m <;> rfl
@[simp] theorem setMaster_needSpare (m : Master) (v : MasterSt) : (s.setMaster m v).needSpare = s.needSpare := by cases m <;> rfl
@[simp] theorem setMaster_applyCause (m : Master) (v : MasterSt) : (s.setMaster m v).applyCause = s.applyCause := by cases m <;> rfl
@[simp] theorem setMaster_faultSum (m : Master) (v : MasterSt) : (s.setMaster m v).faultSum = s.faultSum := by cases m <;> rfl
@[simp] theorem setMaster_fctRead (m : Master) (v : MasterSt) : (s.setMaster m v).fctRead = s.fctRead := by cases m <;> rfl
@[simp] theorem setMaster_exc (m : Master) (v : MasterSt) : (s.setMaster m v).exc = s.exc := by cases m <;> rfl
@[simp] theorem setMaster_spare (m : Master) (v : MasterSt) : (s.setMaster m v).spare = s.spare := by cases m <;> rfl
@[simp] theorem setMaster_chain (m : Master) (v : MasterSt) : (s.setMaster m v).chain = s.chain := by cases m <;> rfl
@[simp] theorem setMaster_budget (m : Master) (v : MasterSt) : (s.setMaster m v).budget = s.budget := by cases m <;> rfl
@[simp] theorem setMaster_time (m : Master) (v : MasterSt) : (s.setMaster m v).time = s.time := by cases m <;> rfl
@[simp] theorem setMaster_ports (m : Master) (v : MasterSt) : (s.setMaster m v).ports = s.ports := by cases m <;> rfl
@[simp] theorem setMaster_bead (m : Master) (v : MasterSt) : (s.setMaster m v).bead = s.bead := by cases m <;> rfl
@[simp] theorem setMaster_trg (m : Master) (v : MasterSt) : (s.setMaster m v).trg = s.trg := by cases m <;> rfl
@[simp] theorem setMaster_cap (m : Master) (v : MasterSt) : (s.setMaster m v).cap = s.cap := by cases m <;> rfl
@[simp] theorem setMaster_msg (m : Master) (v : MasterSt) : (s.setMaster m v).msg = s.msg := by cases m <;> rfl
@[simp] theorem setMaster_can (m : Master) (v : MasterSt) : (s.setMaster m v).can = s.can := by cases m <;> rfl
@[simp] theorem setMaster_candev (m : Master) (v : MasterSt) : (s.setMaster m v).candev = s.candev := by cases m <;> rfl
@[simp] theorem setMaster_sess (m : Master) (v : MasterSt) : (s.setMaster m v).sess = s.sess := by cases m <;> rfl
@[simp] theorem setMaster_cal (m : Master) (v : MasterSt) : (s.setMaster m v).cal = s.cal := by cases m <;> rfl
@[simp] theorem setMaster_curves (m : Master) (v : MasterSt) : (s.setMaster m v).curves = s.curves := by cases m <;> rfl
@[simp] theorem setMaster_curveOld (m : Master) (v : MasterSt) : (s.setMaster m v).curveOld = s.curveOld := by cases m <;> rfl
@[simp] theorem setMaster_curvePend (m : Master) (v : MasterSt) : (s.setMaster m v).curvePend = s.curvePend := by cases m <;> rfl
@[simp] theorem setMaster_life (m : Master) (v : MasterSt) : (s.setMaster m v).life = s.life := by cases m <;> rfl
@[simp] theorem setMaster_ctl (m : Master) (v : MasterSt) : (s.setMaster m v).ctl = s.ctl := by cases m <;> rfl
@[simp] theorem setMaster_nvm (m : Master) (v : MasterSt) : (s.setMaster m v).nvm = s.nvm := by cases m <;> rfl
@[simp] theorem setMaster_log (m : Master) (v : MasterSt) : (s.setMaster m v).log = s.log := by cases m <;> rfl
@[simp] theorem setMaster_logSeq (m : Master) (v : MasterSt) : (s.setMaster m v).logSeq = s.logSeq := by cases m <;> rfl
@[simp] theorem setMaster_winHold (m : Master) (v : MasterSt) : (s.setMaster m v).winHold = s.winHold := by cases m <;> rfl
@[simp] theorem setMaster_loupe (m : Master) (v : MasterSt) : (s.setMaster m v).loupe = s.loupe := by cases m <;> rfl
@[simp] theorem setMaster_trace (m : Master) (v : MasterSt) : (s.setMaster m v).trace = s.trace := by cases m <;> rfl

/-! ### modMaster -/

@[simp] theorem modMaster_pending (m : Master) (f : MasterSt → MasterSt) : (s.modMaster m f).pending = s.pending := by cases m <;> rfl
@[simp] theorem modMaster_free (m : Master) (f : MasterSt → MasterSt) : (s.modMaster m f).free = s.free := by cases m <;> rfl
@[simp] theorem modMaster_fpStaged (m : Master) (f : MasterSt → MasterSt) : (s.modMaster m f).fpStaged = s.fpStaged := by cases m <;> rfl
@[simp] theorem modMaster_fpActive (m : Master) (f : MasterSt → MasterSt) : (s.modMaster m f).fpActive = s.fpActive := by cases m <;> rfl
@[simp] theorem modMaster_facets (m : Master) (f : MasterSt → MasterSt) : (s.modMaster m f).facets = s.facets := by cases m <;> rfl
@[simp] theorem modMaster_applies (m : Master) (f : MasterSt → MasterSt) : (s.modMaster m f).applies = s.applies := by cases m <;> rfl
@[simp] theorem modMaster_needSpare (m : Master) (f : MasterSt → MasterSt) : (s.modMaster m f).needSpare = s.needSpare := by cases m <;> rfl
@[simp] theorem modMaster_applyCause (m : Master) (f : MasterSt → MasterSt) : (s.modMaster m f).applyCause = s.applyCause := by cases m <;> rfl
@[simp] theorem modMaster_faultSum (m : Master) (f : MasterSt → MasterSt) : (s.modMaster m f).faultSum = s.faultSum := by cases m <;> rfl
@[simp] theorem modMaster_fctRead (m : Master) (f : MasterSt → MasterSt) : (s.modMaster m f).fctRead = s.fctRead := by cases m <;> rfl
@[simp] theorem modMaster_exc (m : Master) (f : MasterSt → MasterSt) : (s.modMaster m f).exc = s.exc := by cases m <;> rfl
@[simp] theorem modMaster_spare (m : Master) (f : MasterSt → MasterSt) : (s.modMaster m f).spare = s.spare := by cases m <;> rfl
@[simp] theorem modMaster_chain (m : Master) (f : MasterSt → MasterSt) : (s.modMaster m f).chain = s.chain := by cases m <;> rfl
@[simp] theorem modMaster_budget (m : Master) (f : MasterSt → MasterSt) : (s.modMaster m f).budget = s.budget := by cases m <;> rfl
@[simp] theorem modMaster_time (m : Master) (f : MasterSt → MasterSt) : (s.modMaster m f).time = s.time := by cases m <;> rfl
@[simp] theorem modMaster_ports (m : Master) (f : MasterSt → MasterSt) : (s.modMaster m f).ports = s.ports := by cases m <;> rfl
@[simp] theorem modMaster_bead (m : Master) (f : MasterSt → MasterSt) : (s.modMaster m f).bead = s.bead := by cases m <;> rfl
@[simp] theorem modMaster_trg (m : Master) (f : MasterSt → MasterSt) : (s.modMaster m f).trg = s.trg := by cases m <;> rfl
@[simp] theorem modMaster_cap (m : Master) (f : MasterSt → MasterSt) : (s.modMaster m f).cap = s.cap := by cases m <;> rfl
@[simp] theorem modMaster_msg (m : Master) (f : MasterSt → MasterSt) : (s.modMaster m f).msg = s.msg := by cases m <;> rfl
@[simp] theorem modMaster_can (m : Master) (f : MasterSt → MasterSt) : (s.modMaster m f).can = s.can := by cases m <;> rfl
@[simp] theorem modMaster_candev (m : Master) (f : MasterSt → MasterSt) : (s.modMaster m f).candev = s.candev := by cases m <;> rfl
@[simp] theorem modMaster_sess (m : Master) (f : MasterSt → MasterSt) : (s.modMaster m f).sess = s.sess := by cases m <;> rfl
@[simp] theorem modMaster_cal (m : Master) (f : MasterSt → MasterSt) : (s.modMaster m f).cal = s.cal := by cases m <;> rfl
@[simp] theorem modMaster_curves (m : Master) (f : MasterSt → MasterSt) : (s.modMaster m f).curves = s.curves := by cases m <;> rfl
@[simp] theorem modMaster_curveOld (m : Master) (f : MasterSt → MasterSt) : (s.modMaster m f).curveOld = s.curveOld := by cases m <;> rfl
@[simp] theorem modMaster_curvePend (m : Master) (f : MasterSt → MasterSt) : (s.modMaster m f).curvePend = s.curvePend := by cases m <;> rfl
@[simp] theorem modMaster_life (m : Master) (f : MasterSt → MasterSt) : (s.modMaster m f).life = s.life := by cases m <;> rfl
@[simp] theorem modMaster_ctl (m : Master) (f : MasterSt → MasterSt) : (s.modMaster m f).ctl = s.ctl := by cases m <;> rfl
@[simp] theorem modMaster_nvm (m : Master) (f : MasterSt → MasterSt) : (s.modMaster m f).nvm = s.nvm := by cases m <;> rfl
@[simp] theorem modMaster_log (m : Master) (f : MasterSt → MasterSt) : (s.modMaster m f).log = s.log := by cases m <;> rfl
@[simp] theorem modMaster_logSeq (m : Master) (f : MasterSt → MasterSt) : (s.modMaster m f).logSeq = s.logSeq := by cases m <;> rfl
@[simp] theorem modMaster_winHold (m : Master) (f : MasterSt → MasterSt) : (s.modMaster m f).winHold = s.winHold := by cases m <;> rfl
@[simp] theorem modMaster_loupe (m : Master) (f : MasterSt → MasterSt) : (s.modMaster m f).loupe = s.loupe := by cases m <;> rfl
@[simp] theorem modMaster_trace (m : Master) (f : MasterSt → MasterSt) : (s.modMaster m f).trace = s.trace := by cases m <;> rfl

/-! ### modClasp -/

@[simp] theorem modClasp_pending (m : Master) (f : Clasp → Clasp) : (s.modClasp m f).pending = s.pending := by cases m <;> rfl
@[simp] theorem modClasp_free (m : Master) (f : Clasp → Clasp) : (s.modClasp m f).free = s.free := by cases m <;> rfl
@[simp] theorem modClasp_fpStaged (m : Master) (f : Clasp → Clasp) : (s.modClasp m f).fpStaged = s.fpStaged := by cases m <;> rfl
@[simp] theorem modClasp_fpActive (m : Master) (f : Clasp → Clasp) : (s.modClasp m f).fpActive = s.fpActive := by cases m <;> rfl
@[simp] theorem modClasp_facets (m : Master) (f : Clasp → Clasp) : (s.modClasp m f).facets = s.facets := by cases m <;> rfl
@[simp] theorem modClasp_applies (m : Master) (f : Clasp → Clasp) : (s.modClasp m f).applies = s.applies := by cases m <;> rfl
@[simp] theorem modClasp_needSpare (m : Master) (f : Clasp → Clasp) : (s.modClasp m f).needSpare = s.needSpare := by cases m <;> rfl
@[simp] theorem modClasp_applyCause (m : Master) (f : Clasp → Clasp) : (s.modClasp m f).applyCause = s.applyCause := by cases m <;> rfl
@[simp] theorem modClasp_faultSum (m : Master) (f : Clasp → Clasp) : (s.modClasp m f).faultSum = s.faultSum := by cases m <;> rfl
@[simp] theorem modClasp_fctRead (m : Master) (f : Clasp → Clasp) : (s.modClasp m f).fctRead = s.fctRead := by cases m <;> rfl
@[simp] theorem modClasp_exc (m : Master) (f : Clasp → Clasp) : (s.modClasp m f).exc = s.exc := by cases m <;> rfl
@[simp] theorem modClasp_spare (m : Master) (f : Clasp → Clasp) : (s.modClasp m f).spare = s.spare := by cases m <;> rfl
@[simp] theorem modClasp_chain (m : Master) (f : Clasp → Clasp) : (s.modClasp m f).chain = s.chain := by cases m <;> rfl
@[simp] theorem modClasp_budget (m : Master) (f : Clasp → Clasp) : (s.modClasp m f).budget = s.budget := by cases m <;> rfl
@[simp] theorem modClasp_time (m : Master) (f : Clasp → Clasp) : (s.modClasp m f).time = s.time := by cases m <;> rfl
@[simp] theorem modClasp_ports (m : Master) (f : Clasp → Clasp) : (s.modClasp m f).ports = s.ports := by cases m <;> rfl
@[simp] theorem modClasp_bead (m : Master) (f : Clasp → Clasp) : (s.modClasp m f).bead = s.bead := by cases m <;> rfl
@[simp] theorem modClasp_trg (m : Master) (f : Clasp → Clasp) : (s.modClasp m f).trg = s.trg := by cases m <;> rfl
@[simp] theorem modClasp_cap (m : Master) (f : Clasp → Clasp) : (s.modClasp m f).cap = s.cap := by cases m <;> rfl
@[simp] theorem modClasp_msg (m : Master) (f : Clasp → Clasp) : (s.modClasp m f).msg = s.msg := by cases m <;> rfl
@[simp] theorem modClasp_can (m : Master) (f : Clasp → Clasp) : (s.modClasp m f).can = s.can := by cases m <;> rfl
@[simp] theorem modClasp_candev (m : Master) (f : Clasp → Clasp) : (s.modClasp m f).candev = s.candev := by cases m <;> rfl
@[simp] theorem modClasp_sess (m : Master) (f : Clasp → Clasp) : (s.modClasp m f).sess = s.sess := by cases m <;> rfl
@[simp] theorem modClasp_cal (m : Master) (f : Clasp → Clasp) : (s.modClasp m f).cal = s.cal := by cases m <;> rfl
@[simp] theorem modClasp_curves (m : Master) (f : Clasp → Clasp) : (s.modClasp m f).curves = s.curves := by cases m <;> rfl
@[simp] theorem modClasp_curveOld (m : Master) (f : Clasp → Clasp) : (s.modClasp m f).curveOld = s.curveOld := by cases m <;> rfl
@[simp] theorem modClasp_curvePend (m : Master) (f : Clasp → Clasp) : (s.modClasp m f).curvePend = s.curvePend := by cases m <;> rfl
@[simp] theorem modClasp_life (m : Master) (f : Clasp → Clasp) : (s.modClasp m f).life = s.life := by cases m <;> rfl
@[simp] theorem modClasp_ctl (m : Master) (f : Clasp → Clasp) : (s.modClasp m f).ctl = s.ctl := by cases m <;> rfl
@[simp] theorem modClasp_nvm (m : Master) (f : Clasp → Clasp) : (s.modClasp m f).nvm = s.nvm := by cases m <;> rfl
@[simp] theorem modClasp_log (m : Master) (f : Clasp → Clasp) : (s.modClasp m f).log = s.log := by cases m <;> rfl
@[simp] theorem modClasp_logSeq (m : Master) (f : Clasp → Clasp) : (s.modClasp m f).logSeq = s.logSeq := by cases m <;> rfl
@[simp] theorem modClasp_winHold (m : Master) (f : Clasp → Clasp) : (s.modClasp m f).winHold = s.winHold := by cases m <;> rfl
@[simp] theorem modClasp_loupe (m : Master) (f : Clasp → Clasp) : (s.modClasp m f).loupe = s.loupe := by cases m <;> rfl
@[simp] theorem modClasp_trace (m : Master) (f : Clasp → Clasp) : (s.modClasp m f).trace = s.trace := by cases m <;> rfl

/-! ### setFacet -/

@[simp] theorem setFacet_pending (n : Nat) (f : FacetRT) : (s.setFacet n f).pending = s.pending := rfl
@[simp] theorem setFacet_free (n : Nat) (f : FacetRT) : (s.setFacet n f).free = s.free := rfl
@[simp] theorem setFacet_host (n : Nat) (f : FacetRT) : (s.setFacet n f).host = s.host := rfl
@[simp] theorem setFacet_mp (n : Nat) (f : FacetRT) : (s.setFacet n f).mp = s.mp := rfl
@[simp] theorem setFacet_canA (n : Nat) (f : FacetRT) : (s.setFacet n f).canA = s.canA := rfl
@[simp] theorem setFacet_canB (n : Nat) (f : FacetRT) : (s.setFacet n f).canB = s.canB := rfl
@[simp] theorem setFacet_debug (n : Nat) (f : FacetRT) : (s.setFacet n f).debug = s.debug := rfl
@[simp] theorem setFacet_fpStaged (n : Nat) (f : FacetRT) : (s.setFacet n f).fpStaged = s.fpStaged := rfl
@[simp] theorem setFacet_fpActive (n : Nat) (f : FacetRT) : (s.setFacet n f).fpActive = s.fpActive := rfl
@[simp] theorem setFacet_applies (n : Nat) (f : FacetRT) : (s.setFacet n f).applies = s.applies := rfl
@[simp] theorem setFacet_needSpare (n : Nat) (f : FacetRT) : (s.setFacet n f).needSpare = s.needSpare := rfl
@[simp] theorem setFacet_applyCause (n : Nat) (f : FacetRT) : (s.setFacet n f).applyCause = s.applyCause := rfl
@[simp] theorem setFacet_faultSum (n : Nat) (f : FacetRT) : (s.setFacet n f).faultSum = s.faultSum := rfl
@[simp] theorem setFacet_fctRead (n : Nat) (f : FacetRT) : (s.setFacet n f).fctRead = s.fctRead := rfl
@[simp] theorem setFacet_exc (n : Nat) (f : FacetRT) : (s.setFacet n f).exc = s.exc := rfl
@[simp] theorem setFacet_spare (n : Nat) (f : FacetRT) : (s.setFacet n f).spare = s.spare := rfl
@[simp] theorem setFacet_chain (n : Nat) (f : FacetRT) : (s.setFacet n f).chain = s.chain := rfl
@[simp] theorem setFacet_budget (n : Nat) (f : FacetRT) : (s.setFacet n f).budget = s.budget := rfl
@[simp] theorem setFacet_time (n : Nat) (f : FacetRT) : (s.setFacet n f).time = s.time := rfl
@[simp] theorem setFacet_ports (n : Nat) (f : FacetRT) : (s.setFacet n f).ports = s.ports := rfl
@[simp] theorem setFacet_bead (n : Nat) (f : FacetRT) : (s.setFacet n f).bead = s.bead := rfl
@[simp] theorem setFacet_trg (n : Nat) (f : FacetRT) : (s.setFacet n f).trg = s.trg := rfl
@[simp] theorem setFacet_cap (n : Nat) (f : FacetRT) : (s.setFacet n f).cap = s.cap := rfl
@[simp] theorem setFacet_msg (n : Nat) (f : FacetRT) : (s.setFacet n f).msg = s.msg := rfl
@[simp] theorem setFacet_can (n : Nat) (f : FacetRT) : (s.setFacet n f).can = s.can := rfl
@[simp] theorem setFacet_candev (n : Nat) (f : FacetRT) : (s.setFacet n f).candev = s.candev := rfl
@[simp] theorem setFacet_sess (n : Nat) (f : FacetRT) : (s.setFacet n f).sess = s.sess := rfl
@[simp] theorem setFacet_cal (n : Nat) (f : FacetRT) : (s.setFacet n f).cal = s.cal := rfl
@[simp] theorem setFacet_curves (n : Nat) (f : FacetRT) : (s.setFacet n f).curves = s.curves := rfl
@[simp] theorem setFacet_curveOld (n : Nat) (f : FacetRT) : (s.setFacet n f).curveOld = s.curveOld := rfl
@[simp] theorem setFacet_curvePend (n : Nat) (f : FacetRT) : (s.setFacet n f).curvePend = s.curvePend := rfl
@[simp] theorem setFacet_life (n : Nat) (f : FacetRT) : (s.setFacet n f).life = s.life := rfl
@[simp] theorem setFacet_ctl (n : Nat) (f : FacetRT) : (s.setFacet n f).ctl = s.ctl := rfl
@[simp] theorem setFacet_nvm (n : Nat) (f : FacetRT) : (s.setFacet n f).nvm = s.nvm := rfl
@[simp] theorem setFacet_log (n : Nat) (f : FacetRT) : (s.setFacet n f).log = s.log := rfl
@[simp] theorem setFacet_logSeq (n : Nat) (f : FacetRT) : (s.setFacet n f).logSeq = s.logSeq := rfl
@[simp] theorem setFacet_winHold (n : Nat) (f : FacetRT) : (s.setFacet n f).winHold = s.winHold := rfl
@[simp] theorem setFacet_loupe (n : Nat) (f : FacetRT) : (s.setFacet n f).loupe = s.loupe := rfl
@[simp] theorem setFacet_trace (n : Nat) (f : FacetRT) : (s.setFacet n f).trace = s.trace := rfl

/-! ### modFacet -/

@[simp] theorem modFacet_pending (n : Nat) (f : FacetRT → FacetRT) : (s.modFacet n f).pending = s.pending := rfl
@[simp] theorem modFacet_free (n : Nat) (f : FacetRT → FacetRT) : (s.modFacet n f).free = s.free := rfl
@[simp] theorem modFacet_host (n : Nat) (f : FacetRT → FacetRT) : (s.modFacet n f).host = s.host := rfl
@[simp] theorem modFacet_mp (n : Nat) (f : FacetRT → FacetRT) : (s.modFacet n f).mp = s.mp := rfl
@[simp] theorem modFacet_canA (n : Nat) (f : FacetRT → FacetRT) : (s.modFacet n f).canA = s.canA := rfl
@[simp] theorem modFacet_canB (n : Nat) (f : FacetRT → FacetRT) : (s.modFacet n f).canB = s.canB := rfl
@[simp] theorem modFacet_debug (n : Nat) (f : FacetRT → FacetRT) : (s.modFacet n f).debug = s.debug := rfl
@[simp] theorem modFacet_fpStaged (n : Nat) (f : FacetRT → FacetRT) : (s.modFacet n f).fpStaged = s.fpStaged := rfl
@[simp] theorem modFacet_fpActive (n : Nat) (f : FacetRT → FacetRT) : (s.modFacet n f).fpActive = s.fpActive := rfl
@[simp] theorem modFacet_applies (n : Nat) (f : FacetRT → FacetRT) : (s.modFacet n f).applies = s.applies := rfl
@[simp] theorem modFacet_needSpare (n : Nat) (f : FacetRT → FacetRT) : (s.modFacet n f).needSpare = s.needSpare := rfl
@[simp] theorem modFacet_applyCause (n : Nat) (f : FacetRT → FacetRT) : (s.modFacet n f).applyCause = s.applyCause := rfl
@[simp] theorem modFacet_faultSum (n : Nat) (f : FacetRT → FacetRT) : (s.modFacet n f).faultSum = s.faultSum := rfl
@[simp] theorem modFacet_fctRead (n : Nat) (f : FacetRT → FacetRT) : (s.modFacet n f).fctRead = s.fctRead := rfl
@[simp] theorem modFacet_exc (n : Nat) (f : FacetRT → FacetRT) : (s.modFacet n f).exc = s.exc := rfl
@[simp] theorem modFacet_spare (n : Nat) (f : FacetRT → FacetRT) : (s.modFacet n f).spare = s.spare := rfl
@[simp] theorem modFacet_chain (n : Nat) (f : FacetRT → FacetRT) : (s.modFacet n f).chain = s.chain := rfl
@[simp] theorem modFacet_budget (n : Nat) (f : FacetRT → FacetRT) : (s.modFacet n f).budget = s.budget := rfl
@[simp] theorem modFacet_time (n : Nat) (f : FacetRT → FacetRT) : (s.modFacet n f).time = s.time := rfl
@[simp] theorem modFacet_ports (n : Nat) (f : FacetRT → FacetRT) : (s.modFacet n f).ports = s.ports := rfl
@[simp] theorem modFacet_bead (n : Nat) (f : FacetRT → FacetRT) : (s.modFacet n f).bead = s.bead := rfl
@[simp] theorem modFacet_trg (n : Nat) (f : FacetRT → FacetRT) : (s.modFacet n f).trg = s.trg := rfl
@[simp] theorem modFacet_cap (n : Nat) (f : FacetRT → FacetRT) : (s.modFacet n f).cap = s.cap := rfl
@[simp] theorem modFacet_msg (n : Nat) (f : FacetRT → FacetRT) : (s.modFacet n f).msg = s.msg := rfl
@[simp] theorem modFacet_can (n : Nat) (f : FacetRT → FacetRT) : (s.modFacet n f).can = s.can := rfl
@[simp] theorem modFacet_candev (n : Nat) (f : FacetRT → FacetRT) : (s.modFacet n f).candev = s.candev := rfl
@[simp] theorem modFacet_sess (n : Nat) (f : FacetRT → FacetRT) : (s.modFacet n f).sess = s.sess := rfl
@[simp] theorem modFacet_cal (n : Nat) (f : FacetRT → FacetRT) : (s.modFacet n f).cal = s.cal := rfl
@[simp] theorem modFacet_curves (n : Nat) (f : FacetRT → FacetRT) : (s.modFacet n f).curves = s.curves := rfl
@[simp] theorem modFacet_curveOld (n : Nat) (f : FacetRT → FacetRT) : (s.modFacet n f).curveOld = s.curveOld := rfl
@[simp] theorem modFacet_curvePend (n : Nat) (f : FacetRT → FacetRT) : (s.modFacet n f).curvePend = s.curvePend := rfl
@[simp] theorem modFacet_life (n : Nat) (f : FacetRT → FacetRT) : (s.modFacet n f).life = s.life := rfl
@[simp] theorem modFacet_ctl (n : Nat) (f : FacetRT → FacetRT) : (s.modFacet n f).ctl = s.ctl := rfl
@[simp] theorem modFacet_nvm (n : Nat) (f : FacetRT → FacetRT) : (s.modFacet n f).nvm = s.nvm := rfl
@[simp] theorem modFacet_log (n : Nat) (f : FacetRT → FacetRT) : (s.modFacet n f).log = s.log := rfl
@[simp] theorem modFacet_logSeq (n : Nat) (f : FacetRT → FacetRT) : (s.modFacet n f).logSeq = s.logSeq := rfl
@[simp] theorem modFacet_winHold (n : Nat) (f : FacetRT → FacetRT) : (s.modFacet n f).winHold = s.winHold := rfl
@[simp] theorem modFacet_loupe (n : Nat) (f : FacetRT → FacetRT) : (s.modFacet n f).loupe = s.loupe := rfl
@[simp] theorem modFacet_trace (n : Nat) (f : FacetRT → FacetRT) : (s.modFacet n f).trace = s.trace := rfl

/-! ### setFpS -/

@[simp] theorem setFpS_pending (n w : Nat) (v : Word) : (s.setFpS n w v).pending = s.pending := rfl
@[simp] theorem setFpS_free (n w : Nat) (v : Word) : (s.setFpS n w v).free = s.free := rfl
@[simp] theorem setFpS_host (n w : Nat) (v : Word) : (s.setFpS n w v).host = s.host := rfl
@[simp] theorem setFpS_mp (n w : Nat) (v : Word) : (s.setFpS n w v).mp = s.mp := rfl
@[simp] theorem setFpS_canA (n w : Nat) (v : Word) : (s.setFpS n w v).canA = s.canA := rfl
@[simp] theorem setFpS_canB (n w : Nat) (v : Word) : (s.setFpS n w v).canB = s.canB := rfl
@[simp] theorem setFpS_debug (n w : Nat) (v : Word) : (s.setFpS n w v).debug = s.debug := rfl
@[simp] theorem setFpS_fpActive (n w : Nat) (v : Word) : (s.setFpS n w v).fpActive = s.fpActive := rfl
@[simp] theorem setFpS_facets (n w : Nat) (v : Word) : (s.setFpS n w v).facets = s.facets := rfl
@[simp] theorem setFpS_applies (n w : Nat) (v : Word) : (s.setFpS n w v).applies = s.applies := rfl
@[simp] theorem setFpS_needSpare (n w : Nat) (v : Word) : (s.setFpS n w v).needSpare = s.needSpare := rfl
@[simp] theorem setFpS_applyCause (n w : Nat) (v : Word) : (s.setFpS n w v).applyCause = s.applyCause := rfl
@[simp] theorem setFpS_faultSum (n w : Nat) (v : Word) : (s.setFpS n w v).faultSum = s.faultSum := rfl
@[simp] theorem setFpS_fctRead (n w : Nat) (v : Word) : (s.setFpS n w v).fctRead = s.fctRead := rfl
@[simp] theorem setFpS_exc (n w : Nat) (v : Word) : (s.setFpS n w v).exc = s.exc := rfl
@[simp] theorem setFpS_spare (n w : Nat) (v : Word) : (s.setFpS n w v).spare = s.spare := rfl
@[simp] theorem setFpS_chain (n w : Nat) (v : Word) : (s.setFpS n w v).chain = s.chain := rfl
@[simp] theorem setFpS_budget (n w : Nat) (v : Word) : (s.setFpS n w v).budget = s.budget := rfl
@[simp] theorem setFpS_time (n w : Nat) (v : Word) : (s.setFpS n w v).time = s.time := rfl
@[simp] theorem setFpS_ports (n w : Nat) (v : Word) : (s.setFpS n w v).ports = s.ports := rfl
@[simp] theorem setFpS_bead (n w : Nat) (v : Word) : (s.setFpS n w v).bead = s.bead := rfl
@[simp] theorem setFpS_trg (n w : Nat) (v : Word) : (s.setFpS n w v).trg = s.trg := rfl
@[simp] theorem setFpS_cap (n w : Nat) (v : Word) : (s.setFpS n w v).cap = s.cap := rfl
@[simp] theorem setFpS_msg (n w : Nat) (v : Word) : (s.setFpS n w v).msg = s.msg := rfl
@[simp] theorem setFpS_can (n w : Nat) (v : Word) : (s.setFpS n w v).can = s.can := rfl
@[simp] theorem setFpS_candev (n w : Nat) (v : Word) : (s.setFpS n w v).candev = s.candev := rfl
@[simp] theorem setFpS_sess (n w : Nat) (v : Word) : (s.setFpS n w v).sess = s.sess := rfl
@[simp] theorem setFpS_cal (n w : Nat) (v : Word) : (s.setFpS n w v).cal = s.cal := rfl
@[simp] theorem setFpS_curves (n w : Nat) (v : Word) : (s.setFpS n w v).curves = s.curves := rfl
@[simp] theorem setFpS_curveOld (n w : Nat) (v : Word) : (s.setFpS n w v).curveOld = s.curveOld := rfl
@[simp] theorem setFpS_curvePend (n w : Nat) (v : Word) : (s.setFpS n w v).curvePend = s.curvePend := rfl
@[simp] theorem setFpS_life (n w : Nat) (v : Word) : (s.setFpS n w v).life = s.life := rfl
@[simp] theorem setFpS_ctl (n w : Nat) (v : Word) : (s.setFpS n w v).ctl = s.ctl := rfl
@[simp] theorem setFpS_nvm (n w : Nat) (v : Word) : (s.setFpS n w v).nvm = s.nvm := rfl
@[simp] theorem setFpS_log (n w : Nat) (v : Word) : (s.setFpS n w v).log = s.log := rfl
@[simp] theorem setFpS_logSeq (n w : Nat) (v : Word) : (s.setFpS n w v).logSeq = s.logSeq := rfl
@[simp] theorem setFpS_winHold (n w : Nat) (v : Word) : (s.setFpS n w v).winHold = s.winHold := rfl
@[simp] theorem setFpS_loupe (n w : Nat) (v : Word) : (s.setFpS n w v).loupe = s.loupe := rfl
@[simp] theorem setFpS_trace (n w : Nat) (v : Word) : (s.setFpS n w v).trace = s.trace := rfl

/-! ### setFpA -/

@[simp] theorem setFpA_pending (n w : Nat) (v : Word) : (s.setFpA n w v).pending = s.pending := rfl
@[simp] theorem setFpA_free (n w : Nat) (v : Word) : (s.setFpA n w v).free = s.free := rfl
@[simp] theorem setFpA_host (n w : Nat) (v : Word) : (s.setFpA n w v).host = s.host := rfl
@[simp] theorem setFpA_mp (n w : Nat) (v : Word) : (s.setFpA n w v).mp = s.mp := rfl
@[simp] theorem setFpA_canA (n w : Nat) (v : Word) : (s.setFpA n w v).canA = s.canA := rfl
@[simp] theorem setFpA_canB (n w : Nat) (v : Word) : (s.setFpA n w v).canB = s.canB := rfl
@[simp] theorem setFpA_debug (n w : Nat) (v : Word) : (s.setFpA n w v).debug = s.debug := rfl
@[simp] theorem setFpA_fpStaged (n w : Nat) (v : Word) : (s.setFpA n w v).fpStaged = s.fpStaged := rfl
@[simp] theorem setFpA_facets (n w : Nat) (v : Word) : (s.setFpA n w v).facets = s.facets := rfl
@[simp] theorem setFpA_applies (n w : Nat) (v : Word) : (s.setFpA n w v).applies = s.applies := rfl
@[simp] theorem setFpA_needSpare (n w : Nat) (v : Word) : (s.setFpA n w v).needSpare = s.needSpare := rfl
@[simp] theorem setFpA_applyCause (n w : Nat) (v : Word) : (s.setFpA n w v).applyCause = s.applyCause := rfl
@[simp] theorem setFpA_faultSum (n w : Nat) (v : Word) : (s.setFpA n w v).faultSum = s.faultSum := rfl
@[simp] theorem setFpA_fctRead (n w : Nat) (v : Word) : (s.setFpA n w v).fctRead = s.fctRead := rfl
@[simp] theorem setFpA_exc (n w : Nat) (v : Word) : (s.setFpA n w v).exc = s.exc := rfl
@[simp] theorem setFpA_spare (n w : Nat) (v : Word) : (s.setFpA n w v).spare = s.spare := rfl
@[simp] theorem setFpA_chain (n w : Nat) (v : Word) : (s.setFpA n w v).chain = s.chain := rfl
@[simp] theorem setFpA_budget (n w : Nat) (v : Word) : (s.setFpA n w v).budget = s.budget := rfl
@[simp] theorem setFpA_time (n w : Nat) (v : Word) : (s.setFpA n w v).time = s.time := rfl
@[simp] theorem setFpA_ports (n w : Nat) (v : Word) : (s.setFpA n w v).ports = s.ports := rfl
@[simp] theorem setFpA_bead (n w : Nat) (v : Word) : (s.setFpA n w v).bead = s.bead := rfl
@[simp] theorem setFpA_trg (n w : Nat) (v : Word) : (s.setFpA n w v).trg = s.trg := rfl
@[simp] theorem setFpA_cap (n w : Nat) (v : Word) : (s.setFpA n w v).cap = s.cap := rfl
@[simp] theorem setFpA_msg (n w : Nat) (v : Word) : (s.setFpA n w v).msg = s.msg := rfl
@[simp] theorem setFpA_can (n w : Nat) (v : Word) : (s.setFpA n w v).can = s.can := rfl
@[simp] theorem setFpA_candev (n w : Nat) (v : Word) : (s.setFpA n w v).candev = s.candev := rfl
@[simp] theorem setFpA_sess (n w : Nat) (v : Word) : (s.setFpA n w v).sess = s.sess := rfl
@[simp] theorem setFpA_cal (n w : Nat) (v : Word) : (s.setFpA n w v).cal = s.cal := rfl
@[simp] theorem setFpA_curves (n w : Nat) (v : Word) : (s.setFpA n w v).curves = s.curves := rfl
@[simp] theorem setFpA_curveOld (n w : Nat) (v : Word) : (s.setFpA n w v).curveOld = s.curveOld := rfl
@[simp] theorem setFpA_curvePend (n w : Nat) (v : Word) : (s.setFpA n w v).curvePend = s.curvePend := rfl
@[simp] theorem setFpA_life (n w : Nat) (v : Word) : (s.setFpA n w v).life = s.life := rfl
@[simp] theorem setFpA_ctl (n w : Nat) (v : Word) : (s.setFpA n w v).ctl = s.ctl := rfl
@[simp] theorem setFpA_nvm (n w : Nat) (v : Word) : (s.setFpA n w v).nvm = s.nvm := rfl
@[simp] theorem setFpA_log (n w : Nat) (v : Word) : (s.setFpA n w v).log = s.log := rfl
@[simp] theorem setFpA_logSeq (n w : Nat) (v : Word) : (s.setFpA n w v).logSeq = s.logSeq := rfl
@[simp] theorem setFpA_winHold (n w : Nat) (v : Word) : (s.setFpA n w v).winHold = s.winHold := rfl
@[simp] theorem setFpA_loupe (n w : Nat) (v : Word) : (s.setFpA n w v).loupe = s.loupe := rfl
@[simp] theorem setFpA_trace (n w : Nat) (v : Word) : (s.setFpA n w v).trace = s.trace := rfl

/-! ### setPort -/

@[simp] theorem setPort_pending (p : Nat) (v : PosPort) : (s.setPort p v).pending = s.pending := rfl
@[simp] theorem setPort_free (p : Nat) (v : PosPort) : (s.setPort p v).free = s.free := rfl
@[simp] theorem setPort_host (p : Nat) (v : PosPort) : (s.setPort p v).host = s.host := rfl
@[simp] theorem setPort_mp (p : Nat) (v : PosPort) : (s.setPort p v).mp = s.mp := rfl
@[simp] theorem setPort_canA (p : Nat) (v : PosPort) : (s.setPort p v).canA = s.canA := rfl
@[simp] theorem setPort_canB (p : Nat) (v : PosPort) : (s.setPort p v).canB = s.canB := rfl
@[simp] theorem setPort_debug (p : Nat) (v : PosPort) : (s.setPort p v).debug = s.debug := rfl
@[simp] theorem setPort_fpStaged (p : Nat) (v : PosPort) : (s.setPort p v).fpStaged = s.fpStaged := rfl
@[simp] theorem setPort_fpActive (p : Nat) (v : PosPort) : (s.setPort p v).fpActive = s.fpActive := rfl
@[simp] theorem setPort_facets (p : Nat) (v : PosPort) : (s.setPort p v).facets = s.facets := rfl
@[simp] theorem setPort_applies (p : Nat) (v : PosPort) : (s.setPort p v).applies = s.applies := rfl
@[simp] theorem setPort_needSpare (p : Nat) (v : PosPort) : (s.setPort p v).needSpare = s.needSpare := rfl
@[simp] theorem setPort_applyCause (p : Nat) (v : PosPort) : (s.setPort p v).applyCause = s.applyCause := rfl
@[simp] theorem setPort_faultSum (p : Nat) (v : PosPort) : (s.setPort p v).faultSum = s.faultSum := rfl
@[simp] theorem setPort_fctRead (p : Nat) (v : PosPort) : (s.setPort p v).fctRead = s.fctRead := rfl
@[simp] theorem setPort_exc (p : Nat) (v : PosPort) : (s.setPort p v).exc = s.exc := rfl
@[simp] theorem setPort_spare (p : Nat) (v : PosPort) : (s.setPort p v).spare = s.spare := rfl
@[simp] theorem setPort_chain (p : Nat) (v : PosPort) : (s.setPort p v).chain = s.chain := rfl
@[simp] theorem setPort_budget (p : Nat) (v : PosPort) : (s.setPort p v).budget = s.budget := rfl
@[simp] theorem setPort_time (p : Nat) (v : PosPort) : (s.setPort p v).time = s.time := rfl
@[simp] theorem setPort_bead (p : Nat) (v : PosPort) : (s.setPort p v).bead = s.bead := rfl
@[simp] theorem setPort_trg (p : Nat) (v : PosPort) : (s.setPort p v).trg = s.trg := rfl
@[simp] theorem setPort_cap (p : Nat) (v : PosPort) : (s.setPort p v).cap = s.cap := rfl
@[simp] theorem setPort_msg (p : Nat) (v : PosPort) : (s.setPort p v).msg = s.msg := rfl
@[simp] theorem setPort_can (p : Nat) (v : PosPort) : (s.setPort p v).can = s.can := rfl
@[simp] theorem setPort_candev (p : Nat) (v : PosPort) : (s.setPort p v).candev = s.candev := rfl
@[simp] theorem setPort_sess (p : Nat) (v : PosPort) : (s.setPort p v).sess = s.sess := rfl
@[simp] theorem setPort_cal (p : Nat) (v : PosPort) : (s.setPort p v).cal = s.cal := rfl
@[simp] theorem setPort_curves (p : Nat) (v : PosPort) : (s.setPort p v).curves = s.curves := rfl
@[simp] theorem setPort_curveOld (p : Nat) (v : PosPort) : (s.setPort p v).curveOld = s.curveOld := rfl
@[simp] theorem setPort_curvePend (p : Nat) (v : PosPort) : (s.setPort p v).curvePend = s.curvePend := rfl
@[simp] theorem setPort_life (p : Nat) (v : PosPort) : (s.setPort p v).life = s.life := rfl
@[simp] theorem setPort_ctl (p : Nat) (v : PosPort) : (s.setPort p v).ctl = s.ctl := rfl
@[simp] theorem setPort_nvm (p : Nat) (v : PosPort) : (s.setPort p v).nvm = s.nvm := rfl
@[simp] theorem setPort_log (p : Nat) (v : PosPort) : (s.setPort p v).log = s.log := rfl
@[simp] theorem setPort_logSeq (p : Nat) (v : PosPort) : (s.setPort p v).logSeq = s.logSeq := rfl
@[simp] theorem setPort_winHold (p : Nat) (v : PosPort) : (s.setPort p v).winHold = s.winHold := rfl
@[simp] theorem setPort_loupe (p : Nat) (v : PosPort) : (s.setPort p v).loupe = s.loupe := rfl
@[simp] theorem setPort_trace (p : Nat) (v : PosPort) : (s.setPort p v).trace = s.trace := rfl

/-! ### modPort -/

@[simp] theorem modPort_pending (p : Nat) (f : PosPort → PosPort) : (s.modPort p f).pending = s.pending := rfl
@[simp] theorem modPort_free (p : Nat) (f : PosPort → PosPort) : (s.modPort p f).free = s.free := rfl
@[simp] theorem modPort_host (p : Nat) (f : PosPort → PosPort) : (s.modPort p f).host = s.host := rfl
@[simp] theorem modPort_mp (p : Nat) (f : PosPort → PosPort) : (s.modPort p f).mp = s.mp := rfl
@[simp] theorem modPort_canA (p : Nat) (f : PosPort → PosPort) : (s.modPort p f).canA = s.canA := rfl
@[simp] theorem modPort_canB (p : Nat) (f : PosPort → PosPort) : (s.modPort p f).canB = s.canB := rfl
@[simp] theorem modPort_debug (p : Nat) (f : PosPort → PosPort) : (s.modPort p f).debug = s.debug := rfl
@[simp] theorem modPort_fpStaged (p : Nat) (f : PosPort → PosPort) : (s.modPort p f).fpStaged = s.fpStaged := rfl
@[simp] theorem modPort_fpActive (p : Nat) (f : PosPort → PosPort) : (s.modPort p f).fpActive = s.fpActive := rfl
@[simp] theorem modPort_facets (p : Nat) (f : PosPort → PosPort) : (s.modPort p f).facets = s.facets := rfl
@[simp] theorem modPort_applies (p : Nat) (f : PosPort → PosPort) : (s.modPort p f).applies = s.applies := rfl
@[simp] theorem modPort_needSpare (p : Nat) (f : PosPort → PosPort) : (s.modPort p f).needSpare = s.needSpare := rfl
@[simp] theorem modPort_applyCause (p : Nat) (f : PosPort → PosPort) : (s.modPort p f).applyCause = s.applyCause := rfl
@[simp] theorem modPort_faultSum (p : Nat) (f : PosPort → PosPort) : (s.modPort p f).faultSum = s.faultSum := rfl
@[simp] theorem modPort_fctRead (p : Nat) (f : PosPort → PosPort) : (s.modPort p f).fctRead = s.fctRead := rfl
@[simp] theorem modPort_exc (p : Nat) (f : PosPort → PosPort) : (s.modPort p f).exc = s.exc := rfl
@[simp] theorem modPort_spare (p : Nat) (f : PosPort → PosPort) : (s.modPort p f).spare = s.spare := rfl
@[simp] theorem modPort_chain (p : Nat) (f : PosPort → PosPort) : (s.modPort p f).chain = s.chain := rfl
@[simp] theorem modPort_budget (p : Nat) (f : PosPort → PosPort) : (s.modPort p f).budget = s.budget := rfl
@[simp] theorem modPort_time (p : Nat) (f : PosPort → PosPort) : (s.modPort p f).time = s.time := rfl
@[simp] theorem modPort_bead (p : Nat) (f : PosPort → PosPort) : (s.modPort p f).bead = s.bead := rfl
@[simp] theorem modPort_trg (p : Nat) (f : PosPort → PosPort) : (s.modPort p f).trg = s.trg := rfl
@[simp] theorem modPort_cap (p : Nat) (f : PosPort → PosPort) : (s.modPort p f).cap = s.cap := rfl
@[simp] theorem modPort_msg (p : Nat) (f : PosPort → PosPort) : (s.modPort p f).msg = s.msg := rfl
@[simp] theorem modPort_can (p : Nat) (f : PosPort → PosPort) : (s.modPort p f).can = s.can := rfl
@[simp] theorem modPort_candev (p : Nat) (f : PosPort → PosPort) : (s.modPort p f).candev = s.candev := rfl
@[simp] theorem modPort_sess (p : Nat) (f : PosPort → PosPort) : (s.modPort p f).sess = s.sess := rfl
@[simp] theorem modPort_cal (p : Nat) (f : PosPort → PosPort) : (s.modPort p f).cal = s.cal := rfl
@[simp] theorem modPort_curves (p : Nat) (f : PosPort → PosPort) : (s.modPort p f).curves = s.curves := rfl
@[simp] theorem modPort_curveOld (p : Nat) (f : PosPort → PosPort) : (s.modPort p f).curveOld = s.curveOld := rfl
@[simp] theorem modPort_curvePend (p : Nat) (f : PosPort → PosPort) : (s.modPort p f).curvePend = s.curvePend := rfl
@[simp] theorem modPort_life (p : Nat) (f : PosPort → PosPort) : (s.modPort p f).life = s.life := rfl
@[simp] theorem modPort_ctl (p : Nat) (f : PosPort → PosPort) : (s.modPort p f).ctl = s.ctl := rfl
@[simp] theorem modPort_nvm (p : Nat) (f : PosPort → PosPort) : (s.modPort p f).nvm = s.nvm := rfl
@[simp] theorem modPort_log (p : Nat) (f : PosPort → PosPort) : (s.modPort p f).log = s.log := rfl
@[simp] theorem modPort_logSeq (p : Nat) (f : PosPort → PosPort) : (s.modPort p f).logSeq = s.logSeq := rfl
@[simp] theorem modPort_winHold (p : Nat) (f : PosPort → PosPort) : (s.modPort p f).winHold = s.winHold := rfl
@[simp] theorem modPort_loupe (p : Nat) (f : PosPort → PosPort) : (s.modPort p f).loupe = s.loupe := rfl
@[simp] theorem modPort_trace (p : Nat) (f : PosPort → PosPort) : (s.modPort p f).trace = s.trace := rfl

/-! ### modBeadPort -/

@[simp] theorem modBeadPort_pending (p : Nat) (f : BeadPort → BeadPort) : (s.modBeadPort p f).pending = s.pending := rfl
@[simp] theorem modBeadPort_free (p : Nat) (f : BeadPort → BeadPort) : (s.modBeadPort p f).free = s.free := rfl
@[simp] theorem modBeadPort_host (p : Nat) (f : BeadPort → BeadPort) : (s.modBeadPort p f).host = s.host := rfl
@[simp] theorem modBeadPort_mp (p : Nat) (f : BeadPort → BeadPort) : (s.modBeadPort p f).mp = s.mp := rfl
@[simp] theorem modBeadPort_canA (p : Nat) (f : BeadPort → BeadPort) : (s.modBeadPort p f).canA = s.canA := rfl
@[simp] theorem modBeadPort_canB (p : Nat) (f : BeadPort → BeadPort) : (s.modBeadPort p f).canB = s.canB := rfl
@[simp] theorem modBeadPort_debug (p : Nat) (f : BeadPort → BeadPort) : (s.modBeadPort p f).debug = s.debug := rfl
@[simp] theorem modBeadPort_fpStaged (p : Nat) (f : BeadPort → BeadPort) : (s.modBeadPort p f).fpStaged = s.fpStaged := rfl
@[simp] theorem modBeadPort_fpActive (p : Nat) (f : BeadPort → BeadPort) : (s.modBeadPort p f).fpActive = s.fpActive := rfl
@[simp] theorem modBeadPort_facets (p : Nat) (f : BeadPort → BeadPort) : (s.modBeadPort p f).facets = s.facets := rfl
@[simp] theorem modBeadPort_applies (p : Nat) (f : BeadPort → BeadPort) : (s.modBeadPort p f).applies = s.applies := rfl
@[simp] theorem modBeadPort_needSpare (p : Nat) (f : BeadPort → BeadPort) : (s.modBeadPort p f).needSpare = s.needSpare := rfl
@[simp] theorem modBeadPort_applyCause (p : Nat) (f : BeadPort → BeadPort) : (s.modBeadPort p f).applyCause = s.applyCause := rfl
@[simp] theorem modBeadPort_faultSum (p : Nat) (f : BeadPort → BeadPort) : (s.modBeadPort p f).faultSum = s.faultSum := rfl
@[simp] theorem modBeadPort_fctRead (p : Nat) (f : BeadPort → BeadPort) : (s.modBeadPort p f).fctRead = s.fctRead := rfl
@[simp] theorem modBeadPort_exc (p : Nat) (f : BeadPort → BeadPort) : (s.modBeadPort p f).exc = s.exc := rfl
@[simp] theorem modBeadPort_spare (p : Nat) (f : BeadPort → BeadPort) : (s.modBeadPort p f).spare = s.spare := rfl
@[simp] theorem modBeadPort_chain (p : Nat) (f : BeadPort → BeadPort) : (s.modBeadPort p f).chain = s.chain := rfl
@[simp] theorem modBeadPort_budget (p : Nat) (f : BeadPort → BeadPort) : (s.modBeadPort p f).budget = s.budget := rfl
@[simp] theorem modBeadPort_time (p : Nat) (f : BeadPort → BeadPort) : (s.modBeadPort p f).time = s.time := rfl
@[simp] theorem modBeadPort_ports (p : Nat) (f : BeadPort → BeadPort) : (s.modBeadPort p f).ports = s.ports := rfl
@[simp] theorem modBeadPort_trg (p : Nat) (f : BeadPort → BeadPort) : (s.modBeadPort p f).trg = s.trg := rfl
@[simp] theorem modBeadPort_cap (p : Nat) (f : BeadPort → BeadPort) : (s.modBeadPort p f).cap = s.cap := rfl
@[simp] theorem modBeadPort_msg (p : Nat) (f : BeadPort → BeadPort) : (s.modBeadPort p f).msg = s.msg := rfl
@[simp] theorem modBeadPort_can (p : Nat) (f : BeadPort → BeadPort) : (s.modBeadPort p f).can = s.can := rfl
@[simp] theorem modBeadPort_candev (p : Nat) (f : BeadPort → BeadPort) : (s.modBeadPort p f).candev = s.candev := rfl
@[simp] theorem modBeadPort_sess (p : Nat) (f : BeadPort → BeadPort) : (s.modBeadPort p f).sess = s.sess := rfl
@[simp] theorem modBeadPort_cal (p : Nat) (f : BeadPort → BeadPort) : (s.modBeadPort p f).cal = s.cal := rfl
@[simp] theorem modBeadPort_curves (p : Nat) (f : BeadPort → BeadPort) : (s.modBeadPort p f).curves = s.curves := rfl
@[simp] theorem modBeadPort_curveOld (p : Nat) (f : BeadPort → BeadPort) : (s.modBeadPort p f).curveOld = s.curveOld := rfl
@[simp] theorem modBeadPort_curvePend (p : Nat) (f : BeadPort → BeadPort) : (s.modBeadPort p f).curvePend = s.curvePend := rfl
@[simp] theorem modBeadPort_life (p : Nat) (f : BeadPort → BeadPort) : (s.modBeadPort p f).life = s.life := rfl
@[simp] theorem modBeadPort_ctl (p : Nat) (f : BeadPort → BeadPort) : (s.modBeadPort p f).ctl = s.ctl := rfl
@[simp] theorem modBeadPort_nvm (p : Nat) (f : BeadPort → BeadPort) : (s.modBeadPort p f).nvm = s.nvm := rfl
@[simp] theorem modBeadPort_log (p : Nat) (f : BeadPort → BeadPort) : (s.modBeadPort p f).log = s.log := rfl
@[simp] theorem modBeadPort_logSeq (p : Nat) (f : BeadPort → BeadPort) : (s.modBeadPort p f).logSeq = s.logSeq := rfl
@[simp] theorem modBeadPort_winHold (p : Nat) (f : BeadPort → BeadPort) : (s.modBeadPort p f).winHold = s.winHold := rfl
@[simp] theorem modBeadPort_loupe (p : Nat) (f : BeadPort → BeadPort) : (s.modBeadPort p f).loupe = s.loupe := rfl
@[simp] theorem modBeadPort_trace (p : Nat) (f : BeadPort → BeadPort) : (s.modBeadPort p f).trace = s.trace := rfl

/-! ### flagBeads -/

@[simp] theorem flagBeads_pending (p : Nat) (b : Word) : (s.flagBeads p b).pending = s.pending := by rw [flagBeads_eq]
@[simp] theorem flagBeads_free (p : Nat) (b : Word) : (s.flagBeads p b).free = s.free := by rw [flagBeads_eq]
@[simp] theorem flagBeads_host (p : Nat) (b : Word) : (s.flagBeads p b).host = s.host := by rw [flagBeads_eq]
@[simp] theorem flagBeads_mp (p : Nat) (b : Word) : (s.flagBeads p b).mp = s.mp := by rw [flagBeads_eq]
@[simp] theorem flagBeads_canA (p : Nat) (b : Word) : (s.flagBeads p b).canA = s.canA := by rw [flagBeads_eq]
@[simp] theorem flagBeads_canB (p : Nat) (b : Word) : (s.flagBeads p b).canB = s.canB := by rw [flagBeads_eq]
@[simp] theorem flagBeads_debug (p : Nat) (b : Word) : (s.flagBeads p b).debug = s.debug := by rw [flagBeads_eq]
@[simp] theorem flagBeads_fpStaged (p : Nat) (b : Word) : (s.flagBeads p b).fpStaged = s.fpStaged := by rw [flagBeads_eq]
@[simp] theorem flagBeads_fpActive (p : Nat) (b : Word) : (s.flagBeads p b).fpActive = s.fpActive := by rw [flagBeads_eq]
@[simp] theorem flagBeads_facets (p : Nat) (b : Word) : (s.flagBeads p b).facets = s.facets := by rw [flagBeads_eq]
@[simp] theorem flagBeads_applies (p : Nat) (b : Word) : (s.flagBeads p b).applies = s.applies := by rw [flagBeads_eq]
@[simp] theorem flagBeads_needSpare (p : Nat) (b : Word) : (s.flagBeads p b).needSpare = s.needSpare := by rw [flagBeads_eq]
@[simp] theorem flagBeads_applyCause (p : Nat) (b : Word) : (s.flagBeads p b).applyCause = s.applyCause := by rw [flagBeads_eq]
@[simp] theorem flagBeads_faultSum (p : Nat) (b : Word) : (s.flagBeads p b).faultSum = s.faultSum := by rw [flagBeads_eq]
@[simp] theorem flagBeads_fctRead (p : Nat) (b : Word) : (s.flagBeads p b).fctRead = s.fctRead := by rw [flagBeads_eq]
@[simp] theorem flagBeads_exc (p : Nat) (b : Word) : (s.flagBeads p b).exc = s.exc := by rw [flagBeads_eq]
@[simp] theorem flagBeads_spare (p : Nat) (b : Word) : (s.flagBeads p b).spare = s.spare := by rw [flagBeads_eq]
@[simp] theorem flagBeads_chain (p : Nat) (b : Word) : (s.flagBeads p b).chain = s.chain := by rw [flagBeads_eq]
@[simp] theorem flagBeads_budget (p : Nat) (b : Word) : (s.flagBeads p b).budget = s.budget := by rw [flagBeads_eq]
@[simp] theorem flagBeads_time (p : Nat) (b : Word) : (s.flagBeads p b).time = s.time := by rw [flagBeads_eq]
@[simp] theorem flagBeads_ports (p : Nat) (b : Word) : (s.flagBeads p b).ports = s.ports := by rw [flagBeads_eq]
@[simp] theorem flagBeads_trg (p : Nat) (b : Word) : (s.flagBeads p b).trg = s.trg := by rw [flagBeads_eq]
@[simp] theorem flagBeads_cap (p : Nat) (b : Word) : (s.flagBeads p b).cap = s.cap := by rw [flagBeads_eq]
@[simp] theorem flagBeads_msg (p : Nat) (b : Word) : (s.flagBeads p b).msg = s.msg := by rw [flagBeads_eq]
@[simp] theorem flagBeads_can (p : Nat) (b : Word) : (s.flagBeads p b).can = s.can := by rw [flagBeads_eq]
@[simp] theorem flagBeads_candev (p : Nat) (b : Word) : (s.flagBeads p b).candev = s.candev := by rw [flagBeads_eq]
@[simp] theorem flagBeads_sess (p : Nat) (b : Word) : (s.flagBeads p b).sess = s.sess := by rw [flagBeads_eq]
@[simp] theorem flagBeads_cal (p : Nat) (b : Word) : (s.flagBeads p b).cal = s.cal := by rw [flagBeads_eq]
@[simp] theorem flagBeads_curves (p : Nat) (b : Word) : (s.flagBeads p b).curves = s.curves := by rw [flagBeads_eq]
@[simp] theorem flagBeads_curveOld (p : Nat) (b : Word) : (s.flagBeads p b).curveOld = s.curveOld := by rw [flagBeads_eq]
@[simp] theorem flagBeads_curvePend (p : Nat) (b : Word) : (s.flagBeads p b).curvePend = s.curvePend := by rw [flagBeads_eq]
@[simp] theorem flagBeads_life (p : Nat) (b : Word) : (s.flagBeads p b).life = s.life := by rw [flagBeads_eq]
@[simp] theorem flagBeads_ctl (p : Nat) (b : Word) : (s.flagBeads p b).ctl = s.ctl := by rw [flagBeads_eq]
@[simp] theorem flagBeads_nvm (p : Nat) (b : Word) : (s.flagBeads p b).nvm = s.nvm := by rw [flagBeads_eq]
@[simp] theorem flagBeads_log (p : Nat) (b : Word) : (s.flagBeads p b).log = s.log := by rw [flagBeads_eq]
@[simp] theorem flagBeads_logSeq (p : Nat) (b : Word) : (s.flagBeads p b).logSeq = s.logSeq := by rw [flagBeads_eq]
@[simp] theorem flagBeads_winHold (p : Nat) (b : Word) : (s.flagBeads p b).winHold = s.winHold := by rw [flagBeads_eq]
@[simp] theorem flagBeads_loupe (p : Nat) (b : Word) : (s.flagBeads p b).loupe = s.loupe := by rw [flagBeads_eq]
@[simp] theorem flagBeads_trace (p : Nat) (b : Word) : (s.flagBeads p b).trace = s.trace := by rw [flagBeads_eq]

/-! ### setCanPort -/

@[simp] theorem setCanPort_pending (p : Nat) (v : CanPort) : (s.setCanPort p v).pending = s.pending := rfl
@[simp] theorem setCanPort_free (p : Nat) (v : CanPort) : (s.setCanPort p v).free = s.free := rfl
@[simp] theorem setCanPort_host (p : Nat) (v : CanPort) : (s.setCanPort p v).host = s.host := rfl
@[simp] theorem setCanPort_mp (p : Nat) (v : CanPort) : (s.setCanPort p v).mp = s.mp := rfl
@[simp] theorem setCanPort_canA (p : Nat) (v : CanPort) : (s.setCanPort p v).canA = s.canA := rfl
@[simp] theorem setCanPort_canB (p : Nat) (v : CanPort) : (s.setCanPort p v).canB = s.canB := rfl
@[simp] theorem setCanPort_debug (p : Nat) (v : CanPort) : (s.setCanPort p v).debug = s.debug := rfl
@[simp] theorem setCanPort_fpStaged (p : Nat) (v : CanPort) : (s.setCanPort p v).fpStaged = s.fpStaged := rfl
@[simp] theorem setCanPort_fpActive (p : Nat) (v : CanPort) : (s.setCanPort p v).fpActive = s.fpActive := rfl
@[simp] theorem setCanPort_facets (p : Nat) (v : CanPort) : (s.setCanPort p v).facets = s.facets := rfl
@[simp] theorem setCanPort_applies (p : Nat) (v : CanPort) : (s.setCanPort p v).applies = s.applies := rfl
@[simp] theorem setCanPort_needSpare (p : Nat) (v : CanPort) : (s.setCanPort p v).needSpare = s.needSpare := rfl
@[simp] theorem setCanPort_applyCause (p : Nat) (v : CanPort) : (s.setCanPort p v).applyCause = s.applyCause := rfl
@[simp] theorem setCanPort_faultSum (p : Nat) (v : CanPort) : (s.setCanPort p v).faultSum = s.faultSum := rfl
@[simp] theorem setCanPort_fctRead (p : Nat) (v : CanPort) : (s.setCanPort p v).fctRead = s.fctRead := rfl
@[simp] theorem setCanPort_exc (p : Nat) (v : CanPort) : (s.setCanPort p v).exc = s.exc := rfl
@[simp] theorem setCanPort_spare (p : Nat) (v : CanPort) : (s.setCanPort p v).spare = s.spare := rfl
@[simp] theorem setCanPort_chain (p : Nat) (v : CanPort) : (s.setCanPort p v).chain = s.chain := rfl
@[simp] theorem setCanPort_budget (p : Nat) (v : CanPort) : (s.setCanPort p v).budget = s.budget := rfl
@[simp] theorem setCanPort_time (p : Nat) (v : CanPort) : (s.setCanPort p v).time = s.time := rfl
@[simp] theorem setCanPort_ports (p : Nat) (v : CanPort) : (s.setCanPort p v).ports = s.ports := rfl
@[simp] theorem setCanPort_bead (p : Nat) (v : CanPort) : (s.setCanPort p v).bead = s.bead := rfl
@[simp] theorem setCanPort_trg (p : Nat) (v : CanPort) : (s.setCanPort p v).trg = s.trg := rfl
@[simp] theorem setCanPort_cap (p : Nat) (v : CanPort) : (s.setCanPort p v).cap = s.cap := rfl
@[simp] theorem setCanPort_msg (p : Nat) (v : CanPort) : (s.setCanPort p v).msg = s.msg := rfl
@[simp] theorem setCanPort_candev (p : Nat) (v : CanPort) : (s.setCanPort p v).candev = s.candev := rfl
@[simp] theorem setCanPort_sess (p : Nat) (v : CanPort) : (s.setCanPort p v).sess = s.sess := rfl
@[simp] theorem setCanPort_cal (p : Nat) (v : CanPort) : (s.setCanPort p v).cal = s.cal := rfl
@[simp] theorem setCanPort_curves (p : Nat) (v : CanPort) : (s.setCanPort p v).curves = s.curves := rfl
@[simp] theorem setCanPort_curveOld (p : Nat) (v : CanPort) : (s.setCanPort p v).curveOld = s.curveOld := rfl
@[simp] theorem setCanPort_curvePend (p : Nat) (v : CanPort) : (s.setCanPort p v).curvePend = s.curvePend := rfl
@[simp] theorem setCanPort_life (p : Nat) (v : CanPort) : (s.setCanPort p v).life = s.life := rfl
@[simp] theorem setCanPort_ctl (p : Nat) (v : CanPort) : (s.setCanPort p v).ctl = s.ctl := rfl
@[simp] theorem setCanPort_nvm (p : Nat) (v : CanPort) : (s.setCanPort p v).nvm = s.nvm := rfl
@[simp] theorem setCanPort_log (p : Nat) (v : CanPort) : (s.setCanPort p v).log = s.log := rfl
@[simp] theorem setCanPort_logSeq (p : Nat) (v : CanPort) : (s.setCanPort p v).logSeq = s.logSeq := rfl
@[simp] theorem setCanPort_winHold (p : Nat) (v : CanPort) : (s.setCanPort p v).winHold = s.winHold := rfl
@[simp] theorem setCanPort_loupe (p : Nat) (v : CanPort) : (s.setCanPort p v).loupe = s.loupe := rfl
@[simp] theorem setCanPort_trace (p : Nat) (v : CanPort) : (s.setCanPort p v).trace = s.trace := rfl

/-! ### modCanPort -/

@[simp] theorem modCanPort_pending (p : Nat) (f : CanPort → CanPort) : (s.modCanPort p f).pending = s.pending := rfl
@[simp] theorem modCanPort_free (p : Nat) (f : CanPort → CanPort) : (s.modCanPort p f).free = s.free := rfl
@[simp] theorem modCanPort_host (p : Nat) (f : CanPort → CanPort) : (s.modCanPort p f).host = s.host := rfl
@[simp] theorem modCanPort_mp (p : Nat) (f : CanPort → CanPort) : (s.modCanPort p f).mp = s.mp := rfl
@[simp] theorem modCanPort_canA (p : Nat) (f : CanPort → CanPort) : (s.modCanPort p f).canA = s.canA := rfl
@[simp] theorem modCanPort_canB (p : Nat) (f : CanPort → CanPort) : (s.modCanPort p f).canB = s.canB := rfl
@[simp] theorem modCanPort_debug (p : Nat) (f : CanPort → CanPort) : (s.modCanPort p f).debug = s.debug := rfl
@[simp] theorem modCanPort_fpStaged (p : Nat) (f : CanPort → CanPort) : (s.modCanPort p f).fpStaged = s.fpStaged := rfl
@[simp] theorem modCanPort_fpActive (p : Nat) (f : CanPort → CanPort) : (s.modCanPort p f).fpActive = s.fpActive := rfl
@[simp] theorem modCanPort_facets (p : Nat) (f : CanPort → CanPort) : (s.modCanPort p f).facets = s.facets := rfl
@[simp] theorem modCanPort_applies (p : Nat) (f : CanPort → CanPort) : (s.modCanPort p f).applies = s.applies := rfl
@[simp] theorem modCanPort_needSpare (p : Nat) (f : CanPort → CanPort) : (s.modCanPort p f).needSpare = s.needSpare := rfl
@[simp] theorem modCanPort_applyCause (p : Nat) (f : CanPort → CanPort) : (s.modCanPort p f).applyCause = s.applyCause := rfl
@[simp] theorem modCanPort_faultSum (p : Nat) (f : CanPort → CanPort) : (s.modCanPort p f).faultSum = s.faultSum := rfl
@[simp] theorem modCanPort_fctRead (p : Nat) (f : CanPort → CanPort) : (s.modCanPort p f).fctRead = s.fctRead := rfl
@[simp] theorem modCanPort_exc (p : Nat) (f : CanPort → CanPort) : (s.modCanPort p f).exc = s.exc := rfl
@[simp] theorem modCanPort_spare (p : Nat) (f : CanPort → CanPort) : (s.modCanPort p f).spare = s.spare := rfl
@[simp] theorem modCanPort_chain (p : Nat) (f : CanPort → CanPort) : (s.modCanPort p f).chain = s.chain := rfl
@[simp] theorem modCanPort_budget (p : Nat) (f : CanPort → CanPort) : (s.modCanPort p f).budget = s.budget := rfl
@[simp] theorem modCanPort_time (p : Nat) (f : CanPort → CanPort) : (s.modCanPort p f).time = s.time := rfl
@[simp] theorem modCanPort_ports (p : Nat) (f : CanPort → CanPort) : (s.modCanPort p f).ports = s.ports := rfl
@[simp] theorem modCanPort_bead (p : Nat) (f : CanPort → CanPort) : (s.modCanPort p f).bead = s.bead := rfl
@[simp] theorem modCanPort_trg (p : Nat) (f : CanPort → CanPort) : (s.modCanPort p f).trg = s.trg := rfl
@[simp] theorem modCanPort_cap (p : Nat) (f : CanPort → CanPort) : (s.modCanPort p f).cap = s.cap := rfl
@[simp] theorem modCanPort_msg (p : Nat) (f : CanPort → CanPort) : (s.modCanPort p f).msg = s.msg := rfl
@[simp] theorem modCanPort_candev (p : Nat) (f : CanPort → CanPort) : (s.modCanPort p f).candev = s.candev := rfl
@[simp] theorem modCanPort_sess (p : Nat) (f : CanPort → CanPort) : (s.modCanPort p f).sess = s.sess := rfl
@[simp] theorem modCanPort_cal (p : Nat) (f : CanPort → CanPort) : (s.modCanPort p f).cal = s.cal := rfl
@[simp] theorem modCanPort_curves (p : Nat) (f : CanPort → CanPort) : (s.modCanPort p f).curves = s.curves := rfl
@[simp] theorem modCanPort_curveOld (p : Nat) (f : CanPort → CanPort) : (s.modCanPort p f).curveOld = s.curveOld := rfl
@[simp] theorem modCanPort_curvePend (p : Nat) (f : CanPort → CanPort) : (s.modCanPort p f).curvePend = s.curvePend := rfl
@[simp] theorem modCanPort_life (p : Nat) (f : CanPort → CanPort) : (s.modCanPort p f).life = s.life := rfl
@[simp] theorem modCanPort_ctl (p : Nat) (f : CanPort → CanPort) : (s.modCanPort p f).ctl = s.ctl := rfl
@[simp] theorem modCanPort_nvm (p : Nat) (f : CanPort → CanPort) : (s.modCanPort p f).nvm = s.nvm := rfl
@[simp] theorem modCanPort_log (p : Nat) (f : CanPort → CanPort) : (s.modCanPort p f).log = s.log := rfl
@[simp] theorem modCanPort_logSeq (p : Nat) (f : CanPort → CanPort) : (s.modCanPort p f).logSeq = s.logSeq := rfl
@[simp] theorem modCanPort_winHold (p : Nat) (f : CanPort → CanPort) : (s.modCanPort p f).winHold = s.winHold := rfl
@[simp] theorem modCanPort_loupe (p : Nat) (f : CanPort → CanPort) : (s.modCanPort p f).loupe = s.loupe := rfl
@[simp] theorem modCanPort_trace (p : Nat) (f : CanPort → CanPort) : (s.modCanPort p f).trace = s.trace := rfl

/-! ### modSession -/

@[simp] theorem modSession_pending (p : Nat) (f : Session → Session) : (s.modSession p f).pending = s.pending := rfl
@[simp] theorem modSession_free (p : Nat) (f : Session → Session) : (s.modSession p f).free = s.free := rfl
@[simp] theorem modSession_host (p : Nat) (f : Session → Session) : (s.modSession p f).host = s.host := rfl
@[simp] theorem modSession_mp (p : Nat) (f : Session → Session) : (s.modSession p f).mp = s.mp := rfl
@[simp] theorem modSession_canA (p : Nat) (f : Session → Session) : (s.modSession p f).canA = s.canA := rfl
@[simp] theorem modSession_canB (p : Nat) (f : Session → Session) : (s.modSession p f).canB = s.canB := rfl
@[simp] theorem modSession_debug (p : Nat) (f : Session → Session) : (s.modSession p f).debug = s.debug := rfl
@[simp] theorem modSession_fpStaged (p : Nat) (f : Session → Session) : (s.modSession p f).fpStaged = s.fpStaged := rfl
@[simp] theorem modSession_fpActive (p : Nat) (f : Session → Session) : (s.modSession p f).fpActive = s.fpActive := rfl
@[simp] theorem modSession_facets (p : Nat) (f : Session → Session) : (s.modSession p f).facets = s.facets := rfl
@[simp] theorem modSession_applies (p : Nat) (f : Session → Session) : (s.modSession p f).applies = s.applies := rfl
@[simp] theorem modSession_needSpare (p : Nat) (f : Session → Session) : (s.modSession p f).needSpare = s.needSpare := rfl
@[simp] theorem modSession_applyCause (p : Nat) (f : Session → Session) : (s.modSession p f).applyCause = s.applyCause := rfl
@[simp] theorem modSession_faultSum (p : Nat) (f : Session → Session) : (s.modSession p f).faultSum = s.faultSum := rfl
@[simp] theorem modSession_fctRead (p : Nat) (f : Session → Session) : (s.modSession p f).fctRead = s.fctRead := rfl
@[simp] theorem modSession_exc (p : Nat) (f : Session → Session) : (s.modSession p f).exc = s.exc := rfl
@[simp] theorem modSession_spare (p : Nat) (f : Session → Session) : (s.modSession p f).spare = s.spare := rfl
@[simp] theorem modSession_chain (p : Nat) (f : Session → Session) : (s.modSession p f).chain = s.chain := rfl
@[simp] theorem modSession_budget (p : Nat) (f : Session → Session) : (s.modSession p f).budget = s.budget := rfl
@[simp] theorem modSession_time (p : Nat) (f : Session → Session) : (s.modSession p f).time = s.time := rfl
@[simp] theorem modSession_ports (p : Nat) (f : Session → Session) : (s.modSession p f).ports = s.ports := rfl
@[simp] theorem modSession_bead (p : Nat) (f : Session → Session) : (s.modSession p f).bead = s.bead := rfl
@[simp] theorem modSession_trg (p : Nat) (f : Session → Session) : (s.modSession p f).trg = s.trg := rfl
@[simp] theorem modSession_cap (p : Nat) (f : Session → Session) : (s.modSession p f).cap = s.cap := rfl
@[simp] theorem modSession_msg (p : Nat) (f : Session → Session) : (s.modSession p f).msg = s.msg := rfl
@[simp] theorem modSession_can (p : Nat) (f : Session → Session) : (s.modSession p f).can = s.can := rfl
@[simp] theorem modSession_candev (p : Nat) (f : Session → Session) : (s.modSession p f).candev = s.candev := rfl
@[simp] theorem modSession_cal (p : Nat) (f : Session → Session) : (s.modSession p f).cal = s.cal := rfl
@[simp] theorem modSession_curves (p : Nat) (f : Session → Session) : (s.modSession p f).curves = s.curves := rfl
@[simp] theorem modSession_curveOld (p : Nat) (f : Session → Session) : (s.modSession p f).curveOld = s.curveOld := rfl
@[simp] theorem modSession_curvePend (p : Nat) (f : Session → Session) : (s.modSession p f).curvePend = s.curvePend := rfl
@[simp] theorem modSession_life (p : Nat) (f : Session → Session) : (s.modSession p f).life = s.life := rfl
@[simp] theorem modSession_ctl (p : Nat) (f : Session → Session) : (s.modSession p f).ctl = s.ctl := rfl
@[simp] theorem modSession_nvm (p : Nat) (f : Session → Session) : (s.modSession p f).nvm = s.nvm := rfl
@[simp] theorem modSession_log (p : Nat) (f : Session → Session) : (s.modSession p f).log = s.log := rfl
@[simp] theorem modSession_logSeq (p : Nat) (f : Session → Session) : (s.modSession p f).logSeq = s.logSeq := rfl
@[simp] theorem modSession_winHold (p : Nat) (f : Session → Session) : (s.modSession p f).winHold = s.winHold := rfl
@[simp] theorem modSession_loupe (p : Nat) (f : Session → Session) : (s.modSession p f).loupe = s.loupe := rfl
@[simp] theorem modSession_trace (p : Nat) (f : Session → Session) : (s.modSession p f).trace = s.trace := rfl

/-! ### setSession -/

@[simp] theorem setSession_pending (p : Nat) (v : Session) : (s.setSession p v).pending = s.pending := rfl
@[simp] theorem setSession_free (p : Nat) (v : Session) : (s.setSession p v).free = s.free := rfl
@[simp] theorem setSession_host (p : Nat) (v : Session) : (s.setSession p v).host = s.host := rfl
@[simp] theorem setSession_mp (p : Nat) (v : Session) : (s.setSession p v).mp = s.mp := rfl
@[simp] theorem setSession_canA (p : Nat) (v : Session) : (s.setSession p v).canA = s.canA := rfl
@[simp] theorem setSession_canB (p : Nat) (v : Session) : (s.setSession p v).canB = s.canB := rfl
@[simp] theorem setSession_debug (p : Nat) (v : Session) : (s.setSession p v).debug = s.debug := rfl
@[simp] theorem setSession_fpStaged (p : Nat) (v : Session) : (s.setSession p v).fpStaged = s.fpStaged := rfl
@[simp] theorem setSession_fpActive (p : Nat) (v : Session) : (s.setSession p v).fpActive = s.fpActive := rfl
@[simp] theorem setSession_facets (p : Nat) (v : Session) : (s.setSession p v).facets = s.facets := rfl
@[simp] theorem setSession_applies (p : Nat) (v : Session) : (s.setSession p v).applies = s.applies := rfl
@[simp] theorem setSession_needSpare (p : Nat) (v : Session) : (s.setSession p v).needSpare = s.needSpare := rfl
@[simp] theorem setSession_applyCause (p : Nat) (v : Session) : (s.setSession p v).applyCause = s.applyCause := rfl
@[simp] theorem setSession_faultSum (p : Nat) (v : Session) : (s.setSession p v).faultSum = s.faultSum := rfl
@[simp] theorem setSession_fctRead (p : Nat) (v : Session) : (s.setSession p v).fctRead = s.fctRead := rfl
@[simp] theorem setSession_exc (p : Nat) (v : Session) : (s.setSession p v).exc = s.exc := rfl
@[simp] theorem setSession_spare (p : Nat) (v : Session) : (s.setSession p v).spare = s.spare := rfl
@[simp] theorem setSession_chain (p : Nat) (v : Session) : (s.setSession p v).chain = s.chain := rfl
@[simp] theorem setSession_budget (p : Nat) (v : Session) : (s.setSession p v).budget = s.budget := rfl
@[simp] theorem setSession_time (p : Nat) (v : Session) : (s.setSession p v).time = s.time := rfl
@[simp] theorem setSession_ports (p : Nat) (v : Session) : (s.setSession p v).ports = s.ports := rfl
@[simp] theorem setSession_bead (p : Nat) (v : Session) : (s.setSession p v).bead = s.bead := rfl
@[simp] theorem setSession_trg (p : Nat) (v : Session) : (s.setSession p v).trg = s.trg := rfl
@[simp] theorem setSession_cap (p : Nat) (v : Session) : (s.setSession p v).cap = s.cap := rfl
@[simp] theorem setSession_msg (p : Nat) (v : Session) : (s.setSession p v).msg = s.msg := rfl
@[simp] theorem setSession_can (p : Nat) (v : Session) : (s.setSession p v).can = s.can := rfl
@[simp] theorem setSession_candev (p : Nat) (v : Session) : (s.setSession p v).candev = s.candev := rfl
@[simp] theorem setSession_cal (p : Nat) (v : Session) : (s.setSession p v).cal = s.cal := rfl
@[simp] theorem setSession_curves (p : Nat) (v : Session) : (s.setSession p v).curves = s.curves := rfl
@[simp] theorem setSession_curveOld (p : Nat) (v : Session) : (s.setSession p v).curveOld = s.curveOld := rfl
@[simp] theorem setSession_curvePend (p : Nat) (v : Session) : (s.setSession p v).curvePend = s.curvePend := rfl
@[simp] theorem setSession_life (p : Nat) (v : Session) : (s.setSession p v).life = s.life := rfl
@[simp] theorem setSession_ctl (p : Nat) (v : Session) : (s.setSession p v).ctl = s.ctl := rfl
@[simp] theorem setSession_nvm (p : Nat) (v : Session) : (s.setSession p v).nvm = s.nvm := rfl
@[simp] theorem setSession_log (p : Nat) (v : Session) : (s.setSession p v).log = s.log := rfl
@[simp] theorem setSession_logSeq (p : Nat) (v : Session) : (s.setSession p v).logSeq = s.logSeq := rfl
@[simp] theorem setSession_winHold (p : Nat) (v : Session) : (s.setSession p v).winHold = s.winHold := rfl
@[simp] theorem setSession_loupe (p : Nat) (v : Session) : (s.setSession p v).loupe = s.loupe := rfl
@[simp] theorem setSession_trace (p : Nat) (v : Session) : (s.setSession p v).trace = s.trace := rfl

/-! ### irq0 -/

@[simp] theorem irq0_pending (b : Nat) : (s.irq0 b).pending = s.pending := rfl
@[simp] theorem irq0_free (b : Nat) : (s.irq0 b).free = s.free := rfl
@[simp] theorem irq0_host (b : Nat) : (s.irq0 b).host = s.host := rfl
@[simp] theorem irq0_mp (b : Nat) : (s.irq0 b).mp = s.mp := rfl
@[simp] theorem irq0_canA (b : Nat) : (s.irq0 b).canA = s.canA := rfl
@[simp] theorem irq0_canB (b : Nat) : (s.irq0 b).canB = s.canB := rfl
@[simp] theorem irq0_debug (b : Nat) : (s.irq0 b).debug = s.debug := rfl
@[simp] theorem irq0_fpStaged (b : Nat) : (s.irq0 b).fpStaged = s.fpStaged := rfl
@[simp] theorem irq0_fpActive (b : Nat) : (s.irq0 b).fpActive = s.fpActive := rfl
@[simp] theorem irq0_facets (b : Nat) : (s.irq0 b).facets = s.facets := rfl
@[simp] theorem irq0_applies (b : Nat) : (s.irq0 b).applies = s.applies := rfl
@[simp] theorem irq0_needSpare (b : Nat) : (s.irq0 b).needSpare = s.needSpare := rfl
@[simp] theorem irq0_applyCause (b : Nat) : (s.irq0 b).applyCause = s.applyCause := rfl
@[simp] theorem irq0_faultSum (b : Nat) : (s.irq0 b).faultSum = s.faultSum := rfl
@[simp] theorem irq0_fctRead (b : Nat) : (s.irq0 b).fctRead = s.fctRead := rfl
@[simp] theorem irq0_exc (b : Nat) : (s.irq0 b).exc = s.exc := rfl
@[simp] theorem irq0_spare (b : Nat) : (s.irq0 b).spare = s.spare := rfl
@[simp] theorem irq0_chain (b : Nat) : (s.irq0 b).chain = s.chain := rfl
@[simp] theorem irq0_budget (b : Nat) : (s.irq0 b).budget = s.budget := rfl
@[simp] theorem irq0_time (b : Nat) : (s.irq0 b).time = s.time := rfl
@[simp] theorem irq0_ports (b : Nat) : (s.irq0 b).ports = s.ports := rfl
@[simp] theorem irq0_bead (b : Nat) : (s.irq0 b).bead = s.bead := rfl
@[simp] theorem irq0_trg (b : Nat) : (s.irq0 b).trg = s.trg := rfl
@[simp] theorem irq0_cap (b : Nat) : (s.irq0 b).cap = s.cap := rfl
@[simp] theorem irq0_msg (b : Nat) : (s.irq0 b).msg = s.msg := rfl
@[simp] theorem irq0_can (b : Nat) : (s.irq0 b).can = s.can := rfl
@[simp] theorem irq0_candev (b : Nat) : (s.irq0 b).candev = s.candev := rfl
@[simp] theorem irq0_sess (b : Nat) : (s.irq0 b).sess = s.sess := rfl
@[simp] theorem irq0_cal (b : Nat) : (s.irq0 b).cal = s.cal := rfl
@[simp] theorem irq0_curves (b : Nat) : (s.irq0 b).curves = s.curves := rfl
@[simp] theorem irq0_curveOld (b : Nat) : (s.irq0 b).curveOld = s.curveOld := rfl
@[simp] theorem irq0_curvePend (b : Nat) : (s.irq0 b).curvePend = s.curvePend := rfl
@[simp] theorem irq0_life (b : Nat) : (s.irq0 b).life = s.life := rfl
@[simp] theorem irq0_nvm (b : Nat) : (s.irq0 b).nvm = s.nvm := rfl
@[simp] theorem irq0_log (b : Nat) : (s.irq0 b).log = s.log := rfl
@[simp] theorem irq0_logSeq (b : Nat) : (s.irq0 b).logSeq = s.logSeq := rfl
@[simp] theorem irq0_winHold (b : Nat) : (s.irq0 b).winHold = s.winHold := rfl
@[simp] theorem irq0_loupe (b : Nat) : (s.irq0 b).loupe = s.loupe := rfl
@[simp] theorem irq0_trace (b : Nat) : (s.irq0 b).trace = s.trace := rfl

/-! ### irq1 -/

@[simp] theorem irq1_pending (b : Nat) : (s.irq1 b).pending = s.pending := rfl
@[simp] theorem irq1_free (b : Nat) : (s.irq1 b).free = s.free := rfl
@[simp] theorem irq1_host (b : Nat) : (s.irq1 b).host = s.host := rfl
@[simp] theorem irq1_mp (b : Nat) : (s.irq1 b).mp = s.mp := rfl
@[simp] theorem irq1_canA (b : Nat) : (s.irq1 b).canA = s.canA := rfl
@[simp] theorem irq1_canB (b : Nat) : (s.irq1 b).canB = s.canB := rfl
@[simp] theorem irq1_debug (b : Nat) : (s.irq1 b).debug = s.debug := rfl
@[simp] theorem irq1_fpStaged (b : Nat) : (s.irq1 b).fpStaged = s.fpStaged := rfl
@[simp] theorem irq1_fpActive (b : Nat) : (s.irq1 b).fpActive = s.fpActive := rfl
@[simp] theorem irq1_facets (b : Nat) : (s.irq1 b).facets = s.facets := rfl
@[simp] theorem irq1_applies (b : Nat) : (s.irq1 b).applies = s.applies := rfl
@[simp] theorem irq1_needSpare (b : Nat) : (s.irq1 b).needSpare = s.needSpare := rfl
@[simp] theorem irq1_applyCause (b : Nat) : (s.irq1 b).applyCause = s.applyCause := rfl
@[simp] theorem irq1_faultSum (b : Nat) : (s.irq1 b).faultSum = s.faultSum := rfl
@[simp] theorem irq1_fctRead (b : Nat) : (s.irq1 b).fctRead = s.fctRead := rfl
@[simp] theorem irq1_exc (b : Nat) : (s.irq1 b).exc = s.exc := rfl
@[simp] theorem irq1_spare (b : Nat) : (s.irq1 b).spare = s.spare := rfl
@[simp] theorem irq1_chain (b : Nat) : (s.irq1 b).chain = s.chain := rfl
@[simp] theorem irq1_budget (b : Nat) : (s.irq1 b).budget = s.budget := rfl
@[simp] theorem irq1_time (b : Nat) : (s.irq1 b).time = s.time := rfl
@[simp] theorem irq1_ports (b : Nat) : (s.irq1 b).ports = s.ports := rfl
@[simp] theorem irq1_bead (b : Nat) : (s.irq1 b).bead = s.bead := rfl
@[simp] theorem irq1_trg (b : Nat) : (s.irq1 b).trg = s.trg := rfl
@[simp] theorem irq1_cap (b : Nat) : (s.irq1 b).cap = s.cap := rfl
@[simp] theorem irq1_msg (b : Nat) : (s.irq1 b).msg = s.msg := rfl
@[simp] theorem irq1_can (b : Nat) : (s.irq1 b).can = s.can := rfl
@[simp] theorem irq1_candev (b : Nat) : (s.irq1 b).candev = s.candev := rfl
@[simp] theorem irq1_sess (b : Nat) : (s.irq1 b).sess = s.sess := rfl
@[simp] theorem irq1_cal (b : Nat) : (s.irq1 b).cal = s.cal := rfl
@[simp] theorem irq1_curves (b : Nat) : (s.irq1 b).curves = s.curves := rfl
@[simp] theorem irq1_curveOld (b : Nat) : (s.irq1 b).curveOld = s.curveOld := rfl
@[simp] theorem irq1_curvePend (b : Nat) : (s.irq1 b).curvePend = s.curvePend := rfl
@[simp] theorem irq1_life (b : Nat) : (s.irq1 b).life = s.life := rfl
@[simp] theorem irq1_nvm (b : Nat) : (s.irq1 b).nvm = s.nvm := rfl
@[simp] theorem irq1_log (b : Nat) : (s.irq1 b).log = s.log := rfl
@[simp] theorem irq1_logSeq (b : Nat) : (s.irq1 b).logSeq = s.logSeq := rfl
@[simp] theorem irq1_winHold (b : Nat) : (s.irq1 b).winHold = s.winHold := rfl
@[simp] theorem irq1_loupe (b : Nat) : (s.irq1 b).loupe = s.loupe := rfl
@[simp] theorem irq1_trace (b : Nat) : (s.irq1 b).trace = s.trace := rfl

/-! ### nextStamp -/

@[simp] theorem nextStamp_pending : (s.nextStamp).pending = s.pending := rfl
@[simp] theorem nextStamp_free : (s.nextStamp).free = s.free := rfl
@[simp] theorem nextStamp_host : (s.nextStamp).host = s.host := rfl
@[simp] theorem nextStamp_mp : (s.nextStamp).mp = s.mp := rfl
@[simp] theorem nextStamp_canA : (s.nextStamp).canA = s.canA := rfl
@[simp] theorem nextStamp_canB : (s.nextStamp).canB = s.canB := rfl
@[simp] theorem nextStamp_debug : (s.nextStamp).debug = s.debug := rfl
@[simp] theorem nextStamp_fpStaged : (s.nextStamp).fpStaged = s.fpStaged := rfl
@[simp] theorem nextStamp_fpActive : (s.nextStamp).fpActive = s.fpActive := rfl
@[simp] theorem nextStamp_facets : (s.nextStamp).facets = s.facets := rfl
@[simp] theorem nextStamp_applies : (s.nextStamp).applies = s.applies := rfl
@[simp] theorem nextStamp_needSpare : (s.nextStamp).needSpare = s.needSpare := rfl
@[simp] theorem nextStamp_applyCause : (s.nextStamp).applyCause = s.applyCause := rfl
@[simp] theorem nextStamp_faultSum : (s.nextStamp).faultSum = s.faultSum := rfl
@[simp] theorem nextStamp_fctRead : (s.nextStamp).fctRead = s.fctRead := rfl
@[simp] theorem nextStamp_exc : (s.nextStamp).exc = s.exc := rfl
@[simp] theorem nextStamp_spare : (s.nextStamp).spare = s.spare := rfl
@[simp] theorem nextStamp_chain : (s.nextStamp).chain = s.chain := rfl
@[simp] theorem nextStamp_budget : (s.nextStamp).budget = s.budget := rfl
@[simp] theorem nextStamp_time : (s.nextStamp).time = s.time := rfl
@[simp] theorem nextStamp_ports : (s.nextStamp).ports = s.ports := rfl
@[simp] theorem nextStamp_bead : (s.nextStamp).bead = s.bead := rfl
@[simp] theorem nextStamp_trg : (s.nextStamp).trg = s.trg := rfl
@[simp] theorem nextStamp_cap : (s.nextStamp).cap = s.cap := rfl
@[simp] theorem nextStamp_msg : (s.nextStamp).msg = s.msg := rfl
@[simp] theorem nextStamp_can : (s.nextStamp).can = s.can := rfl
@[simp] theorem nextStamp_candev : (s.nextStamp).candev = s.candev := rfl
@[simp] theorem nextStamp_sess : (s.nextStamp).sess = s.sess := rfl
@[simp] theorem nextStamp_cal : (s.nextStamp).cal = s.cal := rfl
@[simp] theorem nextStamp_curves : (s.nextStamp).curves = s.curves := rfl
@[simp] theorem nextStamp_curveOld : (s.nextStamp).curveOld = s.curveOld := rfl
@[simp] theorem nextStamp_curvePend : (s.nextStamp).curvePend = s.curvePend := rfl
@[simp] theorem nextStamp_life : (s.nextStamp).life = s.life := rfl
@[simp] theorem nextStamp_nvm : (s.nextStamp).nvm = s.nvm := rfl
@[simp] theorem nextStamp_log : (s.nextStamp).log = s.log := rfl
@[simp] theorem nextStamp_logSeq : (s.nextStamp).logSeq = s.logSeq := rfl
@[simp] theorem nextStamp_winHold : (s.nextStamp).winHold = s.winHold := rfl
@[simp] theorem nextStamp_loupe : (s.nextStamp).loupe = s.loupe := rfl
@[simp] theorem nextStamp_trace : (s.nextStamp).trace = s.trace := rfl

/-! ### committed -/

@[simp] theorem committed_pending (m : Master) (u : CUnit) : (s.committed m u).pending = s.pending := rfl
@[simp] theorem committed_free (m : Master) (u : CUnit) : (s.committed m u).free = s.free := rfl
@[simp] theorem committed_host (m : Master) (u : CUnit) : (s.committed m u).host = s.host := rfl
@[simp] theorem committed_mp (m : Master) (u : CUnit) : (s.committed m u).mp = s.mp := rfl
@[simp] theorem committed_canA (m : Master) (u : CUnit) : (s.committed m u).canA = s.canA := rfl
@[simp] theorem committed_canB (m : Master) (u : CUnit) : (s.committed m u).canB = s.canB := rfl
@[simp] theorem committed_debug (m : Master) (u : CUnit) : (s.committed m u).debug = s.debug := rfl
@[simp] theorem committed_fpStaged (m : Master) (u : CUnit) : (s.committed m u).fpStaged = s.fpStaged := rfl
@[simp] theorem committed_fpActive (m : Master) (u : CUnit) : (s.committed m u).fpActive = s.fpActive := rfl
@[simp] theorem committed_facets (m : Master) (u : CUnit) : (s.committed m u).facets = s.facets := rfl
@[simp] theorem committed_applies (m : Master) (u : CUnit) : (s.committed m u).applies = s.applies := rfl
@[simp] theorem committed_needSpare (m : Master) (u : CUnit) : (s.committed m u).needSpare = s.needSpare := rfl
@[simp] theorem committed_applyCause (m : Master) (u : CUnit) : (s.committed m u).applyCause = s.applyCause := rfl
@[simp] theorem committed_faultSum (m : Master) (u : CUnit) : (s.committed m u).faultSum = s.faultSum := rfl
@[simp] theorem committed_fctRead (m : Master) (u : CUnit) : (s.committed m u).fctRead = s.fctRead := rfl
@[simp] theorem committed_exc (m : Master) (u : CUnit) : (s.committed m u).exc = s.exc := rfl
@[simp] theorem committed_spare (m : Master) (u : CUnit) : (s.committed m u).spare = s.spare := rfl
@[simp] theorem committed_chain (m : Master) (u : CUnit) : (s.committed m u).chain = s.chain := rfl
@[simp] theorem committed_budget (m : Master) (u : CUnit) : (s.committed m u).budget = s.budget := rfl
@[simp] theorem committed_time (m : Master) (u : CUnit) : (s.committed m u).time = s.time := rfl
@[simp] theorem committed_ports (m : Master) (u : CUnit) : (s.committed m u).ports = s.ports := rfl
@[simp] theorem committed_bead (m : Master) (u : CUnit) : (s.committed m u).bead = s.bead := rfl
@[simp] theorem committed_trg (m : Master) (u : CUnit) : (s.committed m u).trg = s.trg := rfl
@[simp] theorem committed_cap (m : Master) (u : CUnit) : (s.committed m u).cap = s.cap := rfl
@[simp] theorem committed_msg (m : Master) (u : CUnit) : (s.committed m u).msg = s.msg := rfl
@[simp] theorem committed_can (m : Master) (u : CUnit) : (s.committed m u).can = s.can := rfl
@[simp] theorem committed_candev (m : Master) (u : CUnit) : (s.committed m u).candev = s.candev := rfl
@[simp] theorem committed_sess (m : Master) (u : CUnit) : (s.committed m u).sess = s.sess := rfl
@[simp] theorem committed_cal (m : Master) (u : CUnit) : (s.committed m u).cal = s.cal := rfl
@[simp] theorem committed_curves (m : Master) (u : CUnit) : (s.committed m u).curves = s.curves := rfl
@[simp] theorem committed_curveOld (m : Master) (u : CUnit) : (s.committed m u).curveOld = s.curveOld := rfl
@[simp] theorem committed_curvePend (m : Master) (u : CUnit) : (s.committed m u).curvePend = s.curvePend := rfl
@[simp] theorem committed_life (m : Master) (u : CUnit) : (s.committed m u).life = s.life := rfl
@[simp] theorem committed_nvm (m : Master) (u : CUnit) : (s.committed m u).nvm = s.nvm := rfl
@[simp] theorem committed_log (m : Master) (u : CUnit) : (s.committed m u).log = s.log := rfl
@[simp] theorem committed_logSeq (m : Master) (u : CUnit) : (s.committed m u).logSeq = s.logSeq := rfl
@[simp] theorem committed_winHold (m : Master) (u : CUnit) : (s.committed m u).winHold = s.winHold := rfl
@[simp] theorem committed_loupe (m : Master) (u : CUnit) : (s.committed m u).loupe = s.loupe := rfl
@[simp] theorem committed_trace (m : Master) (u : CUnit) : (s.committed m u).trace = s.trace := rfl

/-! ### logT -/

@[simp] theorem logT_pending (t c m o : Nat) (d : BitVec 32) : (s.logT t c m o d).pending = s.pending := by rw [logT_eq]
@[simp] theorem logT_free (t c m o : Nat) (d : BitVec 32) : (s.logT t c m o d).free = s.free := by rw [logT_eq]
@[simp] theorem logT_host (t c m o : Nat) (d : BitVec 32) : (s.logT t c m o d).host = s.host := by rw [logT_eq]
@[simp] theorem logT_mp (t c m o : Nat) (d : BitVec 32) : (s.logT t c m o d).mp = s.mp := by rw [logT_eq]
@[simp] theorem logT_canA (t c m o : Nat) (d : BitVec 32) : (s.logT t c m o d).canA = s.canA := by rw [logT_eq]
@[simp] theorem logT_canB (t c m o : Nat) (d : BitVec 32) : (s.logT t c m o d).canB = s.canB := by rw [logT_eq]
@[simp] theorem logT_debug (t c m o : Nat) (d : BitVec 32) : (s.logT t c m o d).debug = s.debug := by rw [logT_eq]
@[simp] theorem logT_fpStaged (t c m o : Nat) (d : BitVec 32) : (s.logT t c m o d).fpStaged = s.fpStaged := by rw [logT_eq]
@[simp] theorem logT_fpActive (t c m o : Nat) (d : BitVec 32) : (s.logT t c m o d).fpActive = s.fpActive := by rw [logT_eq]
@[simp] theorem logT_facets (t c m o : Nat) (d : BitVec 32) : (s.logT t c m o d).facets = s.facets := by rw [logT_eq]
@[simp] theorem logT_applies (t c m o : Nat) (d : BitVec 32) : (s.logT t c m o d).applies = s.applies := by rw [logT_eq]
@[simp] theorem logT_needSpare (t c m o : Nat) (d : BitVec 32) : (s.logT t c m o d).needSpare = s.needSpare := by rw [logT_eq]
@[simp] theorem logT_applyCause (t c m o : Nat) (d : BitVec 32) : (s.logT t c m o d).applyCause = s.applyCause := by rw [logT_eq]
@[simp] theorem logT_faultSum (t c m o : Nat) (d : BitVec 32) : (s.logT t c m o d).faultSum = s.faultSum := by rw [logT_eq]
@[simp] theorem logT_fctRead (t c m o : Nat) (d : BitVec 32) : (s.logT t c m o d).fctRead = s.fctRead := by rw [logT_eq]
@[simp] theorem logT_exc (t c m o : Nat) (d : BitVec 32) : (s.logT t c m o d).exc = s.exc := by rw [logT_eq]
@[simp] theorem logT_spare (t c m o : Nat) (d : BitVec 32) : (s.logT t c m o d).spare = s.spare := by rw [logT_eq]
@[simp] theorem logT_chain (t c m o : Nat) (d : BitVec 32) : (s.logT t c m o d).chain = s.chain := by rw [logT_eq]
@[simp] theorem logT_budget (t c m o : Nat) (d : BitVec 32) : (s.logT t c m o d).budget = s.budget := by rw [logT_eq]
@[simp] theorem logT_time (t c m o : Nat) (d : BitVec 32) : (s.logT t c m o d).time = s.time := by rw [logT_eq]
@[simp] theorem logT_ports (t c m o : Nat) (d : BitVec 32) : (s.logT t c m o d).ports = s.ports := by rw [logT_eq]
@[simp] theorem logT_bead (t c m o : Nat) (d : BitVec 32) : (s.logT t c m o d).bead = s.bead := by rw [logT_eq]
@[simp] theorem logT_trg (t c m o : Nat) (d : BitVec 32) : (s.logT t c m o d).trg = s.trg := by rw [logT_eq]
@[simp] theorem logT_cap (t c m o : Nat) (d : BitVec 32) : (s.logT t c m o d).cap = s.cap := by rw [logT_eq]
@[simp] theorem logT_msg (t c m o : Nat) (d : BitVec 32) : (s.logT t c m o d).msg = s.msg := by rw [logT_eq]
@[simp] theorem logT_can (t c m o : Nat) (d : BitVec 32) : (s.logT t c m o d).can = s.can := by rw [logT_eq]
@[simp] theorem logT_candev (t c m o : Nat) (d : BitVec 32) : (s.logT t c m o d).candev = s.candev := by rw [logT_eq]
@[simp] theorem logT_sess (t c m o : Nat) (d : BitVec 32) : (s.logT t c m o d).sess = s.sess := by rw [logT_eq]
@[simp] theorem logT_cal (t c m o : Nat) (d : BitVec 32) : (s.logT t c m o d).cal = s.cal := by rw [logT_eq]
@[simp] theorem logT_curves (t c m o : Nat) (d : BitVec 32) : (s.logT t c m o d).curves = s.curves := by rw [logT_eq]
@[simp] theorem logT_curveOld (t c m o : Nat) (d : BitVec 32) : (s.logT t c m o d).curveOld = s.curveOld := by rw [logT_eq]
@[simp] theorem logT_curvePend (t c m o : Nat) (d : BitVec 32) : (s.logT t c m o d).curvePend = s.curvePend := by rw [logT_eq]
@[simp] theorem logT_life (t c m o : Nat) (d : BitVec 32) : (s.logT t c m o d).life = s.life := by rw [logT_eq]
@[simp] theorem logT_ctl (t c m o : Nat) (d : BitVec 32) : (s.logT t c m o d).ctl = s.ctl := by rw [logT_eq]
@[simp] theorem logT_nvm (t c m o : Nat) (d : BitVec 32) : (s.logT t c m o d).nvm = s.nvm := by rw [logT_eq]
@[simp] theorem logT_winHold (t c m o : Nat) (d : BitVec 32) : (s.logT t c m o d).winHold = s.winHold := by rw [logT_eq]
@[simp] theorem logT_loupe (t c m o : Nat) (d : BitVec 32) : (s.logT t c m o d).loupe = s.loupe := by rw [logT_eq]
@[simp] theorem logT_trace (t c m o : Nat) (d : BitVec 32) : (s.logT t c m o d).trace = s.trace := by rw [logT_eq]

/-! ### logE -/

@[simp] theorem logE_pending (c m o : Nat) (d : BitVec 32) : (s.logE c m o d).pending = s.pending := by rw [State.logE, logT_eq]
@[simp] theorem logE_free (c m o : Nat) (d : BitVec 32) : (s.logE c m o d).free = s.free := by rw [State.logE, logT_eq]
@[simp] theorem logE_host (c m o : Nat) (d : BitVec 32) : (s.logE c m o d).host = s.host := by rw [State.logE, logT_eq]
@[simp] theorem logE_mp (c m o : Nat) (d : BitVec 32) : (s.logE c m o d).mp = s.mp := by rw [State.logE, logT_eq]
@[simp] theorem logE_canA (c m o : Nat) (d : BitVec 32) : (s.logE c m o d).canA = s.canA := by rw [State.logE, logT_eq]
@[simp] theorem logE_canB (c m o : Nat) (d : BitVec 32) : (s.logE c m o d).canB = s.canB := by rw [State.logE, logT_eq]
@[simp] theorem logE_debug (c m o : Nat) (d : BitVec 32) : (s.logE c m o d).debug = s.debug := by rw [State.logE, logT_eq]
@[simp] theorem logE_fpStaged (c m o : Nat) (d : BitVec 32) : (s.logE c m o d).fpStaged = s.fpStaged := by rw [State.logE, logT_eq]
@[simp] theorem logE_fpActive (c m o : Nat) (d : BitVec 32) : (s.logE c m o d).fpActive = s.fpActive := by rw [State.logE, logT_eq]
@[simp] theorem logE_facets (c m o : Nat) (d : BitVec 32) : (s.logE c m o d).facets = s.facets := by rw [State.logE, logT_eq]
@[simp] theorem logE_applies (c m o : Nat) (d : BitVec 32) : (s.logE c m o d).applies = s.applies := by rw [State.logE, logT_eq]
@[simp] theorem logE_needSpare (c m o : Nat) (d : BitVec 32) : (s.logE c m o d).needSpare = s.needSpare := by rw [State.logE, logT_eq]
@[simp] theorem logE_applyCause (c m o : Nat) (d : BitVec 32) : (s.logE c m o d).applyCause = s.applyCause := by rw [State.logE, logT_eq]
@[simp] theorem logE_faultSum (c m o : Nat) (d : BitVec 32) : (s.logE c m o d).faultSum = s.faultSum := by rw [State.logE, logT_eq]
@[simp] theorem logE_fctRead (c m o : Nat) (d : BitVec 32) : (s.logE c m o d).fctRead = s.fctRead := by rw [State.logE, logT_eq]
@[simp] theorem logE_exc (c m o : Nat) (d : BitVec 32) : (s.logE c m o d).exc = s.exc := by rw [State.logE, logT_eq]
@[simp] theorem logE_spare (c m o : Nat) (d : BitVec 32) : (s.logE c m o d).spare = s.spare := by rw [State.logE, logT_eq]
@[simp] theorem logE_chain (c m o : Nat) (d : BitVec 32) : (s.logE c m o d).chain = s.chain := by rw [State.logE, logT_eq]
@[simp] theorem logE_budget (c m o : Nat) (d : BitVec 32) : (s.logE c m o d).budget = s.budget := by rw [State.logE, logT_eq]
@[simp] theorem logE_time (c m o : Nat) (d : BitVec 32) : (s.logE c m o d).time = s.time := by rw [State.logE, logT_eq]
@[simp] theorem logE_ports (c m o : Nat) (d : BitVec 32) : (s.logE c m o d).ports = s.ports := by rw [State.logE, logT_eq]
@[simp] theorem logE_bead (c m o : Nat) (d : BitVec 32) : (s.logE c m o d).bead = s.bead := by rw [State.logE, logT_eq]
@[simp] theorem logE_trg (c m o : Nat) (d : BitVec 32) : (s.logE c m o d).trg = s.trg := by rw [State.logE, logT_eq]
@[simp] theorem logE_cap (c m o : Nat) (d : BitVec 32) : (s.logE c m o d).cap = s.cap := by rw [State.logE, logT_eq]
@[simp] theorem logE_msg (c m o : Nat) (d : BitVec 32) : (s.logE c m o d).msg = s.msg := by rw [State.logE, logT_eq]
@[simp] theorem logE_can (c m o : Nat) (d : BitVec 32) : (s.logE c m o d).can = s.can := by rw [State.logE, logT_eq]
@[simp] theorem logE_candev (c m o : Nat) (d : BitVec 32) : (s.logE c m o d).candev = s.candev := by rw [State.logE, logT_eq]
@[simp] theorem logE_sess (c m o : Nat) (d : BitVec 32) : (s.logE c m o d).sess = s.sess := by rw [State.logE, logT_eq]
@[simp] theorem logE_cal (c m o : Nat) (d : BitVec 32) : (s.logE c m o d).cal = s.cal := by rw [State.logE, logT_eq]
@[simp] theorem logE_curves (c m o : Nat) (d : BitVec 32) : (s.logE c m o d).curves = s.curves := by rw [State.logE, logT_eq]
@[simp] theorem logE_curveOld (c m o : Nat) (d : BitVec 32) : (s.logE c m o d).curveOld = s.curveOld := by rw [State.logE, logT_eq]
@[simp] theorem logE_curvePend (c m o : Nat) (d : BitVec 32) : (s.logE c m o d).curvePend = s.curvePend := by rw [State.logE, logT_eq]
@[simp] theorem logE_life (c m o : Nat) (d : BitVec 32) : (s.logE c m o d).life = s.life := by rw [State.logE, logT_eq]
@[simp] theorem logE_ctl (c m o : Nat) (d : BitVec 32) : (s.logE c m o d).ctl = s.ctl := by rw [State.logE, logT_eq]
@[simp] theorem logE_nvm (c m o : Nat) (d : BitVec 32) : (s.logE c m o d).nvm = s.nvm := by rw [State.logE, logT_eq]
@[simp] theorem logE_winHold (c m o : Nat) (d : BitVec 32) : (s.logE c m o d).winHold = s.winHold := by rw [State.logE, logT_eq]
@[simp] theorem logE_loupe (c m o : Nat) (d : BitVec 32) : (s.logE c m o d).loupe = s.loupe := by rw [State.logE, logT_eq]
@[simp] theorem logE_trace (c m o : Nat) (d : BitVec 32) : (s.logE c m o d).trace = s.trace := by rw [State.logE, logT_eq]

/-! ### logIgnored -/

@[simp] theorem logIgnored_pending (m : Master) (o a : Nat) : (s.logIgnored m o a).pending = s.pending := by rw [State.logIgnored, State.logE, logT_eq]
@[simp] theorem logIgnored_free (m : Master) (o a : Nat) : (s.logIgnored m o a).free = s.free := by rw [State.logIgnored, State.logE, logT_eq]
@[simp] theorem logIgnored_host (m : Master) (o a : Nat) : (s.logIgnored m o a).host = s.host := by rw [State.logIgnored, State.logE, logT_eq]
@[simp] theorem logIgnored_mp (m : Master) (o a : Nat) : (s.logIgnored m o a).mp = s.mp := by rw [State.logIgnored, State.logE, logT_eq]
@[simp] theorem logIgnored_canA (m : Master) (o a : Nat) : (s.logIgnored m o a).canA = s.canA := by rw [State.logIgnored, State.logE, logT_eq]
@[simp] theorem logIgnored_canB (m : Master) (o a : Nat) : (s.logIgnored m o a).canB = s.canB := by rw [State.logIgnored, State.logE, logT_eq]
@[simp] theorem logIgnored_debug (m : Master) (o a : Nat) : (s.logIgnored m o a).debug = s.debug := by rw [State.logIgnored, State.logE, logT_eq]
@[simp] theorem logIgnored_fpStaged (m : Master) (o a : Nat) : (s.logIgnored m o a).fpStaged = s.fpStaged := by rw [State.logIgnored, State.logE, logT_eq]
@[simp] theorem logIgnored_fpActive (m : Master) (o a : Nat) : (s.logIgnored m o a).fpActive = s.fpActive := by rw [State.logIgnored, State.logE, logT_eq]
@[simp] theorem logIgnored_facets (m : Master) (o a : Nat) : (s.logIgnored m o a).facets = s.facets := by rw [State.logIgnored, State.logE, logT_eq]
@[simp] theorem logIgnored_applies (m : Master) (o a : Nat) : (s.logIgnored m o a).applies = s.applies := by rw [State.logIgnored, State.logE, logT_eq]
@[simp] theorem logIgnored_needSpare (m : Master) (o a : Nat) : (s.logIgnored m o a).needSpare = s.needSpare := by rw [State.logIgnored, State.logE, logT_eq]
@[simp] theorem logIgnored_applyCause (m : Master) (o a : Nat) : (s.logIgnored m o a).applyCause = s.applyCause := by rw [State.logIgnored, State.logE, logT_eq]
@[simp] theorem logIgnored_faultSum (m : Master) (o a : Nat) : (s.logIgnored m o a).faultSum = s.faultSum := by rw [State.logIgnored, State.logE, logT_eq]
@[simp] theorem logIgnored_fctRead (m : Master) (o a : Nat) : (s.logIgnored m o a).fctRead = s.fctRead := by rw [State.logIgnored, State.logE, logT_eq]
@[simp] theorem logIgnored_exc (m : Master) (o a : Nat) : (s.logIgnored m o a).exc = s.exc := by rw [State.logIgnored, State.logE, logT_eq]
@[simp] theorem logIgnored_spare (m : Master) (o a : Nat) : (s.logIgnored m o a).spare = s.spare := by rw [State.logIgnored, State.logE, logT_eq]
@[simp] theorem logIgnored_chain (m : Master) (o a : Nat) : (s.logIgnored m o a).chain = s.chain := by rw [State.logIgnored, State.logE, logT_eq]
@[simp] theorem logIgnored_budget (m : Master) (o a : Nat) : (s.logIgnored m o a).budget = s.budget := by rw [State.logIgnored, State.logE, logT_eq]
@[simp] theorem logIgnored_time (m : Master) (o a : Nat) : (s.logIgnored m o a).time = s.time := by rw [State.logIgnored, State.logE, logT_eq]
@[simp] theorem logIgnored_ports (m : Master) (o a : Nat) : (s.logIgnored m o a).ports = s.ports := by rw [State.logIgnored, State.logE, logT_eq]
@[simp] theorem logIgnored_bead (m : Master) (o a : Nat) : (s.logIgnored m o a).bead = s.bead := by rw [State.logIgnored, State.logE, logT_eq]
@[simp] theorem logIgnored_trg (m : Master) (o a : Nat) : (s.logIgnored m o a).trg = s.trg := by rw [State.logIgnored, State.logE, logT_eq]
@[simp] theorem logIgnored_cap (m : Master) (o a : Nat) : (s.logIgnored m o a).cap = s.cap := by rw [State.logIgnored, State.logE, logT_eq]
@[simp] theorem logIgnored_msg (m : Master) (o a : Nat) : (s.logIgnored m o a).msg = s.msg := by rw [State.logIgnored, State.logE, logT_eq]
@[simp] theorem logIgnored_can (m : Master) (o a : Nat) : (s.logIgnored m o a).can = s.can := by rw [State.logIgnored, State.logE, logT_eq]
@[simp] theorem logIgnored_candev (m : Master) (o a : Nat) : (s.logIgnored m o a).candev = s.candev := by rw [State.logIgnored, State.logE, logT_eq]
@[simp] theorem logIgnored_sess (m : Master) (o a : Nat) : (s.logIgnored m o a).sess = s.sess := by rw [State.logIgnored, State.logE, logT_eq]
@[simp] theorem logIgnored_cal (m : Master) (o a : Nat) : (s.logIgnored m o a).cal = s.cal := by rw [State.logIgnored, State.logE, logT_eq]
@[simp] theorem logIgnored_curves (m : Master) (o a : Nat) : (s.logIgnored m o a).curves = s.curves := by rw [State.logIgnored, State.logE, logT_eq]
@[simp] theorem logIgnored_curveOld (m : Master) (o a : Nat) : (s.logIgnored m o a).curveOld = s.curveOld := by rw [State.logIgnored, State.logE, logT_eq]
@[simp] theorem logIgnored_curvePend (m : Master) (o a : Nat) : (s.logIgnored m o a).curvePend = s.curvePend := by rw [State.logIgnored, State.logE, logT_eq]
@[simp] theorem logIgnored_life (m : Master) (o a : Nat) : (s.logIgnored m o a).life = s.life := by rw [State.logIgnored, State.logE, logT_eq]
@[simp] theorem logIgnored_ctl (m : Master) (o a : Nat) : (s.logIgnored m o a).ctl = s.ctl := by rw [State.logIgnored, State.logE, logT_eq]
@[simp] theorem logIgnored_nvm (m : Master) (o a : Nat) : (s.logIgnored m o a).nvm = s.nvm := by rw [State.logIgnored, State.logE, logT_eq]
@[simp] theorem logIgnored_winHold (m : Master) (o a : Nat) : (s.logIgnored m o a).winHold = s.winHold := by rw [State.logIgnored, State.logE, logT_eq]
@[simp] theorem logIgnored_loupe (m : Master) (o a : Nat) : (s.logIgnored m o a).loupe = s.loupe := by rw [State.logIgnored, State.logE, logT_eq]
@[simp] theorem logIgnored_trace (m : Master) (o a : Nat) : (s.logIgnored m o a).trace = s.trace := by rw [State.logIgnored, State.logE, logT_eq]

/-! ### alarmAt -/

@[simp] theorem alarmAt_pending (t c o d : Nat) : (s.alarmAt t c o d).pending = s.pending := rfl
@[simp] theorem alarmAt_free (t c o d : Nat) : (s.alarmAt t c o d).free = s.free := rfl
@[simp] theorem alarmAt_host (t c o d : Nat) : (s.alarmAt t c o d).host = s.host := rfl
@[simp] theorem alarmAt_mp (t c o d : Nat) : (s.alarmAt t c o d).mp = s.mp := rfl
@[simp] theorem alarmAt_canA (t c o d : Nat) : (s.alarmAt t c o d).canA = s.canA := rfl
@[simp] theorem alarmAt_canB (t c o d : Nat) : (s.alarmAt t c o d).canB = s.canB := rfl
@[simp] theorem alarmAt_debug (t c o d : Nat) : (s.alarmAt t c o d).debug = s.debug := rfl
@[simp] theorem alarmAt_fpStaged (t c o d : Nat) : (s.alarmAt t c o d).fpStaged = s.fpStaged := rfl
@[simp] theorem alarmAt_fpActive (t c o d : Nat) : (s.alarmAt t c o d).fpActive = s.fpActive := rfl
@[simp] theorem alarmAt_facets (t c o d : Nat) : (s.alarmAt t c o d).facets = s.facets := rfl
@[simp] theorem alarmAt_applies (t c o d : Nat) : (s.alarmAt t c o d).applies = s.applies := rfl
@[simp] theorem alarmAt_needSpare (t c o d : Nat) : (s.alarmAt t c o d).needSpare = s.needSpare := rfl
@[simp] theorem alarmAt_applyCause (t c o d : Nat) : (s.alarmAt t c o d).applyCause = s.applyCause := rfl
@[simp] theorem alarmAt_faultSum (t c o d : Nat) : (s.alarmAt t c o d).faultSum = s.faultSum := rfl
@[simp] theorem alarmAt_fctRead (t c o d : Nat) : (s.alarmAt t c o d).fctRead = s.fctRead := rfl
@[simp] theorem alarmAt_exc (t c o d : Nat) : (s.alarmAt t c o d).exc = s.exc := rfl
@[simp] theorem alarmAt_spare (t c o d : Nat) : (s.alarmAt t c o d).spare = s.spare := rfl
@[simp] theorem alarmAt_chain (t c o d : Nat) : (s.alarmAt t c o d).chain = s.chain := rfl
@[simp] theorem alarmAt_budget (t c o d : Nat) : (s.alarmAt t c o d).budget = s.budget := rfl
@[simp] theorem alarmAt_time (t c o d : Nat) : (s.alarmAt t c o d).time = s.time := rfl
@[simp] theorem alarmAt_ports (t c o d : Nat) : (s.alarmAt t c o d).ports = s.ports := rfl
@[simp] theorem alarmAt_bead (t c o d : Nat) : (s.alarmAt t c o d).bead = s.bead := rfl
@[simp] theorem alarmAt_trg (t c o d : Nat) : (s.alarmAt t c o d).trg = s.trg := rfl
@[simp] theorem alarmAt_cap (t c o d : Nat) : (s.alarmAt t c o d).cap = s.cap := rfl
@[simp] theorem alarmAt_can (t c o d : Nat) : (s.alarmAt t c o d).can = s.can := rfl
@[simp] theorem alarmAt_candev (t c o d : Nat) : (s.alarmAt t c o d).candev = s.candev := rfl
@[simp] theorem alarmAt_sess (t c o d : Nat) : (s.alarmAt t c o d).sess = s.sess := rfl
@[simp] theorem alarmAt_cal (t c o d : Nat) : (s.alarmAt t c o d).cal = s.cal := rfl
@[simp] theorem alarmAt_curves (t c o d : Nat) : (s.alarmAt t c o d).curves = s.curves := rfl
@[simp] theorem alarmAt_curveOld (t c o d : Nat) : (s.alarmAt t c o d).curveOld = s.curveOld := rfl
@[simp] theorem alarmAt_curvePend (t c o d : Nat) : (s.alarmAt t c o d).curvePend = s.curvePend := rfl
@[simp] theorem alarmAt_life (t c o d : Nat) : (s.alarmAt t c o d).life = s.life := rfl
@[simp] theorem alarmAt_ctl (t c o d : Nat) : (s.alarmAt t c o d).ctl = s.ctl := rfl
@[simp] theorem alarmAt_nvm (t c o d : Nat) : (s.alarmAt t c o d).nvm = s.nvm := rfl
@[simp] theorem alarmAt_log (t c o d : Nat) : (s.alarmAt t c o d).log = s.log := rfl
@[simp] theorem alarmAt_logSeq (t c o d : Nat) : (s.alarmAt t c o d).logSeq = s.logSeq := rfl
@[simp] theorem alarmAt_winHold (t c o d : Nat) : (s.alarmAt t c o d).winHold = s.winHold := rfl
@[simp] theorem alarmAt_loupe (t c o d : Nat) : (s.alarmAt t c o d).loupe = s.loupe := rfl
@[simp] theorem alarmAt_trace (t c o d : Nat) : (s.alarmAt t c o d).trace = s.trace := rfl

/-! ### alarm -/

@[simp] theorem alarm_pending (c o d : Nat) : (s.alarm c o d).pending = s.pending := rfl
@[simp] theorem alarm_free (c o d : Nat) : (s.alarm c o d).free = s.free := rfl
@[simp] theorem alarm_host (c o d : Nat) : (s.alarm c o d).host = s.host := rfl
@[simp] theorem alarm_mp (c o d : Nat) : (s.alarm c o d).mp = s.mp := rfl
@[simp] theorem alarm_canA (c o d : Nat) : (s.alarm c o d).canA = s.canA := rfl
@[simp] theorem alarm_canB (c o d : Nat) : (s.alarm c o d).canB = s.canB := rfl
@[simp] theorem alarm_debug (c o d : Nat) : (s.alarm c o d).debug = s.debug := rfl
@[simp] theorem alarm_fpStaged (c o d : Nat) : (s.alarm c o d).fpStaged = s.fpStaged := rfl
@[simp] theorem alarm_fpActive (c o d : Nat) : (s.alarm c o d).fpActive = s.fpActive := rfl
@[simp] theorem alarm_facets (c o d : Nat) : (s.alarm c o d).facets = s.facets := rfl
@[simp] theorem alarm_applies (c o d : Nat) : (s.alarm c o d).applies = s.applies := rfl
@[simp] theorem alarm_needSpare (c o d : Nat) : (s.alarm c o d).needSpare = s.needSpare := rfl
@[simp] theorem alarm_applyCause (c o d : Nat) : (s.alarm c o d).applyCause = s.applyCause := rfl
@[simp] theorem alarm_faultSum (c o d : Nat) : (s.alarm c o d).faultSum = s.faultSum := rfl
@[simp] theorem alarm_fctRead (c o d : Nat) : (s.alarm c o d).fctRead = s.fctRead := rfl
@[simp] theorem alarm_exc (c o d : Nat) : (s.alarm c o d).exc = s.exc := rfl
@[simp] theorem alarm_spare (c o d : Nat) : (s.alarm c o d).spare = s.spare := rfl
@[simp] theorem alarm_chain (c o d : Nat) : (s.alarm c o d).chain = s.chain := rfl
@[simp] theorem alarm_budget (c o d : Nat) : (s.alarm c o d).budget = s.budget := rfl
@[simp] theorem alarm_time (c o d : Nat) : (s.alarm c o d).time = s.time := rfl
@[simp] theorem alarm_ports (c o d : Nat) : (s.alarm c o d).ports = s.ports := rfl
@[simp] theorem alarm_bead (c o d : Nat) : (s.alarm c o d).bead = s.bead := rfl
@[simp] theorem alarm_trg (c o d : Nat) : (s.alarm c o d).trg = s.trg := rfl
@[simp] theorem alarm_cap (c o d : Nat) : (s.alarm c o d).cap = s.cap := rfl
@[simp] theorem alarm_can (c o d : Nat) : (s.alarm c o d).can = s.can := rfl
@[simp] theorem alarm_candev (c o d : Nat) : (s.alarm c o d).candev = s.candev := rfl
@[simp] theorem alarm_sess (c o d : Nat) : (s.alarm c o d).sess = s.sess := rfl
@[simp] theorem alarm_cal (c o d : Nat) : (s.alarm c o d).cal = s.cal := rfl
@[simp] theorem alarm_curves (c o d : Nat) : (s.alarm c o d).curves = s.curves := rfl
@[simp] theorem alarm_curveOld (c o d : Nat) : (s.alarm c o d).curveOld = s.curveOld := rfl
@[simp] theorem alarm_curvePend (c o d : Nat) : (s.alarm c o d).curvePend = s.curvePend := rfl
@[simp] theorem alarm_life (c o d : Nat) : (s.alarm c o d).life = s.life := rfl
@[simp] theorem alarm_ctl (c o d : Nat) : (s.alarm c o d).ctl = s.ctl := rfl
@[simp] theorem alarm_nvm (c o d : Nat) : (s.alarm c o d).nvm = s.nvm := rfl
@[simp] theorem alarm_log (c o d : Nat) : (s.alarm c o d).log = s.log := rfl
@[simp] theorem alarm_logSeq (c o d : Nat) : (s.alarm c o d).logSeq = s.logSeq := rfl
@[simp] theorem alarm_winHold (c o d : Nat) : (s.alarm c o d).winHold = s.winHold := rfl
@[simp] theorem alarm_loupe (c o d : Nat) : (s.alarm c o d).loupe = s.loupe := rfl
@[simp] theorem alarm_trace (c o d : Nat) : (s.alarm c o d).trace = s.trace := rfl

/-! ### facetAlarm -/

@[simp] theorem facetAlarm_pending (n c d : Nat) : (s.facetAlarm n c d).pending = s.pending := by rw [facetAlarm_eq]
@[simp] theorem facetAlarm_free (n c d : Nat) : (s.facetAlarm n c d).free = s.free := by rw [facetAlarm_eq]
@[simp] theorem facetAlarm_host (n c d : Nat) : (s.facetAlarm n c d).host = s.host := by rw [facetAlarm_eq]
@[simp] theorem facetAlarm_mp (n c d : Nat) : (s.facetAlarm n c d).mp = s.mp := by rw [facetAlarm_eq]
@[simp] theorem facetAlarm_canA (n c d : Nat) : (s.facetAlarm n c d).canA = s.canA := by rw [facetAlarm_eq]
@[simp] theorem facetAlarm_canB (n c d : Nat) : (s.facetAlarm n c d).canB = s.canB := by rw [facetAlarm_eq]
@[simp] theorem facetAlarm_debug (n c d : Nat) : (s.facetAlarm n c d).debug = s.debug := by rw [facetAlarm_eq]
@[simp] theorem facetAlarm_fpStaged (n c d : Nat) : (s.facetAlarm n c d).fpStaged = s.fpStaged := by rw [facetAlarm_eq]
@[simp] theorem facetAlarm_fpActive (n c d : Nat) : (s.facetAlarm n c d).fpActive = s.fpActive := by rw [facetAlarm_eq]
@[simp] theorem facetAlarm_applies (n c d : Nat) : (s.facetAlarm n c d).applies = s.applies := by rw [facetAlarm_eq]
@[simp] theorem facetAlarm_needSpare (n c d : Nat) : (s.facetAlarm n c d).needSpare = s.needSpare := by rw [facetAlarm_eq]
@[simp] theorem facetAlarm_applyCause (n c d : Nat) : (s.facetAlarm n c d).applyCause = s.applyCause := by rw [facetAlarm_eq]
@[simp] theorem facetAlarm_faultSum (n c d : Nat) : (s.facetAlarm n c d).faultSum = s.faultSum := by rw [facetAlarm_eq]
@[simp] theorem facetAlarm_fctRead (n c d : Nat) : (s.facetAlarm n c d).fctRead = s.fctRead := by rw [facetAlarm_eq]
@[simp] theorem facetAlarm_exc (n c d : Nat) : (s.facetAlarm n c d).exc = s.exc := by rw [facetAlarm_eq]
@[simp] theorem facetAlarm_spare (n c d : Nat) : (s.facetAlarm n c d).spare = s.spare := by rw [facetAlarm_eq]
@[simp] theorem facetAlarm_chain (n c d : Nat) : (s.facetAlarm n c d).chain = s.chain := by rw [facetAlarm_eq]
@[simp] theorem facetAlarm_budget (n c d : Nat) : (s.facetAlarm n c d).budget = s.budget := by rw [facetAlarm_eq]
@[simp] theorem facetAlarm_time (n c d : Nat) : (s.facetAlarm n c d).time = s.time := by rw [facetAlarm_eq]
@[simp] theorem facetAlarm_ports (n c d : Nat) : (s.facetAlarm n c d).ports = s.ports := by rw [facetAlarm_eq]
@[simp] theorem facetAlarm_bead (n c d : Nat) : (s.facetAlarm n c d).bead = s.bead := by rw [facetAlarm_eq]
@[simp] theorem facetAlarm_trg (n c d : Nat) : (s.facetAlarm n c d).trg = s.trg := by rw [facetAlarm_eq]
@[simp] theorem facetAlarm_cap (n c d : Nat) : (s.facetAlarm n c d).cap = s.cap := by rw [facetAlarm_eq]
@[simp] theorem facetAlarm_can (n c d : Nat) : (s.facetAlarm n c d).can = s.can := by rw [facetAlarm_eq]
@[simp] theorem facetAlarm_candev (n c d : Nat) : (s.facetAlarm n c d).candev = s.candev := by rw [facetAlarm_eq]
@[simp] theorem facetAlarm_sess (n c d : Nat) : (s.facetAlarm n c d).sess = s.sess := by rw [facetAlarm_eq]
@[simp] theorem facetAlarm_cal (n c d : Nat) : (s.facetAlarm n c d).cal = s.cal := by rw [facetAlarm_eq]
@[simp] theorem facetAlarm_curves (n c d : Nat) : (s.facetAlarm n c d).curves = s.curves := by rw [facetAlarm_eq]
@[simp] theorem facetAlarm_curveOld (n c d : Nat) : (s.facetAlarm n c d).curveOld = s.curveOld := by rw [facetAlarm_eq]
@[simp] theorem facetAlarm_curvePend (n c d : Nat) : (s.facetAlarm n c d).curvePend = s.curvePend := by rw [facetAlarm_eq]
@[simp] theorem facetAlarm_life (n c d : Nat) : (s.facetAlarm n c d).life = s.life := by rw [facetAlarm_eq]
@[simp] theorem facetAlarm_ctl (n c d : Nat) : (s.facetAlarm n c d).ctl = s.ctl := by rw [facetAlarm_eq]
@[simp] theorem facetAlarm_nvm (n c d : Nat) : (s.facetAlarm n c d).nvm = s.nvm := by rw [facetAlarm_eq]
@[simp] theorem facetAlarm_log (n c d : Nat) : (s.facetAlarm n c d).log = s.log := by rw [facetAlarm_eq]
@[simp] theorem facetAlarm_logSeq (n c d : Nat) : (s.facetAlarm n c d).logSeq = s.logSeq := by rw [facetAlarm_eq]
@[simp] theorem facetAlarm_winHold (n c d : Nat) : (s.facetAlarm n c d).winHold = s.winHold := by rw [facetAlarm_eq]
@[simp] theorem facetAlarm_loupe (n c d : Nat) : (s.facetAlarm n c d).loupe = s.loupe := by rw [facetAlarm_eq]
@[simp] theorem facetAlarm_trace (n c d : Nat) : (s.facetAlarm n c d).trace = s.trace := by rw [facetAlarm_eq]

/-! ### lose -/

@[simp] theorem lose_pending (a b c d e f : Nat) : (s.lose a b c d e f).pending = s.pending := by rw [lose_eq]
@[simp] theorem lose_free (a b c d e f : Nat) : (s.lose a b c d e f).free = s.free := by rw [lose_eq]
@[simp] theorem lose_host (a b c d e f : Nat) : (s.lose a b c d e f).host = s.host := by rw [lose_eq]
@[simp] theorem lose_mp (a b c d e f : Nat) : (s.lose a b c d e f).mp = s.mp := by rw [lose_eq]
@[simp] theorem lose_canA (a b c d e f : Nat) : (s.lose a b c d e f).canA = s.canA := by rw [lose_eq]
@[simp] theorem lose_canB (a b c d e f : Nat) : (s.lose a b c d e f).canB = s.canB := by rw [lose_eq]
@[simp] theorem lose_debug (a b c d e f : Nat) : (s.lose a b c d e f).debug = s.debug := by rw [lose_eq]
@[simp] theorem lose_fpStaged (a b c d e f : Nat) : (s.lose a b c d e f).fpStaged = s.fpStaged := by rw [lose_eq]
@[simp] theorem lose_fpActive (a b c d e f : Nat) : (s.lose a b c d e f).fpActive = s.fpActive := by rw [lose_eq]
@[simp] theorem lose_facets (a b c d e f : Nat) : (s.lose a b c d e f).facets = s.facets := by rw [lose_eq]
@[simp] theorem lose_applies (a b c d e f : Nat) : (s.lose a b c d e f).applies = s.applies := by rw [lose_eq]
@[simp] theorem lose_needSpare (a b c d e f : Nat) : (s.lose a b c d e f).needSpare = s.needSpare := by rw [lose_eq]
@[simp] theorem lose_applyCause (a b c d e f : Nat) : (s.lose a b c d e f).applyCause = s.applyCause := by rw [lose_eq]
@[simp] theorem lose_faultSum (a b c d e f : Nat) : (s.lose a b c d e f).faultSum = s.faultSum := by rw [lose_eq]
@[simp] theorem lose_fctRead (a b c d e f : Nat) : (s.lose a b c d e f).fctRead = s.fctRead := by rw [lose_eq]
@[simp] theorem lose_exc (a b c d e f : Nat) : (s.lose a b c d e f).exc = s.exc := by rw [lose_eq]
@[simp] theorem lose_spare (a b c d e f : Nat) : (s.lose a b c d e f).spare = s.spare := by rw [lose_eq]
@[simp] theorem lose_chain (a b c d e f : Nat) : (s.lose a b c d e f).chain = s.chain := by rw [lose_eq]
@[simp] theorem lose_budget (a b c d e f : Nat) : (s.lose a b c d e f).budget = s.budget := by rw [lose_eq]
@[simp] theorem lose_time (a b c d e f : Nat) : (s.lose a b c d e f).time = s.time := by rw [lose_eq]
@[simp] theorem lose_ports (a b c d e f : Nat) : (s.lose a b c d e f).ports = s.ports := by rw [lose_eq]
@[simp] theorem lose_bead (a b c d e f : Nat) : (s.lose a b c d e f).bead = s.bead := by rw [lose_eq]
@[simp] theorem lose_trg (a b c d e f : Nat) : (s.lose a b c d e f).trg = s.trg := by rw [lose_eq]
@[simp] theorem lose_cap (a b c d e f : Nat) : (s.lose a b c d e f).cap = s.cap := by rw [lose_eq]
@[simp] theorem lose_can (a b c d e f : Nat) : (s.lose a b c d e f).can = s.can := by rw [lose_eq]
@[simp] theorem lose_candev (a b c d e f : Nat) : (s.lose a b c d e f).candev = s.candev := by rw [lose_eq]
@[simp] theorem lose_sess (a b c d e f : Nat) : (s.lose a b c d e f).sess = s.sess := by rw [lose_eq]
@[simp] theorem lose_cal (a b c d e f : Nat) : (s.lose a b c d e f).cal = s.cal := by rw [lose_eq]
@[simp] theorem lose_curves (a b c d e f : Nat) : (s.lose a b c d e f).curves = s.curves := by rw [lose_eq]
@[simp] theorem lose_curveOld (a b c d e f : Nat) : (s.lose a b c d e f).curveOld = s.curveOld := by rw [lose_eq]
@[simp] theorem lose_curvePend (a b c d e f : Nat) : (s.lose a b c d e f).curvePend = s.curvePend := by rw [lose_eq]
@[simp] theorem lose_life (a b c d e f : Nat) : (s.lose a b c d e f).life = s.life := by rw [lose_eq]
@[simp] theorem lose_ctl (a b c d e f : Nat) : (s.lose a b c d e f).ctl = s.ctl := by rw [lose_eq]
@[simp] theorem lose_nvm (a b c d e f : Nat) : (s.lose a b c d e f).nvm = s.nvm := by rw [lose_eq]
@[simp] theorem lose_log (a b c d e f : Nat) : (s.lose a b c d e f).log = s.log := by rw [lose_eq]
@[simp] theorem lose_logSeq (a b c d e f : Nat) : (s.lose a b c d e f).logSeq = s.logSeq := by rw [lose_eq]
@[simp] theorem lose_winHold (a b c d e f : Nat) : (s.lose a b c d e f).winHold = s.winHold := by rw [lose_eq]
@[simp] theorem lose_loupe (a b c d e f : Nat) : (s.lose a b c d e f).loupe = s.loupe := by rw [lose_eq]
@[simp] theorem lose_trace (a b c d e f : Nat) : (s.lose a b c d e f).trace = s.trace := by rw [lose_eq]

/-! ### stall -/

@[simp] theorem stall_pending (a : Nat) : (s.stall a).pending = s.pending := by rw [stall_eq]
@[simp] theorem stall_free (a : Nat) : (s.stall a).free = s.free := by rw [stall_eq]
@[simp] theorem stall_host (a : Nat) : (s.stall a).host = s.host := by rw [stall_eq]
@[simp] theorem stall_mp (a : Nat) : (s.stall a).mp = s.mp := by rw [stall_eq]
@[simp] theorem stall_canA (a : Nat) : (s.stall a).canA = s.canA := by rw [stall_eq]
@[simp] theorem stall_canB (a : Nat) : (s.stall a).canB = s.canB := by rw [stall_eq]
@[simp] theorem stall_debug (a : Nat) : (s.stall a).debug = s.debug := by rw [stall_eq]
@[simp] theorem stall_fpStaged (a : Nat) : (s.stall a).fpStaged = s.fpStaged := by rw [stall_eq]
@[simp] theorem stall_fpActive (a : Nat) : (s.stall a).fpActive = s.fpActive := by rw [stall_eq]
@[simp] theorem stall_facets (a : Nat) : (s.stall a).facets = s.facets := by rw [stall_eq]
@[simp] theorem stall_applies (a : Nat) : (s.stall a).applies = s.applies := by rw [stall_eq]
@[simp] theorem stall_needSpare (a : Nat) : (s.stall a).needSpare = s.needSpare := by rw [stall_eq]
@[simp] theorem stall_applyCause (a : Nat) : (s.stall a).applyCause = s.applyCause := by rw [stall_eq]
@[simp] theorem stall_faultSum (a : Nat) : (s.stall a).faultSum = s.faultSum := by rw [stall_eq]
@[simp] theorem stall_fctRead (a : Nat) : (s.stall a).fctRead = s.fctRead := by rw [stall_eq]
@[simp] theorem stall_exc (a : Nat) : (s.stall a).exc = s.exc := by rw [stall_eq]
@[simp] theorem stall_spare (a : Nat) : (s.stall a).spare = s.spare := by rw [stall_eq]
@[simp] theorem stall_chain (a : Nat) : (s.stall a).chain = s.chain := by rw [stall_eq]
@[simp] theorem stall_time (a : Nat) : (s.stall a).time = s.time := by rw [stall_eq]
@[simp] theorem stall_ports (a : Nat) : (s.stall a).ports = s.ports := by rw [stall_eq]
@[simp] theorem stall_bead (a : Nat) : (s.stall a).bead = s.bead := by rw [stall_eq]
@[simp] theorem stall_trg (a : Nat) : (s.stall a).trg = s.trg := by rw [stall_eq]
@[simp] theorem stall_cap (a : Nat) : (s.stall a).cap = s.cap := by rw [stall_eq]
@[simp] theorem stall_msg (a : Nat) : (s.stall a).msg = s.msg := by rw [stall_eq]
@[simp] theorem stall_can (a : Nat) : (s.stall a).can = s.can := by rw [stall_eq]
@[simp] theorem stall_candev (a : Nat) : (s.stall a).candev = s.candev := by rw [stall_eq]
@[simp] theorem stall_sess (a : Nat) : (s.stall a).sess = s.sess := by rw [stall_eq]
@[simp] theorem stall_cal (a : Nat) : (s.stall a).cal = s.cal := by rw [stall_eq]
@[simp] theorem stall_curves (a : Nat) : (s.stall a).curves = s.curves := by rw [stall_eq]
@[simp] theorem stall_curveOld (a : Nat) : (s.stall a).curveOld = s.curveOld := by rw [stall_eq]
@[simp] theorem stall_curvePend (a : Nat) : (s.stall a).curvePend = s.curvePend := by rw [stall_eq]
@[simp] theorem stall_life (a : Nat) : (s.stall a).life = s.life := by rw [stall_eq]
@[simp] theorem stall_nvm (a : Nat) : (s.stall a).nvm = s.nvm := by rw [stall_eq]
@[simp] theorem stall_log (a : Nat) : (s.stall a).log = s.log := by rw [stall_eq]
@[simp] theorem stall_logSeq (a : Nat) : (s.stall a).logSeq = s.logSeq := by rw [stall_eq]
@[simp] theorem stall_winHold (a : Nat) : (s.stall a).winHold = s.winHold := by rw [stall_eq]
@[simp] theorem stall_loupe (a : Nat) : (s.stall a).loupe = s.loupe := by rw [stall_eq]
@[simp] theorem stall_trace (a : Nat) : (s.stall a).trace = s.trace := by rw [stall_eq]

/-! ### What setting an interrupt bit, taking a stamp and recording a commit do to `ctl` -/

@[simp] theorem irq0_ctl (b : Nat) : (s.irq0 b).ctl = { s.ctl with irq0 := s.ctl.irq0 ||| w16 (2 ^ b) } := rfl
@[simp] theorem irq1_ctl (b : Nat) : (s.irq1 b).ctl = { s.ctl with irq1 := s.ctl.irq1 ||| w16 (2 ^ b) } := rfl
@[simp] theorem nextStamp_ctl : s.nextStamp.ctl = { s.ctl with stamp := s.ctl.stamp + 1 } := rfl

/-- An interrupt bit that is set reads 1. -/
theorem fld_or_bit (w : Word) (b : Nat) (h : b < 16) : fld (w ||| w16 (2 ^ b)) b 1 = 1 := by
  have h2 : (w ||| w16 (2 ^ b)).getLsbD b = true := by
    have h3 : (w16 (2 ^ b)).getLsbD b = true := by
      unfold w16
      rw [BitVec.getLsbD_ofNat]
      simp [h, Nat.testBit_two_pow_self]
    rw [BitVec.getLsbD_or, h3, Bool.or_true]
  unfold fld bits
  rw [BitVec.getLsbD, Nat.testBit_eq_decide_div_mod_eq] at h2
  simpa using h2

end Sys2Proof.Laws
end

