-- ==== Sys2Proof/Laws/Store.lean ====
section
/-! SUPPORT. Laws of the sparse tables: a read after a write to the same key gives the value written, a write leaves every
other key alone, and every operation keeps the canonical form. -/

namespace Sys2Proof.Laws

open Sys2Proof Sys2Proof.Machine

variable {α : Type}

theorem get_erase_self (d : α) (m : Store α) (k : Nat) : Store.get d (Store.erase m k) k = d := by
  induction m with
  | nil => rfl
  | cons e m ih =>
    obtain ⟨j, v⟩ := e
    by_cases h : j = k
    · simp [Store.erase, h, ih]
    · simp [Store.erase, h, Store.get, Ne.symm h, ih]

theorem get_erase_other (d : α) (m : Store α) {k j : Nat} (h : j ≠ k) :
    Store.get d (Store.erase m k) j = Store.get d m j := by
  induction m with
  | nil => rfl
  | cons e m ih =>
    obtain ⟨i, v⟩ := e
    by_cases hi : i = k
    · subst hi; simp [Store.erase, Store.get, h, ih]
    · by_cases hj : j = i <;> simp [Store.erase, hi, Store.get, hj, ih]

theorem get_insert_self (d : α) (m : Store α) (k : Nat) (v : α) : Store.get d (Store.insert m k v) k = v := by
  induction m with
  | nil => simp [Store.insert, Store.get]
  | cons e m ih =>
    obtain ⟨j, w⟩ := e
    unfold Store.insert
    split
    · simp [Store.get]
    · split
      · simp [Store.get]
      · rename_i h; simp [Store.get, h, ih]

theorem get_insert_other (d : α) (m : Store α) {k j : Nat} (v : α) (h : j ≠ k) :
    Store.get d (Store.insert m k v) j = Store.get d m j := by
  induction m with
  | nil => simp [Store.insert, Store.get, h]
  | cons e m ih =>
    obtain ⟨i, w⟩ := e
    unfold Store.insert
    split
    · simp [Store.get, h]
    · split
      · rename_i hk; subst hk; simp [Store.get, h]
      · simp [Store.get, ih]

variable [DecidableEq α]

/-- A read after a write to the same key gives the value written. -/
@[simp] theorem get_set_self (d : α) (m : Store α) (k : Nat) (v : α) : Store.get d (Store.set d m k v) k = v := by
  unfold Store.set
  split
  · rename_i h; rw [h, get_erase_self]
  · exact get_insert_self ..

/-- A write leaves every other key alone, whatever default it is read with. -/
theorem get_set_other (d e : α) (m : Store α) {k j : Nat} (v : α) (h : j ≠ k) :
    Store.get e (Store.set d m k v) j = Store.get e m j := by
  unfold Store.set
  split
  · exact get_erase_other _ _ h
  · exact get_insert_other _ _ _ h

/-- `Store.mod` is a write of the changed value. -/
@[simp] theorem get_mod_self (d : α) (m : Store α) (k : Nat) (f : α → α) :
    Store.get d (Store.mod d m k f) k = f (Store.get d m k) := get_set_self ..

theorem get_mod_other (d e : α) (m : Store α) {k j : Nat} (f : α → α) (h : j ≠ k) :
    Store.get e (Store.mod d m k f) j = Store.get e m j := get_set_other _ _ _ _ h

/-! ## The canonical form -/

omit [DecidableEq α] in
theorem rising_weaken {lo lo' : Option Nat} (h : ∀ l', lo' = some l' → ∃ l, lo = some l ∧ l' ≤ l) :
    ∀ {m : Store α}, Store.rising lo m = true → Store.rising lo' m = true
  | [], _ => rfl
  | (j, v) :: m, hm => by
    simp only [Store.rising, Bool.and_eq_true] at hm ⊢
    refine ⟨?_, hm.2⟩
    cases lo' with
    | none => rfl
    | some l' =>
      obtain ⟨l, rfl, hl⟩ := h l' rfl
      have := hm.1
      simp only [decide_eq_true_eq] at this ⊢
      omega

omit [DecidableEq α] in
theorem erase_rising (k : Nat) : ∀ {m : Store α} {lo : Option Nat}, Store.rising lo m = true →
    Store.rising lo (Store.erase m k) = true
  | [], _, _ => rfl
  | (j, v) :: m, lo, h => by
    simp only [Store.rising, Bool.and_eq_true] at h
    unfold Store.erase
    split
    · refine erase_rising k (rising_weaken ?_ h.2)
      rintro l' rfl
      refine ⟨j, rfl, ?_⟩
      have := h.1
      simp only [decide_eq_true_eq] at this
      omega
    · simp only [Store.rising, Bool.and_eq_true]
      exact ⟨h.1, erase_rising k h.2⟩

omit [DecidableEq α] in
theorem rising_cons (lo : Option Nat) (j : Nat) (v : α) (m : Store α) :
    Store.rising lo ((j, v) :: m) = true ↔ (∀ l, lo = some l → l < j) ∧ Store.rising (some j) m = true := by
  cases lo <;> simp [Store.rising]

omit [DecidableEq α] in
theorem insert_rising (k : Nat) (v : α) : ∀ {m : Store α} {lo : Option Nat}, Store.rising lo m = true →
    (∀ l, lo = some l → l < k) → Store.rising lo (Store.insert m k v) = true
  | [], lo, _, hl => (rising_cons ..).mpr ⟨hl, rfl⟩
  | (j, w) :: m, lo, h, hl => by
    rw [rising_cons] at h
    unfold Store.insert
    split
    · rename_i hj
      exact (rising_cons ..).mpr ⟨hl, (rising_cons ..).mpr ⟨by simpa using hj, h.2⟩⟩
    · split
      · rename_i hj hkj
        exact (rising_cons ..).mpr ⟨hl, hkj ▸ h.2⟩
      · rename_i h1 h2
        refine (rising_cons ..).mpr ⟨h.1, insert_rising k v h.2 fun l hl' => ?_⟩
        simp only [Option.some.injEq] at hl'
        omega

omit [DecidableEq α] in
theorem mem_erase {e : Nat × α} {k : Nat} : ∀ {m : Store α}, e ∈ Store.erase m k → e ∈ m
  | [], h => h
  | (j, v) :: m, h => by
    unfold Store.erase at h
    split at h
    · exact List.mem_cons_of_mem _ (mem_erase h)
    · rcases List.mem_cons.mp h with h | h
      · exact h ▸ List.mem_cons_self
      · exact List.mem_cons_of_mem _ (mem_erase h)

omit [DecidableEq α] in
theorem mem_insert {e : Nat × α} {k : Nat} {v : α} : ∀ {m : Store α}, e ∈ Store.insert m k v → e = (k, v) ∨ e ∈ m
  | [], h => by simpa [Store.insert] using h
  | (j, w) :: m, h => by
    unfold Store.insert at h
    split at h
    · simpa using h
    · split at h
      · rcases List.mem_cons.mp h with h | h
        · exact .inl h
        · exact .inr (List.mem_cons_of_mem _ h)
      · rcases List.mem_cons.mp h with h | h
        · exact .inr (h ▸ List.mem_cons_self)
        · rcases mem_insert h with h | h
          · exact .inl h
          · exact .inr (List.mem_cons_of_mem _ h)

/-- The canonical form, as a proposition. -/
theorem wf_iff (d : Nat → α) (m : Store α) :
    Store.wf d m = true ↔ Store.rising none m = true ∧ ∀ e ∈ m, e.2 ≠ d e.1 := by
  simp [Store.wf, List.all_eq_true]

theorem wf_nil (d : Nat → α) : Store.wf d ([] : Store α) = true := rfl

/-- A write keeps the canonical form. -/
theorem wf_set (d : Nat → α) (m : Store α) (k : Nat) (v : α) (h : Store.wf d m = true) :
    Store.wf d (Store.set (d k) m k v) = true := by
  rw [wf_iff] at h ⊢
  unfold Store.set
  split
  · exact ⟨erase_rising k h.1, fun e he => h.2 e (mem_erase he)⟩
  · refine ⟨insert_rising k v h.1 (by simp), fun e he => ?_⟩
    rcases mem_insert he with rfl | he
    · assumption
    · exact h.2 e he

/-- A change of one value keeps the canonical form. -/
theorem wf_mod (d : α) (m : Store α) (k : Nat) (f : α → α) (h : Store.wf (fun _ => d) m = true) :
    Store.wf (fun _ => d) (Store.mod d m k f) = true := wf_set (fun _ => d) m k _ h

/-- A run of writes keeps the canonical form. -/
theorem wf_setRun (d : Nat → α) (vs : List α) : ∀ (m : Store α) (k : Nat), Store.wf d m = true →
    Store.wf d (Store.setRun d m k vs) = true := by
  induction vs with
  | nil => intro m k h; exact h
  | cons v vs ih => intro m k h; exact ih _ _ (wf_set d m k v h)

omit [DecidableEq α] in
theorem rising_iff : ∀ (m : Store α) (lo : Option Nat), Store.rising lo m = true ↔
    (∀ l, lo = some l → ∀ e ∈ m, l < e.1) ∧ m.Pairwise (fun a b => a.1 < b.1)
  | [], lo => by simp [Store.rising]
  | (j, v) :: m, lo => by
    simp only [Store.rising, Bool.and_eq_true, rising_iff m (some j), List.pairwise_cons, List.mem_cons,
      Option.some.injEq, forall_eq']
    constructor
    · rintro ⟨h1, h2, h3⟩
      refine ⟨?_, fun e he => h2 e he, h3⟩
      rintro l rfl e (rfl | he)
      · simpa using h1
      · have := h2 e he
        simp only [decide_eq_true_eq] at h1
        exact lt_trans h1 this
    · rintro ⟨h1, h2, h3⟩
      refine ⟨?_, fun e he => h2 e he, h3⟩
      cases lo with
      | none => rfl
      | some l => simpa using h1 l rfl (j, v) (.inl rfl)

omit [DecidableEq α] in
theorem rising_filter (p : Nat × α → Bool) {m : Store α} (h : Store.rising none m = true) :
    Store.rising none (m.filter p) = true := by
  rw [rising_iff] at h ⊢
  exact ⟨by simp, h.2.filter p⟩

/-- A change of every value keeps the canonical form. -/
theorem wf_mapV (d : α) (f : Nat → α → α) (m : Store α) (h : Store.wf (fun _ => d) m = true) :
    Store.wf (fun _ => d) (Store.mapV d f m) = true := by
  rw [wf_iff] at h ⊢
  refine ⟨rising_filter _ ?_, fun e he => by simpa using (List.mem_filter.mp he).2⟩
  have := h.1
  rw [rising_iff] at this ⊢
  exact ⟨by simp, List.pairwise_map.mpr this.2⟩

/-- Keeping some keys keeps the canonical form. -/
theorem wf_keep (d : Nat → α) (p : Nat → Bool) (m : Store α) (h : Store.wf d m = true) :
    Store.wf d (Store.keep p m) = true := by
  rw [wf_iff] at h ⊢
  exact ⟨rising_filter _ h.1, fun e he => h.2 e (List.mem_of_mem_filter he)⟩

/-- A table built from its values has the canonical form. -/
theorem wf_build (d : α) (n : Nat) (f : Nat → α) : Store.wf (fun _ => d) (Store.build d n f) = true := by
  rw [wf_iff]
  refine ⟨rising_filter _ ?_, fun e he => by simpa using (List.mem_filter.mp he).2⟩
  rw [rising_iff]
  refine ⟨by simp, List.pairwise_map.mpr ?_⟩
  simpa using List.pairwise_lt_range

/-- A read of a table built from its values. -/
theorem get_build (d : α) (n : Nat) (f : Nat → α) (k : Nat) :
    Store.get d (Store.build d n f) k = if k < n then f k else d := by
  have aux : ∀ l : List Nat, l.Nodup →
      Store.get d ((l.map fun k => (k, f k)).filter fun e => decide (e.2 ≠ d)) k = if k ∈ l then f k else d := by
    intro l hl
    induction l with
    | nil => simp [Store.get]
    | cons j l ih =>
      obtain ⟨hj, hl⟩ := List.nodup_cons.mp hl
      by_cases hf : f j = d
      · simp only [List.map_cons, List.filter_cons, hf, ne_eq, not_true_eq_false, decide_false, Bool.false_eq_true,
          if_false]
        rw [ih hl]
        by_cases hk : k = j
        · subst hk; simp [hj, hf]
        · simp [hk]
      · simp only [List.map_cons, List.filter_cons, ne_eq, hf, not_false_eq_true, decide_true, if_true, Store.get]
        rw [ih hl]
        by_cases hk : k = j
        · simp [hk]
        · simp [hk]
  simpa [Store.build] using aux (List.range n) List.nodup_range

end Sys2Proof.Laws
end

