-- ==== Sys2Proof/Laws/Access.lean ====
section
/-! SUPPORT. What an access of a master does when it acts directly, said once; what a command's answer leaves of the device's
life; what a fold over facets, ports or records leaves. -/

namespace Sys2Proof.Laws

open Sys2Proof Sys2Proof.Machine

variable (s t : State)

/-! ### The answers of the meanings -/

theorem ok_eq : ok s t = .next { t with pending := s.pending, life := s.life } := rfl

/-- A command that keeps the queue and the life answers its effect itself. -/
theorem ok_next (hp : t.pending = s.pending) (hl : t.life = s.life) : ok s t = .next t := by
  rw [ok_eq, ← hp, ← hl]

/-- In a running device an event has its effect. -/
theorem live_ready {f : State → State} (h : s.ready = true) : s.live f = f s := by simp [State.live, h]

/-- Outside EXTEST an event at a land has its effect. -/
theorem landed_open {f : State → State} (h : s.ctl.extest = false) : s.landed f = f s := by simp [State.landed, h]

/-! ### Masters -/

@[simp] theorem master_setMaster (m : Master) (v : MasterSt) : (s.setMaster m v).master m = v := by cases m <;> rfl

theorem master_setMaster_other {m n : Master} (v : MasterSt) (h : n ≠ m) : (s.setMaster m v).master n = s.master n := by
  cases m <;> cases n <;> first | rfl | exact absurd rfl h

@[simp] theorem master_modMaster (m : Master) (f : MasterSt → MasterSt) : (s.modMaster m f).master m = f (s.master m) :=
  master_setMaster ..

theorem master_modMaster_other {m n : Master} (f : MasterSt → MasterSt) (h : n ≠ m) :
    (s.modMaster m f).master n = s.master n := master_setMaster_other _ _ h

/-! ### Direct writes -/

theorem directs_responds {m : Master} {off : Nat} (h : s.directs m off) : s.responds m = true := by
  obtain ⟨hr, hh, -⟩ := h
  cases m <;> simp [State.responds, hr]
  exact (hh rfl).1

theorem ready_not_fatal (h : s.ready = true) : s.life.phase ≠ .fatal := by
  intro hf; simp [State.ready, hf] at h

theorem ready_not_reset (h : s.ready = true) : s.life.phase ≠ .reset := by
  intro hf; simp [State.ready, hf] at h

/-- A direct write of a register that is no copy of the master's own has the effect of `regDirect`, acknowledged. -/
theorem writeCycle_direct {m : Master} {off : Nat} (v : Word) (h : s.directs m off) (hw : off ≠ 0x7F)
    (ho : ownReg off = false) : s.writeCycle m off v = (s.regDirect m off v).ack m true := by
  have hr := directs_responds s h
  obtain ⟨h1, h2, h3, h4, h5⟩ := h
  have hf := ready_not_fatal s h1
  have hs : ¬ (m = .host ∧ s.ctl.svc = true ∧ svcReg off = false) := by
    rintro ⟨hm, hv, hx⟩
    simp [(h2 hm).2 hv] at hx
  simp [State.writeCycle, State.regWrite, hr, h3, hf, hw, ho, h4, h5, hs]

/-- A write to a copy of the master's own takes effect whatever the bezel says (R427). -/
theorem writeCycle_own {m : Master} {off : Nat} (v : Word) (hr : s.ready = true)
    (he : m = .host → s.ctl.extest = false ∧ (s.ctl.svc = true → svcReg off = true))
    (h3 : s.sessionOk m = true) (hw : off ≠ 0x7F)
    (ho : ownReg off = true) : s.writeCycle m off v = (s.ownWrite m off v).ack m true := by
  have hf := ready_not_fatal s hr
  have hr' : s.responds m = true := by
    cases m <;> simp [State.responds, hr]
    exact (he rfl).1
  have hs : ¬ (m = .host ∧ s.ctl.svc = true ∧ svcReg off = false) := by
    rintro ⟨hm, hv, hx⟩
    simp [(he hm).2 hv] at hx
  simp [State.writeCycle, State.regWrite, hr', h3, hf, hw, ho, hs]

/-- An answered read returns the word and has the effects of `regRead`. -/
theorem readCycle_read {m : Master} {off ns : Nat} (h : s.reads m off) (hw : off ≠ 0x7F) :
    s.readCycle m off ns = (((s.regRead m off ns).2.ret m (s.regRead m off ns).1).ack m true) := by
  obtain ⟨hr, he, ha⟩ := h
  have hr' : s.responds m = true := by
    cases m <;> simp [State.responds, hr]
    exact he rfl
  have hn : ¬ (openReg off = false ∧ s.entry m (regTarget off) = 0) := by
    rintro ⟨h1, h2⟩
    rcases ha with ha | ha
    · simp [ha] at h1
    · exact ha h2
  simp [State.readCycle, hr', hw, hn]

/-! ### Acknowledgement -/

theorem ack_ex (m : Master) (b : Bool) : ∃ c, s.ack m b = { s with ctl := { s.ctl with acked := c } } := by
  unfold State.ack
  split
  · exact ⟨b, rfl⟩
  · exact ⟨s.ctl.acked, rfl⟩

/-! ### Folds -/

/-- What every step of a fold keeps, the fold keeps. -/
theorem foldl_keeps {α β γ : Type} (g : β → γ) (f : β → α → β) (h : ∀ b a, g (f b a) = g b) (l : List α) :
    ∀ b, g (l.foldl f b) = g b := by
  induction l with
  | nil => intro b; rfl
  | cons a l ih => intro b; rw [List.foldl_cons, ih, h]

/-- What an operation on each facet keeps, the operation on a list of facets keeps. -/
theorem forFacets_keeps {γ : Type} (g : State → γ) (f : Nat → State → State) (h : ∀ n t, g (f n t) = g t) (ns : List Nat) :
    g (s.forFacets ns f) = g s := foldl_keeps g (fun t n => f n t) (fun t n => h n t) ns s

/-! ### Reads of what a write put -/

@[simp] theorem facet_setFacet (n : Nat) (f : FacetRT) : (s.setFacet n f).facet n = f := get_set_self ..
theorem facet_setFacet_other {n k : Nat} (f : FacetRT) (h : k ≠ n) : (s.setFacet n f).facet k = s.facet k :=
  get_set_other _ _ _ _ h
@[simp] theorem facet_modFacet (n : Nat) (f : FacetRT → FacetRT) : (s.modFacet n f).facet n = f (s.facet n) := get_set_self ..
@[simp] theorem port_setPort (p : Nat) (q : PosPort) : (s.setPort p q).port p = q := get_set_self ..
theorem port_setPort_other {p k : Nat} (q : PosPort) (h : k ≠ p) : (s.setPort p q).port k = s.port k :=
  get_set_other _ _ _ _ h
@[simp] theorem port_modPort (p : Nat) (f : PosPort → PosPort) : (s.modPort p f).port p = f (s.port p) := get_set_self ..
@[simp] theorem canPort_setCanPort (p : Nat) (c : CanPort) : (s.setCanPort p c).canPort p = c := get_set_self ..
theorem canPort_setCanPort_other {p k : Nat} (c : CanPort) (h : k ≠ p) : (s.setCanPort p c).canPort k = s.canPort k :=
  get_set_other _ _ _ _ h
@[simp] theorem canPort_modCanPort (p : Nat) (f : CanPort → CanPort) : (s.modCanPort p f).canPort p = f (s.canPort p) :=
  get_set_self ..
@[simp] theorem session_setSession (p : Nat) (x : Session) : (s.setSession p x).session p = x := get_set_self ..
@[simp] theorem session_modSession (p : Nat) (f : Session → Session) : (s.modSession p f).session p = f (s.session p) :=
  get_set_self ..
@[simp] theorem beadPort_modBeadPort (p : Nat) (f : BeadPort → BeadPort) :
    (s.modBeadPort p f).beadPort p = f (s.beadPort p) := get_set_self ..
@[simp] theorem mbox_setMbox (c : CanPort) (i : Nat) (b : Mailbox) : (c.setMbox i b).mbox i = b := get_set_self ..

end Sys2Proof.Laws
end

