-- ==== Sys2Proof/Laws/Life.lean ====
section
/-! SUPPORT. What each shared operation on the device's life leaves of its invariant, and what a write in the fatal state can
do. -/

namespace Sys2Proof.Laws

open Sys2Proof Sys2Proof.Machine

/-- What keeps the life keeps its invariant. -/
theorem lifeInv_of_life {s t : State} (h : t.life = s.life) (hs : s.LifeInv) : t.LifeInv := by
  unfold State.LifeInv at *; rw [h]; exact hs

theorem ok_lifeInv {s u t : State} (hs : s.LifeInv) (h : ok s u = .next t) : t.LifeInv := by
  rw [ok_eq] at h; injection h with h; subst h; exact hs

theorem okLock_lifeInv {s u t : State} (hs : s.LifeInv) (h : okLock s u = .next t) : t.LifeInv := by
  unfold okLock at h; injection h with h; subst h; exact hs

theorem okLoad_lifeInv {s u t : State} (hs : s.LifeInv) (h : okLoad s u = .next t) : t.LifeInv := by
  unfold okLoad at h; injection h with h; subst h
  unfold State.LifeInv at *; dsimp only
  split
  · rename_i hh
    obtain ⟨a, b, c⟩ := hs
    simp [hh.2] at a b c ⊢
    simp [a, b] at *
    exact c
  · exact hs

theorem okStart_lifeInv {s u t : State} (hs : s.LifeInv) (h : okStart s u = .next t) : t.LifeInv := by
  unfold okStart at h; injection h with h; subst h
  unfold State.LifeInv at *; dsimp only
  split
  · rename_i hh
    obtain ⟨a, b, c⟩ := hs
    simp [hh.2] at a b c ⊢
    simp [b] at *
    exact c
  · exact hs

theorem okWrite_lifeInv {s u t : State} (hs : s.LifeInv) (h : okWrite s u = .next t) : t.LifeInv := by
  unfold okWrite at h; injection h with h; subst h
  unfold State.LifeInv at *; dsimp only
  split
  · rename_i hh
    simp [hh]
  · obtain ⟨a, b, c⟩ := hs
    exact ⟨a, b, fun hx => c (by simp at hx; exact hx.1)⟩

theorem okLife_lifeInv {s u t : State} (hu : u.LifeInv) (h : okLife s u = .next t) : t.LifeInv := by
  unfold okLife at h; injection h with h; subst h; exact hu

/-- A fatal error while a dump is held asserts nALERT and leaves the phase and the drives (R493). -/
theorem heldFatal_lifeInv (s : State) (c : Nat) (hf : s.life.phase = .fatal) (hs : s.LifeInv) : (s.heldFatal c).LifeInv := by
  unfold State.heldFatal State.LifeInv at *
  simp [hf] at hs ⊢
  exact hs.1

theorem fatalAgain_lifeInv (s : State) (c : FatalClass) (hf : s.life.phase = .fatal) (hs : s.LifeInv) :
    (s.fatalAgain c).LifeInv := by
  unfold State.fatalAgain
  split
  · split
    · exact heldFatal_lifeInv s _ hf hs
    · exact heldFatal_lifeInv _ _ (by unfold State.heldFatal; exact hf) (heldFatal_lifeInv s _ hf hs)
  · exact hs

theorem fatal_lifeInv (s : State) (c : FatalClass) (d : BitVec 32) (hs : s.LifeInv) : (s.fatal c d).LifeInv := by
  unfold State.fatal
  split
  · exact fatalAgain_lifeInv s c ‹_› hs
  · unfold State.LifeInv at *
    dsimp only
    rename_i hp
    simp
    cases ha : s.life.alert
    · rfl
    · exact absurd (hs.2.1 (hs.2.2 ha)) hp

theorem fatalEvent_lifeInv (s : State) (c : FatalClass) (d : BitVec 32) (hs : s.LifeInv) : (s.fatalEvent c d).LifeInv := by
  unfold State.fatalEvent
  split
  · split
    · exact fatal_lifeInv s _ _ hs
    · exact hs
  · exact fatal_lifeInv s _ _ hs

theorem boot_lifeInv (s : State) (b : List Nat) (x y : Bool) (z : ResetEnd) (hs : s.LifeInv) : (s.boot b x y z).LifeInv := by
  unfold State.boot
  dsimp only
  split
  · exact hs
  · have h0 : State.LifeInv { s with life := { s.life with iosel := z.iosel } } := hs
    split
    · exact fatal_lifeInv _ _ _ h0
    · split
      · exact fatal_lifeInv _ _ _ h0
      · rename_i h _ _
        simp at h
        unfold State.LifeInv at *
        simp [h] at hs ⊢
        obtain ⟨a, b, c⟩ := hs
        simp [a, b] at *
        exact c

theorem dump_lifeInv (s : State) (x y : Bool) (hs : s.LifeInv) : (s.dumpComplete x y).LifeInv := by
  unfold State.dumpComplete
  split
  · exact hs
  · rename_i h
    simp at h
    dsimp only
    split
    · exact heldFatal_lifeInv s _ h.1 hs
    · split <;> unfold State.LifeInv at * <;> simp [h] at hs ⊢ <;> exact hs.1

theorem refFail_lifeInv (s : State) (b : Bool) (hs : s.LifeInv) : (s.referenceFailure b).LifeInv := by
  have h1 : State.LifeInv { s.refFails b with life := s.life } := hs
  unfold State.referenceFailure
  cases b <;> dsimp only <;> simp only [Bool.false_eq_true, if_true, if_false] <;> split
  all_goals first
    | exact hs
    | (split
       · exact fatal_lifeInv _ _ _ h1
       · exact h1)

theorem scrub_lifeInv (s : State) (r : List Nat) (b : Option Nat) (hs : s.LifeInv) : (s.scrub r b).LifeInv := by
  have h1 : State.LifeInv (if 1 ≤ s.ctl.shed ∨ !s.scrubDone then s else
      { s.scrubRows r with life := s.life, spare := { (s.scrubRows r).spare with scrubFrames := 0, scrubRead := 0 } }) := by
    split <;> exact hs
  unfold State.scrub
  dsimp only
  split
  · exact fatal_lifeInv _ _ _ h1
  · exact h1

theorem live_lifeInv (s : State) (f : State → State) (hs : s.LifeInv) (h : (f s).LifeInv) : (s.live f).LifeInv := by
  unfold State.live; split <;> assumption

theorem warm_lifeInv (s : State) (k : Nat) (r : Bool) : (s.warm k r).LifeInv := by
  simp [State.warm, State.LifeInv]
theorem powerOn_lifeInv (s : State) : s.powerOn.LifeInv := by
  simp [State.powerOn, State.afterReset, State.reset, State.LifeInv]

/-- In the fatal state no request is served (R341). -/
theorem serve_fatal (s : State) (p op r f) (hf : s.life.phase = .fatal) : s.serve p op r f = s := by
  unfold State.serve State.serves
  have : s.ready = false := by simp [State.ready, hf]
  simp [this]

/-- In the fatal state a write leaves the fatal state only by the key in RESET_CTL (R492). -/
theorem writeCycle_fatal_phase (s : State) (m : Master) (off : Nat) (v : Word) (hf : s.life.phase = .fatal) :
    (s.writeCycle m off v).life.phase = .fatal ∨ ((s.writeCycle m off v).life.phase = .reset ∧ off = 7 ∧ v = 0xA55A) := by
  unfold State.writeCycle
  have ackl : ∀ (t : State) b, (t.ack m b).life = t.life := by
    intro t b; obtain ⟨c, hc⟩ := ack_ex t m b; rw [hc]
  split
  · left; rw [ackl]; exact hf
  · rw [ackl]
    split
    · left; simp [State.winWrite, hf]
    · unfold State.regWrite
      simp only [hf, if_true]
      split
      · left; unfold State.ownWrite; split <;> (try split) <;> simp_all [selReg]
      · split
        · rename_i h1 h2
          simp only [fatalReg, h1, Bool.or_eq_true, beq_iff_eq, false_or, Bool.false_eq_true] at h2
          rcases h2 with ((h | h) | h) | h <;> subst h
          · simp only [State.regNow, State.resetKey]
            split
            · right; rename_i h; simp [State.warm, h]
            · left; exact hf
          · left; simp only [State.regNow, steps, List.foldl]; split <;> simp [State.loupeRelease, hf]
          · left; exact hf
          · left; exact hf
        · left; exact hf

/-- A word that holds no reserved encoding merges into a plain register as into an empty one. -/
theorem rwMerge_plain : ∀ off ∈ plainRegs, ∀ v, encBad off v = false → ∀ old, rwMerge off old v = rwMerge off 0 v := by
  intro off h v
  simp only [plainRegs, List.mem_cons, List.not_mem_nil, or_false] at h
  rcases h with h | h | h | h | h | h | h | h | h | h | h | h | h | h | h | h | h | h | h | h | h | h | h <;> subst h <;>
    intro hb old <;> simp_all [rwMerge, encBad, rwFields, anyV, upTo, inRange]
  (split_ifs <;> first | rfl | omega)

end Sys2Proof.Laws
end

