-- ==== Sys2Proof/Tests/Slice0.lean ====
section
/-! SUPPORT. Tests: each well-formedness check refuses an ill-formed command, figures of the spec's own examples, and, for
every statement with hypotheses, states and operands that meet them together: one conjunct, in brackets, for each clause. -/

namespace Sys2Proof.Tests

set_option Elab.async false

open Sys2Proof Sys2Proof.Machine

/-! ## Well-formedness -/

/-- A frame with a byte of data, and one that no bus carries. -/
def goodFrame : Frame := { ident := 5, dlc := 1, data := [7] }
def badFrame : Frame := { ident := 5, dlc := 9, data := [7] }

/-- Every supply above its release level. -/
def up : ResetEnd := { iosel := true, dvdd := 900, avdd5 := 5000, avdd18 := 1800, iovdd := 3300 }

theorem test_wf_operand_limits :
    (Instr.cycleOutput 448 [0, 0, 0, 0, 0, 0, 0]).wf = true ∧ (Instr.cycleOutput 448 [0, 0, 0, 0, 0, 0, 0, 0]).wf = false ∧
    (Instr.bootSequence [65535] true true up).wf = true ∧ (Instr.bootSequence [65536] true true up).wf = false ∧
    (Instr.latchedGroupRead .host 62 249999).wf = true ∧ (Instr.latchedGroupRead .host 62 250000).wf = false ∧
    (Instr.syncLandEdge true 300 250000).wf = false ∧ (Instr.ppsEdge true 300 250000).wf = false ∧
    (Instr.sramScrub [65535] none).wf = true ∧ (Instr.sramScrub [65536] none).wf = false ∧
    (Instr.filterEnable .host 31 ⟨true, 249999⟩).wf = true ∧ (Instr.filterEnable .host 31 ⟨true, 250000⟩).wf = false ∧
    (Instr.calMeasurementDone { vals := List.replicate 37 0 }).wf = false := by decide

theorem test_wf_frames :
    (Instr.frameReceived 0 goodFrame 10).wf = true ∧ (Instr.frameReceived 0 badFrame 10).wf = false ∧
    (Instr.frameReceived 0 { goodFrame with ide := false, ident := 2048 } 10).wf = false ∧
    (Instr.frameReceived 0 { goodFrame with dlc := 16 } 10).wf = false ∧
    (Instr.frameReceived 0 { ident := 5, rtr := true } 10).wf = false ∧
    (Instr.frameReceived 0 { goodFrame with fdf := false, brs := true } 10).wf = false ∧
    (Instr.refFrameReceive 0 goodFrame 10 10).wf = true ∧ (Instr.refFrameReceive 0 badFrame 10 10).wf = false ∧
    (Instr.refFrameReceive 0 goodFrame 11 10).wf = false ∧
    (Instr.quadratureEdge 0 ⟨.edge true true, 600, 249999⟩).wf = true ∧
    (Instr.quadratureEdge 0 ⟨.edge true true, 600, 250000⟩).wf = false := by decide

/-- A request whose count does not fit its byte. -/
def badReq : Req := { count := 256 }

theorem test_wf_requests :
    (Instr.rreqOpen 0 {}).wf = true ∧ (Instr.rreqOpen 0 badReq).wf = false ∧ (Instr.rreqClose 0 badReq).wf = false ∧
    (Instr.rreqKeep 0 badReq).wf = false ∧ (Instr.rreqSetKey 0 badReq).wf = false ∧
    (Instr.rreqRegRead 0 badReq).wf = false ∧ (Instr.rreqRegWrite 0 badReq).wf = false ∧
    (Instr.rreqWinRead 0 badReq).wf = false ∧ (Instr.rreqWinWrite 0 badReq).wf = false ∧
    (Instr.rreqClaspBegin 0 badReq).wf = false ∧ (Instr.rreqClaspCommit 0 badReq).wf = false ∧
    (Instr.rreqClaspRollback 0 badReq).wf = false ∧ (Instr.rreqFacetRead 0 badReq).wf = false ∧
    (Instr.rreqUnknownOp 0 0x40 badReq).wf = false ∧
    (Instr.rreqOpen 0 { data := List.replicate 57 0 }).wf = false ∧
    (Instr.rreqOpen 0 { ns := 250000 }).wf = false := by decide

theorem test_no_word_spells_a_command : decodeTableWord 16 0x1234 = none := rfl

/-! ## Figures of the spec's examples -/

theorem test_curves_type_k_example :
    (decide (|eType 4 24 - 960 / 1000| < 1 / 2000) && decide (|eType 4 300 - 12209 / 1000| < 1 / 2000)
      && decide (|eType 4 20 - 798 / 1000| < 1 / 2000)) = true := by decide +kernel

/-- F41 at `N_out` = 16 with no notch, as in the examples of R63 and R141. -/
def f41 : Blk := fun w => if w = 6 then 4 else 0

/-- Its `SETTLE_LEN` reads 6 (R135) and G is 10,873.78 µs (R134). -/
theorem test_settle_len_of_example : settleLen 41 f41 = 6 ∧ grpDly 41 f41 = 1087 := by decide

/-- The identifier of station 17's bead record 0x0123 from port P1 (R322). -/
theorem test_identifier_of_example : mkIdent 3 3 17 (1 * 2 ^ 11 + 0x123) = 0x0C622923 := by decide

/-! ## States that meet the statements' hypotheses -/

/-- The state after a command, where it answers one. -/
def after (c : Instr) (s : State) : State := match exec c s with | .next t => t | _ => s

/-- A device that is loaded, before acquisition A. -/
def rdy : State := { State.reset with life := { phase := .ready } }

/-- The same at a frame boundary. -/
def fr : State := { rdy with time := { tick := 400 }, ctl := { frameAt := some 400, frameStamp := 5 } }

def v1 : Instr :=
  .claspTimeout .host
def st1 : State :=
  { rdy with life := { phase := .ready, dbgLock := true } }
def v2 : Instr :=
  .warmReset { lowNs := 10000, refclk := true }
def st2 : State :=
  { rdy with life := { phase := .fatal } }
def st3 : State :=
  after (.warmReset { lowNs := 10000, refclk := true }) st2
def st4 : State :=
  { rdy with ctl := { frameAt := some 0 } }
def st5 : State :=
  after .referencesSettled st4
def v3 : ResetPulse :=
  { lowNs := 999, refclk := true }
def v4 : ResetPulse :=
  { lowNs := 10000, refclk := true }
def st6 : State :=
  { rdy with time := { state := .free, tick := 400 } }
def v5 : ResetEnd :=
  { iosel := true, dvdd := 661, avdd5 := 4501, avdd18 := 1621, iovdd := 2950 }
def v6 : ResetEnd :=
  { iosel := true, dvdd := 661, avdd5 := 4501, avdd18 := 1621, iovdd := 2951 }
def st7 : State :=
  { State.reset with life := { phase := .booting }, ctl := { frameAt := some 0 } }
def st8 : State :=
  { State.reset with
    life := { phase := .booting },
    time := { tick := 4 },
    ctl := { frameAt := some 4 },
    nvm := { refused := 1 } }
def st9 : State :=
  { State.reset with life := { phase := .booting }, ctl := { frameAt := some 0 }, nvm := { chosen := some 1 } }
def st10 : State :=
  { st9 with nvm := { st9.nvm with triedAt := st9.tick } }
def st11 : State :=
  { rdy with
    life := { phase := .settled, drivesOn := true },
    time := { tick := 8, carried := true, state := .holdover } }
def st12 : State :=
  { rdy with life := { phase := .fatal, loupeValid := true } }
def st13 : State :=
  { rdy with life := { phase := .fatal, fatalDone := true } }
def st14 : State :=
  { rdy with ctl := { wdtFrom := some 0 }, time := { tick := 40000 } }
def st15 : State :=
  { fr with ctl := { svcPend := some 3, frameAt := some 400, frameStamp := 5 } }
def st16 : State :=
  { rdy with ctl := { svc := true, aliveInSvc := true } }
def st17 : State :=
  { fr with ctl := { svc := true, svcEndPend := some 3, frameAt := some 400, frameStamp := 5 } }
def v7 : ℕ :=
  (rdy.saveTarget).1
def v8 : ℕ :=
  (rdy.saveTarget).2
def st18 : State :=
  { rdy with nvm := { saving := some 1 }, ctl := { profBusy := true } }
def st19 : State :=
  ({ st18 with nvm := { st18.nvm with saving := none }, ctl := { st18.ctl with profBusy := false } } : State).putBank 1 65534 [st18.bankW 1 6, st18.bankW 1 7]
def st20 : State :=
  { rdy with nvm := { prog := some (5, [(0, 7)]) } }
def st21 : State :=
  { rdy with nvm := { prog := some (keyPage, [(0, 1), (1, 2)]) } }
def v9 : List (ℕ × Word) :=
  [(0, 1), (1, 2)]
def st22 : State :=
  { rdy with budget := { ovr := [3, 0, 0, 0, 0, 0, 0, 0] } }
def st23 : State :=
  { rdy with time := { tick := 5 } }
def st24 : State :=
  { rdy with cal := { last := 70000 } }
def st25 : State :=
  { rdy with facets := [(3, { faultSeen := 1 })] }
def st26 : State :=
  { rdy with host := { winSpace := 0xD }, cap := { queue := [7, 8] } }
def st27 : State :=
  (st26.chargeQueue .host).getD st26
def st28 : State :=
  { rdy with host := { winSpace := 0xD } }
def st29 : State :=
  { rdy with host := { winSpace := 8, winAddr := 5 }, nvm := { prog := some (5, []) } }
def st30 : State :=
  { rdy with host := { winAddr := 100000000 } }
def st31 : State :=
  { rdy with host := { winAddr := 5 } }
def st32 : State :=
  (st31.chargeWin .host 0 5).getD st31
def st33 : State :=
  { rdy with host := { winAddr := 96 } }
def st34 : State :=
  (st33.chargeWin .host 0 96).getD st33
def st35 : State :=
  { rdy with host := { clasp := { isOpen := true, writes := [{ tgt := .reg 0x79 0, val := 1 }] } } }
def st36 : State :=
  { rdy with
    time := { tick := 4000 },
    host := { clasp := { isOpen := true, writes := [{ tgt := .reg 0x79 0, val := 1 }] } } }
def st37 : State :=
  { fr with
    host := {
      clasp := { pend := true, full := true, acceptStamp := 1, writes := [{ tgt := .reg 0x79 0, val := 1 }] } } }
def st38 : State :=
  { fr with canA := { clasp := { pend := true, full := true, acceptStamp := 1 } } }
def st39 : State :=
  { fr with canA := { clasp := { pend := true, acceptStamp := 1 } } }
def st40 : State :=
  { fr with
    ctl := { frameAt := some 400, frameStamp := 15, commits := [{ unit := .reg 0x79 0, master := .mp, stamp := 9 }] },
    host := { clasp := { pend := true, acceptStamp := 10, writes := [{ tgt := .reg 0x79 0, val := 0x12 }] } } }
def st41 : State :=
  { fr with
    host := {
      clasp := {
        pend := true,
        acceptStamp := 1,
        writes := [
          { tgt := .reg 0x79 0, val := 0x12 },
          { tgt := .win 0 106 0, val := 7 },
          { tgt := .win 0 (447 * 32 + 10) 0, val := 9 },
          { tgt := .reg 0x7B 0, val := 0x34 }] } } }
def v10 : List (ℕ × ℕ × ℕ × Word) :=
  [(3, 10, 0, 7), (447, 10, 0, 9)]
def v11 : List StagedWrite :=
  [
    { tgt := .reg 0x79 0, val := 0x12 },
    { tgt := .win 0 106 0, val := 7 },
    { tgt := .win 0 (447 * 32 + 10) 0, val := 9 },
    { tgt := .reg 0x7B 0, val := 0x34 }]
def st42 : State :=
  { fr with
    canB := { clasp := { pend := true, acceptStamp := 1 } },
    sess := [(1, { holder := some 9, commitReq := some { node := 9 } })] }
def st43 : State :=
  { rdy with sess := [(0, { holder := some 9 })] }
def v12 : ℕ :=
  (List.mapIdx (fun i x => if i = (rdy.master .host).budgetSel then 4 * BitVec.toNat (50000 : Word) else Store.get x rdy.budget.staged i) rdy.budget.set).sum
def st44 : State :=
  { rdy with ctl := { loadFrames := 99 } }
def st45 : State :=
  { rdy with ctl := { shed := 3, loadFrames := 100 } }
def st46 : State :=
  { rdy with time := { cont := some (40, 0, .free, 0) } }
def st47 : State :=
  { rdy with exc := { railFrame := [3, 4] }, time := { tick := 4 } }
def st48 : State :=
  { rdy with
    time := { tick := 13, state := .free },
    facets := [(3, { pend := [{ aperture := 7, nout := 8, formTick := 9 }], gapEdge := true })] }
def v13 : PendOut :=
  { aperture := 7, nout := 8, formTick := 9 }
def st49 : State :=
  (st48.spend actAcq (outTransfers 3)).getD st48
def st50 : State :=
  { rdy with
    time := { tick := 9 },
    facets := [(3, { pend := [{ aperture := 7, nout := 8, formTick := 9 }] })],
    budget := { used := [1000000, 0, 0, 0, 0, 0, 0, 0] } }
def st51 : State :=
  { rdy with
    time := { tick := 10 },
    fpActive := [(449 * 32, 1), (449 * 32 + 17, 32), (449 * 32 + 19, 64)],
    facets := [(449, { tickPend := [{ aperture := 7, slot := 0, formTick := 9 }] })] }
def v14 : TickPend :=
  { aperture := 7, slot := 0, formTick := 9 }
def st52 : State :=
  (st51.spend actAcq (outTransfers 449)).getD st51
def st53 : State :=
  { rdy with
    time := { tick := 10 },
    fpActive := [(449 * 32, 1), (449 * 32 + 17, 32), (449 * 32 + 19, 64)],
    facets := [(449, { tickPend := [{ aperture := 7, slot := 0, formTick := 9 }] })],
    budget := { used := [1000000, 0, 0, 0, 0, 0, 0, 0] } }
def st54 : State :=
  { rdy with
    time := { tick := 13 },
    facets := [(3, { pend := [{ aperture := 7, nout := 8, formTick := 9, withheld := true }] })] }
def v15 : PendOut :=
  { aperture := 7, nout := 8, formTick := 9, withheld := true }
def st55 : State :=
  { rdy with
    time := { tick := 13, state := .free },
    fpActive := [(449 * 32, 1), (449 * 32 + 17, 32), (449 * 32 + 19, 64)],
    facets := [(449, { tickPend := [{ aperture := 7, slot := 0, formTick := 9 }] })] }
def st56 : State :=
  { rdy with time := { tick := 32 }, fpActive := [(449 * 32, 1), (449 * 32 + 17, 32), (449 * 32 + 19, 64)] }
def st57 : State :=
  { rdy with
    time := { tick := 96 },
    ctl := { frameAt := some 96 },
    fpActive := [(449 * 32, 1), (449 * 32 + 17, 32), (449 * 32 + 19, 64)] }
def st58 : State :=
  { rdy with host := { fctSel := 3 }, fpStaged := [(96, 0x000F)] }
def v16 : ℕ :=
  ((st58.refusal (st58.candApply [3]) [3] false).getD (0, 0)).1
def v17 : ℕ :=
  ((st58.refusal (st58.candApply [3]) [3] false).getD (0, 0)).2
def st59 : State :=
  { rdy with host := { fctSel := 3 }, fpStaged := [(96 + 10, 7)] }
def st60 : State :=
  { fr with
    applies := [{ facets := [3], words := [(106, 7)], stamp := 2, needSpare := false, master := .host }],
    ctl := { frameAt := some 400, frameStamp := 5, commits := [{ unit := .facet 3, master := .mp, stamp := 9 }] } }
def v18 : ApplyReq :=
  { facets := [3], words := [(106, 7)], stamp := 2, needSpare := false, master := .host }
def st61 : State :=
  { fr with applies := [{ facets := [3], words := [(106, 7)], stamp := 2, needSpare := false, master := .host }] }
def st62 : State :=
  { fr with
    applies := [{ facets := [3], words := [(97, 2)], stamp := 2, needSpare := false, master := .host }],
    spare := { sb := (List.range 8).map fun i => (i, { state := spFailed }) } }
def v19 : ApplyReq :=
  { facets := [3], words := [(97, 2)], stamp := 2, needSpare := false, master := .host }
def st63 : State :=
  { fr with applies := [{ facets := [3], words := [(97, 2)], stamp := 2, needSpare := false, master := .host }] }
def st64 : State :=
  { rdy with facets := [(3, { rangeChg := some { spare := 2, phase := 1, left := 0, new := [(1, 3)] } })] }
def v20 : RangeChg :=
  { spare := 2, phase := 1, left := 0, new := [(1, 3)] }
def st65 : State :=
  { rdy with
    facets := [(3, { rangeChg := some { spare := 2, phase := 2, left := 0, new := [(1, 3)] }, standin := some 2 })] }
def v21 : RangeChg :=
  { spare := 2, phase := 2, left := 0, new := [(1, 3)] }
def st66 : State :=
  { rdy with fctRead := { ctl := 3, pend := true } }
def st67 : State :=
  { rdy with fpActive := [(96, 1)], facets := [(3, { sig := { inSpan := false } })] }
def st68 : State :=
  { rdy with facets := [(3, { isolated := true, inSpanCnt := 8, faultNow := 0x80 })] }
def st69 : State :=
  { rdy with fpActive := [(96, 1)], facets := [(3, { enterCnt := [(7, 1)] })] }
def st70 : State :=
  { rdy with fpActive := [(96, 1)], facets := [(3, { faultNow := 1, faultSeen := 1, leaveCnt := [(0, 100000)] })] }
def st71 : State :=
  { rdy with time := { tick := 4000 }, facets := [(3, { alarmFrom := some 0, alarmHeld := 2 })] }
def st72 : State :=
  { rdy with exc := { overCnt := 8 } }
def st73 : State :=
  { rdy with exc := { underCnt := 8, railOver := true } }
def st74 : State :=
  { rdy with exc := { railNow := 2400 } }
def st75 : State :=
  { rdy with exc := { railNow := 2399, fold := true } }
def st76 : State :=
  { rdy with exc := { exvdd := 11499 }, fpActive := [(96, 1), (98, 4)] }
def st77 : State :=
  { rdy with exc := { exvdd := 11500, headroom := true } }
def st78 : State :=
  { rdy with exc := { lock := true }, fpActive := [(449 * 32, 1)] }
def st79 : State :=
  { rdy with fpActive := [(449 * 32, 1)], facets := [(449, { faultNow := 0x100 })] }
def st80 : State :=
  { fr with exc := { lock := true, resume := true, resumeStamp := 5 }, fpActive := [(449 * 32, 1)] }
def st81 : State :=
  { rdy with host := { fctSel := 449 } }
def st82 : State :=
  { rdy with chain := { shActive := 0xFFFF } }
def st83 : State :=
  { fr with chain := { queue := some { target := 1, len := 64 }, queueStamp := 3 } }
def v22 : FadeReq :=
  { target := 1, len := 64 }
def st84 : State :=
  { rdy with
    time := { tick := 100000 },
    chain := { fade := some { start := 0, source := 0, target := 1, len := 4 } },
    facets := (List.range 512).map fun n => (n, { fadeJ := some 4, last := { aperture := 99999 } }) }
def v23 : Fade :=
  { start := 0, source := 0, target := 1, len := 4 }
def st85 : State :=
  { rdy with host := { winSpace := 0xC, winAddr := 5 } }
def st86 : State :=
  (st85.chargeWin .host 0xC 768).getD st85
def st87 : State :=
  { fr with curvePend := [(3, 2, .host)] }
def st88 : State :=
  { rdy with time := { state := .free, tick := 400, syncCtl := 0x18 } }
def st89 : State :=
  { rdy with time := { state := .free, tick := 400, syncReq := [(400, 1), (400, 0), (401, 2)] } }
def st90 : State :=
  { rdy with time := { tick := 4000, state := .lockedPps, src := 1, ctl := 0x0151 } }
def st91 : State :=
  { rdy with time := { tick := 12004, state := .lockedPps, src := 1, ppsLast := some 0 } }
def v24 : Frame :=
  { ident := 0, data := List.replicate 24 0 }
def st92 : State :=
  { rdy with
    can := [(0, { ctl := 0, st := .errorActive }), (1, { ctl := 0, st := .errorActive })],
    candev := { clkOk := true, clkKhz := 40000 },
    time := { tick := 4, state := .free, refCtl := 0x20 } }
def st93 : State :=
  st92.frameReceived 0 { ident := 0, data := List.replicate 24 0 } 100
def st94 : State :=
  { rdy with
    time := {
      tick := 4000,
      state := .lockedRef,
      src := 2,
      refCtl := 0x20,
      rx := [(0, { last := some (1, 0), period := 100, missed := 2 })] } }
def st95 : State :=
  { rdy with
    can := [(0, { ctl := 0, st := .errorActive }), (1, { ctl := 0, st := .errorActive })],
    candev := { clkOk := true, clkKhz := 40000 },
    time := { tick := 400, state := .free, refCtl := 0x21, tx := [(0, { sending := true })] } }
def st96 : State :=
  { rdy with
    can := [(0, { ctl := 0, st := .errorActive }), (1, { ctl := 0, st := .errorActive })],
    candev := { clkOk := true, clkKhz := 40000 },
    time := { tick := 400, state := .free, refCtl := 0x21, rx := [(0, { lost := true })] } }
def st97 : State :=
  { rdy with life := { phase := .settled, drivesOn := true }, time := { tick := 40000, ctl := 0x0154 } }
def st98 : State :=
  { rdy with
    life := { phase := .settled, drivesOn := true },
    time := { tick := 500, cont := some (8000, 500, .free, 0) } }
def st99 : State :=
  { rdy with
    life := { phase := .settled, drivesOn := true },
    time := { state := .lockedPps, tick := 500, step := some (400, 500, 0), acquiring := true } }
def st100 : State :=
  { rdy with time := { tick := 400 }, ctl := { frameAt := some 400, modeRun := true, modeSel := 2 } }
def st101 : State :=
  { rdy with time := { tick := 400 }, ctl := { frameAt := some 400, modeRun := true, modeSel := 1 } }
def st102 : State :=
  { rdy with time := { tick := 400 }, ctl := { frameAt := some 400, modeRun := true, modeSel := 1, tally := true } }
def st103 : State :=
  { rdy with
    time := { tick := 30000 },
    ctl := { frameAt := some 30000, modeRun := true, modeSel := 0, tallyCtl := 0x0800 },
    ports := [(1, { st := .valid, fastFrom := some 10 })] }
def st104 : State :=
  { rdy with
    time := { tick := 30000 },
    ctl := { frameAt := some 30000, modeRun := true, modeSel := 0, tallyCtl := 0x0800, tally := true },
    ports := [(1, { st := .valid, slowFrom := some 10 })] }
def st105 : State :=
  { rdy with
    time := { tick := 30000 },
    ctl := { frameAt := some 30000, modeRun := true, modeSel := 0, tallyCtl := 0x0800, tally := true },
    ports := [(1, { st := .valid })] }
def st106 : State :=
  { fr with ctl := { frameAt := some 400, frameStamp := 5, modeRun := false, tally := true } }
def st107 : State :=
  { rdy with ports := [(2, { cfgAct := 1, odo := 5 })] }
def v25 : QuadEdge :=
  .edge false true
def v26 : QuadEdge :=
  .both true true
def st108 : State :=
  { rdy with ports := [(2, { cfgAct := 0x31, odo := 5 })] }
def v27 : QuadEdge :=
  .edge true true
def st109 : State :=
  { rdy with ports := [(2, { cfgAct := 0x31, st := .valid, odo := 5 })] }
def st110 : State :=
  { rdy with ports := [(2, { cfgAct := 1, st := .valid, odo := 5, dead := some 3 })] }
def st111 : State :=
  { rdy with
    ports := [(
        2,
        {
          cfgAct := 1,
          st := .seeking,
          len := 6000,
          active := [(2, 3), (66, 1000), (68, 3000)],
          odo := 5000,
          pulse := some 4000,
          ivals := [3000, 2000] })] }
def st112 : State :=
  { rdy with
    ports := [(
        2,
        {
          cfgAct := 1,
          st := .valid,
          u := 1000,
          want := 1,
          len := 6000,
          active := [(2, 3), (66, 1000), (68, 3000)],
          odo := 5000,
          pulse := some 4000,
          ivals := [3000, 2000] })] }
def v28 : ℚ :=
  circ (st112.port 2).len ((st112.port 2).u - (st112.port 2).cfgA.mark (st112.port 2).want)
def st113 : State :=
  { rdy with ports := [(2, { cfgAct := 1, st := .valid, len := 100000, u := 5000 })] }
def st114 : State :=
  { rdy with ports := [(2, { cfgAct := 1, st := .valid, len := 100000, ahead := -50000 })] }
def st115 : State :=
  { rdy with host := { posSel := 2 } }
def st116 : State :=
  { fr with ports := [(2, { actPend := some (3, .host), staged := [(0, 7)], lenStaged := 5000, cfg := 3 })] }
def st117 : State :=
  { rdy with host := { posSel := 2 }, ports := [(2, { st := .valid })] }
def st118 : State :=
  { rdy with
    bead := { ctl := 0x10 },
    fpActive := [(96, 1), (103, 3), (104, 0x7FFF), (105, 1), (128, 1), (135, 3), (136, 0x8000), (137, 1)] }
def st119 : State :=
  { fr with
    bead := { beads := [{ port := 2, rev := 5, idx := 3, entry := 1, openTick := 8, forced := some (3, 400) }] } }
def v29 : Bead :=
  { port := 2, rev := 5, idx := 3, entry := 1, openTick := 8, forced := some (3, 400) }
def st120 : State :=
  (st119.spend actBead 8).getD st119
def st121 : State :=
  { fr with
    bead := { beads := [{ port := 2, rev := 5, idx := 3, entry := 1, openTick := 8, forced := some (3, 400) }] },
    budget := { used := List.replicate 8 1000000 } }
def st122 : State :=
  { rdy with time := { tick := 12 }, bead := { port := [(2, { wait := [{ rev := 5, idx := 3, tick := 8 }] })] } }
def v30 : WaitBead :=
  { rev := 5, idx := 3, tick := 8 }
def st123 : State :=
  { rdy with bead := { tareState := 1, tarePort := 2 } }
def st124 : State :=
  { rdy with
    cal := {
      state := 1,
      run := some { proc := 7, scope := false, allowGap := false, sysOnly := false, target := 577, phase := 6 } } }
def v31 : CalRun :=
  { proc := 7, scope := false, allowGap := false, sysOnly := false, target := 577, phase := 6 }
def st125 : State :=
  { rdy with
    ports := [(1, { st := .valid, len := 10000, cfgAct := 1 })],
    fpActive := [(96, 1), (96 + 7, 3), (96 + 9, 1)] }
def st126 : State :=
  { rdy with bead := { tareState := 2 } }
def st127 : State :=
  { rdy with bead := { tareState := 3 } }
def st128 : State :=
  { rdy with bead := { tareState := 1, tareWrap := some 9 } }
def st129 : State :=
  { rdy with bead := { tareState := 2, tareRevs := 2, tareDone := 2 } }
def st130 : State :=
  { rdy with host := { winSpace := 4 } }
def st131 : State :=
  (st130.chargeWin .host 4 (1 * 0x40000 + 0x3F144)).getD st130
def st132 : State :=
  { rdy with
    ports := [(1, { tareLoad := true, len := 10000, tareStgMean := 500 })],
    bead := { port := [(1, { wrapSeen := true })] } }
def st133 : State :=
  { fr with
    msg := {
      losses := [
        { first := 5, last := 5, start := 100, len := 10, cause := 3, cons := 0, until_ := 500 },
        { first := 3, last := 3, start := 100, len := 4000, cause := 3, cons := 0, until_ := 0 }] } }
def v32 : List Loss :=
  [{ first := 5, last := 5, start := 100, len := 10, cause := 3, cons := 0, until_ := 500 }]
def v33 : Loss :=
  { first := 3, last := 3, start := 100, len := 4000, cause := 3, cons := 0, until_ := 0 }
def st134 : State :=
  { rdy with
    can := [(
        0,
        {
          held := some {
            gap := { first := 3, last := 3, start := 100, len := 4000, cause := 3, cons := 0, until_ := 0 },
            seq := 7,
            made := 100 } })] }
def v34 : HeldGap :=
  {
    gap := { first := 3, last := 3, start := 100, len := 4000, cause := 3, cons := 0, until_ := 0 },
    seq := 7,
    made := 100 }
def st135 : State :=
  (st134.spend actEgr 3).getD st134
def st136 : State :=
  { rdy with
    can := [(
        0,
        {
          held := some {
            gap := { first := 3, last := 3, start := 100, len := 4000, cause := 3, cons := 0, until_ := 0 },
            seq := 7,
            made := 100 },
          staging := List.replicate 32 { ty := .gap, ident := 0, data := [] } })] }
def st137 : State :=
  { rdy with
    can := [(
        0,
        {
          held := some {
            gap := { first := 3, last := 3, start := 100, len := 4000, cause := 3, cons := 0, until_ := 0 },
            seq := 7,
            made := 100 } })],
    budget := { used := List.replicate 8 1000000 } }
def st138 : State :=
  { rdy with trg := { table := [(0, 12)] } }
def st139 : State :=
  { rdy with trg := { en := true } }
def st140 : State :=
  { rdy with time := { tick := 400, state := .free }, cap := { st := .hold, mem := [(3, 4)] } }
def st141 : State :=
  { rdy with time := { tick := 400, state := .free }, cap := { st := .post, mem := [(3, 4)] } }
def st142 : State :=
  { rdy with time := { tick := 400, state := .free }, cap := { st := .rearm, armStamp := 3 } }
def st143 : State :=
  { fr with time := { tick := 400, state := .free }, cap := { armPend := true, armStamp := 5 } }
def st144 : State :=
  { fr with
    time := { tick := 400, state := .free },
    cap := { st := .fill, autoMs := 50, f := 200, c := 400, p := 10 } }
def st145 : State :=
  { fr with trg := { table := [(128, 3), (129, 3)] }, cap := { st := .post, endTick := 399 } }
def st146 : State :=
  { rdy with cap := { st := .hold, ctl := 8 } }
def st147 : State :=
  { rdy with cap := { st := .fill } }
def st148 : State :=
  { fr with
    trg := { table := [(128, 3), (129, 3)] },
    cap := { st := .stream, headPend := true, part := [104, 6, 2] } }
def st149 : State :=
  { fr with
    trg := { table := [(128, 3), (129, 3)] },
    cap := { st := .stream, headPend := true, endTick := 500, drain := 400, c := 16 } }
def st150 : State :=
  (st149.stagePacket 3 0 st149.headLoss (wordsOfBytes st149.capHeader)).getD st149
def st151 : State :=
  { fr with trg := { table := [(128, 3), (129, 3)] }, cap := { st := .stream, endTick := 7, drain := 8 } }
def st152 : State :=
  { fr with
    trg := { table := [(128, 3), (129, 3)] },
    cap := { st := .stream, endTick := 500, drain := 400, c := 16 } }
def st153 : State :=
  { fr with
    trg := { table := [(128, 3), (129, 3)] },
    cap := {
      st := .stream,
      endTick := 9,
      drain := 8,
      c := 16,
      lines := [(8, ([2], 8))],
      mem := [(2, 77)],
      part := [104, 6, 2] } }
def st154 : State :=
  { fr with
    trg := { table := [(128, 3), (129, 3)] },
    cap := { st := .stream, endTick := 9, drain := 8, c := 16, lines := [(8, ([2], 8))], mem := [(2, 77)] },
    budget := { used := List.replicate 8 1000000 } }
def st155 : State :=
  (st154.stagePacket 2 8 (lineLoss st154.csFirst st154.csLast 8 1) (sampleWords (st154.lineData 8))).getD st154
def st156 : State :=
  { fr with
    trg := { table := [(128, 3), (129, 3)] },
    cap := { st := .stream, endTick := 9, drain := 8, c := 16, lines := [(8, ([2], 8))], mem := [(2, 77)] } }
def st157 : State :=
  (st156.stagePacket 2 8 (lineLoss st156.csFirst st156.csLast 8 1) (sampleWords (st156.lineData 8))).getD st156
def st158 : State :=
  (st157.spend actCapt (((st156.lineData 8).length + 1) / 2)).getD st156
def st159 : State :=
  { rdy with cap := { partStaged := [104, 16, 16], st := .fill } }
def st160 : State :=
  { rdy with cap := { partStaged := [104, 16, 16], armPend := true } }
def st161 : State :=
  { fr with
    cap := { partPend := some ([100, 16, 10], 5), queue := [1, 2] },
    can := [(0, { staging := [{ ty := .alarm, ident := 0, data := [] }] })] }
def st162 : State :=
  { rdy with trg := { table := [(131, 512)] } }
def st163 : State :=
  { fr with cap := { ctl := 0x20, hsStamp := 5 } }
def st164 : State :=
  { fr with cap := { hsRun := true, hsStamp := 5 } }
def st165 : State :=
  { fr with
    cap := { hsRun := true, hsRuns := [{ from_ := 100, first := 3, last := 3 }], hsLines := [(399, [(6, 5)])] },
    facets := [(3, { pend := [{ aperture := 399, nout := 1, formTick := 405 }] })] }
def v35 : HsRun :=
  { from_ := 100, first := 3, last := 3 }
def st166 : State :=
  { fr with
    cap := { hsRun := true, hsRuns := [{ from_ := 100, first := 3, last := 3 }], hsLines := [(399, [(6, 5)])] },
    budget := { used := List.replicate 8 1000000 },
    time := { tick := 400, state := .free } }
def st167 : State :=
  { fr with
    cap := { hsRun := true, hsRuns := [{ from_ := 100, first := 3, last := 3 }], hsLines := [(399, [(6, 5)])] } }
def st168 : State :=
  (st167.spend actHost ((14 + 4 * 1 + 7) / 8)).getD st167
def st169 : State :=
  { fr with
    cap := {
      hsRun := true,
      hsRuns := [{ from_ := 100, first := 3, last := 3 }],
      hsLines := [(399, [(6, 5)])],
      part := [104, 6, 2] },
    time := { tick := 400, state := .free } }
def st170 : State :=
  (st169.spend actHost ((14 + 4 * 1 + 7) / 8)).getD st169
def st171 : State :=
  { rdy with msg := { out := [(0, { ty := .alarm, ident := 5, data := [1, 2, 3] })] } }
def v36 : Rec :=
  { ty := .alarm, ident := 5, data := [1, 2, 3] }
def st172 : State :=
  (st171.spend actEgr 1).getD st171
def st173 : State :=
  { rdy with
    msg := { out := [(0, { ty := .alarm, ident := 5, data := [1, 2, 3] })] },
    budget := { used := [0, 0, 0, 1000000, 0, 0, 0, 0] } }
def st174 : State :=
  { rdy with
    can := [
      (0, { ctl := 0x10, st := .errorActive, staging := [{ ty := .alarm, ident := 5, data := [1, 2, 3] }] }),
      (1, { ctl := 0x10, st := .errorActive })],
    candev := { clkOk := true, clkKhz := 40000 } }
def st175 : State :=
  (st174.spend actEgr 9).getD st174
def st176 : State :=
  { rdy with time := { tick := 4000 } }
def st177 : State :=
  { rdy with host := { canSel := 1 }, can := [(1, { ctl := 0, st := .errorActive, onBus := some (24, 5) })] }
def st178 : State :=
  { rdy with host := { canSel := 1 }, can := [(1, { wasOff := true })], candev := { clkOk := true, clkKhz := 40000 } }
def st179 : State :=
  { rdy with host := { canSel := 1 } }
def st180 : State :=
  { rdy with host := { canSel := 1 }, can := [(1, { ctl := 0, st := .errorActive })], candev := { clkOk := true } }
def st181 : State :=
  { rdy with can := [(2, { modePend := some 3 })] }
def st182 : State :=
  { rdy with host := { canSel := 1 }, can := [(1, { ctl := 0, st := .busOff })] }
def st183 : State :=
  { rdy with can := [(1, { ctl := 0, st := .integrating, tec := 128 })], candev := { clkOk := true } }
def st184 : State :=
  { rdy with can := [(1, { ctl := 0, st := .recovering, tec := 128 })], candev := { clkOk := true, waiting := [1] } }
def st185 : State :=
  { rdy with
    can := [(
        1,
        { ctl := 0, st := .errorActive, mb := [(24, { full := true, released := true, frame := { ident := 9 } })] })],
    candev := { clkOk := true } }
def st186 : State :=
  { rdy with
    time := { tick := 400 },
    can := [(
        1,
        {
          ctl := 0,
          st := .errorActive,
          lone := true,
          mb := [(24, { full := true, released := true, frame := { ident := 9 } })] })],
    candev := { clkOk := true } }
def st187 : State :=
  { rdy with
    can := [(
        1,
        {
          ctl := 0,
          st := .errorActive,
          tec := 3,
          onBus := some (24, 55),
          mb := [(24, { full := true, released := true, frame := { ident := 9 } })] })],
    candev := { clkOk := true } }
def v37 : Frame :=
  { ident := 9, ide := false }
def st188 : State :=
  { rdy with
    can := [(1, { ctl := 0, st := .errorActive, fltEn := 1, flt := [(0, 1), (2, 0xFFFF), (4, 0x000A)] })],
    candev := { clkOk := true } }
def st189 : State :=
  { rdy with
    can := [(1, { ctl := 0, st := .errorActive, fltEn := 5, flt := [(0, 1), (2, 0xFFFF), (4, 0x000A), (20, 0x000A)] })],
    candev := { clkOk := true } }
def st190 : State :=
  { rdy with
    can := [(
        1,
        {
          ctl := 0,
          st := .errorActive,
          fltEn := 5,
          flt := [(0, 1), (2, 0xFFFF), (4, 0x000A), (20, 0x000A)],
          rx0 := { q := List.replicate 17 { frame := {}, ts := 0, pair := 0 } } })],
    candev := { clkOk := true } }
def st191 : State :=
  { rdy with
    can := [(1, { ctl := 0, st := .errorActive, fltEn := 5, flt := [(0, 1), (2, 0xFFFF), (4, 0x000A), (20, 0x001A)] })],
    candev := { clkOk := true } }
def st192 : State :=
  { rdy with
    can := [(1, { ctl := 0, st := .errorActive, fltEn := 5, flt := [(0, 1), (2, 0xFFFF), (4, 0x000A), (20, 0x002A)] })],
    candev := { clkOk := true } }
def st193 : State :=
  { rdy with can := [(1, { ctl := 0x40, st := .errorActive })], candev := { clkOk := true } }
def st194 : State :=
  { rdy with
    can := [(
        1,
        {
          ctl := 0,
          tec := 250,
          st := .errorPassive,
          tdc := 0x0F,
          onBus := some (24, 7),
          mb := [(24, { full := true, released := true, frame := { ident := 9, fdf := true, brs := true } })] })],
    candev := { clkOk := true } }
def st195 : State :=
  { rdy with can := [(1, { ctl := 0, mode := 2, st := .errorActive })], candev := { clkOk := true } }
def st196 : State :=
  { rdy with host := { canSel := 1 }, can := [(1, { ctl := 0x10, st := .errorActive })] }
def st197 : State :=
  { rdy with
    host := { canSel := 1 },
    can := [(
        1,
        { ctl := 0x10, st := .errorActive, mb := [(24, { full := true, released := true, frame := { ident := 9 } })] })] }
def st198 : State :=
  { rdy with
    host := { canSel := 1 },
    can := [(
        1,
        {
          ctl := 0x10,
          st := .errorActive,
          onBus := some (24, 7),
          mb := [(24, { full := true, released := true, frame := { ident := 9 } })] })] }
def st199 : State :=
  { rdy with host := { canSel := 1 }, can := [(1, { rx1 := { q := [{ frame := {}, ts := 0, pair := 0 }] } })] }
def st200 : State :=
  { rdy with
    can := [(0, { ctl := 0x10, st := .busOff }), (1, { ctl := 0x10, st := .errorActive })],
    candev := { clkOk := true, waiting := [1, 0] } }
def st201 : State :=
  { rdy with
    time := { tick := 4000 },
    can := [(0, { ctl := 0x10, st := .errorActive })],
    candev := { clkOk := true, active := some 0 } }
def st202 : State :=
  { rdy with candev := { active := some 0 } }
def st203 : State :=
  { rdy with candev := { clkOk := true }, can := [(1, { st := .errorActive, onBus := some (24, 1), lone := true })] }
def st204 : State :=
  { rdy with can := [(1, { st := .errorActive })] }
def st205 : State :=
  { rdy with time := { tick := 240000 } }
def st206 : State :=
  { rdy with
    spare := { ctl := 7, shadow := 1, shadowErrs := 1 },
    can := [(1, { ctl := 0x10, st := .busOff })],
    candev := { clkOk := true } }
def st207 : State :=
  { rdy with spare := { ctl := 7 }, can := [(1, { ctl := 0x10, st := .busOff })], candev := { clkOk := true } }
def st208 : State :=
  { rdy with
    spare := { ctl := 6, shadow := 1, shadowErrs := 2 },
    can := [(1, { ctl := 0x10, st := .errorActive })],
    candev := { clkOk := true } }
def v40 : Req :=
  { node := 9, data := [1, 2, 3, 4] }
def st209 : State :=
  { rdy with
    can := [(0, { ctl := 0x10, st := .errorActive }), (1, { ctl := 0x10, st := .errorActive })],
    candev := { clkOk := true },
    nvm := { key := 0x04030201 } }
def st210 : State :=
  { rdy with
    can := [(0, { ctl := 0x10, st := .errorActive }), (1, { ctl := 0x10, st := .errorActive })],
    candev := { clkOk := true },
    nvm := { key := 0x04030201 },
    sess := [(1, { lockFrom := some 0 })] }
def st211 : State :=
  { rdy with
    can := [(0, { ctl := 0x10, st := .errorActive }), (1, { ctl := 0x10, st := .errorActive })],
    candev := { clkOk := true },
    nvm := { key := 0x04030201 },
    sess := [(1, { holder := some 8, badKeys := 2 })] }
def v41 : Req :=
  { node := 9, data := [1, 2, 3] }
def st212 : State :=
  { rdy with
    can := [(0, { ctl := 0x10, st := .errorActive }), (1, { ctl := 0x10, st := .errorActive })],
    candev := { clkOk := true },
    nvm := { key := 0x04030201 },
    sess := [(1, { badKeys := 2 })] }
def st213 : State :=
  { rdy with time := { tick := 240000 }, sess := [(1, { lockFrom := some 0 })] }
def st214 : State :=
  { rdy with
    can := [(0, { ctl := 0x10, st := .errorActive }), (1, { ctl := 0x10, st := .errorActive })],
    candev := { clkOk := true },
    sess := [(1, { holder := some 9, lastTick := 1 })] }
def st215 : State :=
  { rdy with
    can := [(0, { ctl := 0x10, st := .errorActive }), (1, { ctl := 0x10, st := .errorActive })],
    candev := { clkOk := true },
    sess := [(1, { holder := some 9, lastTick := 1 })],
    time := { tick := 50 } }
def st216 : State :=
  { rdy with
    can := [(0, { ctl := 0x10, st := .errorActive }), (1, { ctl := 0x10, st := .errorActive })],
    candev := { clkOk := true },
    sess := [(1, { holder := some 9, lastTick := 1 })],
    ctl := { bezel := [(22, 0x03F0)] } }
def st217 : State :=
  { rdy with
    can := [(0, { ctl := 0x10, st := .errorActive }), (1, { ctl := 0x10, st := .errorActive })],
    candev := { clkOk := true } }
def st218 : State :=
  { rdy with
    time := { tick := 240001 },
    sess := [(1, { holder := some 9, lastTick := 1 })],
    canB := { clasp := { isOpen := true } } }
def v42 : Req :=
  { node := 9, addr := 0x79, count := 1 }
def st219 : State :=
  { rdy with
    can := [(0, { ctl := 0x10, st := .errorActive }), (1, { ctl := 0x10, st := .errorActive })],
    candev := { clkOk := true },
    ctl := { bezel := [(7, 0x03F0)] } }
def v43 : Req :=
  { node := 9, addr := 5, count := 1 }
def st220 : State :=
  { rdy with
    can := [(0, { ctl := 0x10, st := .errorActive }), (1, { ctl := 0x10, st := .errorActive })],
    candev := { clkOk := true },
    ctl := { bezel := [(8, 0x03F0)] } }
def v44 : Req :=
  { node := 9, addr := 0x4000F, count := 1 }
def st221 : State :=
  { rdy with
    can := [(0, { ctl := 0x10, st := .errorActive }), (1, { ctl := 0x10, st := .errorActive })],
    candev := { clkOk := true },
    ctl := { bezel := [(2, 0x03F0)] } }
def v45 : Req :=
  { node := 9, addr := 0x79, count := 1, data := [3, 4] }
def st222 : State :=
  { rdy with
    can := [(0, { ctl := 0x10, st := .errorActive }), (1, { ctl := 0x10, st := .errorActive })],
    candev := { clkOk := true },
    sess := [(1, { holder := some 9, lastTick := 1 })],
    ctl := { bezel := [(7, 0x03F0)] } }
def v46 : Req :=
  { node := 9, addr := 96, count := 1, data := [3, 4] }
def st223 : State :=
  { rdy with
    can := [(0, { ctl := 0x10, st := .errorActive }), (1, { ctl := 0x10, st := .errorActive })],
    candev := { clkOk := true },
    sess := [(1, { holder := some 9, lastTick := 1 })],
    ctl := { bezel := [(8, 0x03F0)] } }
def st224 : State :=
  { rdy with
    can := [(0, { ctl := 0x10, st := .errorActive }), (1, { ctl := 0x10, st := .errorActive })],
    candev := { clkOk := true },
    sess := [(1, { holder := some 9, lastTick := 1 })],
    canB := { clasp := { isOpen := true } } }
def st225 : State :=
  { rdy with time := { tick := 400, state := .free }, cal := { decl := [(4, 3)] } }
def st226 : State :=
  { rdy with time := { tick := 400, state := .free }, cal := { refMv := 10240 } }
def st227 : State :=
  { rdy with
    time := { tick := 400, state := .free },
    cal := {
      state := 1,
      run := some { proc := 6, scope := false, allowGap := false, sysOnly := false, target := 449, phase := 5 } } }
def v47 : CalRun :=
  { proc := 6, scope := false, allowGap := false, sysOnly := false, target := 449, phase := 5 }
def st228 : State :=
  { rdy with
    time := { tick := 400, state := .free },
    cal := {
      state := 2,
      run := some { proc := 6, scope := false, allowGap := false, sysOnly := false, target := 449, phase := 5 } } }
def st229 : State :=
  { rdy with
    time := { tick := 400, state := .free },
    cal := {
      state := 1,
      run := some {
        proc := 0,
        scope := false,
        allowGap := false,
        sysOnly := false,
        target := 3,
        checked := true,
        stamp := 3 } } }
def v48 : CalRun :=
  { proc := 0, scope := false, allowGap := false, sysOnly := false, target := 3, checked := true, stamp := 3 }
def st230 : State :=
  { fr with
    cal := {
      state := 1,
      run := some {
        proc := 3,
        scope := false,
        allowGap := false,
        sysOnly := false,
        target := 3,
        checked := true,
        stamp := 3 } } }
def v49 : CalRun :=
  { proc := 3, scope := false, allowGap := false, sysOnly := false, target := 3, checked := true, stamp := 3 }
def st231 : State :=
  { fr with
    cal := {
      state := 1,
      run := some {
        proc := 0,
        scope := false,
        allowGap := false,
        sysOnly := false,
        target := 3,
        phase := 1,
        standin := some 2 } } }
def v50 : CalRun :=
  { proc := 0, scope := false, allowGap := false, sysOnly := false, target := 3, phase := 1, standin := some 2 }
def st232 : State :=
  { fr with
    cal := {
      state := 1,
      run := some {
        proc := 0,
        scope := false,
        allowGap := false,
        sysOnly := false,
        target := 3,
        phase := 2,
        standin := some 2 } },
    time := { tick := 12480 } }
def v51 : CalRun :=
  { proc := 0, scope := false, allowGap := false, sysOnly := false, target := 3, phase := 2, standin := some 2 }
def st233 : State :=
  { fr with
    cal := {
      state := 1,
      image := [(senseAddr 3 none / 2, some 0), (senseAddr 3 none / 2 + 1, some 0x3F80)],
      run := some {
        proc := 3,
        scope := false,
        allowGap := false,
        sysOnly := false,
        target := 3,
        phase := 2,
        standin := some 2,
        vDecl := 5 } },
    time := { tick := 12480 } }
def v53 : CalRun :=
  {
    proc := 3,
    scope := false,
    allowGap := false,
    sysOnly := false,
    target := 3,
    phase := 2,
    standin := some 2,
    vDecl := 5 }
def v54 : MeasIn :=
  { vals := [5] }
def st234 : State :=
  { fr with
    cal := {
      state := 1,
      run := some {
        proc := 0,
        scope := false,
        allowGap := false,
        sysOnly := false,
        target := 3,
        phase := 3,
        standin := some 2,
        fail := 7 } } }
def v55 : CalRun :=
  {
    proc := 0,
    scope := false,
    allowGap := false,
    sysOnly := false,
    target := 3,
    phase := 3,
    standin := some 2,
    fail := 7 }
def st235 : State :=
  { fr with
    ctl := { frameAt := some 400, frameStamp := 5, commits := [{ unit := .corr 3, master := .host, stamp := 9 }] },
    cal := {
      state := 1,
      run := some {
        proc := 0,
        scope := false,
        allowGap := false,
        sysOnly := false,
        target := 3,
        phase := 3,
        standin := some 2,
        result := [(64, 5)] } } }
def v56 : CalRun :=
  {
    proc := 0,
    scope := false,
    allowGap := false,
    sysOnly := false,
    target := 3,
    phase := 3,
    standin := some 2,
    result := [(64, 5)] }
def st236 : State :=
  { fr with
    cal := {
      state := 1,
      run := some {
        proc := 0,
        scope := false,
        allowGap := false,
        sysOnly := false,
        target := 3,
        phase := 3,
        standin := some 2,
        result := [(64, 5)] } } }
def st237 : State :=
  { fr with
    cal := {
      state := 1,
      run := some {
        proc := 0,
        scope := false,
        allowGap := false,
        sysOnly := false,
        target := 3,
        phase := 4,
        standin := some 2 } },
    facets := [(3, { standin := some 2 })] }
def v57 : CalRun :=
  { proc := 0, scope := false, allowGap := false, sysOnly := false, target := 3, phase := 4, standin := some 2 }
def st238 : State :=
  { fr with
    cal := {
      state := 1,
      run := some {
        proc := 2,
        scope := false,
        allowGap := false,
        sysOnly := false,
        target := objDevice,
        phase := 3,
        result := [(32, 0x3F800001), (36, 0x3F800002)] } } }
def v58 : CalRun :=
  {
    proc := 2,
    scope := false,
    allowGap := false,
    sysOnly := false,
    target := objDevice,
    phase := 3,
    result := [(32, 0x3F800001), (36, 0x3F800002)] }
def st239 : State :=
  { fr with
    cal := {
      state := 1,
      run := some { proc := 6, scope := false, allowGap := false, sysOnly := false, target := 449, phase := 5 } },
    time := { tick := 2400000 } }
def st240 : State :=
  { fr with
    cal := {
      state := 1,
      run := some { proc := 6, scope := false, allowGap := false, sysOnly := false, target := 449, phase := 5 } } }
def st241 : State :=
  { fr with
    cal := {
      state := 1,
      run := some {
        proc := 8,
        scope := false,
        allowGap := false,
        sysOnly := false,
        target := 577,
        phase := 6,
        wrap := true,
        loaded := true,
        revs := 2 } } }
def v59 : CalRun :=
  {
    proc := 8,
    scope := false,
    allowGap := false,
    sysOnly := false,
    target := 577,
    phase := 6,
    wrap := true,
    loaded := true,
    revs := 2 }
def st242 : State :=
  { fr with
    cal := {
      state := 1,
      run := some {
        proc := 8,
        scope := false,
        allowGap := false,
        sysOnly := false,
        target := 577,
        phase := 6,
        wrap := true,
        revs := 2 } } }
def v60 : CalRun :=
  {
    proc := 8,
    scope := false,
    allowGap := false,
    sysOnly := false,
    target := 577,
    phase := 6,
    wrap := true,
    revs := 2 }
def st243 : State :=
  { fr with
    cal := {
      state := 1,
      run := some {
        proc := 7,
        scope := false,
        allowGap := false,
        sysOnly := false,
        target := 577,
        phase := 6,
        wrap := true,
        revs := 1,
        acc := [(5, 4, 2)] } } }
def v61 : CalRun :=
  {
    proc := 7,
    scope := false,
    allowGap := false,
    sysOnly := false,
    target := 577,
    phase := 6,
    wrap := true,
    revs := 1,
    acc := [(5, 4, 2)] }
def st244 : State :=
  { fr with
    cal := {
      state := 1,
      run := some { proc := 10, scope := false, allowGap := false, sysOnly := false, target := 0, phase := 3 },
      restore := [(6, 77), (8, 9)] } }
def v62 : CalRun :=
  { proc := 10, scope := false, allowGap := false, sysOnly := false, target := 0, phase := 3 }
def st245 : State :=
  { fr with
    cal := {
      state := 1,
      run := some { proc := 10, scope := false, allowGap := false, sysOnly := true, target := objDevice, phase := 3 },
      restore := [(6, 77), (8, 9)] } }
def v63 : CalRun :=
  { proc := 10, scope := false, allowGap := false, sysOnly := true, target := objDevice, phase := 3 }
def st246 : State :=
  { fr with
    cal := {
      state := 1,
      run := some { proc := 10, scope := false, allowGap := false, sysOnly := false, target := 0, phase := 3 } },
    ctl := {
      frameAt := some 400,
      frameStamp := 5,
      commits := [{ unit := .corr 0x1FFF, master := .host, stamp := 9 }] } }
def st247 : State :=
  { rdy with host := { fctSel := 3 } }
def st248 : State :=
  { fr with spare := { cmd := some (1, 0, 7, 3, 0), cmdStamp := 5 } }
def st249 : State :=
  { fr with
    spare := { cmd := some (2, 2, 7, 3, 0), cmdStamp := 5, eb := [(7, { state := 1, target := 3, pin := some 3 })] } }
def st250 : State :=
  { fr with spare := { cmd := some (3, 2, 7, 3, 0), cmdStamp := 5 } }
def st251 : State :=
  { fr with spare := { cmd := some (4, 0, 7, 3, 0), cmdStamp := 5, sb := [(7, { state := spSubst, target := 3 })] } }
def st252 : State :=
  { fr with spare := { cmd := some (5, 1, 3, 449, 0), cmdStamp := 5 } }
def st253 : State :=
  { fr with spare := { cmd := some (6, 4, 0, 0, 0), cmdStamp := 5 } }
def st254 : State :=
  { fr with spare := { cmd := some (7, 5, 2, 0, 1), cmdStamp := 5 } }
def st255 : State :=
  { fr with spare := { cmd := some (8, 5, 2, 0, 1), cmdStamp := 5, forbid := [true, true] } }
def st256 : State :=
  { rdy with spare := { ctl := 0x0007, sweepZ := 511 }, fpActive := [(449 * 32, 1)] }
def st257 : State :=
  { rdy with ctl := { shed := 1 } }
def v64 : IQ :=
  { i := 1/1000 }
def v65 : IQ :=
  { i := 0, q := 9 }
def st258 : State :=
  { rdy with
    time := { tick := 2080 },
    spare := { chks := [{ facet := 3, spare := 2 }], sb := [(2, { state := spChecking, target := 3 })] } }
def v66 : Check :=
  { facet := 3, spare := 2 }
def v67 : IQ :=
  { i := 0, q := 1/2 }
def v68 : IQ :=
  { i := 0, q := 1/1000 }
def st259 : State :=
  { rdy with
    time := { tick := 2080 },
    spare := { chks := [{ facet := 449, spare := 2 }], sz := [(2, { state := spChecking, target := 449 })] } }
def v69 : Check :=
  { facet := 449, spare := 2 }
def v70 : IQ :=
  { i := 0, q := 1 }
def v71 : IQ :=
  { i := 1, q := 1 }
def st260 : State :=
  { rdy with
    time := { tick := 4160 },
    fpActive := [(449 * 32, 1)],
    spare := {
      ctl := 0x0007,
      chks := [{ facet := 449, spare := 2, phase := 2 }],
      sz := [(2, { state := spLent, target := 449 })] } }
def v72 : Check :=
  { facet := 449, spare := 2, phase := 2 }
def v73 : IQ :=
  { i := 0, q := 5 }
def v74 : IQ :=
  { i := 1, q := 3 }
def st261 : State :=
  { rdy with
    time := { tick := 4160 },
    fpActive := [(96, 1)],
    spare := {
      ctl := 0x0007,
      chks := [{ facet := 3, spare := 2, phase := 3 }],
      sb := [(2, { state := spLent, target := 3 })] } }
def v75 : Check :=
  { facet := 3, spare := 2, phase := 3 }
def st262 : State :=
  { rdy with
    time := { tick := 4 },
    fpActive := [(96, 1)],
    spare := {
      ctl := 7,
      drv := [{ facet := 3, spare := 5, from_ := 0, ok := true }],
      eb := [(5, { state := spLent, target := 3 })] } }
def v76 : DrvCheck :=
  { facet := 3, spare := 5, from_ := 0, ok := true }
def st263 : State :=
  { rdy with
    time := { tick := 4 },
    fpActive := [(96, 1)],
    spare := {
      ctl := 6,
      drv := [{ facet := 3, spare := 5, from_ := 0, ok := true }],
      eb := [(5, { state := spLent, target := 3 })] } }
def st264 : State :=
  { rdy with
    time := { tick := 2080 },
    fpActive := [(96, 1)],
    spare := {
      ctl := 7,
      drv := [{ facet := 3, spare := 5, from_ := 0 }],
      eb := [(5, { state := spLent, target := 3 })] } }
def v77 : DrvCheck :=
  { facet := 3, spare := 5, from_ := 0 }
def st265 : State :=
  { rdy with
    time := { tick := 4 },
    fpActive := [(96, 1)],
    spare := {
      ctl := 7,
      drv := [{ facet := 3, spare := 5, from_ := 0 }],
      eb := [(5, { state := spLent, target := 3 })] } }
def st266 : State :=
  { rdy with spare := { failCntB := 8, refActive := 1 } }
def st267 : State :=
  { rdy with spare := { warnCnt := 4000 } }
def st268 : State :=
  { rdy with time := { tick := 5 }, spare := { rowHits := [(9, 0)], scrubFrames := 600000, scrubRead := 1048576 } }
def v78 : Instr :=
  .loupeDumpComplete true false
def st269 : State :=
  after (.loupeDumpComplete true false) st2
def st270 : State :=
  { rdy with fpActive := [(449 * 32, 1), (449 * 32 + 17, 32)] }
def st271 : State :=
  { rdy with fpActive := [(449 * 32, 1), (449 * 32 + 17, 32), (449 * 32 + 19, 64)] }
def st272 : State :=
  { rdy with budget := { usedLast := [5, 0, 0, 0, 0, 0, 0, 0] } }
def st273 : State :=
  { rdy with budget := { ovr := [5, 0, 0, 0, 0, 0, 0, 0] } }

theorem test_meets_step_runs_front_command :
    rdy.pending = [] :=
  by decide +kernel

theorem test_meets_step_keeps_life_invariant :
    State.reset.LifeInv ∧ step State.reset = Host.Outcome.next State.reset :=
  by and_intros <;> first | decide +kernel | rfl

theorem test_meets_dbg_lock_holds_until_power_on_reset :
    (rdy.directs Master.host 6 ∧ rdy.life.dbgLock = false ∧ (rdy.master Master.debug).clasp.isOpen = false ∧
     (rdy.master Master.debug).clasp.pend = false) ∧
    (exec v1 st1 = Host.Outcome.next st1 ∧ st1.life.dbgLock = true ∧ v1 ≠ Instr.powerOnReset) :=
  by and_intros <;> first | decide +kernel | rfl

theorem test_meets_fatal_ends_only_by_reset :
    st2.life.phase = Phase.fatal ∧ exec v2 st2 = Host.Outcome.next st3 :=
  by and_intros <;> first | decide +kernel | rfl

theorem test_meets_drives_start_only_at_a :
    st4.life.drivesOn = false ∧ exec Instr.referencesSettled st4 = Host.Outcome.next st5 ∧ st5.life.drivesOn = true :=
  by and_intros <;> first | decide +kernel | rfl

theorem test_meets_resets_keep_and_clear :
    v3.lowNs < 1000 ∧
    10000 ≤ v4.lowNs ∧
    (st2.life.phase = Phase.fatal ∧ st2.ctl.extest = false) ∧
    (rdy.directs Master.host 7 ∧ (4660 : Word) ≠ (42330 : Word)) :=
  by decide +kernel

theorem test_meets_boot_and_load_make_ready :
    (State.reset.life.phase = Phase.reset ∧
     (v5.dvdd < 620 ∨ v5.avdd5 < 4300 ∨ v5.avdd18 < 1500 ∨ (v5.iovdd < if v5.iosel = true then 2700 else 1450) ∨ State.reset.life.resetKind = 0 ∧ (v5.dvdd ≤ 660 ∨ v5.avdd5 ≤ 4500 ∨ v5.avdd18 ≤ 1620 ∨ v5.iovdd ≤ if v5.iosel = true then 2950 else 1600))) ∧
    (State.reset.life.phase = Phase.reset ∧ 660 < v6.dvdd ∧ 4500 < v6.avdd5 ∧ 1620 < v6.avdd18 ∧
     ((if v6.iosel = true then 2950 else 1600) < v6.iovdd)) ∧
    (st7.life.phase = Phase.booting ∧ st7.ctl.frameAt = some st7.tick ∧ st7.nvm.chosen = none ∧ st7.nvm.refused = 0) ∧
    (st8.life.phase = Phase.booting ∧ st8.ctl.frameAt = some st8.tick ∧ st8.nvm.chosen = none ∧
     st8.nvm.refused ≠ 0 ∧ st8.nvm.triedAt < st8.tick) ∧
    (st9.life.phase = Phase.booting ∧ st9.ctl.frameAt = some st9.tick ∧ st9.nvm.chosen = some 1 ∧
     st10 = { st9 with nvm := { st9.nvm with triedAt := st9.tick } } ∧
     (Instr.profileLoad = Instr.profileLoad ∧ st9.nvm.refused = 0 ∨ Instr.profileLoad = Instr.profileFallbackLoad ∧ st9.nvm.refused ≠ 0 ∧ st9.nvm.triedAt < st9.tick)) :=
  by and_intros <;> decide +kernel

theorem test_meets_start_of_acquisition :
    (st4.life.phase = Phase.ready ∧ st4.ctl.frameAt = some st4.tick ∧ st4.time.early = none) ∧
    (st11.life.phase = Phase.settled ∧ st11.time.carried = true ∧ st11.life.aTick + 8 ≤ st11.tick ∧
     st11.isFrame = true ∧ st11.spare.rowsNew = 0 ∧ st11.spare.rowsUsed < 160 ∧
     st11.spare.exhausted.contains 6 = false) :=
  by decide +kernel

theorem test_meets_fatal_error_and_its_dump :
    ((∀ (v : Supply), FatalClass.sram = FatalClass.supply v → supplyEffect v rdy.life.iosel false (BitVec.toNat (7 : BitVec 32)) = SupplyEffect.fatal) ∧
     rdy.life.phase ≠ Phase.fatal) ∧
    ((∀ (v : Supply), FatalClass.sram = FatalClass.supply v → supplyEffect v st12.life.iosel false (BitVec.toNat (7 : BitVec 32)) = SupplyEffect.fatal) ∧
     st12.life.phase = Phase.fatal ∧ st12.life.loupeValid = true) ∧
    (st2.life.phase = Phase.fatal ∧ st2.life.loupeValid = false) ∧
    (FatalClass.supply Supply.avdd5 = FatalClass.supply Supply.avdd5 ∧
     supplyEffect Supply.avdd5 rdy.life.iosel false (BitVec.toNat (4299 : BitVec 32)) ≠ SupplyEffect.fatal) ∧
    (st2.life.phase = Phase.fatal ∧ st2.life.fatalDone = false) ∧
    (st13.life.phase = Phase.fatal ∧ st13.life.fatalDone = true) ∧
    rdy.directs Master.host 15 ∧
    (st12.life.phase = Phase.fatal ∧
     (Master.debug = Master.debug ∨ Master.debug = Master.host ∧ st12.ctl.extest = false)) :=
  by and_intros <;> first | decide +kernel | (intro v h; cases h)

theorem test_meets_watchdog_and_service :
    rdy.directs Master.host 11 ∧
    (rdy.directs Master.debug 11 ∧ Master.debug ≠ Master.host) ∧
    (rdy.directs Master.host 12 ∧ 10 ≤ BitVec.toNat (10 : Word) ∧ BitVec.toNat (10 : Word) ≤ 6000) ∧
    (rdy.directs Master.host 12 ∧ (BitVec.toNat (6001 : Word) < 10 ∨ 6000 < BitVec.toNat (6001 : Word))) ∧
    (st14.ready = true ∧ st14.ctl.wdtFrom = some 0 ∧ 0 + 400 * BitVec.toNat st14.ctl.hostWdt ≤ st14.tick) ∧
    (st15.ready = true ∧ st15.ctl.svcPend = some 3 ∧ st15.due 3 = true ∧ st15.serviceDue = false ∧
     fld st15.cap.ctl 5 1 = 0 ∧ st15.host.clasp.isOpen = false) ∧
    (st16.ready = true ∧ st16.ctl.extest = false ∧ st16.ctl.svc = true ∧ st16.ctl.aliveInSvc = true) ∧
    (st17.ready = true ∧ st17.ctl.svcEndPend = some 3 ∧ st17.due 3 = true) :=
  by and_intros <;> decide +kernel

theorem test_meets_saves_to_nvm :
    (rdy.directs Master.host 6 ∧ rdy.nvm.saving = none ∧ rdy.saveTarget = (v7, v8)) ∧
    (st18.directs Master.host 6 ∧ st18.nvm.saving.isSome = true) ∧
    (st18.ready = true ∧ st18.nvm.saving = some 1 ∧
     st19 = { st18 with ctl := { st18.ctl with profBusy := false }, nvm := { st18.nvm with saving := none } }.putBank 1 65534 [st18.bankW 1 6, st18.bankW 1 7]) ∧
    (st20.nvm.prog = some (5, [(0, (7 : Word))]) ∧ 5 ≠ keyPage) ∧
    st21.nvm.prog = some (keyPage, v9) :=
  by and_intros <;> decide +kernel

theorem test_meets_register_write_reads_back :
    BitVec.toNat (121 : BitVec 7) ∈ plainRegs ∧ rdy.directs Master.host (BitVec.toNat (121 : BitVec 7)) ∧
     (255 : Word) &&& nowMask (BitVec.toNat (121 : BitVec 7)) = (0 : Word) :=
  by decide +kernel

theorem test_meets_reads_return_latch_and_clear :
    (rdy.reads Master.host (BitVec.toNat (16 : BitVec 7)) ∧
     BitVec.toNat (16 : BitVec 7) ∉ [18, 35, 62, 67, 84, 86, 105, 115, 127]) ∧
    rdy.reads Master.host 84 ∧
    (BitVec.toNat (62 : BitVec 7) ∈ [62, 86, 105] ∧ st22.reads Master.host (BitVec.toNat (62 : BitVec 7))) ∧
    st23.reads Master.host 18 ∧
    rdy.reads Master.host 67 ∧
    st24.reads Master.host 115 ∧
    (st25.reads Master.host 35 ∧ Store.wf (fun _ => { }) st25.facets = true) :=
  by decide +kernel

theorem test_meets_windows_read_and_write :
    (st26.ready = true ∧ (Master.host = Master.host → st26.ctl.extest = false) ∧
     st26.entry Master.host (winTarget 13) ≠ 0 ∧ (st26.master Master.host).winSpace = 13 ∧
     st26.cap.queue = [(7 : Word), (8 : Word)] ∧ st26.chargeQueue Master.host = some st27) ∧
    (st28.ready = true ∧ (Master.host = Master.host → st28.ctl.extest = false) ∧
     st28.entry Master.host (winTarget 13) ≠ 0 ∧ (st28.master Master.host).winSpace = 13 ∧ st28.cap.queue = []) ∧
    (st29.ready = true ∧ (Master.host = Master.host → st29.ctl.extest = false) ∧
     st29.entry Master.host (winTarget (st29.master Master.host).winSpace) ≠ 0 ∧
     (st29.master Master.host).winSpace < 13 ∧ st29.nvmBusy (st29.master Master.host).winSpace = true) ∧
    (st30.ready = true ∧ (Master.host = Master.host → st30.ctl.extest = false) ∧
     st30.entry Master.host (winTarget (st30.master Master.host).winSpace) ≠ 0 ∧
     (st30.master Master.host).winSpace < 13 ∧
     st30.winInside (st30.master Master.host).winSpace (st30.master Master.host).winAddr = false ∧
     st30.nvmBusy (st30.master Master.host).winSpace = false) ∧
    (st31.ready = true ∧ (Master.host = Master.host → st31.ctl.extest = false) ∧
     st31.entry Master.host (winTarget (st31.master Master.host).winSpace) ≠ 0 ∧
     (st31.master Master.host).winSpace < 13 ∧
     st31.winInside (st31.master Master.host).winSpace (st31.master Master.host).winAddr = true ∧
     st31.nvmBusy (st31.master Master.host).winSpace = false ∧
     st31.chargeWin Master.host (st31.master Master.host).winSpace (st31.master Master.host).winAddr = some st32) ∧
    (st33.owns Master.host 125 ∧ st33.winEntry Master.host 0 = 3 ∧
     (Master.host = Master.host → st33.ctl.svc = false) ∧ (st33.master Master.host).clasp.isOpen = false ∧
     (st33.master Master.host).winSpace = 0 ∧ fpIsParam 3 0 = true ∧ winValue 0 (3 * 32 + 0) = (0, 1) ∧
     (st33.master Master.host).winAddr = 3 * 32 + 0 ∧ st33.chargeWin Master.host 0 (3 * 32 + 0) = some st34) :=
  by and_intros <;> decide +kernel

theorem test_meets_cycles_without_effect :
    rdy.responds Master.host = true ∧
    rdy.life.dbgLock = false ∧
    st1.life.dbgLock = true :=
  by decide +kernel

theorem test_meets_clasps_open_commit_and_end :
    (rdy.owns Master.host 8 ∧ (rdy.master Master.host).clasp.isOpen = false ∧
     (rdy.master Master.host).clasp.pend = false) ∧
    (st35.owns Master.host 8 ∧
     ((st35.master Master.host).clasp.isOpen = true ∧ st35.tick < (st35.master Master.host).clasp.beginTick + 4000 ∨ (st35.master Master.host).clasp.isOpen = false ∧ (st35.master Master.host).clasp.pend = true)) ∧
    (st36.owns Master.host 8 ∧ (st36.master Master.host).clasp.isOpen = true ∧
     (st36.master Master.host).clasp.beginTick + 4000 ≤ st36.tick) ∧
    (st35.owns Master.host 8 ∧ (st35.master Master.host).clasp.isOpen = true ∧
     st35.tick < (st35.master Master.host).clasp.beginTick + 4000) ∧
    (st36.ready = true ∧ (st36.master Master.host).clasp.isOpen = true ∧
     (st36.master Master.host).clasp.beginTick + 4000 ≤ st36.tick) ∧
    (rdy.ready = true ∧
     ((rdy.master Master.host).clasp.isOpen = false ∨ rdy.tick < (rdy.master Master.host).clasp.beginTick + 4000)) :=
  by and_intros <;> decide +kernel

theorem test_meets_clasp_applies :
    (st37.ready = true ∧ (isRemote Master.host = true → ∀ p < 2, (st37.session p).commitReq = none) ∧
     (st37.master Master.host).clasp.pend = true ∧ st37.turn (st37.master Master.host).clasp.acceptStamp = true ∧
     st37.claspCode Master.host (st37.master Master.host).clasp ≠ 0) ∧
    (st38.ready = true ∧ (isRemote Master.canA = true → ∀ p < 2, (st38.session p).commitReq = none) ∧
     (st38.master Master.canA).clasp.pend = true ∧ st38.turn (st38.master Master.canA).clasp.acceptStamp = true ∧
     (st38.master Master.canA).clasp.full = true ∧ (st38.master Master.canA).clasp.writes = []) ∧
    (st39.ready = true ∧ (isRemote Master.canA = true → ∀ p < 2, (st39.session p).commitReq = none) ∧
     (st39.master Master.canA).clasp.pend = true ∧ st39.turn (st39.master Master.canA).clasp.acceptStamp = true ∧
     (st39.master Master.canA).clasp.full = false ∧ (st39.master Master.canA).clasp.writes = []) ∧
    (st40.ready = true ∧ (isRemote Master.host = true → ∀ p < 2, (st40.session p).commitReq = none) ∧
     (st40.master Master.host).clasp.pend = true ∧ st40.turn (st40.master Master.host).clasp.acceptStamp = true ∧
     (st40.master Master.host).clasp.full = false ∧
     (st40.master Master.host).clasp.writes = [{ tgt := Target.reg 121 0, val := (18 : Word) }] ∧
     2 ≤ st40.entry Master.host 7 ∧
     st40.conflicts Master.host (st40.master Master.host).clasp.beginStamp (CUnit.reg 121 0) = true) ∧
    (st41.ready = true ∧ (isRemote Master.host = true → ∀ p < 2, (st41.session p).commitReq = none) ∧
     (st41.master Master.host).clasp.pend = true ∧ st41.turn (st41.master Master.host).clasp.acceptStamp = true ∧
     (∀ e ∈ v10, e.1 < 512 ∧ e.2.1 < 32 ∧ fpIsParam e.1 e.2.1 = true ∧ winValue 0 (e.1 * 32 + e.2.1) = (0, 1)) ∧
     v11 = { tgt := Target.reg 121 0, val := (18 : Word) } :: List.map (fun e => { tgt := Target.win 0 (e.1 * 32 + e.2.1) e.2.2.1, val := e.2.2.2 }) v10 ++ [{ tgt := Target.reg 123 0, val := (52 : Word) }] ∧
     (st41.master Master.host).clasp.writes = v11 ∧
     (∀ n ∈ claspFacets v11, onlyRange n (st41.blkA n) (st41.claspBlk v11 n) = false) ∧
     st41.claspCode Master.host (st41.master Master.host).clasp = 0) ∧
    (st42.ready = true ∧ (st42.session 1).commitReq = some { node := (9 : BitVec 8) } ∧
     (st42.session 1).waiting = [] ∧ (st42.master (portMaster 1)).clasp.pend = true ∧
     st42.turn (st42.master (portMaster 1)).clasp.acceptStamp = true) :=
  by and_intros <;> decide +kernel

theorem test_meets_open_clasp_stages_and_bezel_denies :
    (BitVec.toNat (121 : BitVec 7) ∈ plainRegs ∧ st35.ready = true ∧ st35.sessionOk Master.host = true ∧
     (Master.host = Master.host → st35.ctl.extest = false ∧ st35.ctl.svc = false) ∧
     (st35.master Master.host).clasp.isOpen = true ∧
     2 ≤ st35.entry Master.host (regTarget (BitVec.toNat (121 : BitVec 7))) ∧
     (18 : Word) &&& nowMask (BitVec.toNat (121 : BitVec 7)) = (0 : Word)) ∧
    (BitVec.toNat (121 : BitVec 7) ∈ plainRegs ∧ 3 < BitVec.toNat (121 : BitVec 7) ∧ st43.ready = true ∧
     st43.sessionOk Master.canA = true ∧ Master.canA ≠ Master.host ∧
     st43.entry Master.canA (regTarget (BitVec.toNat (121 : BitVec 7))) < 2) ∧
    (BitVec.toNat (121 : BitVec 7) ∈ plainRegs ∧ 3 < BitVec.toNat (121 : BitVec 7) ∧ st43.ready = true ∧
     st43.sessionOk Master.canA = true ∧ Master.canA ≠ Master.host ∧
     st43.entry Master.canA (regTarget (BitVec.toNat (121 : BitVec 7))) = 0) :=
  by and_intros <;> decide +kernel

theorem test_meets_budgets_and_shedding :
    (rdy.directs Master.host 60 ∧ BitVec.toNat (50000 : Word) ≤ 50000 ∧
     (v12 = (List.mapIdx (fun i x => if i = (rdy.master Master.host).budgetSel then 4 * BitVec.toNat (50000 : Word) else Store.get x rdy.budget.staged i) rdy.budget.set).sum)) ∧
    st44.ctl.loadFrames < 100 ∧
    (st45.ready = true ∧ st45.ctl.shed ≤ 4 ∧ 100 ≤ st45.ctl.loadFrames) :=
  by decide +kernel

theorem test_meets_ticks_and_frames :
    rdy.changes = false ∧
    State.reset.ready = false ∧
    st46.changes = true ∧
    (st47.ready = true ∧ st47.isFrame = true ∧ st47.ctl.frameAt ≠ some st47.tick ∧
     (∀ p < 2, (st47.session p).waiting = [])) ∧
    (st23.isFrame = false ∨ st23.ctl.frameAt = some st23.tick) :=
  by decide +kernel

theorem test_meets_outputs_form_wait_or_are_lost :
    (st48.ready = true ∧ (st48.facet 3).pend = [v13] ∧ v13.formTick ≤ st48.tick ∧
     (∀ (c : ℕ), v13.formed = some c → st48.tick ≤ c + 4) ∧ v13.withheld = false ∧ st48.sourceDue 3 = false ∧
     (st48.formedAt v13 ≠ st48.tick ∨ st48.boundaryOpen = false) ∧ st48.spend actAcq (outTransfers 3) = some st49) ∧
    (st50.ready = true ∧ (st50.facet 3).pend = [v13] ∧ v13.formTick ≤ st50.tick ∧
     (∀ (c : ℕ), v13.formed = some c → st50.tick ≤ c + 4) ∧ v13.withheld = false ∧ st50.sourceDue 3 = false ∧
     (st50.formedAt v13 ≠ st50.tick ∨ st50.boundaryOpen = false) ∧ st50.spend actAcq (outTransfers 3) = none) ∧
    (st51.ready = true ∧ (st51.facet 449).pend = [] ∧ (st51.facet 449).tickPend = [v14] ∧
     v14.formTick ≤ st51.tick ∧ (∀ (c : ℕ), v14.formed = some c → st51.tick ≤ c + 4) ∧
     st51.spend actAcq (outTransfers 449) = some st52) ∧
    (st53.ready = true ∧ (st53.facet 449).pend = [] ∧ (st53.facet 449).tickPend = [v14] ∧
     v14.formTick ≤ st53.tick ∧ (∀ (c : ℕ), v14.formed = some c → st53.tick ≤ c + 4) ∧
     st53.spend actAcq (outTransfers 449) = none) ∧
    (st54.ready = true ∧ (st54.facet 3).pend = [v15] ∧ v15.formTick ≤ st54.tick ∧
     (∀ (c : ℕ), v15.formed = some c → st54.tick ≤ c + 4) ∧ v15.withheld = true) ∧
    (st55.ready = true ∧ st55.unset = false ∧ (st55.facet 449).pend = [] ∧ (st55.facet 449).tickPend = [v14] ∧
     v14.formed.getD v14.formTick + 4 ≤ st55.tick ∧ v14.live = true) ∧
    (st48.ready = true ∧ st48.unset = false ∧ (st48.facet 3).pend = [v13] ∧
     v13.formed.getD v13.formTick + 4 ≤ st48.tick ∧ v13.withheld = false ∧ v13.live = true ∧ 0 < v13.nout) ∧
    (st56.ready = true ∧ scheduled 449 (st56.blkA 449) = true ∧ (st56.facet 449).anchor ≤ st56.tick) ∧
    (st57.ready = true ∧ scheduled 449 (st57.blkA 449) = true ∧
     st57.tick = (st57.facet 449).anchor + 1 * cycleLen (st57.blkA 449) ∧ (st57.facet 449).cycles + 1 = 1 ∧
     (∀ p ∈ (st57.facet 449).tickPend, p.aperture < (st57.facet 449).anchor ∨ st57.tick ≤ p.aperture) ∧
     st57.sourceDue 449 = false ∧ st57.boundaryOpen = false) :=
  by and_intros <;> decide +kernel

theorem test_meets_applies_are_checked_and_take_effect :
    (st58.directs Master.host 33 ∧
     ([3] = if false = true then st58.changedFacets else [(st58.master Master.host).fctSel]) ∧
     st58.refusal (st58.candApply [3]) [3] false = some (v16, v17)) ∧
    (st59.directs Master.host 33 ∧
     ([3] = if false = true then st59.changedFacets else [(st59.master Master.host).fctSel]) ∧
     st59.refusal (st59.candApply [3]) [3] false = none) ∧
    (st60.ready = true ∧ st60.applies = [v18] ∧ st60.turn v18.stamp = true ∧
     (v18.facets.any fun n => st60.conflicts Master.host v18.stamp (CUnit.facet n)) = true) ∧
    (st61.ready = true ∧ st61.applies = [v18] ∧ st61.turn v18.stamp = true ∧
     (∀ n ∈ v18.facets, st61.conflicts Master.host v18.stamp (CUnit.facet n) = false ∧ (onlyRange n (st61.blkA n) fun w => Store.get (st61.fpA n w) v18.words (n * 32 + w)) = false)) ∧
    (st62.ready = true ∧ st62.applies = [v19] ∧ st62.turn v19.stamp = true ∧ v19.facets = [3] ∧
     st62.conflicts Master.host v19.stamp (CUnit.facet 3) = false ∧
     (onlyRange 3 (st62.blkA 3) fun w => Store.get (st62.fpA 3 w) v19.words (3 * 32 + w)) = true ∧
     ({ st62 with applies := [] } : State).rangeSpare 3 = none) ∧
    (st63.ready = true ∧ st63.applies = [v19] ∧ st63.turn v19.stamp = true ∧ v19.facets = [3] ∧
     st63.conflicts Master.host v19.stamp (CUnit.facet 3) = false ∧
     (onlyRange 3 (st63.blkA 3) fun w => Store.get (st63.fpA 3 w) v19.words (3 * 32 + w)) = true ∧
     ({ st63 with applies := [] } : State).rangeSpare 3 = some 0) :=
  by and_intros <;> decide +kernel

theorem test_meets_range_change_and_facet_read :
    (st64.ready = true ∧ (st64.facet 3).rangeChg = some v20 ∧ v20.left = 0 ∧ st64.tick % (st64.blkA 3).nout = 0 ∧
     v20.phase = 1 ∧ st64.syncDue = false) ∧
    (st65.ready = true ∧ (st65.facet 3).rangeChg = some v21 ∧ v21.left = 0 ∧ st65.tick % (st65.blkA 3).nout = 0 ∧
     v21.phase = 2 ∧ v21.freeAt = none) ∧
    (rdy.directs Master.host 36 ∧ BitVec.toNat (4 : BitVec 3) ≤ 4) ∧
    (st66.directs Master.host 36 ∧ fld (5 : Word) 9 3 ≤ 4 ∧ fld (5 : Word) 15 1 = 0) ∧
    (st66.ready = true ∧ st66.fctRead.pend = true) :=
  by and_intros <;> decide +kernel

theorem test_meets_faults_and_protection :
    (st67.ready = true ∧ (st67.facet 3).sig.inSpan = false ∧ (st67.facet 3).isolated = false) ∧
    (st68.ready = true ∧ (st68.facet 3).isolated = true ∧ 8 ≤ (st68.facet 3).inSpanCnt) ∧
    (st69.ready = true ∧ (st69.blkA 3).type ≠ 0 ∧
     (Cause.overvolt ≠ Cause.snsOpen ∧ (st69.enterNeed Cause.overvolt ≤ Store.get 0 (st69.facet 3).enterCnt (causeBit Cause.overvolt) ∨ st69.enterNeed Cause.overvolt ≤ Store.get 0 (st69.facet 3).enterCnt (16 + causeBit Cause.overvolt)) ∨ Cause.overvolt = Cause.snsOpen ∧ ∃ j ∈ activeSlots (st69.blkA 3), (Store.get (0, 0, false) (st69.facet 3).sns j).2.2 = true) ∧
     (st69.facet 3).faultNow &&& w16 (2 ^ causeBit Cause.overvolt) = (0 : Word)) ∧
    (st70.ready = true ∧
     (Cause.cmwLo ≠ Cause.snsOpen ∧ st70.leaveNeed Cause.cmwLo ≤ Store.get 0 (st70.facet 3).leaveCnt (causeBit Cause.cmwLo) ∧ st70.standsNow 3 Cause.cmwLo = false ∨ Cause.cmwLo = Cause.snsOpen ∧ (∀ j ∈ activeSlots (st70.blkA 3), (Store.get (0, 0, false) (st70.facet 3).sns j).2.2 = false) ∧ ∃ j ∈ activeSlots (st70.blkA 3), 8 ≤ (Store.get (0, 0, false) (st70.facet 3).sns j).2.1)) ∧
    (st71.ready = true ∧ (st71.facet 3).alarmFrom = some 0 ∧ 0 + 4000 ≤ st71.tick) :=
  by and_intros <;> decide +kernel

theorem test_meets_rail_and_tones :
    (st72.ready = true ∧ 8 ≤ st72.exc.overCnt ∧ st72.exc.railOver = false) ∧
    (st73.ready = true ∧ 8 ≤ st73.exc.underCnt) ∧
    (st74.ready = true ∧ 2400 ≤ st74.exc.railNow ∧ st74.exc.fold = false) ∧
    (st75.ready = true ∧ st75.exc.railNow < 2400) ∧
    (st76.ready = true ∧ st76.exc.exvdd < 11500 ∧ st76.any10V = true ∧ st76.exc.headroom = false) ∧
    (st77.ready = true ∧ (11500 ≤ st77.exc.exvdd ∨ st77.any10V = false)) ∧
    st78.ready = true ∧
    (st79.ready = true ∧ fld st79.exc.ztone 0 1 = 1 ∧ st79.exc.lock = false) ∧
    (st80.ready = true ∧ st80.exc.resume = true ∧ st80.due st80.exc.resumeStamp = true) :=
  by and_intros <;> decide +kernel

theorem test_meets_coefficients_and_curves :
    (st81.directs Master.host 52 ∧ BitVec.toNat (10 : BitVec 4) ≤ 10) ∧
    (st82.directs Master.host 53 ∧
     (st82.bankCause (b2n true) (if false = true then st82.chain.shStaged else st82.chain.shActive) ≠ 0)) ∧
    (rdy.directs Master.host 53 ∧
     (rdy.bankCause (b2n true) (if false = true then rdy.chain.shStaged else rdy.chain.shActive) = 0)) ∧
    (st83.ready = true ∧ st83.chain.fade = none ∧ st83.chain.queue = some v22 ∧ v22.atSync = false ∧
     st83.due st83.chain.queueStamp = true ∧ st83.chain.fadeBar ≠ some st83.tick ∧ st83.stepsDone = true) ∧
    (st84.ready = true ∧ st84.chain.fade = some v23 ∧
     (List.filter (fun n => !scheduled n (st84.blkA n)) allFacets).all (st84.fadeDoneOn v23) = true) ∧
    (st85.owns Master.host 125 ∧ st85.winEntry Master.host 12 = 3 ∧
     (Master.host = Master.host → st85.ctl.svc = false) ∧ (st85.master Master.host).clasp.isOpen = false ∧
     st85.chargeWin Master.host 12 (3 * 256) = some st86) ∧
    (st87.ready = true ∧ List.find? (fun x => x.1 == 3) st87.curvePend = some (3, 2, Master.host) ∧
     st87.turn 2 = true) :=
  by and_intros <;> decide +kernel

theorem test_meets_synchronising_resets :
    st6.directs Master.host 28 ∧
    (st88.ctl.extest = false ∧ st88.ready = true ∧ st88.unset = false ∧ fld st88.time.syncCtl 3 1 = 1 ∧
     (fld st88.time.syncCtl 4 1 == 1) = true ∧ st88.time.syncEdge = none) ∧
    (st88.ctl.extest = false ∧ st88.ready = true ∧ st88.unset = false ∧
     (fld st88.time.syncCtl 3 1 = 0 ∨ (fld st88.time.syncCtl 4 1 == 1) ≠ true ∨ 999 < 1000)) ∧
    (st89.ready = true ∧ List.filter (fun r => decide (r.1 ≤ st89.tick)) st89.time.syncReq = [(400, 1), (400, 0)]) :=
  by and_intros <;> decide +kernel

theorem test_meets_timebase_is_steered :
    (st90.ctl.extest = false ∧ st90.ready = true ∧ fld st90.time.ctl 0 1 = 1 ∧
     (fld st90.time.ctl 1 1 == 1) = false ∧
     (∀ (l : ℕ), st90.time.ppsLast = some l → l + 900000000 ≤ st90.nowNs 5000) ∧ st90.errNs = some 250 ∧
     (st90.time.state ≠ TbState.lockedPps ∨ ((↑(st90.nowNs 5000) : ℤ) - (↑((st90.nowNs 5000 + 500000000) / 1000000000 * 1000000000) : ℤ)).natAbs ≤ 10000)) ∧
    (st90.ctl.extest = false ∧ st90.ready = true ∧ fld st90.time.ctl 0 1 = 1 ∧
     (fld st90.time.ctl 1 1 == 1) = false ∧
     (∀ (l : ℕ), st90.time.ppsLast = some l → l + 900000000 ≤ st90.nowNs 10001) ∧ st90.errNs = some 250 ∧
     st90.time.state = TbState.lockedPps ∧
     10000 < ((↑(st90.nowNs 10001) : ℤ) - (↑((st90.nowNs 10001 + 500000000) / 1000000000 * 1000000000) : ℤ)).natAbs) ∧
    (st91.ready = true ∧ st91.time.src = 1 ∧ st91.time.ppsLast = some 0 ∧ 0 + 3000000000 < st91.nowNs 250000 ∧
     (∀ q ∈ st91.refPorts, (st91.refRx q).pairs = 0)) ∧
    (st92.ctl.extest = false ∧ st92.ready = true ∧ st93 = st92.frameReceived 0 v24 100 ∧ st93.onBusOk 0 = true ∧
     (st93.canPort 0).mode ≠ 4 ∧ idType v24 = 0 ∧ st93.refSel 0 = true ∧ v24.rtr = false ∧ v24.ide = true ∧
     v24.fdf = true ∧ 24 ≤ v24.data.length ∧ (st93.refTx 0).sending = false ∧ (st93.refRx 0).last = none) ∧
    (st94.ready = true ∧ (st94.refRx 0).last = some (1, 0) ∧ st94.refSel 0 = true ∧ (st94.refRx 0).missed < 3 ∧
     0 + (st94.refRx 0).period * 1500000 + (st94.refRx 0).missed * (st94.refRx 0).period * 1000000 < st94.nowNs 250000) ∧
    (st95.ready = true ∧ (st95.refTx 0).sending = true ∧ st95.mayRef 0 = true ∧
     st95.tick % (4 * BitVec.toNat st95.time.refPeriod) = 0 ∧ (st95.refTx 0).sentAt ≠ some st95.tick) ∧
    (st96.ready = true ∧ (st96.refTx 0).sending = false ∧ st96.mayRef 0 = true ∧
     st96.tick % (4 * BitVec.toNat st96.time.refPeriod) = 0 ∧
     (fld st96.time.refCtl 0 2 = 1 ∧ (st96.refRx 0).lost = true ∧ (st96.refTx 0).listen = false ∨ fld st96.time.refCtl 0 2 = 2 ∧ (st96.refTx 0).quietFrom + st96.listenTicks ≤ st96.tick)) :=
  by and_intros <;> decide +kernel

theorem test_meets_the_count_changes_where_decided :
    (st97.life.phase = Phase.settled ∧ st97.time.state = TbState.unset ∧ fld st97.time.ctl 2 1 = 1 ∧
     st97.time.unsetFrom + 40000 ≤ st97.tick ∧ st97.time.cont = none) ∧
    (st98.ready = true ∧ st98.time.cont = some (8000, 500, TbState.free, 0) ∧ st98.tick = 500) ∧
    (st99.ready = true ∧ st99.time.step = some (400, 500, (0 : ℤ)) ∧ st99.tick = 500) :=
  by decide +kernel

theorem test_meets_mode_follows_the_policy :
    (st100.ready = true ∧ st100.ctl.frameAt = some st100.tick ∧ st100.commitStamps.any st100.due = false ∧
     st100.modeWanted.1 ≠ st100.ctl.tally) ∧
    (st101.ready = true ∧ st101.ctl.frameAt = some st101.tick ∧ st101.commitStamps.any st101.due = false ∧
     st101.modeWanted.1 = st101.ctl.tally) ∧
    (st102.ready = true ∧ st102.ctl.frameAt = some st102.tick ∧ st102.commitStamps.any st102.due = false ∧
     st102.ctl.modeRun = true ∧ st102.ctl.modeSel = 1 ∧ st102.ctl.tally = true) ∧
    (st100.ready = true ∧ st100.ctl.frameAt = some st100.tick ∧ st100.commitStamps.any st100.due = false ∧
     st100.ctl.modeRun = true ∧ st100.ctl.modeSel = 2 ∧ st100.ctl.tally = false) ∧
    (st103.ready = true ∧ st103.ctl.frameAt = some st103.tick ∧ st103.commitStamps.any st103.due = false ∧
     st103.ctl.modeRun = true ∧ st103.ctl.modeSel = 0 ∧ st103.ctl.tally = false ∧
     fld st103.ctl.tallyCtl (10 + 1) 1 = 1 ∧ (st103.port 1).fastFrom = some 10 ∧ 10 + 8000 ≤ st103.tick) ∧
    (st104.ready = true ∧ st104.ctl.frameAt = some st104.tick ∧ st104.commitStamps.any st104.due = false ∧
     st104.ctl.modeRun = true ∧ st104.ctl.modeSel = 0 ∧ st104.ctl.tally = true ∧
     (∀ p < 4, fld st104.ctl.tallyCtl (10 + p) 1 = 1 → (st104.port p).st ≠ PosState.valid ∨ ∃ b, (st104.port p).slowFrom = some b ∧ b + 20000 ≤ st104.tick)) ∧
    (st105.ready = true ∧ st105.ctl.frameAt = some st105.tick ∧ st105.commitStamps.any st105.due = false ∧
     st105.ctl.modeRun = true ∧ st105.ctl.modeSel = 0 ∧ st105.ctl.tally = true ∧
     fld st105.ctl.tallyCtl (10 + 1) 1 = 1 ∧ (st105.port 1).st = PosState.valid ∧
     (∀ (b : ℕ), (st105.port 1).slowFrom = some b → st105.tick < b + 20000)) ∧
    (st106.ready = true ∧ st106.ctl.frameAt = some st106.tick ∧ st106.commitStamps.any st106.due = false ∧
     st106.ctl.modeRun = false ∧ st106.ctl.tally = true) :=
  by and_intros <;> decide +kernel

theorem test_meets_position_ports_count_and_identify :
    (st107.ctl.extest = false ∧ st107.ready = true ∧ fld (st107.port 2).cfgAct 0 1 = 1 ∧
     (st107.port 2).filterNs ≤ 1000 ∧ (st107.port 2).change v25 = some (QuadEdge.edge false true) ∧
     (st107.port 2).tooClose (QuadEdge.edge false true) (st107.nowNs 600) = false) ∧
    (st107.ctl.extest = false ∧ st107.ready = true ∧ fld (st107.port 2).cfgAct 0 1 = 1 ∧
     (st107.port 2).filterNs ≤ 1000 ∧ (st107.port 2).change v26 = some v26 ∧
     (st107.port 2).tooClose v26 (st107.nowNs 600) = true) ∧
    (rdy.ctl.extest = false ∧ rdy.ready = true ∧ (rdy.port 2).filterNs ≤ 1000 ∧
     (rdy.port 2).change v26 = some v26 ∧ fld (rdy.port 2).cfgAct 0 1 = 0) ∧
    (st108.ctl.extest = false ∧ st108.ready = true ∧
     (10 < (st108.port 2).filterNs ∨ (st108.port 2).change v27 = none)) ∧
    (st109.ctl.extest = false ∧ st109.ready = true ∧ 10 < (st109.port 2).filterNs) ∧
    (st110.ctl.extest = false ∧ st110.ready = true ∧ (st110.port 2).filterNs ≤ 1000 ∧
     ((st110.port 2).pzGlitch = some !false ∨ fld (st110.port 2).cfgAct 0 1 = 0 ∨ (st110.port 2).st = PosState.off ∨ (fld (st110.port 2).cfgAct 2 1 == 1) ≠ false ∨ (st110.port 2).dead.isSome = true)) ∧
    (st111.ctl.extest = false ∧ st111.ready = true ∧ (st111.port 2).filterNs ≤ 1000 ∧
     fld (st111.port 2).cfgAct 0 1 = 1 ∧ (st111.port 2).st = PosState.seeking ∧ (st111.port 2).next = none ∧
     (fld (st111.port 2).cfgAct 2 1 == 1) = false ∧ (st111.port 2).dead = none ∧
     (st111.port 2).pzGlitch ≠ some !false ∧
     List.filter ((st111.port 2).matchSig ((st111.port 2).withPulse (st111.port 2).odo)) (List.range (min (st111.port 2).cfgA.nmark 64)) = [1]) ∧
    (st112.ctl.extest = false ∧ st112.ready = true ∧ (st112.port 2).filterNs ≤ 1000 ∧
     fld (st112.port 2).cfgAct 0 1 = 1 ∧ (st112.port 2).st = PosState.valid ∧ (st112.port 2).next = none ∧
     (fld (st112.port 2).cfgAct 2 1 == 1) = false ∧ (st112.port 2).dead = none ∧
     (st112.port 2).pzGlitch ≠ some !false ∧
     v28 = circ (st112.port 2).len ((st112.port 2).u - (↑((st112.port 2).cfgA.mark (st112.port 2).want) : ℚ)) ∧
     rabs v28 * (200 : ℚ) ≤ (↑((st112.port 2).cfgA.ival (st112.port 2).want) : ℚ) ∧
     (st112.port 2).matchSig ((st112.port 2).withPulse (st112.port 2).odo) (st112.port 2).want = true) ∧
    ((st113.port 2).filterNs ≤ 1000 ∧ st113.ctl.extest = false ∧ st113.ready = true ∧
     fld (st113.port 2).cfgAct 0 1 = 1 ∧ (st113.port 2).st = PosState.valid ∧ (st113.port 2).next = none ∧
     (fld (st113.port 2).cfgAct 2 1 == 1) = false ∧ (st113.port 2).dead = none ∧
     (st113.port 2).pzGlitch ≠ some !false ∧
     (↑((st113.port 2).cfgA.ival (st113.port 2).want) : ℚ) < rabs (circ (st113.port 2).len ((st113.port 2).u - (↑((st113.port 2).cfgA.mark (st113.port 2).want) : ℚ))) * (200 : ℚ)) ∧
    (st114.ready = true ∧ (st114.port 2).st = PosState.valid ∧ (st114.port 2).next = none ∧
     (↑((st114.port 2).cfgA.ival (st114.port 2).want) : ℚ) / (200 : ℚ) < (st114.port 2).beyond) :=
  by and_intros <;> decide +kernel

theorem test_meets_port_blocks_activate :
    st115.directs Master.host 65 ∧
    (st116.ready = true ∧ (st116.port 2).actPend = some (3, Master.host) ∧ st116.turn 3 = true) ∧
    (st117.directs Master.host 70 ∧ (st117.port (st117.master Master.host).posSel).cfgA.revSrc = 0 ∧
     (st117.port (st117.master Master.host).posSel).st ≠ PosState.off) ∧
    (st115.directs Master.host 70 ∧
     ((st115.port (st115.master Master.host).posSel).cfgA.revSrc ≠ 0 ∨ (st115.port (st115.master Master.host).posSel).st = PosState.off)) :=
  by decide +kernel

theorem test_meets_beads_open_and_close :
    (rdy.directs Master.host 73 ∧ ({ rdy.cand with mask := BitVec.toNat (3 : BitVec 4) } : Cand).needSum ≤ 48) ∧
    (st118.directs Master.host 73 ∧
     48 < ({ st118.cand with mask := BitVec.toNat (15 : BitVec 4) } : Cand).needSum ∧
     fld st118.bead.ctl 0 4 ≠ BitVec.toNat (15 : BitVec 4)) ∧
    (st119.ready = true ∧ st119.ctl.frameAt = some st119.tick ∧ st119.bead.beads = [v29] ∧ v29.port = 2 ∧
     v29.rev = 5 ∧ v29.idx = 3 ∧
     (v29.forced = some (3, 400) ∧ 400 ≤ st119.tick ∨ v29.forced = none ∧ st119.beadDone v29 = true ∧ 3 = 0) ∧
     st119.bead.closing = [] ∧ st119.spend actBead 8 = some st120) ∧
    (st121.ready = true ∧ st121.ctl.frameAt = some st121.tick ∧ st121.bead.beads = [v29] ∧ v29.port = 2 ∧
     v29.rev = 5 ∧ v29.idx = 3 ∧
     (v29.forced = some (3, 400) ∧ 400 ≤ st121.tick ∨ v29.forced = none ∧ st121.beadDone v29 = true ∧ 3 = 0) ∧
     (st121.bead.closing ≠ [] ∨ st121.spend actBead 8 = none)) ∧
    (st122.ready = true ∧ st122.bead.beads.length < 48 ∧ (st122.beadPort 2).wait = [v30]) :=
  by and_intros <;> decide +kernel

theorem test_meets_tare_is_learned_and_loaded :
    (st123.directs Master.host 76 ∧ (st123.bead.tareState = 1 ∨ st123.bead.tareState = 2)) ∧
    (st124.directs Master.host 76 ∧ st124.cal.run = some v31 ∧ (v31.proc = 7 ∨ v31.proc = 8) ∧
     v31.target = 576 + BitVec.toNat (1 : BitVec 2)) ∧
    (rdy.directs Master.host 76 ∧
     (∀ (r : CalRun), rdy.cal.run = some r → r.proc ≠ 7 ∧ r.proc ≠ 8 ∨ r.target ≠ 576 + BitVec.toNat (1 : BitVec 2)) ∧
     rdy.bead.tareState ≠ 1 ∧ rdy.bead.tareState ≠ 2 ∧ (rdy.port (BitVec.toNat (1 : BitVec 2))).st ≠ PosState.valid) ∧
    (st125.directs Master.host 76 ∧
     (∀ (r : CalRun), st125.cal.run = some r → r.proc ≠ 7 ∧ r.proc ≠ 8 ∨ r.target ≠ 576 + BitVec.toNat (1 : BitVec 2)) ∧
     st125.bead.tareState ≠ 1 ∧ st125.bead.tareState ≠ 2 ∧
     (st125.port (BitVec.toNat (1 : BitVec 2))).st = PosState.valid ∧
     st125.tareRoom (BitVec.toNat (1 : BitVec 2)) = true ∧ st125.loadOf (BitVec.toNat (1 : BitVec 2)) ≠ []) ∧
    (st126.directs Master.host 76 ∧ (st126.bead.tareState = 1 ∨ st126.bead.tareState = 2)) ∧
    (st127.directs Master.host 76 ∧ st127.bead.tareState ≠ 1 ∧ st127.bead.tareState ≠ 2) ∧
    (st128.ready = true ∧ st128.bead.tareState = 1 ∧ st128.bead.tareWrap.isSome = true) ∧
    (st129.ready = true ∧ st129.bead.tareState = 2 ∧ st129.bead.tareRevs ≤ st129.bead.tareDone) ∧
    (st130.owns Master.host 125 ∧ st130.winEntry Master.host 4 = 3 ∧
     (Master.host = Master.host → st130.ctl.svc = false) ∧ (st130.master Master.host).clasp.isOpen = false ∧
     st130.chargeWin Master.host 4 (1 * 262144 + 258372) = some st131 ∧ st130.bead.tareState ≠ 1 ∧
     st130.bead.tareState ≠ 2) ∧
    (st132.ready = true ∧ (st132.port 1).tareLoad = true ∧ (st132.beadPort 1).wrapSeen = true) :=
  by and_intros <;> decide +kernel

theorem test_meets_gaps_are_recorded :
    (st133.ready = true ∧ st133.msg.losses = v32 ++ [v33] ∧ (∀ l ∈ v32, l.over st133.tick = false) ∧
     (v33.until_ < st133.tick ∨ 4000 ≤ v33.len ∨ v33.cause ∈ [2, 6, 7])) ∧
    ((st134.canPort 0).held = some v34 ∧ st134.hasRoom 0 MsgType.gap = true ∧ st134.spend actEgr 3 = some st135) ∧
    ((st136.canPort 0).held = some v34 ∧ st136.hasRoom 0 MsgType.gap = false) ∧
    ((st137.canPort 0).held = some v34 ∧ st137.hasRoom 0 MsgType.gap = true ∧ st137.spend actEgr 3 = none) :=
  by decide +kernel

theorem test_meets_triggers_and_arming :
    (rdy.directs Master.host 80 ∧ ((List.range 8).any fun i => (rdy.trgState i).bad) = false ∧ rdy.trg.en = false) ∧
    (st138.directs Master.host 80 ∧ ((List.range 8).any fun i => (st138.trgState i).bad) = true) ∧
    st139.directs Master.host 80 ∧
    (rdy.ctl.extest = false ∧ rdy.ready = true) ∧
    (st140.directs Master.host 87 ∧ st140.csFirst ≤ st140.csLast ∧ st140.csLast ≤ 511 ∧ st140.unset = false ∧
     (st140.cap.st = CapState.idle ∨ st140.cap.st = CapState.hold)) ∧
    (rdy.directs Master.host 87 ∧ rdy.csFirst ≤ rdy.csLast ∧ rdy.csLast ≤ 511 ∧ rdy.unset = true) ∧
    (st141.directs Master.host 87 ∧ st141.csFirst ≤ st141.csLast ∧ st141.csLast ≤ 511 ∧ st141.unset = false ∧
     (st141.cap.st = CapState.fill ∨ st141.cap.st = CapState.post ∨ st141.cap.st = CapState.stream)) ∧
    (st142.directs Master.host 87 ∧ st142.csFirst ≤ st142.csLast ∧ st142.csLast ≤ 511 ∧ st142.unset = false ∧
     st142.cap.st = CapState.rearm) ∧
    (st143.ready = true ∧ st143.unset = false ∧ st143.due st143.cap.armStamp = true ∧
     (st143.cap.st = CapState.idle ∧ st143.cap.armPend = true ∨ st143.cap.st = CapState.rearm)) ∧
    (st144.ready = true ∧ st144.cap.st = CapState.fill ∧ st144.cap.autoMs ≠ 0 ∧
     st144.cap.f + 4 * st144.cap.autoMs ≤ st144.tick) :=
  by and_intros <;> decide +kernel

theorem test_meets_captures_hold_drain_and_end :
    (st145.ready = true ∧ st145.cap.st = CapState.post ∧ st145.spanFormed st145.capSpan st145.cap.endTick = true) ∧
    (st146.directs Master.host 87 ∧ st146.cap.st = CapState.hold) ∧
    (st147.directs Master.host 87 ∧ st147.cap.st ≠ CapState.hold) ∧
    (st148.ready = true ∧ st148.cap.st = CapState.stream ∧ st148.cap.headPend = true ∧
     st148.stagePacket 3 0 st148.headLoss (wordsOfBytes st148.capHeader) = none) ∧
    (st149.ready = true ∧ st149.cap.st = CapState.stream ∧ st149.cap.headPend = true ∧
     st149.stagePacket 3 0 st149.headLoss (wordsOfBytes st149.capHeader) = some st150 ∧
     st149.spanFormed st149.capSpan st149.cap.drain = false ∧ st149.cap.drain ≤ st149.cap.endTick) ∧
    (st151.ready = true ∧ st151.cap.st = CapState.stream ∧ st151.cap.headPend = false ∧
     st151.cap.endTick < st151.cap.drain) ∧
    (st152.ready = true ∧ st152.cap.st = CapState.stream ∧ st152.cap.headPend = false ∧
     st152.cap.drain ≤ st152.cap.endTick ∧ st152.spanFormed st152.capSpan st152.cap.drain = false) ∧
    (st153.ready = true ∧ st153.cap.st = CapState.stream ∧ st153.cap.headPend = false ∧
     st153.cap.drain < st153.cap.endTick ∧ st153.spanFormed st153.capSpan st153.cap.drain = true ∧
     st153.hasLine st153.cap.drain = true ∧
     st153.stagePacket 2 st153.cap.drain (lineLoss st153.csFirst st153.csLast st153.cap.drain 1) (sampleWords (st153.lineData st153.cap.drain)) = none) ∧
    (st154.ready = true ∧ st154.cap.st = CapState.stream ∧ st154.cap.headPend = false ∧
     st154.cap.drain < st154.cap.endTick ∧ st154.spanFormed st154.capSpan st154.cap.drain = true ∧
     st154.hasLine st154.cap.drain = true ∧
     st154.stagePacket 2 st154.cap.drain (lineLoss st154.csFirst st154.csLast st154.cap.drain 1) (sampleWords (st154.lineData st154.cap.drain)) = some st155 ∧
     st155.spend actCapt (((st154.lineData st154.cap.drain).length + 1) / 2) = none) ∧
    (st156.ready = true ∧ st156.cap.st = CapState.stream ∧ st156.cap.headPend = false ∧
     st156.cap.drain < st156.cap.endTick ∧ st156.spanFormed st156.capSpan st156.cap.drain = true ∧
     st156.hasLine st156.cap.drain = true ∧
     st156.stagePacket 2 st156.cap.drain (lineLoss st156.csFirst st156.csLast st156.cap.drain 1) (sampleWords (st156.lineData st156.cap.drain)) = some st157 ∧
     st157.spend actCapt (((st156.lineData st156.cap.drain).length + 1) / 2) = some st158) :=
  by and_intros <;> decide +kernel

theorem test_meets_memory_and_host_stream :
    (rdy.directs Master.host 92 ∧ rdy.cap.partStaged = [104, 6, 16] ∧ 126 < BitVec.toNat (105 : BitVec 7) + 6 + 16) ∧
    (st159.directs Master.host 92 ∧ st159.cap.partStaged = [104, 16, 16] ∧
     BitVec.toNat (94 : BitVec 7) + 16 + 16 ≤ 126 ∧ 8 ≤ BitVec.toNat (94 : BitVec 7) ∧
     BitVec.toNat (94 : BitVec 7) ≤ 122 ∧ (st159.cap.st ≠ CapState.idle ∨ st159.hsEn = true)) ∧
    (st160.directs Master.host 92 ∧ st160.cap.partStaged = [104, 16, 16] ∧
     BitVec.toNat (94 : BitVec 7) + 16 + 16 ≤ 126 ∧ 8 ≤ BitVec.toNat (94 : BitVec 7) ∧
     BitVec.toNat (94 : BitVec 7) ≤ 122 ∧ st160.cap.st = CapState.idle ∧ st160.hsEn = false ∧
     st160.bead.tareState ≠ 1 ∧ st160.bead.tareState ≠ 2 ∧ (∀ p < 4, (st160.port p).tareLen = none)) ∧
    (st161.ready = true ∧ st161.cap.partPend = some ([100, 16, 10], 5) ∧ st161.due 5 = true) ∧
    (rdy.directs Master.host 87 ∧ rdy.hsSpanOk = true) ∧
    (st162.directs Master.host 87 ∧ st162.hsSpanOk = false) ∧
    (st163.ready = true ∧ st163.hsEn = true ∧ st163.cap.hsRun = false ∧ st163.due st163.cap.hsStamp = true) ∧
    (st164.ready = true ∧ st164.hsEn = false ∧ st164.cap.hsRun = true ∧ st164.due st164.cap.hsStamp = true) ∧
    (st165.ready = true ∧ st165.cap.hsLines = [(399, [(6, (5 : DWord))])] ∧ st165.hsRunAt 399 = some v35 ∧
     st165.spanFormed (spanOf v35.first v35.last) 399 = false) ∧
    (st166.ready = true ∧ st166.cap.hsLines = [(399, [(6, (5 : DWord))])] ∧ st166.hsRunAt 399 = some v35 ∧
     st166.spanFormed (spanOf v35.first v35.last) 399 = true ∧
     st166.spend actHost ((14 + 4 * [(6, (5 : DWord))].length + 7) / 8) = none) ∧
    (st167.ready = true ∧ st167.cap.hsLines = [(399, [(6, (5 : DWord))])] ∧ st167.hsRunAt 399 = some v35 ∧
     st167.spanFormed (spanOf v35.first v35.last) 399 = true ∧
     st167.spend actHost ((14 + 4 * [(6, (5 : DWord))].length + 7) / 8) = some st168 ∧ st167.cap.gapWait = [] ∧
     st167.cap.queue.length + 7 + 2 * [(6, (5 : DWord))].length ≤ st167.streamRoom) ∧
    (st169.ready = true ∧ st169.cap.hsLines = [(399, [(6, (5 : DWord))])] ∧ st169.hsRunAt 399 = some v35 ∧
     st169.spanFormed (spanOf v35.first v35.last) 399 = true ∧
     st169.spend actHost ((14 + 4 * [(6, (5 : DWord))].length + 7) / 8) = some st170 ∧
     (st169.cap.gapWait ≠ [] ∨ st169.streamRoom < st169.cap.queue.length + 7 + 2 * [(6, (5 : DWord))].length)) :=
  by and_intros <;> decide +kernel

theorem test_meets_records_reach_the_bus :
    (st171.msg.out = [(0, v36)] ∧ v36.ty = MsgType.alarm ∧ st171.tick / 4 ≤ v36.frame + 1 ∧
     st171.spend actEgr ((v36.data.length + 7) / 8) = some st172 ∧
     st171.hasRoom (st171.routeOf MsgType.alarm 0) MsgType.alarm = true ∧ st171.cap.sending = false) ∧
    (st173.msg.out = [(0, v36)] ∧ v36.ty = MsgType.alarm ∧ st173.tick / 4 ≤ v36.frame + 1 ∧
     st173.spend actEgr ((v36.data.length + 7) / 8) = none) ∧
    (st174.available 0 = true ∧ st174.candev.active = none ∧ (st174.canPort 0).staging = [v36] ∧
     ((st174.canPort 0).mbox (pairOf v36.ty)).full = false ∧
     ((st174.canPort 0).mbox (pairOf v36.ty + 1)).full = false ∧ st174.spend actEgr 9 = some st175) ∧
    (st176.ready = true ∧ st176.ctl.hbeatAt ≠ some st176.tick ∧
     (if st176.unset = true then st176.life.lTick < st176.tick ∧ (st176.tick - st176.life.lTick) % 4000 = 0 else st176.tick % 4000 = 0)) :=
  by and_intros <;> decide +kernel

theorem test_meets_ports_start_stop_and_recover :
    (st177.directs Master.host 97 ∧ st177.canDead (st177.master Master.host).canSel = false ∧
     fld (st177.canPort (st177.master Master.host).canSel).ctl 0 1 = 0) ∧
    (st178.directs Master.host 97 ∧ st178.canDead (st178.master Master.host).canSel = false ∧
     fld (st178.canPort (st178.master Master.host).canSel).ctl 0 1 = 1) ∧
    (st179.directs Master.host 97 ∧ st179.canDead (st179.master Master.host).canSel = false ∧
     st179.inInit (st179.master Master.host).canSel = true ∧ BitVec.toNat (4 : BitVec 3) ≤ 4) ∧
    (st180.directs Master.host 97 ∧ st180.canDead (st180.master Master.host).canSel = false ∧
     st180.inInit (st180.master Master.host).canSel = false ∧
     fld (st180.canPort (st180.master Master.host).canSel).ctl 1 3 ≤ 2 ∧ BitVec.toNat (2 : BitVec 3) ≤ 2) ∧
    ((st181.canPort 2).modePend = some 3 ∧ (st181.canPort 2).onBus = none) ∧
    (st182.directs Master.host 97 ∧ st182.canDead (st182.master Master.host).canSel = false ∧
     (st182.canPort (st182.master Master.host).canSel).st = CanState.busOff ∧
     fld (st182.canPort (st182.master Master.host).canSel).ctl 0 1 = 0 ∧
     fld (st182.canPort (st182.master Master.host).canSel).ctl 1 3 ≤ 4) ∧
    (st183.ctl.extest = false ∧ st183.candev.clkOk = true ∧ (st183.canPort 1).failed = false ∧
     (st183.canPort 1).st = CanState.integrating) ∧
    (st184.ctl.extest = false ∧ st184.candev.clkOk = true ∧ (st184.canPort 1).failed = false ∧
     (st184.canPort 1).st = CanState.recovering) :=
  by and_intros <;> decide +kernel

theorem test_meets_frames_are_sent_and_received :
    (st185.ctl.extest = false ∧ st185.sends 1 = true ∧ (st185.canPort 1).onBus = none ∧
     (st185.canPort 1).offered = some 24 ∧ (st185.canPort 1).lone = false) ∧
    (st186.ctl.extest = false ∧ st186.sends 1 = true ∧ (st186.canPort 1).onBus = none ∧
     (st186.canPort 1).offered = some 24 ∧ (st186.canPort 1).lone = true ∧
     (st186.canPort 1).paceFrom + 400 ≤ st186.tick) ∧
    (st187.ctl.extest = false ∧ (st187.canPort 1).onBus = some (24, 55) ∧
     ((st187.canPort 1).mode = 3 → st187.consumes 1 ((st187.canPort 1).sentFrame 24) = false)) ∧
    (st188.ctl.extest = false ∧ st188.onBusOk 1 = true ∧ v37.rtr = false ∧
     ((st188.canPort 1).mode = 4 ∨ st188.consumes 1 v37 = false) ∧
     (∀ k < 32, bits ((st188.canPort 1).filtersAt 55).fltEn.toNat k 1 = 1 → ((st188.canPort 1).filtersAt 55).matches k v37 = false)) ∧
    (st189.ctl.extest = false ∧ st189.onBusOk 1 = true ∧ v37.rtr = false ∧
     ((st189.canPort 1).mode = 4 ∨ st189.consumes 1 v37 = false) ∧
     bits ((st189.canPort 1).filtersAt 55).fltEn.toNat 2 1 = 1 ∧
     ((st189.canPort 1).filtersAt 55).matches 2 v37 = true ∧
     (∀ j < 2, bits ((st189.canPort 1).filtersAt 55).fltEn.toNat j 1 = 1 → ((st189.canPort 1).filtersAt 55).matches j v37 = false) ∧
     fld (((st189.canPort 1).filtersAt 55).fltWord (8 * 2 + 4)) 4 2 = 0 ∧ (st189.canPort 1).rx0.q.length < 17) ∧
    (st190.ctl.extest = false ∧ st190.onBusOk 1 = true ∧ v37.rtr = false ∧
     ((st190.canPort 1).mode = 4 ∨ st190.consumes 1 v37 = false) ∧
     bits ((st190.canPort 1).filtersAt 55).fltEn.toNat 2 1 = 1 ∧
     ((st190.canPort 1).filtersAt 55).matches 2 v37 = true ∧
     (∀ j < 2, bits ((st190.canPort 1).filtersAt 55).fltEn.toNat j 1 = 1 → ((st190.canPort 1).filtersAt 55).matches j v37 = false) ∧
     fld (((st190.canPort 1).filtersAt 55).fltWord (8 * 2 + 4)) 4 2 = 0 ∧ 17 ≤ (st190.canPort 1).rx0.q.length) ∧
    (st191.ctl.extest = false ∧ st191.onBusOk 1 = true ∧ v37.rtr = false ∧
     ((st191.canPort 1).mode = 4 ∨ st191.consumes 1 v37 = false) ∧
     bits ((st191.canPort 1).filtersAt 55).fltEn.toNat 2 1 = 1 ∧
     ((st191.canPort 1).filtersAt 55).matches 2 v37 = true ∧
     (∀ j < 2, bits ((st191.canPort 1).filtersAt 55).fltEn.toNat j 1 = 1 → ((st191.canPort 1).filtersAt 55).matches j v37 = false) ∧
     fld (((st191.canPort 1).filtersAt 55).fltWord (8 * 2 + 4)) 4 2 = 1 ∧ (st191.canPort 1).rx1.q.length < 17) ∧
    (st192.ctl.extest = false ∧ st192.onBusOk 1 = true ∧ v37.rtr = false ∧
     ((st192.canPort 1).mode = 4 ∨ st192.consumes 1 v37 = false) ∧
     bits ((st192.canPort 1).filtersAt 55).fltEn.toNat 2 1 = 1 ∧
     ((st192.canPort 1).filtersAt 55).matches 2 v37 = true ∧
     (∀ j < 2, bits ((st192.canPort 1).filtersAt 55).fltEn.toNat j 1 = 1 → ((st192.canPort 1).filtersAt 55).matches j v37 = false) ∧
     fld (((st192.canPort 1).filtersAt 55).fltWord (8 * 2 + 4)) 4 2 = 2) ∧
    (st193.ctl.extest = false ∧ st193.onBusOk 1 = true ∧ (st193.canPort 1).exception BusError.resBit false = true) ∧
    (st194.ctl.extest = false ∧ st194.onBusOk 1 = true ∧ (st194.canPort 1).exception BusError.stuff true = false ∧
     ((st194.canPort 1).mode = 0 ∨ 3 ≤ (st194.canPort 1).mode)) ∧
    (st195.ctl.extest = false ∧ st195.onBusOk 1 = true ∧ (st195.canPort 1).exception BusError.stuff false = false ∧
     ((st195.canPort 1).mode = 1 ∨ (st195.canPort 1).mode = 2)) :=
  by and_intros <;> decide +kernel

theorem test_meets_mailboxes_queues_and_filters :
    (st196.canDead (st196.master Master.host).canSel = false ∧ st196.directs Master.host 106 ∧
     ((st196.canPort (st196.master Master.host).canSel).mbox (24 + 7)).full = false ∧
     (((st196.canPort (st196.master Master.host).canSel).mbox (24 + 7)).frame.fdf = true → (st196.canPort (st196.master Master.host).canSel).fdEn = true)) ∧
    (st197.canDead (st197.master Master.host).canSel = false ∧ st197.directs Master.host 106 ∧
     ((st197.canPort (st197.master Master.host).canSel).mbox (24 + 0)).full = true ∧
     (st197.canPort (st197.master Master.host).canSel).onBus = none) ∧
    (st198.canDead (st198.master Master.host).canSel = false ∧ st198.directs Master.host 106 ∧
     ((st198.canPort (st198.master Master.host).canSel).mbox (24 + 0)).full = true ∧
     (st198.canPort (st198.master Master.host).canSel).onBus = some (24 + 0, 7)) ∧
    (st199.canDead (st199.master Master.host).canSel = false ∧ st199.directs Master.host (107 + 1)) ∧
    (st179.canDead (st179.master Master.host).canSel = false ∧ st179.directs Master.host 109) :=
  by and_intros <;> decide +kernel

theorem test_meets_ports_fail_over_and_stand_in :
    (0 ∈ st200.candev.waiting ∧ (∀ q ∈ st200.candev.waiting, q < 2) ∧ st200.available (1 - 0) = true ∧
     ((st200.canPort 0).st.off = true ∨ (st200.canPort 0).failed = true)) ∧
    (st201.candev.active = some 0 ∧ fld st201.candev.ctl 2 1 = 1 ∧ (st201.canPort 0).st = CanState.errorActive ∧
     st201.candev.clkOk = true ∧ (st201.canPort 0).activeFrom + 4000 ≤ st201.tick ∧
     (st201.canPort 0).failed = false) ∧
    st202.directs Master.host 111 ∧
    st203.candev.clkOk = true ∧
    st204.candev.clkOk = false ∧
    (st205.ready = true ∧ (st205.canPort 2).st = CanState.init ∧ st205.xcEn = true ∧ st205.cSubst = false ∧
     st205.spare.shadowFrom + 240000 ≤ st205.tick) ∧
    (st206.ready = true ∧ (st206.canPort 1).st ≠ CanState.init ∧ (st206.canPort 1).failed = false ∧
     st206.shadows 1 ∧ st206.spare.shadowErrs < 2) ∧
    rdy.ready = true ∧
    (st207.ready = true ∧ (st207.canPort 1).st ≠ CanState.init ∧ (st207.canPort 1).failed = false ∧
     (match CtrlFail.stall 10000 with | CtrlFail.stall us => st207.candev.clkOk = true ∧ 10000 ≤ us | CtrlFail.falseError => st207.shadows 1 ∧ 2 ≤ st207.spare.shadowErrs) ∧
     st207.autoSub = true ∧ st207.spare.forbid.getD 1 false = false ∧ st207.spare.portC.state = spFree) ∧
    (st208.ready = true ∧ (st208.canPort 1).st ≠ CanState.init ∧ (st208.canPort 1).failed = false ∧
     (match CtrlFail.falseError with | CtrlFail.stall us => st208.candev.clkOk = true ∧ 10000 ≤ us | CtrlFail.falseError => st208.shadows 1 ∧ 2 ≤ st208.spare.shadowErrs) ∧
     st208.autoSub = false) :=
  by and_intros <;> decide +kernel

theorem test_meets_sessions_open_and_end :
    (st209.serving 1 opOpen v40 ∧ 4 ≤ v40.data.length ∧
     BitVec.ofNat 32 (leNat (List.take 4 v40.data)) = st209.nvm.key ∧ st209.nvm.key ≠ (0 : DWord) ∧
     (st209.session 1).lockFrom = none ∧
     ((st209.session 1).holder = none ∨ (st209.session 1).holder = some v40.node.toNat)) ∧
    (st210.serving 1 opOpen v40 ∧ 4 ≤ v40.data.length ∧
     BitVec.ofNat 32 (leNat (List.take 4 v40.data)) = st210.nvm.key ∧ st210.nvm.key ≠ (0 : DWord) ∧
     (st210.session 1).lockFrom ≠ none) ∧
    (st211.serving 1 opOpen v40 ∧ 4 ≤ v40.data.length ∧
     BitVec.ofNat 32 (leNat (List.take 4 v40.data)) = st211.nvm.key ∧ st211.nvm.key ≠ (0 : DWord) ∧
     (st211.session 1).lockFrom = none ∧ (st211.session 1).holder ≠ none ∧
     (st211.session 1).holder ≠ some v40.node.toNat) ∧
    (st212.serving 1 opOpen v41 ∧
     (v41.data.length < 4 ∨ BitVec.ofNat 32 (leNat (List.take 4 v41.data)) ≠ st212.nvm.key ∨ st212.nvm.key = (0 : DWord))) ∧
    (st213.ready = true ∧ (st213.session 1).lockFrom = some 0 ∧ 0 + 240000 ≤ st213.tick) ∧
    (st214.serving 1 opClose { node := (9 : BitVec 8) } ∧ st214.holds 1 { node := (9 : BitVec 8) } = true ∧
     (st214.master (portMaster 1)).clasp.isOpen = false) ∧
    (st215.serving 1 opKeep { node := (9 : BitVec 8) } ∧ st215.holds 1 { node := (9 : BitVec 8) } = true) ∧
    (st215.serving 1 opKeep { node := (8 : BitVec 8) } ∧ st215.holds 1 { node := (8 : BitVec 8) } = false) ∧
    (st216.serving 1 opSetKey v40 ∧ st216.holds 1 v40 = true ∧ 4 ≤ v40.data.length ∧
     st216.entry (portMaster 1) 22 = 3) ∧
    st217.serving 1 (BitVec.toNat (127 : BitVec 8)) { node := (9 : BitVec 8) } ∧
    (st218.ready = true ∧ (st218.session 1).holder.isSome = true ∧
     (st218.session 1).lastTick + 240000 ≤ st218.tick ∧ (st218.master (portMaster 1)).clasp.isOpen = true) :=
  by and_intros <;> decide +kernel

theorem test_meets_remote_reads_and_writes :
    (st219.serving 1 opRegRead v42 ∧ reqArgBad v42 = false ∧
     (∀ o ∈ reqOffs v42, st219.entry (portMaster 1) (regTarget o) ≠ 0)) ∧
    (st217.serving 1 opRegRead v42 ∧ reqArgBad v42 = false ∧ 121 ∈ reqOffs v42 ∧ openReg 121 = false ∧
     st217.entry (portMaster 1) (regTarget 121) = 0) ∧
    (st220.serving 1 opWinRead v43 ∧ st220.winArgBad v43 = false ∧ st220.nvmBusy v43.space.toNat = false ∧
     st220.entry (portMaster 1) (winTarget v43.space.toNat) ≠ 0) ∧
    (st221.serving 1 opFacetRead v44 ∧ v44.addr.toNat = 15 + 65536 * 4 ∧
     st221.entry (portMaster 1) (regTarget 36) ≠ 0) ∧
    (st217.serving 1 opRegWrite v42 ∧ st217.holds 1 v42 = false) ∧
    (st222.serving 1 opRegWrite v45 ∧ st222.holds 1 v45 = true ∧ v45.addr.toNat = 121 ∧ v45.count = 1 ∧
     v45.data = [(3 : Byte), (4 : Byte)] ∧ (st222.master (portMaster 1)).clasp.isOpen = false ∧
     st222.entry (portMaster 1) 7 = 3) ∧
    (st214.serving 1 opRegWrite v45 ∧ st214.holds 1 v45 = true ∧ v45.addr.toNat = 121 ∧ v45.count = 1 ∧
     v45.data = [(3 : Byte), (4 : Byte)] ∧ (st214.master (portMaster 1)).clasp.isOpen = false ∧
     st214.entry (portMaster 1) 7 ≠ 3) ∧
    (st223.serving 1 opWinWrite v46 ∧ st223.holds 1 v46 = true ∧ v46.space = (0 : BitVec 8) ∧
     v46.addr.toNat = 3 * 32 ∧ v46.count = 1 ∧ v46.data = [(3 : Byte), (4 : Byte)] ∧
     st223.entry (portMaster 1) 8 = 3 ∧ (st223.master (portMaster 1)).clasp.isOpen = false) ∧
    (st214.serving 1 opBegin { node := (9 : BitVec 8) } ∧ st214.holds 1 { node := (9 : BitVec 8) } = true ∧
     (st214.master (portMaster 1)).clasp.isOpen = false ∧ (st214.master (portMaster 1)).clasp.pend = false) ∧
    (st224.serving 1 opCommit { node := (9 : BitVec 8) } ∧ st224.holds 1 { node := (9 : BitVec 8) } = true ∧
     (st224.master (portMaster 1)).clasp.isOpen = true ∧
     st224.tick < (st224.master (portMaster 1)).clasp.beginTick + 4000) ∧
    (st224.serving 1 opRollback { node := (9 : BitVec 8) } ∧ st224.holds 1 { node := (9 : BitVec 8) } = true ∧
     (st224.master (portMaster 1)).clasp.isOpen = true ∧
     st224.tick < (st224.master (portMaster 1)).clasp.beginTick + 4000) :=
  by and_intros <;> decide +kernel

theorem test_meets_calibration_commands :
    (st225.directs Master.host 112 ∧ st225.cal.run = none ∧ BitVec.toNat (3 : BitVec 4) ≤ 10) ∧
    (st226.directs Master.host 112 ∧ st226.cal.run = none ∧ st226.unset = false ∧
     (BitVec.toInt st226.cal.refMv).natAbs ≤ 10240 ∧ (BitVec.toInt (st226.declF 0)).natAbs ≤ 999999 ∧
     (5 : ℚ) ≤ st226.vDecl ∧ st226.vDecl ≤ (1024 / 100 : ℚ)) ∧
    (st227.directs Master.host 112 ∧ st227.cal.run = some v47) ∧
    (st228.directs Master.host 112 ∧ st228.cal.run = some v47 ∧ v47.phase = 5) ∧
    (st229.directs Master.host 112 ∧ st229.cal.run = some v48 ∧ v48.phase ≠ 5) ∧
    (st229.directs Master.host 112 ∧ st229.cal.run = some v48 ∧ v48.closed = false) :=
  by and_intros <;> decide +kernel

theorem test_meets_calibration_rolls_over_a_stand_in :
    (st230.ready = true ∧ st230.cal.run = some v49 ∧ v49.closed = false ∧ v49.phase = 0 ∧ v49.checked = true ∧
     st230.due v49.stamp = true ∧ v49.waitFrom + st230.calSlow ≤ st230.tick ∧ v49.borrows = true ∧
     st230.commitStamps.any st230.due = false ∧ st230.spareDue [3] = false ∧
     st230.pickSpare (calKind v49.proc v49.target) v49.target = some 0) ∧
    (st231.ready = true ∧ st231.cal.run = some v50 ∧ v50.closed = false ∧ v50.phase = 1 ∧ v50.left = 0 ∧
     st231.aligned v50.target = true) ∧
    (st232.ready = true ∧ st232.cal.run = some v51 ∧ v51.closed = false ∧ v51.phase = 2 ∧
     (v51.proc ≤ 5 ∨ v51.proc = 9) ∧ st232.calSlow = 0 ∧ v51.measFrom + st232.calTicks v51 ≤ st232.tick) ∧
    (st233.ready = true ∧ st233.cal.run = some v53 ∧ v53.closed = false ∧ v53.phase = 2 ∧ v53.proc = 3 ∧
     st233.calSlow = 0 ∧ v53.measFrom + st233.calTicks v53 ≤ st233.tick ∧ v54.noisy = false ∧ v53.faulted = false ∧
     v54.vals.getD 0 (0 : ℚ) ≠ (0 : ℚ) ∧ within2 (v54.vals.getD 0 (0 : ℚ)) v53.vDecl = true ∧
     nearOne (limGain v53.limits) (some (st233.imgR (senseAddr (st233.calDriver v53.target).1 (st233.calDriver v53.target).2) * v53.vDecl / v54.vals.getD 0 (0 : ℚ))) = true) ∧
    (st234.ready = true ∧ st234.cal.run = some v55 ∧ v55.closed = false ∧ v55.phase = 3 ∧ v55.proc ≤ 9 ∧
     st234.turn v55.stamp = true ∧ v55.waitFrom + st234.calSlow ≤ st234.tick ∧ v55.owed = 0 ∧ v55.fail ≠ 0) ∧
    (st235.ready = true ∧ st235.cal.run = some v56 ∧ v56.closed = false ∧ v56.phase = 3 ∧ v56.proc ≤ 9 ∧
     st235.turn v56.stamp = true ∧ v56.waitFrom + st235.calSlow ≤ st235.tick ∧ v56.owed = 0 ∧ v56.fail = 0 ∧
     v56.proc ≠ 2 ∧ v56.standin = some 2 ∧ st235.conflicts Master.mp v56.stamp (calUnit v56.target) = true) ∧
    (st236.ready = true ∧ st236.cal.run = some v56 ∧ v56.closed = false ∧ v56.phase = 3 ∧ v56.proc ≤ 9 ∧
     st236.turn v56.stamp = true ∧ v56.waitFrom + st236.calSlow ≤ st236.tick ∧ v56.owed = 0 ∧ v56.fail = 0 ∧
     v56.proc ≠ 2 ∧ v56.proc ≤ 8 ∧ v56.standin = some 2 ∧ calPort v56.target = none ∧
     st236.conflicts Master.mp v56.stamp (calUnit v56.target) = false) ∧
    (st237.ready = true ∧ st237.cal.run = some v57 ∧ v57.closed = false ∧ v57.phase = 4 ∧ v57.left = 0 ∧
     v57.freeAt = none ∧ st237.aligned v57.target = true) :=
  by and_intros <;> decide +kernel

theorem test_meets_scales_and_restores :
    (st238.ready = true ∧ st238.cal.run = some v58 ∧ v58.todo = [] ∧ v58.firstFail = 0 ∧ v58.owed = 0 ∧
     v58.proc = 2 ∧ v58.phase = 3 ∧ v58.fail = 0 ∧ v58.waitFrom + st238.calSlow < st238.tick ∧
     st238.changesDone = true ∧ v58.result = [(32, (1065353217 : DWord)), (36, (1065353218 : DWord))]) ∧
    (st239.ready = true ∧ st239.cal.run = some v47 ∧ v47.todo = [] ∧ v47.firstFail = 0 ∧ v47.owed = 0 ∧
     v47.phase = 5 ∧ v47.waitFrom + 2400000 ≤ st239.tick) ∧
    (st240.ready = true ∧ st240.cal.run = some v47 ∧ v47.todo = [] ∧ v47.firstFail = 0 ∧ v47.owed = 0 ∧
     st240.tick < v47.waitFrom + 2400000) ∧
    (st241.ready = true ∧ st241.cal.run = some v59 ∧ v59.phase = 6 ∧ v59.wrap = true ∧
     calPort v59.target = some 1 ∧ v59.proc = 8 ∧ v59.loaded = true ∧ v59.todo = [] ∧ v59.firstFail = 0) ∧
    (st242.ready = true ∧ st242.cal.run = some v60 ∧ v60.phase = 6 ∧ v60.wrap = true ∧
     calPort v60.target = some 1 ∧ v60.proc = 8 ∧ v60.loaded = false ∧ v60.faulted = false ∧
     v60.revDone + 1 < v60.revs) ∧
    (st243.ready = true ∧ st243.cal.run = some v61 ∧ v61.phase = 6 ∧ v61.wrap = true ∧
     calPort v61.target = some 1 ∧ v61.proc = 7 ∧ v61.acc = [(5, (4 : ℚ), (2 : ℚ))] ∧ 5 / 2 ^ 20 = v61.revDone ∧
     v61.loaded = false ∧ v61.faulted = false ∧ v61.revs ≤ v61.revDone + 1 ∧
     rabs (2 / 4 : ℚ) ≤ limZero v61.limits ∧ rabs (f32R (st243.port 1).zero + (2 / 4 : ℚ)) ≤ (1000 : ℚ)) ∧
    (st244.ready = true ∧ st244.cal.run = some v62 ∧ v62.proc = 10 ∧ v62.phase = 3 ∧ st244.turn v62.stamp = true ∧
     v62.todo = [] ∧ v62.firstFail = 0 ∧ v62.waitFrom + st244.calSlow ≤ st244.tick ∧ v62.owed = 0 ∧
     st244.conflicts Master.mp v62.stamp (CUnit.corr 8191) = false ∧ v62.sysOnly = false) ∧
    (st245.ready = true ∧ st245.cal.run = some v63 ∧ v63.proc = 10 ∧ v63.phase = 3 ∧ st245.turn v63.stamp = true ∧
     v63.todo = [] ∧ v63.firstFail = 0 ∧ v63.waitFrom + st245.calSlow ≤ st245.tick ∧ v63.owed = 0 ∧
     st245.conflicts Master.mp v63.stamp (CUnit.corr 8191) = false ∧ v63.sysOnly = true) ∧
    (st246.ready = true ∧ st246.cal.run = some v62 ∧ v62.proc = 10 ∧ v62.phase = 3 ∧ st246.turn v62.stamp = true ∧
     v62.todo = [] ∧ v62.firstFail = 0 ∧ v62.waitFrom + st246.calSlow ≤ st246.tick ∧ v62.owed = 0 ∧
     st246.conflicts Master.mp v62.stamp (CUnit.corr 8191) = true) :=
  by and_intros <;> decide +kernel

theorem test_meets_spare_commands_act :
    (st247.directs Master.host 45 ∧ encBad 45 (35983 : Word) = false ∧ fld (35983 : Word) 15 1 = 1 ∧
     1 ≤ fld (35983 : Word) 10 4 ∧ fld (35983 : Word) 10 4 ≤ 8) ∧
    (st248.ready = true ∧ st248.due st248.spare.cmdStamp = true ∧ st248.spare.cmd = some (1, 0, 7, 3, 0)) ∧
    (st249.ready = true ∧ st249.due st249.spare.cmdStamp = true ∧ st249.spare.cmd = some (2, 2, 7, 3, 0) ∧
     memberOk 2 7 = true) ∧
    (st250.ready = true ∧ st250.due st250.spare.cmdStamp = true ∧ st250.spare.cmd = some (3, 2, 7, 3, 0)) ∧
    (st251.ready = true ∧ st251.due st251.spare.cmdStamp = true ∧ st251.spare.cmd = some (4, 0, 7, 3, 0) ∧
     memberOk 0 7 = true) ∧
    (st252.ready = true ∧ st252.due st252.spare.cmdStamp = true ∧ st252.spare.cmd = some (5, 1, 3, 449, 0) ∧
     st252.commitStamps.any st252.due = false ∧ st252.calDue = false) ∧
    (st253.ready = true ∧ st253.due st253.spare.cmdStamp = true ∧ st253.spare.cmd = some (6, 4, 0, 0, 0)) ∧
    (st254.ready = true ∧ st254.due st254.spare.cmdStamp = true ∧ st254.spare.cmd = some (7, 5, 2, 0, 1)) ∧
    (st255.ready = true ∧ st255.due st255.spare.cmdStamp = true ∧ st255.spare.cmd = some (8, 5, 2, 0, 1)) :=
  by and_intros <;> decide +kernel

theorem test_meets_spares_are_checked_and_replace :
    (st256.ready = true ∧ st256.xcEn = true ∧ st256.isFrame = true ∧ st256.ctl.shed = 0 ∧
     2 ≤ (st256.freeList (b2n true) 449).length ∧ st256.spare.wanted = [] ∧
     st256.commitStamps.any st256.due = false ∧ st256.calDue = false ∧ st256.spareDue [3, 5] = false ∧
     (st256.spare.chks.all fun c => isZ c.facet != true || c.triggered) = true ∧ st256.sweepNext true = some 449 ∧
     st256.pickSpare (b2n true) 449 = some 0) ∧
    1 ≤ st257.ctl.shed ∧
    (st258.ready = true ∧ st258.dueCheck false 1 1 2080 = some v66 ∧ st258.shadowAgrees false v64 v64 v65 = true) ∧
    (st259.ready = true ∧ st259.dueCheck true 1 1 2080 = some v69 ∧
     st259.shadowAgrees true v67 v68 { i := (0 : ℚ) } = false) ∧
    (st260.ready = true ∧ st260.isFrame = true ∧ st260.dueCheck true 2 3 4160 = some v72 ∧
     ((limOfs st260.cal.limits < rabs v70.i ∨ limGain st260.cal.limits < rabs (v71.i - (1 : ℚ))) ∨ true = true ∧ (limOfs st260.cal.limits < rabs v70.q ∨ limGain st260.cal.limits < rabs (v71.q - (1 : ℚ))))) ∧
    (st261.ready = true ∧ st261.isFrame = true ∧ st261.dueCheck false 2 3 4160 = some v75 ∧
     rabs v73.i ≤ limOfs st261.cal.limits ∧ rabs (v74.i - (1 : ℚ)) ≤ limGain st261.cal.limits ∧
     (false = true → rabs v73.q ≤ limOfs st261.cal.limits ∧ rabs (v74.q - (1 : ℚ)) ≤ limGain st261.cal.limits)) ∧
    (st262.ready = true ∧ st262.isFrame = true ∧ List.find? (fun d => d.facet == 3) st262.spare.drv = some v76 ∧
     v76.spare = 5 ∧ v76.ok = true ∧ (st262.blkA 3).policy = 0 ∧ st262.autoSub = true) ∧
    (st263.ready = true ∧ st263.isFrame = true ∧ List.find? (fun d => d.facet == 3) st263.spare.drv = some v76 ∧
     v76.spare = 5 ∧ v76.ok = true ∧ ((st263.blkA 3).policy ≠ 0 ∨ st263.autoSub = false)) ∧
    (st264.ready = true ∧ st264.isFrame = true ∧ List.find? (fun d => d.facet == 3) st264.spare.drv = some v77 ∧
     v77.spare = 5 ∧ v77.ok = false ∧ v77.from_ + 2080 ≤ st264.tick) ∧
    (st265.ready = true ∧ st265.isFrame = true ∧ List.find? (fun d => d.facet == 3) st265.spare.drv = some v77 ∧
     v77.spare = 5 ∧ v77.ok = false ∧ st265.tick < v77.from_ + 2080) :=
  by and_intros <;> decide +kernel

theorem test_meets_references_and_memory_fail :
    (st266.ready = true ∧ ((if true = true then st266.spare.failB else st266.spare.failA) = false) ∧
     (8 ≤ if true = true then st266.spare.failCntB else st266.spare.failCntA)) ∧
    ((if true = true then rdy.spare.failCntB else rdy.spare.failCntA) < 8) ∧
    (st267.ready = true ∧ 4000 ≤ st267.spare.warnCnt ∧ st267.spare.refWarn = false) ∧
    (rdy.spare.warnCnt < 4000 ∨ rdy.spare.refWarn = true) ∧
    (1 ≤ st257.ctl.shed ∨ st257.scrubDone = false) ∧
    rdy.ready = true ∧
    (st268.ready = true ∧ st268.ctl.shed = 0 ∧ 600000 ≤ st268.spare.scrubFrames ∧ 1048576 ≤ st268.spare.scrubRead) :=
  by and_intros <;> decide +kernel

theorem test_meets_bezel_never_binds_host_or_mp :
    (rdy.ready = true ∧ (Master.canA = Master.host → rdy.ctl.extest = false) ∧
     BitVec.toNat (83 : BitVec 7) ∈ [0, 1, 2, 3, 8, 9, 10, 32, 59, 64, 83, 96, 124, 125, 126]) ∧
    rdy.owns Master.debug 32 ∧
    rdy.owns Master.debug 64 ∧
    (rdy.owns Master.debug 96 ∧ fld (133 : Word) 0 2 ≠ 3) ∧
    (rdy.owns Master.debug 83 ∧ fld (133 : Word) 4 4 ≤ 8) ∧
    rdy.owns Master.debug 59 ∧
    (rdy.owns Master.debug 124 ∧ fld (133 : Word) 0 4 ≤ 13) ∧
    rdy.owns Master.debug 125 ∧
    (rdy.owns Master.debug 8 ∧ (rdy.master Master.debug).clasp.isOpen = false ∧
     (rdy.master Master.debug).clasp.pend = false) :=
  by and_intros <;> decide +kernel

theorem test_meets_alert_only_for_a_dump :
    (st2.life.alert = false ∧ exec v78 st2 = Host.Outcome.next st269 ∧ st269.life.alert = true) ∧
    (st2.life.phase = Phase.fatal ∧ st2.life.fatalDone = false) :=
  by and_intros <;> first | decide +kernel | rfl

theorem test_meets_operation_follows_active_slots :
    (List.filter (fun j => (st270.blkA 449).zDwell j != 0) (List.range 4)).length = 1 ∧
    (rdy.blkA 449).type = 0 ∧
    ((st271.blkA 449).type ≠ 0 ∧ 2 ≤ (List.filter (fun j => (st271.blkA 449).zDwell j != 0) (List.range 4)).length) :=
  by decide +kernel

theorem test_meets_budget_reads_use_and_overruns :
    (rdy.ready = true ∧ rdy.isFrame = true ∧ rdy.ctl.frameAt ≠ some rdy.tick) ∧
    (isRemote Master.host = false ∧ st272.reads Master.host 61 ∧
     st272.budget.usedLast.getD (st272.master Master.host).budgetSel 0 ≤ 262140) ∧
    (isRemote Master.host = false ∧ st273.reads Master.host 62 ∧
     (st273.master Master.host).budgetSel < st273.budget.ovr.length) :=
  by decide +kernel

end Sys2Proof.Tests
end

section
/-! SUPPORT. What no bezel binds (R427): reads of the open words, and writes of a master to what is its own. -/

namespace Sys2Proof.Proofs

open Sys2Proof Sys2Proof.Machine Sys2Proof.Laws

variable {s t : State} {m : Master}

/-! ## An acknowledgement changes the last cycle's answer alone (R412) -/

section
variable (s : State) (m : Master) (b : Bool)

@[simp] theorem ack_pending : (s.ack m b).pending = s.pending := by obtain ⟨c, h⟩ := ack_ex s m b; rw [h]
@[simp] theorem ack_life : (s.ack m b).life = s.life := by obtain ⟨c, h⟩ := ack_ex s m b; rw [h]
@[simp] theorem ack_log : (s.ack m b).log = s.log := by obtain ⟨c, h⟩ := ack_ex s m b; rw [h]
@[simp] theorem ack_sess : (s.ack m b).sess = s.sess := by obtain ⟨c, h⟩ := ack_ex s m b; rw [h]
@[simp] theorem ack_extest : (s.ack m b).ctl.extest = s.ctl.extest := by obtain ⟨c, h⟩ := ack_ex s m b; rw [h]
@[simp] theorem ack_svc : (s.ack m b).ctl.svc = s.ctl.svc := by obtain ⟨c, h⟩ := ack_ex s m b; rw [h]
@[simp] theorem ack_master (n : Master) : (s.ack m b).master n = s.master n := by
  obtain ⟨c, h⟩ := ack_ex s m b
  rw [h]
  cases n <;> rfl

end

/-! ## Reads without an effect on what is read (R8, R427) -/

/-- Register words whose read latches, clears or advances something (R8, R9, R58, R193, R453, R455). -/
def readEffects : List Nat := [0x12, 0x23, 0x3E, 0x43, 0x54, 0x56, 0x69, 0x73]

/-- A read of any other word gives its value and leaves the state as it is. -/
theorem regRead_quiet {off : Nat} (ns : Nat) (h : off ∉ readEffects) : s.regRead m off ns = (s.regWord m off, s) := by
  have hl : s.latchGroup m off ns = s := by
    unfold State.latchGroup
    split
    iterate 3 exact absurd (by decide) h
    rfl
  have hc : s.clearRc m off = s := by
    unfold State.clearRc
    dsimp only
    split
    · rfl
    · split
      iterate 3 exact absurd (by decide) h
      rfl
  have ha : s.advance m off = s := by
    unfold State.advance
    split
    iterate 2 exact absurd (by decide) h
    rfl
  simp only [State.regRead, hl, hc, ha]

/-- An answered read of such a word returns it, and enters nothing in the log. -/
theorem rcRead_quiet {off : BitVec 7} (hr : s.reads m off.toNat) (hw : off.toNat ≠ 0x7F) (hq : off.toNat ∉ readEffects) :
    ∃ t, exec (.rcRead m off) s = .next t ∧ (t.master m).rdata = s.regWord m off.toNat ∧ t.log = s.log := by
  have hc : s.readCycle m off.toNat 0 = (s.ret m (s.regWord m off.toNat)).ack m true := by
    rw [readCycle_read s hr hw, regRead_quiet 0 hq]
  refine ⟨_, ok_next s (s.readCycle m off.toNat 0) ?_ ?_, ?_, ?_⟩ <;> simp [hc, State.ret]

/-! ## Writes of a master to what is its own (R412, R418, R427) -/

/-- A write that keeps the queue and the life of a running device answers its effect itself. -/
theorem okWrite_next (hr : s.ready = true) (hp : t.pending = s.pending) (hl : t.life = s.life) : okWrite s t = .next t := by
  have hn : t.life.phase ≠ .reset := hl ▸ ready_not_reset s hr
  unfold okWrite
  rw [if_neg hn, ← hp, ← hl]
  simp

theorem registerWrite_own {u : State} {off : BitVec 7} {v : Word} (h : s.owns m off.toNat) (hw : off.toNat ≠ 0x7F)
    (hu : s.ownWrite m off.toNat v = u) (hp : u.pending = s.pending) (hl : u.life = s.life) :
    exec (.registerWrite m off v) s = .next (u.ack m true) := by
  obtain ⟨hr, he, hs, ho⟩ := h
  have hc : s.writeCycle m off.toNat v = u.ack m true := by rw [writeCycle_own s v hr he hs hw ho, hu]
  have : exec (.registerWrite m off v) s = okWrite s (s.writeCycle m off.toNat v) := rfl
  rw [this, hc, okWrite_next hr (by simp [hp]) (by simp [hl])]

section
variable (s : State) (m : Master) (v : Word)

theorem ownWrite_fctSel : s.ownWrite m 0x20 v = s.modMaster m fun x => { x with fctSel := fld v 0 9 } := rfl
theorem ownWrite_posSel : s.ownWrite m 0x40 v = s.modMaster m fun x => { x with posSel := fld v 0 2 } := rfl
theorem ownWrite_budgetSel : s.ownWrite m 0x3B v = s.modMaster m fun x => { x with budgetSel := fld v 0 3 } := rfl
theorem ownWrite_winLo : s.ownWrite m 0x7D v = s.modMaster m fun x => { x with winLo := v } := rfl
theorem ownWrite_winAddr :
    s.ownWrite m 0x7E v = s.modMaster m fun x => { x with winAddr := v.toNat * 65536 + x.winLo.toNat } := rfl

theorem ownWrite_canSel (h : fld v 0 2 ≠ 3) :
    s.ownWrite m 0x60 v = s.modMaster m fun x => { x with canSel := fld v 0 2 } := if_neg h

theorem ownWrite_trgSel (h : fld v 4 4 ≤ 8) :
    s.ownWrite m 0x53 v = s.modMaster m fun x => { x with trgSel := fld v 0 4 + 16 * fld v 4 4 } := by
  simp [State.ownWrite, Nat.not_lt.mpr h]

theorem ownWrite_winSpace (h : fld v 0 4 ≤ 13) :
    s.ownWrite m 0x7C v = s.modMaster m fun x => { x with
      winSpace := fld v 0 4, winErr := x.winErr && fld v 14 1 == 0, winStall := x.winStall && fld v 15 1 == 0 } := by
  simp [State.ownWrite, Nat.not_lt.mpr h]

end

/-- A write to one of the master's own copies changes what the master holds, and nothing else but the acknowledgement. -/
theorem registerWrite_copy {off : BitVec 7} {v : Word} {f : MasterSt → MasterSt} (h : s.owns m off.toNat)
    (hu : s.ownWrite m off.toNat v = s.modMaster m f) (hw : off.toNat ≠ 0x7F := by decide) :
    exec (.registerWrite m off v) s = .next ((s.modMaster m f).ack m true) :=
  registerWrite_own h hw hu (by simp) (by simp)

/-- After a write of `WIN_ADDR_W0` the master may write `WIN_ADDR_W1`. -/
theorem owns_winAddr_hi {f : MasterSt → MasterSt} (h : s.owns m 0x7D) : ((s.modMaster m f).ack m true).owns m 0x7E := by
  obtain ⟨hr, he, hs, -⟩ := h
  refine ⟨by simpa [State.ready] using hr, fun hm => ⟨by simpa using (he hm).1, fun _ => rfl⟩, ?_, rfl⟩
  have hq (p : Nat) : ((s.modMaster m f).ack m true).session p = s.session p := by simp [State.session]
  simpa only [State.sessionOk, hq] using hs

/-- BEGIN opens a clasp for a master that has none open and none pending (R419). -/
theorem claspCtl_begin (ho : (s.master m).clasp.isOpen = false) (hp : (s.master m).clasp.pend = false) :
    s.claspCtl m 1 = s.nextStamp.modClasp m fun _ =>
      { isOpen := true, beginTick := s.nextStamp.tick, beginStamp := s.nextStamp.ctl.stamp } := by
  have hb : s.claspCtl m 1 = s.beginClasp m := rfl
  have ht : s.timeoutClasp m = s := by simp [State.timeoutClasp, ho]
  rw [hb]
  simp [State.beginClasp, ht, ho, hp]

/-- The identity registers, the clasp registers and the master's own copies, which every master reads (R427). -/
def openWords : List Nat := [0x00, 0x01, 0x02, 0x03, 0x08, 0x09, 0x0A, 0x20, 0x3B, 0x40, 0x53, 0x60, 0x7C, 0x7D, 0x7E]

theorem openWords_open : ∀ off ∈ openWords, openReg off = true ∧ off ≠ 0x7F ∧ off ∉ readEffects := by decide

/-- Settles O55: a read of an open word meets no entry (`readCycle_read`), and no more does a write to what is the master's own
(`writeCycle_own`). -/
theorem bezelNeverBindsHostOrMp : Obligations.BezelNeverBindsHostOrMp := by
  unfold Obligations.BezelNeverBindsHostOrMp
  refine ⟨fun _ _ => ⟨rfl, rfl⟩, fun m off s hr he hoff => ?_, fun m v s => ?_⟩
  · obtain ⟨ho, hw, hq⟩ := openWords_open _ hoff
    exact rcRead_quiet ⟨hr, he, .inl ho⟩ hw hq
  refine ⟨fun h => ?_, fun h => ?_, fun h hv => ?_, fun h hv => ?_, fun h => ?_, fun h hv => ?_, fun h w => ?_,
    fun h ho hp => ?_⟩
  · refine ⟨_, registerWrite_copy h (ownWrite_fctSel s m v), ?_, by simp, fun n hn => ?_⟩
    · simp [State.regWord, State.reg2]
    · simp [master_modMaster_other s _ hn]
  · exact ⟨_, registerWrite_copy h (ownWrite_posSel s m v), by simp [State.regWord, State.reg4], by simp⟩
  · exact ⟨_, registerWrite_copy h (ownWrite_canSel s m v hv), by simp [State.regWord, State.reg6], by simp⟩
  · exact ⟨_, registerWrite_copy h (ownWrite_trgSel s m v hv), by simp, by simp⟩
  · exact ⟨_, registerWrite_copy h (ownWrite_budgetSel s m v), by simp, by simp⟩
  · exact ⟨_, registerWrite_copy h (ownWrite_winSpace s m v hv), by simp, by simp⟩
  · exact ⟨_, _, registerWrite_copy h (ownWrite_winLo s m v), registerWrite_copy (owns_winAddr_hi h) (ownWrite_winAddr _ m w),
      by simp, by simp⟩
  · exact ⟨_, registerWrite_own h (by decide) (claspCtl_begin ho hp) (by simp) (by simp), by simp [State.modClasp], by simp⟩

end Sys2Proof.Proofs
end

section
/-! SUPPORT. nALERT (R417, R490, R493): which commands can assert it, and in which states. -/

namespace Sys2Proof.Proofs

open Sys2Proof Sys2Proof.Machine Sys2Proof.Laws

/-! ## Commands that do not assert nALERT (R417) -/

/-- The answer asserts nALERT only where the state `s` before it did. -/
def AlertKept (s : State) (o : Host.Outcome State Fault Refusal) : Prop :=
  ∀ t, o = .next t → t.life.alert = true → s.life.alert = true

variable {s u : State}

theorem alertKept_next (h : u.life.alert = true → s.life.alert = true) : AlertKept s (.next u) := by
  rintro t ⟨⟩
  exact h

theorem ok_alertKept (s u : State) : AlertKept s (ok s u) := alertKept_next id

theorem okLock_alertKept (s u : State) : AlertKept s (okLock s u) := alertKept_next id

theorem okLoad_alertKept (s u : State) : AlertKept s (okLoad s u) :=
  alertKept_next (by dsimp only; split <;> exact id)

theorem okStart_alertKept (s u : State) : AlertKept s (okStart s u) :=
  alertKept_next (by dsimp only; split <;> exact id)

/-- A write can release nALERT, by a reset or by the release of the loupe, and cannot assert it. -/
theorem okWrite_alertKept (s u : State) : AlertKept s (okWrite s u) :=
  alertKept_next (by dsimp only; split <;> simp +contextual)

theorem okLife_alertKept (h : u.life.alert = true → s.life.alert = true) : AlertKept s (okLife s u) :=
  alertKept_next h

theorem okLife_alertKept_of_eq (h : u.life.alert = s.life.alert) : AlertKept s (okLife s u) := okLife_alertKept fun hu => h ▸ hu

theorem live_alert {f : State → State} (hf : s.ready = true → (f s).life.alert = s.life.alert) :
    (s.live f).life.alert = s.life.alert := by
  unfold State.live
  split
  · exact hf ‹_›
  · rfl

/-- The first fatal error halts the device and asserts nothing: its dump is not complete (R490). -/
theorem fatal_alert_of_running (c : FatalClass) (d : BitVec 32) (h : s.life.phase ≠ .fatal) :
    (s.fatal c d).life.alert = s.life.alert := by
  simp [State.fatal, h]

theorem powerOn_alert (s : State) : s.powerOn.life.alert = false := rfl

theorem warmPulse_alert (x : ResetPulse) (h : (s.warmPulse x).life.alert = true) : s.life.alert = true := by
  unfold State.warmPulse at h
  split at h
  · cases h
  · split at h <;> exact h

theorem boot_alert (rows : List Nat) (a b : Bool) (x : ResetEnd) : (s.boot rows a b x).life.alert = s.life.alert := by
  unfold State.boot
  dsimp only
  split
  · rfl
  · have hp : s.life.phase ≠ .fatal := by simp_all
    split
    · exact fatal_alert_of_running .boot 0 hp
    · split
      · exact fatal_alert_of_running .boot 1 hp
      · rfl

theorem referenceFailure_alert (b : Bool) (h : s.ready = true) : (s.referenceFailure b).life.alert = s.life.alert := by
  have hf (d : BitVec 32) := fatal_alert_of_running (s := { s.refFails b with life := s.life }) .reference d (ready_not_fatal s h)
  unfold State.referenceFailure
  dsimp only at hf ⊢
  split_ifs
  exacts [rfl, hf _, rfl, rfl, hf _, rfl]

theorem scrub_alert (rows : List Nat) (bad : Option Nat) (h : s.ready = true) :
    (s.scrub rows bad).life.alert = s.life.alert := by
  have hp := ready_not_fatal s h
  unfold State.scrub
  dsimp only
  cases bad with
  | none => dsimp only; split <;> rfl
  | some a => dsimp only; split <;> exact fatal_alert_of_running .sram _ hp

/-- The two commands that can assert nALERT (R417, R493). -/
def alerting : Instr → Bool
  | .loupeDumpComplete _ _ | .fatalError _ _ => true
  | _ => false

/-- Every other command keeps nALERT where it was released: most leave the life of the device as it is (`ok`), and the commands of
the life itself reset the device, or halt a running one. -/
theorem exec_alertKept (s : State) (c : Instr) (h : alerting c = false) : AlertKept s (exec c s) := by
  cases c with
  | loupeDumpComplete => cases h
  | fatalError => cases h
  | powerOnReset => exact okLife_alertKept fun h => by rw [powerOn_alert] at h; cases h
  | warmReset x => exact okLife_alertKept (warmPulse_alert x)
  | bootSequence rows a b x => exact okLife_alertKept_of_eq (boot_alert rows a b x)
  | referenceFailure b => exact okLife_alertKept_of_eq (live_alert (referenceFailure_alert b))
  | sramScrub rows bad => exact okLife_alertKept_of_eq (live_alert (scrub_alert rows bad))
  | profileLoad | profileFallbackLoad => exact okLoad_alertKept s _
  | referencesSettled => exact okStart_alertKept s _
  | dbgLock => exact okLock_alertKept s _
  | resetKey | loupeRelease | registerWrite | claspApply | frameTransmitted | frameReceived | rreqRegWrite =>
    exact okWrite_alertKept s _
  | _ => exact ok_alertKept s _

/-! ## The two commands that assert it (R490, R493) -/

theorem fatalAgain_alert {c : FatalClass} (ha : s.life.alert = false) (h : (s.fatalAgain c).life.alert = true) :
    s.life.loupeValid = true ∧ (s.fatalAgain c).life.fatalDone = true := by
  unfold State.fatalAgain at h ⊢
  split at h
  · rename_i hv
    exact ⟨hv, by rw [if_pos hv]; rfl⟩
  · rw [ha] at h; cases h

theorem fatal_alert {c : FatalClass} {d : BitVec 32} (ha : s.life.alert = false) (h : (s.fatal c d).life.alert = true) :
    s.life.phase = .fatal ∧ (s.fatal c d).life.fatalDone = true ∧ s.life.loupeValid = true := by
  by_cases hp : s.life.phase = .fatal
  · have hf : s.fatal c d = s.fatalAgain c := if_pos hp
    rw [hf] at h ⊢
    obtain ⟨hv, hd⟩ := fatalAgain_alert ha h
    exact ⟨hp, hd, hv⟩
  · rw [fatal_alert_of_running c d hp, ha] at h; cases h

/-- A further fatal error asserts nALERT only while a dump is held (R493). -/
theorem fatalEvent_alert {c : FatalClass} {d : BitVec 32} (ha : s.life.alert = false)
    (h : (s.fatalEvent c d).life.alert = true) :
    s.life.phase = .fatal ∧ (s.fatalEvent c d).life.fatalDone = true ∧ s.life.loupeValid = true := by
  have he : s.fatalEvent c d = s.fatal c d ∨ s.fatalEvent c d = s := by
    unfold State.fatalEvent
    split
    · split
      · exact .inl rfl
      · exact .inr rfl
    · exact .inl rfl
  rcases he with he | he <;> rw [he] at h ⊢
  · exact fatal_alert ha h
  · rw [ha] at h; cases h

/-- The completion of the dump is an event of the fatal state alone. -/
theorem dumpComplete_idle (hw il : Bool) (h : s.life.phase ≠ .fatal ∨ s.life.fatalDone = true) :
    s.dumpComplete hw il = s := if_pos h

/-- Each way in which the dump of an error ends completes it and asserts nALERT (R490, R491, R493). -/
theorem dumpComplete_asserts (hw il : Bool) (hp : s.life.phase = .fatal) (hd : s.life.fatalDone = false) :
    (s.dumpComplete hw il).life.alert = true ∧ (s.dumpComplete hw il).life.fatalDone = true := by
  unfold State.dumpComplete
  rw [if_neg (by simp [hp, hd])]
  dsimp only
  split
  · exact ⟨rfl, rfl⟩
  · split <;> exact ⟨rfl, rfl⟩

theorem dumpComplete_alert {hw il : Bool} (ha : s.life.alert = false) (h : (s.dumpComplete hw il).life.alert = true) :
    s.life.phase = .fatal ∧ (s.dumpComplete hw il).life.fatalDone = true := by
  by_cases hi : s.life.phase ≠ .fatal ∨ s.life.fatalDone = true
  · rw [dumpComplete_idle hw il hi, ha] at h; cases h
  · obtain ⟨hp, hd⟩ := not_or.mp hi
    have hp := not_not.mp hp
    exact ⟨hp, (dumpComplete_asserts hw il hp (by simpa using hd)).2⟩

/-- Settles O56: every command but two keeps nALERT (`exec_alertKept`), and those two assert it in the fatal state with a complete
dump. -/
theorem alertOnlyForADump : Obligations.AlertOnlyForADump := by
  unfold Obligations.AlertOnlyForADump
  constructor
  · intro c s t ha hexec ht
    by_cases hc : alerting c = true
    · cases c with
      | loupeDumpComplete hw il =>
        cases hexec
        obtain ⟨hp, hd⟩ := dumpComplete_alert ha ht
        exact ⟨hp, hd, .inl ⟨hw, il, rfl⟩⟩
      | fatalError e d =>
        cases hexec
        obtain ⟨hp, hd, hv⟩ := fatalEvent_alert ha ht
        exact ⟨hp, hd, .inr ⟨hv, e, d, rfl⟩⟩
      | _ => cases hc
    · have := exec_alertKept s c (by simpa using hc) t hexec ht
      rw [ha] at this; cases this
  · intro hw il m0 m1 s hp hd
    exact ⟨_, rfl, (dumpComplete_asserts (s := { s with ctl := { s.ctl with mask0 := m0, mask1 := m1 } }) hw il hp hd).1⟩

end Sys2Proof.Proofs
end

section
/-! SUPPORT. A run on which `BUDGET_USED` does not read the use of the frame that has ended. -/

namespace Sys2Proof.Proofs

open Sys2Proof Sys2Proof.Machine Sys2Proof.Laws

/-! ## A frame boundary at which a remote master's reset is served (R434, R446, R470)

The MP serves at a frame boundary the requests that its spent budget has kept waiting (`State.serveRenewed`), after the counts of
the frame that ends have been taken over. One of them may be a write of the key to `RESET_CTL`: the warm reset then clears those
counts with the rest of the state. -/

/-- A window read that costs the MP's budget one transfer, and a write of the reset key, by the holder of port A's session. -/
def windowRead : Req := { node := 5, tag := 1, count := 1 }
def resetWrite : Req := { node := 5, tag := 2, count := 1, addr := 7, data := [0x5A, 0xA5] }

/-- A running device at tick 400, before its frame boundary: port A is on the bus, node 5 holds its session and may write the
control registers and space 0x0, and the MP has used the whole budget of the frame. -/
def budgetSpent : State :=
  { State.reset with
    life := { phase := .settled, drivesOn := true }
    time := { tick := 400 }
    ctl := { bezel := [(0, 0x033F), (8, 0x033F)] }
    candev := { clkOk := true, clkKhz := 40000 }
    can := [(0, { st := .errorActive })]
    sess := [(0, { holder := some 5 })]
    budget := { used := [0, 0, 0, 0, 0, 20000, 0, 0] } }

/-- The same with requests waiting, the first of which has stalled on the budget. -/
def requestsWaiting (ws : List (Nat × Req)) : State :=
  { budgetSpent with
    ctl := { bezel := [(0, 0x033F), (8, 0x033F)], irq0 := 0x0400 }
    sess := [(0, { holder := some 5, lastTick := 400, waiting := ws })]
    budget := { budgetSpent.budget with
      stalled := [false, false, false, false, false, true, false, false], ovr := [0, 0, 0, 0, 0, 1, 0, 0] } }

/-- The device with both requests waiting. -/
def resetWaits : State := requestsWaiting [(opWinRead, windowRead), (opRegWrite, resetWrite)]

/-- The two requests, received in turn, bring the device there: the read waits for the budget and the write behind it. -/
theorem requests_lead_to_resetWaits :
    exec (.rreqWinRead 0 windowRead) budgetSpent = .next (requestsWaiting [(opWinRead, windowRead)]) ∧
    exec (.rreqRegWrite 0 resetWrite) (requestsWaiting [(opWinRead, windowRead)]) = .next resetWaits :=
  ⟨rfl, rfl⟩

/-- The frame boundary serves both, and the reset leaves no count of the frame that has ended. -/
theorem frameBoundary_resetWaits_usedLast :
    (resetWaits.frameBoundary 400000 40000).budget.usedLast = [0, 0, 0, 0, 0, 0, 0, 0] := by
  decide +kernel

theorem ok_budget {s u t : State} (h : ok s u = .next t) : t.budget = u.budget := by
  rw [ok_eq] at h
  cases h
  rfl

/-- Refutes O58: the frame boundary that serves a waiting write of the reset key leaves `BUDGET_USED` cleared, where the MP has
used 20,000 transfers in the frame. -/
theorem not_budgetReadsUseAndOverruns : ¬ Obligations.BudgetReadsUseAndOverruns := by
  unfold Obligations.BudgetReadsUseAndOverruns
  rintro ⟨hframe, -⟩
  obtain ⟨t, ht, hused⟩ := hframe 400000 40000 resetWaits rfl rfl (by decide)
  have hcleared : [0, 0, 0, 0, 0, 0, 0, 0] = resetWaits.budget.used := by
    rw [← hused, ok_budget ht, frameBoundary_resetWaits_usedLast]
  exact absurd hcleared (by decide)

end Sys2Proof.Proofs
end

section
/-! SUPPORT. The lands of the facets (R498, R499): what the array holds at the places of a B-facet and of a Z-facet. -/

namespace Sys2Proof.Proofs

open Sys2Proof Sys2Proof.Machine

/-- The land of B-facet `n` that lies `k` columns right of its first (R498). -/
def facetLand (n : Nat) : Nat → Land
  | 0 => .inp n | 1 => .inn n | 2 => .exs n | _ => .exf n

/-- The land of Z-facet `m` that lies `k` columns right of its first, with the ground land that follows its own four (R499). -/
def cellLand (m : Nat) : Nat → Land
  | 0 => .zdrv m | 1 => .zdrs m | 2 => .zgrd m | 3 => .zsns m | _ => .power .agnd

/-- Blocks of `w` columns, numbered from 0, begin at column 1: column `k` of block `d` lies in that block, at that offset. -/
theorem block_of_column {w k : Nat} (d : Nat) (hk : k < w) :
    (w * d + 1 + k - 1) / w = d ∧ (w * d + 1 + k - 1) % w = k := by
  have hcol : w * d + 1 + k - 1 = w * d + k := by omega
  rw [hcol, Nat.mul_add_div (by omega), Nat.div_eq_of_lt hk, Nat.mul_add_mod, Nat.mod_eq_of_lt hk]
  exact ⟨rfl, rfl⟩

/-- A row of the B-facets holds fourteen blocks of four lands. -/
theorem landAt_bRow {i d k : Nat} (hi : i < 32) (hd : d < 14) (hk : k < 4) :
    landAt i (4 * d + 1 + k) = facetLand (14 * i + d) k := by
  obtain ⟨hblock, hoffset⟩ := block_of_column d hk
  have hcol : ¬ 57 ≤ 4 * d + 1 + k := by omega
  unfold landAt
  simp only [hi, hcol, hblock, hoffset, if_true, if_false]
  match k, hk with
  | 0, _ | 1, _ | 2, _ | 3, _ => rfl

/-- A row of the Z-facets holds eleven blocks of five lands, up to Z-facet 63. -/
theorem landAt_zRow {r d k : Nat} (hm : 11 * r + d < 64) (hd : d < 11) (hk : k < 5) :
    landAt (32 + r) (5 * d + 1 + k) = cellLand (11 * r + d) k := by
  obtain ⟨hblock, hoffset⟩ := block_of_column d hk
  have hbelow : ¬ 32 + r < 32 := by omega
  have hrow : 32 + r < 38 := by omega
  have hland : ¬ (56 ≤ 5 * d + 1 + k ∨ 64 ≤ 11 * r + d) := by omega
  unfold landAt
  simp only [hbelow, hrow, Nat.add_sub_cancel_left, hblock, hoffset, hland, if_true, if_false]
  match k, hk with
  | 0, _ | 1, _ | 2, _ | 3, _ | 4, _ => rfl

/-- The four lands of a B-facet lie from its place on. -/
theorem landAt_facetPlace {n k : Nat} (hn : n < 448) (hk : k < 4) :
    landAt (facetPlace n).1 ((facetPlace n).2 + k) = facetLand n k := by
  have h := landAt_bRow (i := n / 14) (d := n % 14) (by omega) (by omega) hk
  rwa [Nat.div_add_mod] at h

/-- The four lands of a Z-facet, and a ground land, lie from its place on. -/
theorem landAt_cellPlace {m k : Nat} (hm : m < 64) (hk : k < 5) :
    landAt (cellPlace m).1 ((cellPlace m).2 + k) = cellLand m k := by
  have h := landAt_zRow (r := m / 11) (d := m % 11) (by omega) (by omega) hk
  rwa [Nat.div_add_mod] at h

/-- Row BA holds the excitation returns in order. -/
theorem landAt_rowBA {g : Nat} (hg : g < 56) : landAt 38 (g + 1) = .exret g :=
  if_pos (show g + 1 ≤ 56 by omega)

/-- Settles O54: a facet's row and column are quotient and remainder of its number, and each row is cut into blocks of one facet's
lands. -/
theorem landsOfFacets : Obligations.LandsOfFacets := by
  unfold Obligations.LandsOfFacets
  refine ⟨fun n hn => ?_, ⟨by decide, fun g hg => landAt_rowBA hg⟩, fun m hm => ?_⟩
  · have h (k : Nat) (hk : k < 4) := landAt_facetPlace hn hk
    exact ⟨h 0 (by omega), h 1 (by omega), h 2 (by omega), h 3 (by omega)⟩
  · have h (k : Nat) (hk : k < 5) := landAt_cellPlace hm hk
    exact ⟨h 0 (by omega), h 1 (by omega), h 2 (by omega), h 3 (by omega), h 4 (by omega)⟩

end Sys2Proof.Proofs
end

section
/-! SUPPORT. Direct writes of a register word (R8, R10): what its RW fields take of the word written, and what a write whose
fields all hold listed values does. -/

namespace Sys2Proof.Proofs

open Sys2Proof Sys2Proof.Machine Sys2Proof.Laws

variable {s t u : State} {m : Master}

/-! ## Fields of a word -/

theorem testBit_bits (x lo n i : Nat) : (bits x lo n).testBit i = (decide (i < n) && x.testBit (lo + i)) := by
  rw [bits, Nat.testBit_mod_two_pow, ← Nat.shiftRight_eq_div_pow, Nat.testBit_shiftRight]

theorem testBit_fld (w : Word) (lo n i : Nat) : (fld w lo n).testBit i = (decide (i < n) && w.getLsbD (lo + i)) :=
  testBit_bits ..

/-- A field holds the bits of its word. -/
theorem fld_congr {v w : Word} {lo n : Nat} (h : ∀ i < n, v.getLsbD (lo + i) = w.getLsbD (lo + i)) :
    fld v lo n = fld w lo n := by
  refine Nat.eq_of_testBit_eq fun i => ?_
  rw [testBit_fld, testBit_fld]
  by_cases hi : i < n
  · rw [h i hi]
  · simp [hi]

theorem fld_lt (w : Word) (lo n : Nat) : fld w lo n < 2 ^ n := Nat.mod_lt _ (Nat.two_pow_pos n)

/-- A number with its field `lo`, `n` cut out: what lies below, and what lies above. -/
theorem sub_bits (x lo n : Nat) : x - bits x lo n * 2 ^ lo = x % 2 ^ lo + x / 2 ^ (lo + n) * 2 ^ (lo + n) := by
  have h1 : x = x / 2 ^ lo * 2 ^ lo + x % 2 ^ lo := (Nat.div_add_mod' x _).symm
  have h2 : x / 2 ^ lo = x / 2 ^ lo / 2 ^ n * 2 ^ n + bits x lo n := (Nat.div_add_mod' _ _).symm
  rw [Nat.div_div_eq_div_mul, ← pow_add] at h2
  have h3 : x = x / 2 ^ (lo + n) * 2 ^ (lo + n) + bits x lo n * 2 ^ lo + x % 2 ^ lo := by
    calc x = (x / 2 ^ (lo + n) * 2 ^ n + bits x lo n) * 2 ^ lo + x % 2 ^ lo := by rw [← h2]; exact h1
      _ = _ := by rw [pow_add]; ring
  omega

/-- A bit of a word with a field set: in the field the bit of the value, elsewhere the bit of the word. -/
theorem getLsbD_setFld (w : Word) {lo n i : Nat} (v : Nat) (hi : i < 16) :
    (setFld w lo n v).getLsbD i = if lo ≤ i ∧ i < lo + n then v.testBit (i - lo) else w.getLsbD i := by
  have hs : w.toNat - bits w.toNat lo n * 2 ^ lo + v % 2 ^ n * 2 ^ lo
      = 2 ^ (lo + n) * (w.toNat / 2 ^ (lo + n)) + (2 ^ lo * (v % 2 ^ n) + w.toNat % 2 ^ lo) := by
    rw [sub_bits]; ring
  have hlo : w.toNat % 2 ^ lo < 2 ^ lo := Nat.mod_lt _ (Nat.two_pow_pos lo)
  have hmid : 2 ^ lo * (v % 2 ^ n) + w.toNat % 2 ^ lo < 2 ^ (lo + n) := by
    have : v % 2 ^ n + 1 ≤ 2 ^ n := Nat.mod_lt _ (Nat.two_pow_pos n)
    calc _ < 2 ^ lo * (v % 2 ^ n) + 2 ^ lo := by omega
      _ = 2 ^ lo * (v % 2 ^ n + 1) := by ring
      _ ≤ 2 ^ lo * 2 ^ n := Nat.mul_le_mul_left _ this
      _ = _ := (pow_add 2 lo n).symm
  rw [setFld, BitVec.getLsbD_ofNat, hs, Nat.testBit_two_pow_mul_add _ hmid]
  simp only [hi, decide_true, Bool.true_and, BitVec.getLsbD]
  by_cases h1 : i < lo
  · rw [if_pos (by omega), if_neg (by omega), Nat.testBit_two_pow_mul_add _ hlo, if_pos h1, Nat.testBit_mod_two_pow]
    simp [h1]
  · by_cases h2 : i < lo + n
    · rw [if_pos h2, if_pos ⟨by omega, h2⟩, Nat.testBit_two_pow_mul_add _ hlo, if_neg h1, Nat.testBit_mod_two_pow]
      simp [show i - lo < n by omega]
    · rw [if_neg h2, if_neg (by omega), ← Nat.shiftRight_eq_div_pow, Nat.testBit_shiftRight]
      congr 1; omega

/-- The field that was set reads the value. -/
theorem fld_setFld_self (w : Word) {lo n : Nat} (v : Nat) (h : lo + n ≤ 16) : fld (setFld w lo n v) lo n = v % 2 ^ n := by
  refine Nat.eq_of_testBit_eq fun i => ?_
  rw [testBit_fld, Nat.testBit_mod_two_pow]
  by_cases hi : i < n
  · rw [getLsbD_setFld w v (by omega), if_pos (by omega)]
    simp
  · simp [hi]

/-- Another field reads as before. -/
theorem fld_setFld_other (w : Word) {lo n a b : Nat} (v : Nat) (hb : a + b ≤ 16)
    (hd : a + b ≤ lo ∨ lo + n ≤ a) : fld (setFld w lo n v) a b = fld w a b :=
  fld_congr fun i hi => by rw [getLsbD_setFld w v (by omega), if_neg (by omega)]

/-! ## What the RW fields take -/

/-- Bit `i` lies in a field of the list. -/
def covered (fs : List RwField) (i : Nat) : Bool := fs.any fun f => decide (f.1 ≤ i ∧ i < f.1 + f.2.1)

theorem rwFields_fit (off : Nat) : ∀ f ∈ rwFields off, f.1 + f.2.1 ≤ 16 := by
  unfold rwFields
  split <;> simp [anyV, upTo, inRange]

/-- Fields put one after another into a word leave in it the bits of `v` that they cover. -/
theorem getLsbD_foldl_setFld (v : Word) {i : Nat} (hi : i < 16) : ∀ (fs : List RwField) (w : Word),
    (∀ f ∈ fs, f.1 + f.2.1 ≤ 16) →
    (fs.foldl (fun w f => setFld w f.1 f.2.1 (fld v f.1 f.2.1)) w).getLsbD i
      = if covered fs i then v.getLsbD i else w.getLsbD i
  | [], _, _ => rfl
  | f :: fs, w, h => by
    have hf := h f (List.mem_cons_self ..)
    rw [List.foldl_cons, getLsbD_foldl_setFld v hi fs _ fun g hg => h g (List.mem_cons_of_mem _ hg),
      getLsbD_setFld w _ hi]
    by_cases hc : f.1 ≤ i ∧ i < f.1 + f.2.1
    · rw [if_pos hc, testBit_fld, Nat.add_sub_cancel' hc.1]
      have : covered (f :: fs) i = true := by simp only [covered, List.any_cons, hc, and_self, decide_true, Bool.true_or]
      rw [this, if_pos rfl, decide_eq_true (show i - f.1 < f.2.1 by omega), Bool.true_and, ite_self]
    · rw [if_neg hc]
      have : covered (f :: fs) i = covered fs i := by simp only [covered, List.any_cons, hc, decide_false, Bool.false_or]
      rw [this]

/-- Where all fields hold listed values, the word taken is the written one with its other bits 0. -/
theorem rwMerge_eq_foldl {off : Nat} {v : Word} (old : Word) (h : encBad off v = false) :
    rwMerge off old v = (rwFields off).foldl (fun w f => setFld w f.1 f.2.1 (fld v f.1 f.2.1)) 0 := by
  have hl : ∀ (fs : List RwField) (w : Word), (∀ f ∈ fs, f.2.2 (fld v f.1 f.2.1) = true) →
      fs.foldl (fun w (x : RwField) => match x with
        | (lo, n, ok) => if ok (fld v lo n) then setFld w lo n (fld v lo n) else setFld w lo n (fld old lo n)) w
      = fs.foldl (fun w f => setFld w f.1 f.2.1 (fld v f.1 f.2.1)) w := by
    intro fs
    induction fs with
    | nil => intro w _; rfl
    | cons f fs ih =>
      intro w hf
      have h1 := hf f (List.mem_cons_self ..)
      simp only [List.foldl_cons, h1, if_true]
      exact ih _ fun g hg => hf g (List.mem_cons_of_mem _ hg)
  refine hl _ 0 fun f hf => ?_
  have := List.any_eq_false.mp h f hf
  simpa using this

theorem getLsbD_rwMerge {off i : Nat} {v : Word} (old : Word) (h : encBad off v = false) (hi : i < 16) :
    (rwMerge off old v).getLsbD i = (covered (rwFields off) i && v.getLsbD i) := by
  rw [rwMerge_eq_foldl old h, getLsbD_foldl_setFld v hi _ _ (rwFields_fit off)]
  cases covered (rwFields off) i <;> simp

/-- A field takes what is written to it. -/
theorem fld_rwMerge {off lo n : Nat} {v : Word} (old : Word) (h : encBad off v = false)
    (hc : ∀ i < n, covered (rwFields off) (lo + i) = true) (hn : lo + n ≤ 16) :
    fld (rwMerge off old v) lo n = fld v lo n :=
  fld_congr fun i hi => by rw [getLsbD_rwMerge old h (by omega), hc i hi, Bool.true_and]

/-- Where all fields hold listed values, the word taken is the written one under the mask `k` of the fields. -/
theorem rwMerge_and {off : Nat} {v : Word} (old k : Word) (h : encBad off v = false)
    (hk : ∀ i < 16, k.getLsbD i = covered (rwFields off) i) : rwMerge off old v = v &&& k := by
  refine BitVec.eq_of_getLsbD_eq fun i hi => ?_
  rw [getLsbD_rwMerge old h hi, BitVec.getLsbD_and, hk i hi, Bool.and_comm]

/-- The word of one bit has the bits of a word under its mask. -/
theorem and_ne_zero_of_fld {v k : Word} {b : Nat} (hv : fld v b 1 = 1) (hk : fld k b 1 = 1) : v &&& k ≠ 0 := by
  have hb (w : Word) (h : fld w b 1 = 1) : w.getLsbD b = true := by
    have := testBit_fld w b 1 0
    rw [h] at this
    simpa using this.symm
  intro h0
  have : (v &&& k).getLsbD b = true := by rw [BitVec.getLsbD_and, hb v hv, hb k hk]; rfl
  rw [h0] at this
  simp at this

/-! ## Direct writes -/

/-- The state after the RW fields have taken the word, and before the fields that act at once. -/
def stored (s : State) (m : Master) (off : Nat) (v : Word) : State := s.regStore m off (rwMerge off (s.regWord m off) v) v

/-- A register word outside the port registers of CAN, no bit of which advances a selector. -/
def simpleReg (off : Nat) : Bool := !(decide (0x61 ≤ off ∧ off ≤ 0x6E)) && off != 0x54 && off != 0x7F && !ownReg off

/-- A write whose RW fields hold listed values and which sets no field that acts at once. -/
theorem regDirect_store {off : Nat} {v : Word} (hs : simpleReg off = true) (hb : encBad off v = false)
    (hn : v &&& nowMask off = 0) (ho : off ≠ 0x0B) (hf : rwFields off ≠ []) :
    s.regDirect m off v = stored s m off v := by
  simp only [simpleReg, Bool.and_eq_true, Bool.not_eq_true', decide_eq_false_iff_not, bne_iff_ne, ne_eq] at hs
  obtain ⟨⟨⟨hc, h54⟩, -⟩, -⟩ := hs
  simp [State.regDirect, State.portIgnores, hc, hb, hn, ho, hf, State.afterAccess, h54, stored]

/-- A write whose RW fields hold listed values and which sets a field that acts at once. -/
theorem regDirect_store_now {off : Nat} {v : Word} (hs : simpleReg off = true) (hb : encBad off v = false)
    (hn : v &&& nowMask off ≠ 0) (hf : rwFields off ≠ []) :
    s.regDirect m off v = (stored s m off v).regNow m off v := by
  simp only [simpleReg, Bool.and_eq_true, Bool.not_eq_true', decide_eq_false_iff_not, bne_iff_ne, ne_eq] at hs
  obtain ⟨⟨⟨hc, h54⟩, -⟩, -⟩ := hs
  have h61 : off ≠ 0x61 := by omega
  have hw : v &&& nowMask off ≠ 0 ∨ off = 0x0B := .inl hn
  simp only [State.regDirect, State.portIgnores, hc, hb, hf, State.afterAccess, h54, stored, State.canIgnores, hw,
    decide_false, Bool.false_and, Bool.false_eq_true, if_false, beq_false_of_ne h61, Bool.not_false, and_self, if_true]

/-- A write of a register without RW fields. -/
theorem regDirect_now {off : Nat} {v : Word} (hs : simpleReg off = true) (hn : v &&& nowMask off ≠ 0 ∨ off = 0x0B)
    (hf : rwFields off = []) : s.regDirect m off v = s.regNow m off v := by
  simp only [simpleReg, Bool.and_eq_true, Bool.not_eq_true', decide_eq_false_iff_not, bne_iff_ne, ne_eq] at hs
  obtain ⟨⟨⟨hc, h54⟩, -⟩, -⟩ := hs
  have h61 : off ≠ 0x61 := by omega
  simp only [State.regDirect, State.portIgnores, hc, encBad, hf, State.afterAccess, h54, State.canIgnores, hn, List.any_nil,
    decide_false, Bool.false_and, Bool.false_eq_true, if_false, beq_false_of_ne h61, Bool.not_false, and_self, if_true]

theorem simpleReg_direct {off : Nat} (v : Word) (h : s.directs m off) (hs : simpleReg off = true) :
    s.writeCycle m off v = (s.regDirect m off v).ack m true := by
  simp only [simpleReg, Bool.and_eq_true, Bool.not_eq_true', bne_iff_ne, ne_eq] at hs
  obtain ⟨⟨-, h7⟩, ho⟩ := hs
  exact writeCycle_direct s v h h7 ho

theorem writeCycle_store {off : Nat} {v : Word} (h : s.directs m off) (hb : encBad off v = false)
    (hn : v &&& nowMask off = 0) (hs : simpleReg off = true := by decide) (ho : off ≠ 0x0B := by decide)
    (hf : rwFields off ≠ [] := by simp [rwFields]) : s.writeCycle m off v = (stored s m off v).ack m true := by
  rw [simpleReg_direct v h hs, regDirect_store hs hb hn ho hf]

theorem writeCycle_store_now {off : Nat} {v : Word} (h : s.directs m off) (hb : encBad off v = false)
    (hn : v &&& nowMask off ≠ 0) (hs : simpleReg off = true := by decide)
    (hf : rwFields off ≠ [] := by simp [rwFields]) :
    s.writeCycle m off v = ((stored s m off v).regNow m off v).ack m true := by
  rw [simpleReg_direct v h hs, regDirect_store_now hs hb hn hf]

theorem writeCycle_now {off : Nat} {v : Word} (h : s.directs m off) (hn : v &&& nowMask off ≠ 0 ∨ off = 0x0B)
    (hs : simpleReg off = true := by decide) (hf : rwFields off = [] := by rfl) :
    s.writeCycle m off v = (s.regNow m off v).ack m true := by
  rw [simpleReg_direct v h hs, regDirect_now hs hn hf]

/-! ## What an acknowledgement and a direct write leave -/

section
variable (s : State) (m : Master) (b : Bool)

@[simp] theorem ack_free : (s.ack m b).free = s.free := by obtain ⟨c, h⟩ := ack_ex s m b; rw [h]
@[simp] theorem ack_host : (s.ack m b).host = s.host := by obtain ⟨c, h⟩ := ack_ex s m b; rw [h]
@[simp] theorem ack_mp : (s.ack m b).mp = s.mp := by obtain ⟨c, h⟩ := ack_ex s m b; rw [h]
@[simp] theorem ack_canA : (s.ack m b).canA = s.canA := by obtain ⟨c, h⟩ := ack_ex s m b; rw [h]
@[simp] theorem ack_canB : (s.ack m b).canB = s.canB := by obtain ⟨c, h⟩ := ack_ex s m b; rw [h]
@[simp] theorem ack_debug : (s.ack m b).debug = s.debug := by obtain ⟨c, h⟩ := ack_ex s m b; rw [h]
@[simp] theorem ack_fpStaged : (s.ack m b).fpStaged = s.fpStaged := by obtain ⟨c, h⟩ := ack_ex s m b; rw [h]
@[simp] theorem ack_fpActive : (s.ack m b).fpActive = s.fpActive := by obtain ⟨c, h⟩ := ack_ex s m b; rw [h]
@[simp] theorem ack_facets : (s.ack m b).facets = s.facets := by obtain ⟨c, h⟩ := ack_ex s m b; rw [h]
@[simp] theorem ack_applies : (s.ack m b).applies = s.applies := by obtain ⟨c, h⟩ := ack_ex s m b; rw [h]
@[simp] theorem ack_needSpare : (s.ack m b).needSpare = s.needSpare := by obtain ⟨c, h⟩ := ack_ex s m b; rw [h]
@[simp] theorem ack_applyCause : (s.ack m b).applyCause = s.applyCause := by obtain ⟨c, h⟩ := ack_ex s m b; rw [h]
@[simp] theorem ack_faultSum : (s.ack m b).faultSum = s.faultSum := by obtain ⟨c, h⟩ := ack_ex s m b; rw [h]
@[simp] theorem ack_fctRead : (s.ack m b).fctRead = s.fctRead := by obtain ⟨c, h⟩ := ack_ex s m b; rw [h]
@[simp] theorem ack_exc : (s.ack m b).exc = s.exc := by obtain ⟨c, h⟩ := ack_ex s m b; rw [h]
@[simp] theorem ack_spare : (s.ack m b).spare = s.spare := by obtain ⟨c, h⟩ := ack_ex s m b; rw [h]
@[simp] theorem ack_chain : (s.ack m b).chain = s.chain := by obtain ⟨c, h⟩ := ack_ex s m b; rw [h]
@[simp] theorem ack_budget : (s.ack m b).budget = s.budget := by obtain ⟨c, h⟩ := ack_ex s m b; rw [h]
@[simp] theorem ack_time : (s.ack m b).time = s.time := by obtain ⟨c, h⟩ := ack_ex s m b; rw [h]
@[simp] theorem ack_ports : (s.ack m b).ports = s.ports := by obtain ⟨c, h⟩ := ack_ex s m b; rw [h]
@[simp] theorem ack_bead : (s.ack m b).bead = s.bead := by obtain ⟨c, h⟩ := ack_ex s m b; rw [h]
@[simp] theorem ack_trg : (s.ack m b).trg = s.trg := by obtain ⟨c, h⟩ := ack_ex s m b; rw [h]
@[simp] theorem ack_cap : (s.ack m b).cap = s.cap := by obtain ⟨c, h⟩ := ack_ex s m b; rw [h]
@[simp] theorem ack_msg : (s.ack m b).msg = s.msg := by obtain ⟨c, h⟩ := ack_ex s m b; rw [h]
@[simp] theorem ack_can : (s.ack m b).can = s.can := by obtain ⟨c, h⟩ := ack_ex s m b; rw [h]
@[simp] theorem ack_candev : (s.ack m b).candev = s.candev := by obtain ⟨c, h⟩ := ack_ex s m b; rw [h]
@[simp] theorem ack_cal : (s.ack m b).cal = s.cal := by obtain ⟨c, h⟩ := ack_ex s m b; rw [h]
@[simp] theorem ack_curves : (s.ack m b).curves = s.curves := by obtain ⟨c, h⟩ := ack_ex s m b; rw [h]
@[simp] theorem ack_curveOld : (s.ack m b).curveOld = s.curveOld := by obtain ⟨c, h⟩ := ack_ex s m b; rw [h]
@[simp] theorem ack_curvePend : (s.ack m b).curvePend = s.curvePend := by obtain ⟨c, h⟩ := ack_ex s m b; rw [h]
@[simp] theorem ack_nvm : (s.ack m b).nvm = s.nvm := by obtain ⟨c, h⟩ := ack_ex s m b; rw [h]
@[simp] theorem ack_logSeq : (s.ack m b).logSeq = s.logSeq := by obtain ⟨c, h⟩ := ack_ex s m b; rw [h]
@[simp] theorem ack_winHold : (s.ack m b).winHold = s.winHold := by obtain ⟨c, h⟩ := ack_ex s m b; rw [h]
@[simp] theorem ack_loupe : (s.ack m b).loupe = s.loupe := by obtain ⟨c, h⟩ := ack_ex s m b; rw [h]
@[simp] theorem ack_trace : (s.ack m b).trace = s.trace := by obtain ⟨c, h⟩ := ack_ex s m b; rw [h]

/-- An acknowledgement writes the last cycle's answer alone. -/
theorem ack_ctl : (s.ack m b).ctl = { s.ctl with acked := (s.ack m b).ctl.acked } := by
  obtain ⟨c, h⟩ := ack_ex s m b; rw [h]

theorem ack_eq : s.ack m b = { s with ctl := { s.ctl with acked := (s.ack m b).ctl.acked } } := by
  obtain ⟨c, h⟩ := ack_ex s m b; rw [h]

end

/-- What both branches of a choice keep, the choice keeps. -/
theorem ite_keeps {β γ : Type} (g : β → γ) {c : Prop} [Decidable c] {a b : β} {x : γ} (ha : g a = x) (hb : g b = x) :
    g (if c then a else b) = x := by
  split <;> assumption

/-! ## The masters' own state under the shared operations -/

section
variable (s : State) (n : Master)

@[simp] theorem irq0_master (b : Nat) : (s.irq0 b).master n = s.master n := by cases n <;> rfl
@[simp] theorem irq1_master (b : Nat) : (s.irq1 b).master n = s.master n := by cases n <;> rfl
@[simp] theorem nextStamp_master : s.nextStamp.master n = s.master n := by cases n <;> rfl
@[simp] theorem logE_master (c k o : Nat) (d : BitVec 32) : (s.logE c k o d).master n = s.master n := by
  cases n <;> simp [State.master]
@[simp] theorem logT_master (x c k o : Nat) (d : BitVec 32) : (s.logT x c k o d).master n = s.master n := by
  cases n <;> simp [State.master]
@[simp] theorem logIgnored_master (m : Master) (o a : Nat) : (s.logIgnored m o a).master n = s.master n := by
  cases n <;> simp [State.master]
@[simp] theorem stall_master (a : Nat) : (s.stall a).master n = s.master n := by cases n <;> simp [State.master]

end

/-- A clasp that something other than its own ROLLBACK ends (R424, R425). -/
theorem claspDrop_master (s : State) (m : Master) (r : Nat) (c : BitVec 32) :
    (s.claspDrop m r c).master m = { s.master m with
      clasp := { (s.master m).clasp with isOpen := false, pend := false, full := false, writes := [], result := r } } := by
  simp [State.claspDrop, State.modClasp]

theorem claspDrop_master_other (s : State) {m n : Master} (r : Nat) (c : BitVec 32) (h : n ≠ m) :
    (s.claspDrop m r c).master n = s.master n := by
  simp [State.claspDrop, State.modClasp, master_modMaster_other _ _ h]

/-- One step of a field that acts at once: it acts where its bit is set. -/
theorem steps_one {v : Word} {b : Nat} (f : State → State) (s : State) :
    steps v [(b, f)] s = if fld v b 1 = 1 then f s else s := rfl

end Sys2Proof.Proofs
end

section
/-! SUPPORT. The life of the device from reset to reset (R431, R470 to R474, R490 to R493): which commands can change it, and
what each of them can do to it. -/

namespace Sys2Proof.Proofs

open Sys2Proof Sys2Proof.Machine Sys2Proof.Laws

variable {s t u : State}

/-! ## Every command answers a next state -/

/-- A next state with the queue as it stands. -/
def Answers (s : State) (o : Host.Outcome State Fault Refusal) : Prop := ∃ t, o = .next t ∧ t.pending = s.pending

theorem ok_answers (s u : State) : Answers s (ok s u) := ⟨_, rfl, rfl⟩
theorem okLife_answers (s u : State) : Answers s (okLife s u) := ⟨_, rfl, rfl⟩
theorem okLock_answers (s u : State) : Answers s (okLock s u) := ⟨_, rfl, rfl⟩
theorem okWrite_answers (s u : State) : Answers s (okWrite s u) := ⟨_, rfl, rfl⟩
theorem okLoad_answers (s u : State) : Answers s (okLoad s u) := ⟨_, rfl, rfl⟩
theorem okStart_answers (s u : State) : Answers s (okStart s u) := ⟨_, rfl, rfl⟩

/-- Settles O1: `step` reads the front of the queue. -/
theorem stepRunsFrontCommand : Obligations.StepRunsFrontCommand := by
  unfold Obligations.StepRunsFrontCommand
  refine ⟨fun _ _ _ => rfl, fun s h => ?_⟩
  unfold step
  rw [h]

/-- Settles O2: each way in which a meaning answers restores the queue. -/
theorem everyCommandAnswers : Obligations.EveryCommandAnswers := by
  unfold Obligations.EveryCommandAnswers
  intro c s
  change Answers s (exec c s)
  cases c with
  | powerOnReset | warmReset | bootSequence | fatalError | loupeDumpComplete | referenceFailure | sramScrub =>
    exact okLife_answers s _
  | profileLoad | profileFallbackLoad => exact okLoad_answers s _
  | referencesSettled => exact okStart_answers s _
  | dbgLock => exact okLock_answers s _
  | resetKey | loupeRelease | registerWrite | claspApply | frameTransmitted | frameReceived | rreqRegWrite =>
    exact okWrite_answers s _
  | _ => exact ok_answers s _

/-- Settles O3. -/
theorem resetHoldsLifeInvariant : Obligations.ResetHoldsLifeInvariant := by
  unfold Obligations.ResetHoldsLifeInvariant State.LifeInv
  decide

/-! ## The commands of the life -/

/-- The commands that can change the life of the device. -/
def ofLife : Instr → Bool
  | .powerOnReset | .warmReset _ | .bootSequence .. | .fatalError .. | .loupeDumpComplete .. | .referenceFailure _
  | .sramScrub .. | .profileLoad | .profileFallbackLoad | .referencesSettled | .dbgLock _ | .resetKey .. | .loupeRelease _
  | .registerWrite .. | .claspApply _ | .frameTransmitted .. | .frameReceived .. | .rreqRegWrite .. => true
  | _ => false

/-- Every other command leaves the life as it is. -/
theorem exec_life {c : Instr} (hc : ofLife c = false) (h : exec c s = .next t) : t.life = s.life := by
  cases c with
  | powerOnReset | warmReset | bootSequence | fatalError | loupeDumpComplete | referenceFailure | sramScrub | profileLoad
  | profileFallbackLoad | referencesSettled | dbgLock | resetKey | loupeRelease | registerWrite | claspApply
  | frameTransmitted | frameReceived | rreqRegWrite => cases hc
  | _ => cases h; rfl

theorem warmPulse_lifeInv (x : ResetPulse) (hs : s.LifeInv) : (s.warmPulse x).LifeInv := by
  unfold State.warmPulse
  split
  · exact warm_lifeInv s 1 _
  · split <;> exact hs

/-- Every command keeps the invariant of the life: a reset establishes it, and each other way of answering keeps it. -/
theorem exec_lifeInv {c : Instr} (hs : s.LifeInv) (h : exec c s = .next t) : t.LifeInv := by
  by_cases hc : ofLife c = true
  · cases c with
    | powerOnReset => exact okLife_lifeInv (powerOn_lifeInv s) h
    | warmReset x => exact okLife_lifeInv (warmPulse_lifeInv x hs) h
    | bootSequence rows a b x => exact okLife_lifeInv (boot_lifeInv s rows a b x hs) h
    | fatalError e d => exact okLife_lifeInv (fatalEvent_lifeInv s e d hs) h
    | loupeDumpComplete a b => exact okLife_lifeInv (dump_lifeInv s a b hs) h
    | referenceFailure b => exact okLife_lifeInv (live_lifeInv s _ hs (refFail_lifeInv s b hs)) h
    | sramScrub rows bad => exact okLife_lifeInv (live_lifeInv s _ hs (scrub_lifeInv s rows bad hs)) h
    | profileLoad | profileFallbackLoad => exact okLoad_lifeInv hs h
    | referencesSettled => exact okStart_lifeInv hs h
    | dbgLock => exact okLock_lifeInv hs h
    | resetKey | loupeRelease | registerWrite | claspApply | frameTransmitted | frameReceived | rreqRegWrite =>
      exact okWrite_lifeInv hs h
    | _ => cases hc
  · exact lifeInv_of_life (exec_life (by simpa using hc) h) hs

/-- Settles O4: an idle step changes nothing, and every command keeps the invariant (`exec_lifeInv`). -/
theorem stepKeepsLifeInvariant : Obligations.StepKeepsLifeInvariant := by
  unfold Obligations.StepKeepsLifeInvariant
  intro s t hs h
  unfold step at h
  split at h
  · cases h; exact hs
  · rename_i c rest _
    exact exec_lifeInv (s := { s with pending := rest }) hs h

/-! ## What errors, the boot and the dump leave of the life -/

/-- A change of the life by something other than a reset or the settling of the references: DBG_LOCK stands, the drives do not
start, and the fatal state does not end. -/
structure Calm (a b : LifeSt) : Prop where
  lock : b.dbgLock = a.dbgLock
  drives : b.drivesOn = true → a.drivesOn = true
  fatal : a.phase = .fatal → b.phase = .fatal

theorem Calm.refl (a : LifeSt) : Calm a a := ⟨rfl, id, id⟩

theorem calm_of_eq {a b : LifeSt} (h : b = a) : Calm a b := h ▸ Calm.refl a

theorem heldFatal_calm (s : State) (c : Nat) : Calm s.life (s.heldFatal c).life := ⟨rfl, id, id⟩

theorem fatal_calm (s : State) (c : FatalClass) (d : BitVec 32) : Calm s.life (s.fatal c d).life := by
  unfold State.fatal State.fatalAgain
  split_ifs
  · exact ⟨rfl, id, id⟩
  · exact ⟨rfl, id, id⟩
  · exact Calm.refl _
  · exact ⟨rfl, fun h => by simp at h, fun _ => rfl⟩

theorem fatalEvent_calm (s : State) (c : FatalClass) (d : BitVec 32) : Calm s.life (s.fatalEvent c d).life := by
  unfold State.fatalEvent
  split
  · split
    · exact fatal_calm ..
    · exact Calm.refl _
  · exact fatal_calm ..

theorem boot_calm (s : State) (rows : List Nat) (a b : Bool) (x : ResetEnd) : Calm s.life (s.boot rows a b x).life := by
  have hl : Calm s.life { s.life with iosel := x.iosel } := ⟨rfl, id, id⟩
  have hf (d : BitVec 32) := fatal_calm { s with life := { s.life with iosel := x.iosel } } .boot d
  unfold State.boot
  dsimp only at hf ⊢
  split_ifs with h
  · exact Calm.refl _
  · exact ⟨(hf 0).lock, (hf 0).drives, (hf 0).fatal⟩
  · exact ⟨(hf 1).lock, (hf 1).drives, (hf 1).fatal⟩
  · exact ⟨rfl, id, fun hp => absurd (by rw [hp]; simp) h⟩

theorem dumpComplete_calm (s : State) (a b : Bool) : Calm s.life (s.dumpComplete a b).life := by
  unfold State.dumpComplete
  dsimp only
  split_ifs
  exacts [Calm.refl _, heldFatal_calm s _, ⟨rfl, id, id⟩, ⟨by simp, by simp, by simp⟩]

theorem referenceFailure_calm (s : State) (b : Bool) : Calm s.life (s.referenceFailure b).life := by
  have hf (d : BitVec 32) := fatal_calm { s.refFails b with life := s.life } .reference d
  unfold State.referenceFailure
  dsimp only at hf ⊢
  split_ifs
  exacts [Calm.refl _, hf _, Calm.refl _, Calm.refl _, hf _, Calm.refl _]

theorem scrub_calm (s : State) (rows : List Nat) (bad : Option Nat) : Calm s.life (s.scrub rows bad).life := by
  unfold State.scrub
  dsimp only
  cases bad with
  | none => dsimp only; split_ifs <;> exact Calm.refl _
  | some a =>
    dsimp only
    split_ifs
    · exact fatal_calm ..
    · exact fatal_calm { s.scrubRows rows with
        life := s.life, spare := { (s.scrubRows rows).spare with scrubFrames := 0, scrubRead := 0 } } .sram _

theorem live_calm {f : State → State} (hf : Calm s.life (f s).life) : Calm s.life (s.live f).life := by
  unfold State.live
  split
  · exact hf
  · exact Calm.refl _

theorem okLoad_calm (h : okLoad s u = .next t) : Calm s.life t.life := by
  cases h
  dsimp only
  split_ifs with hx
  · exact ⟨rfl, id, fun hp => by rw [hx.2] at hp; cases hp⟩
  · exact Calm.refl _

/-- The commands that reset the device, start its drives, or write a register. -/
def stirs : Instr → Bool
  | .powerOnReset | .warmReset _ | .referencesSettled | .dbgLock _ | .resetKey .. | .loupeRelease _ | .registerWrite ..
  | .claspApply _ | .frameTransmitted .. | .frameReceived .. | .rreqRegWrite .. => true
  | _ => false

/-- Every other command leaves the life calm. -/
theorem exec_calm {c : Instr} (hc : stirs c = false) (h : exec c s = .next t) : Calm s.life t.life := by
  by_cases ho : ofLife c = true
  · cases c with
    | powerOnReset | warmReset | referencesSettled | dbgLock | resetKey | loupeRelease | registerWrite | claspApply
    | frameTransmitted | frameReceived | rreqRegWrite => cases hc
    | bootSequence rows a b x => cases h; exact boot_calm s rows a b x
    | fatalError e d => cases h; exact fatalEvent_calm s e d
    | loupeDumpComplete a b => cases h; exact dumpComplete_calm s a b
    | referenceFailure b => cases h; exact live_calm (referenceFailure_calm s b)
    | sramScrub rows bad => cases h; exact live_calm (scrub_calm s rows bad)
    | profileLoad | profileFallbackLoad => exact okLoad_calm h
    | _ => cases ho
  · exact calm_of_eq (exec_life (by simpa using ho) h)

/-! ## DBG_LOCK (R431) -/

theorem warmPulse_dbgLock (s : State) (x : ResetPulse) : (s.warmPulse x).life.dbgLock = s.life.dbgLock := by
  unfold State.warmPulse
  split_ifs <;> rfl

theorem okWrite_dbgLock (hd : s.life.dbgLock = true) (h : okWrite s u = .next t) : t.life.dbgLock = true := by
  cases h
  dsimp only
  split <;> simp [hd]

theorem okStart_dbgLock (hd : s.life.dbgLock = true) (h : okStart s u = .next t) : t.life.dbgLock = true := by
  cases h
  dsimp only
  split <;> exact hd

/-- Nothing but the return of power clears DBG_LOCK. -/
theorem exec_dbgLock {c : Instr} (hd : s.life.dbgLock = true) (hc : c ≠ .powerOnReset) (h : exec c s = .next t) :
    t.life.dbgLock = true := by
  by_cases ho : stirs c = true
  · cases c with
    | powerOnReset => exact absurd rfl hc
    | warmReset x => cases h; exact (warmPulse_dbgLock s x).trans hd
    | referencesSettled => exact okStart_dbgLock hd h
    | dbgLock => cases h; simp [hd]
    | resetKey | loupeRelease | registerWrite | claspApply | frameTransmitted | frameReceived | rreqRegWrite =>
      exact okWrite_dbgLock hd h
    | _ => cases ho
  · rw [(exec_calm (by simpa using ho) h).lock, hd]

/-- A direct write of `RUN_CTL` with DBG_LOCK set is `setDbgLock`. -/
theorem writeCycle_dbgLock {m : Master} (h : s.directs m 0x06) :
    s.writeCycle m 0x06 0x8000 = s.setDbgLock.ack m true := by
  have hm : fld (rwMerge 0x06 (s.regWord m 0x06) 0x8000) 15 1 = 1 := by
    rw [fld_rwMerge _ (by decide) (by decide) (by decide)]
    decide
  rw [writeCycle_store h (by decide) (by decide)]
  exact congrArg (fun u : State => u.ack m true) (if_pos hm)

/-- DBG_LOCK closes DEBUG: with no clasp of DEBUG open or committing it changes nothing else. -/
theorem setDbgLock_idle (hd : s.life.dbgLock = false) (ho : (s.master .debug).clasp.isOpen = false)
    (hp : (s.master .debug).clasp.pend = false) :
    s.setDbgLock = { s with life := { s.life with dbgLock := true }, ctl := { s.ctl with extest := false } } := by
  have hq : ¬ ((s.master .debug).clasp.isOpen = true ∨ (s.master .debug).clasp.pend = true) := by simp [ho, hp]
  unfold State.setDbgLock
  rw [if_neg (by simp [hd])]
  exact if_neg hq

theorem setDbgLock_pending : s.setDbgLock.pending = s.pending := by
  unfold State.setDbgLock
  dsimp only
  split_ifs <;> simp [State.claspDrop, State.modClasp]

/-- A commit that keeps the queue, and of the life sets DBG_LOCK at most, answers its effect itself. -/
theorem okLock_next (hp : u.pending = s.pending) (hl : u.life = { s.life with dbgLock := s.life.dbgLock || u.life.dbgLock }) :
    okLock s u = .next u := by
  unfold okLock
  rw [← hp, ← hl]

/-- DBG_LOCK withdraws the clasp of DEBUG, and puts nothing in force. -/
theorem setDbgLock_closes (hd : s.life.dbgLock = false) :
    s.setDbgLock.life = { s.life with dbgLock := true } ∧ s.setDbgLock.ctl.extest = false ∧
      (s.setDbgLock.master .debug).clasp.isOpen = false ∧ (s.setDbgLock.master .debug).clasp.pend = false ∧
      s.setDbgLock.fpActive = s.fpActive := by
  unfold State.setDbgLock
  rw [if_neg (by simp [hd])]
  dsimp only
  split
  · refine ⟨by simp [State.claspDrop, State.modClasp], by simp [State.claspDrop, State.modClasp], ?_, ?_,
      by simp [State.claspDrop, State.modClasp]⟩ <;> rw [claspDrop_master]
  · rename_i h
    simp only [not_or, Bool.not_eq_true] at h
    exact ⟨rfl, rfl, h.1, h.2, rfl⟩

/-- Settles O5: the direct write is `setDbgLock` (`writeCycle_dbgLock`), and `exec_dbgLock` says what keeps it. -/
theorem dbgLockHoldsUntilPowerOnReset : Obligations.DbgLockHoldsUntilPowerOnReset := by
  unfold Obligations.DbgLockHoldsUntilPowerOnReset
  refine ⟨fun m s h hd ho hp => ?_, fun m s h hd => ?_, fun c s t h hd hc => exec_dbgLock hd hc h⟩
  · have hx : exec (.dbgLock m) s = okLock s (s.writeCycle m 0x06 0x8000) := rfl
    rw [hx, writeCycle_dbgLock h, setDbgLock_idle hd ho hp]
    cases m <;> simp [okLock, State.ack, hd]
  · obtain ⟨hl, he, ho, hp, ha⟩ := setDbgLock_closes hd
    have hx : exec (.dbgLock m) s = okLock s (s.writeCycle m 0x06 0x8000) := rfl
    rw [hx, writeCycle_dbgLock h]
    have hk : okLock s (s.setDbgLock.ack m true) = .next (s.setDbgLock.ack m true) :=
      okLock_next (by simp [setDbgLock_pending]) (by simp [hl])
    exact ⟨_, hk, by simp [hl], by simp [he], by simp [ho], by simp [hp], by simp [ha]⟩

/-! ## The drives (R473, R474) -/

theorem okWrite_drives (h : okWrite s u = .next t) (ht : t.life.drivesOn = true) : s.life.drivesOn = true := by
  cases h
  dsimp only at ht
  split at ht
  · cases ht
  · exact ht

theorem warmPulse_drives (x : ResetPulse) (ht : (s.warmPulse x).life.drivesOn = true) : s.life.drivesOn = true := by
  unfold State.warmPulse at ht
  split_ifs at ht
  exacts [(by cases ht), ht, ht]

/-- Settles O7: a reset stops the drives, and every other command but the settling of the references leaves them as they are or
stops them. -/
theorem drivesStartOnlyAtA : Obligations.DrivesStartOnlyAtA := by
  unfold Obligations.DrivesStartOnlyAtA
  intro c s t hs h ht
  by_contra hc
  refine absurd (?_ : s.life.drivesOn = true) (by simp [hs])
  by_cases ho : stirs c = true
  · cases c with
    | referencesSettled => exact absurd rfl hc
    | powerOnReset => cases h; cases ht
    | warmReset x => cases h; exact warmPulse_drives x ht
    | dbgLock => cases h; exact ht
    | resetKey | loupeRelease | registerWrite | claspApply | frameTransmitted | frameReceived | rreqRegWrite =>
      exact okWrite_drives h ht
    | _ => cases ho
  · exact (exec_calm (by simpa using ho) h).drives ht

/-! ## Frames leave the life (R294, R302) -/

section
variable (s : State) (p ns : Nat) (f : Frame)

@[simp] theorem hostDone_life (i r : Nat) : (s.hostDone p i r).life = s.life := by simp [State.hostDone]
@[simp] theorem canEvent_life (b : Bool) (d : Nat) : (s.canEvent p b d).life = s.life := by simp [State.canEvent]

@[simp] theorem attemptFailed_life (i : Nat) : (s.attemptFailed p i).life = s.life := by
  unfold State.attemptFailed; split_ifs <;> simp

@[simp] theorem leaveBus_life : (s.leaveBus p).life = s.life := by
  unfold State.leaveBus; dsimp only; split <;> simp

@[simp] theorem setCanState_life (st : CanState) : (s.setCanState p st).life = s.life := by
  unfold State.setCanState; dsimp only; split_ifs <;> simp

@[simp] theorem recSuccess_life : (s.recSuccess p).life = s.life := by
  unfold State.recSuccess; extract_lets c; split_ifs <;> simp

@[simp] theorem enqueue_life (q : Nat) (x : RxFrame) : (s.enqueue p q x).life = s.life := by
  unfold State.enqueue
  extract_lets c rx put s1
  have hp (r : RxQueue) (t : State) : (put r t).life = t.life := modCanPort_life ..
  have h1 : s1.life = s.life := hp { rx with q := rx.q ++ [x] } s
  exact ite_keeps State.life (ite_keeps State.life h1 h1) (hp { rx with ovr := true, lost := satInc rx.lost } s)

@[simp] theorem filterFrame_life : (s.filterFrame p f ns).life = s.life := by
  unfold State.filterFrame
  dsimp only
  split
  · simp
  · split <;> simp

@[simp] theorem copyMark_life : (s.copyMark f).life = s.life := by
  unfold State.copyMark
  dsimp only
  split
  · rfl
  · exact foldl_keeps State.life _ (fun t q => by split <;> simp) _ s

@[simp] theorem internalCopy_life : (s.internalCopy p f).life = s.life := by
  unfold State.internalCopy; split_ifs <;> simp

@[simp] theorem frameReceived_life : (s.frameReceived p f ns).life = s.life := by
  unfold State.frameReceived; dsimp only; split_ifs <;> simp

@[simp] theorem frameTransmitted_life (tdc : Nat) : (s.frameTransmitted p tdc).life = s.life := by
  unfold State.frameTransmitted
  extract_lets c
  split
  · rfl
  · extract_lets f c1 c0 c2 s1 s2 t s3 s4
    have h3 : s3.life = s2.life := by simp only [s3]; split <;> rfl
    have h4 : s4.life = s3.life := by simp only [s4]; split <;> simp
    have h : s4.life = s.life := by rw [h4, h3]; simp [s2, s1]
    split <;> simp [h]

@[simp] theorem modRefRx_life (g : RefRx → RefRx) : (s.modRefRx p g).life = s.life := rfl
@[simp] theorem modRefTx_life (g : RefTx → RefTx) : (s.modRefTx p g).life = s.life := rfl

@[simp] theorem stopRef_life : (s.stopRef p).life = s.life := by
  unfold State.stopRef; split <;> simp

@[simp] theorem requestSync_life (y k : Nat) : (s.requestSync y k).life = s.life := by
  unfold State.requestSync; split <;> rfl

@[simp] theorem armSync_life (y k : Nat) : (s.armSync y k).life = s.life := requestSync_life ..

@[simp] theorem refSync_life (k : Nat) : (s.refSync k).life = s.life := by
  unfold State.refSync
  split
  · rfl
  · split
    · split
      · rfl
      · exact armSync_life ..
    · rfl

@[simp] theorem followRef_life : (s.followRef p).life = s.life := rfl

@[simp] theorem setTb_life (st : TbState) (k : Nat) : (s.setTb st k).life = s.life := by
  unfold State.setTb; dsimp only; split <;> simp

@[simp] theorem steer_life (now : Nat) (x : Int) (r : Rat) : (s.steer now x r).life = s.life := by
  unfold State.steer
  extract_lets t0 s1 t f inWin outWin slew s2
  have h (c : Prop) [Decidable c] (st : TbState) (k : Nat) : (if c then s2.setTb st k else s2).life = s.life :=
    ite_keeps State.life (setTb_life ..) rfl
  refine ite_keeps State.life rfl (ite_keeps State.life rfl ?_)
  split
  exacts [h _ _ _, h _ _ _, h _ _ _, rfl]

@[simp] theorem decideCont_life (now : Nat) (x : Int) (k : Nat) (st : TbState) : (s.decideCont now x k st).life = s.life := by
  unfold State.decideCont; dsimp only; split_ifs <;> rfl

@[simp] theorem refMeasure_life (now : Nat) (x : Int) (r : Rat) : (s.refMeasure p now x r).life = s.life := by
  unfold State.refMeasure
  split
  · extract_lets s1
    split
    · rfl
    · exact decideCont_life ..
  · simp
  · simp
  · extract_lets s1
    split_ifs
    exacts [rfl, rfl, steer_life .., steer_life .., rfl]

@[simp] theorem refCopy_life (v : Nat) : (s.refCopy p f ns v).life = s.life := by
  unfold State.refCopy
  extract_lets d prio station rank higher tx s1 r0 other r seq tPrev paired new s2 s3
  have h1 : s1.life = s.life := by simp only [s1]; split <;> simp
  have h3 : s3.life = s.life := by rw [← h1]; simp only [s3]; split <;> simp [s2]
  refine ite_keeps State.life rfl (ite_keeps State.life h1 (ite_keeps State.life h1 ?_))
  split
  · exact ite_keeps State.life (by rw [refMeasure_life, h3]) h3
  · exact h3

/-- In the fatal state the copies that the MP serves have no effect, and the timebase's leave the life. -/
theorem frameCopies_life_of_fatal (h : s.life.phase = .fatal) : (s.frameCopies p f ns).life = s.life := by
  unfold State.frameCopies
  dsimp only
  split_ifs
  · rfl
  · simp
  · rw [serve_fatal _ _ _ _ _ h]
  · rfl

theorem frameIn_life_of_fatal (h : s.life.phase = .fatal) : (s.frameIn p f ns).life = s.life := by
  unfold State.frameIn
  split
  · rw [frameCopies_life_of_fatal _ _ _ _ (by simp [h]), frameReceived_life]
  · rfl

theorem frameOut_life_of_fatal (tdc : Nat) (h : s.life.phase = .fatal) : (s.frameOut p tdc).life = s.life := by
  unfold State.frameOut
  dsimp only
  split
  · split
    · rw [frameCopies_life_of_fatal _ _ _ _ (by simp [h]), frameTransmitted_life]
    · simp
  · simp

end

/-! ## The fatal state ends only by a reset (R492) -/

theorem landed_life (f : State → State) (h : (f s).life = s.life) : (s.landed f).life = s.life := by
  unfold State.landed
  split
  · rfl
  · exact h

/-- A write resets the device where its effect does, and keeps the phase elsewhere. -/
theorem okWrite_phase (h : okWrite s u = .next t) :
    (u.life.phase = .reset ∧ t.life.phase = .reset) ∨ t.life.phase = s.life.phase := by
  cases h
  dsimp only
  split
  · exact .inl ⟨‹_›, ‹_›⟩
  · exact .inr rfl

/-- A write whose effect keeps the fatal state keeps it. -/
theorem okWrite_fatal (hs : s.life.phase = .fatal) (hu : u.life.phase = .fatal) (h : okWrite s u = .next t) :
    t.life.phase = .fatal := by
  rcases okWrite_phase h with ⟨hr, -⟩ | ht
  · rw [hu] at hr; cases hr
  · rw [ht, hs]

theorem warmPulse_phase (x : ResetPulse) (hs : s.life.phase = .fatal) :
    (s.warmPulse x).life.phase = .fatal ∨ (s.warmPulse x).life.phase = .reset := by
  unfold State.warmPulse
  split_ifs
  exacts [.inr rfl, .inl hs, .inl hs]

/-- A write of `RESET_CTL` in the fatal state resets the device with the key alone. -/
theorem resetCycle_phase (m : Master) (v : Word) (r : Bool) (hs : s.life.phase = .fatal) :
    (s.resetCycle m v r).life.phase = .fatal ∨ ((s.resetCycle m v r).life.phase = .reset ∧ v = 0xA55A) := by
  unfold State.resetCycle
  dsimp only
  rcases writeCycle_fatal_phase s m 7 v hs with hf | ⟨hr, -, hv⟩
  · rw [if_neg (by simp [hf])]
    exact .inl hf
  · rw [if_pos ⟨hr, by simp [hs]⟩]
    exact .inr ⟨by simp [State.warm], hv⟩

theorem live_of_fatal {f : State → State} (hs : s.life.phase = .fatal) : s.live f = s := by
  simp [State.live, State.ready, hs]

/-- Settles O6: what neither resets the device nor writes a register leaves the fatal state (`exec_calm`), and of the writes the
key in `RESET_CTL` alone resets. -/
theorem fatalEndsOnlyByReset : Obligations.FatalEndsOnlyByReset := by
  unfold Obligations.FatalEndsOnlyByReset
  intro c s t hs h
  by_cases ho : stirs c = true
  · cases c with
    | powerOnReset => cases h; exact .inr ⟨rfl, .inl rfl⟩
    | warmReset x =>
      cases h
      exact (warmPulse_phase x hs).imp_right fun hr => ⟨hr, .inr (.inl ⟨x, rfl⟩)⟩
    | referencesSettled => cases h; exact .inl (by simp [hs])
    | dbgLock => cases h; exact .inl hs
    | resetKey m v r =>
      have hu := resetCycle_phase m v r hs
      rcases okWrite_phase h with ⟨hr, ht⟩ | ht
      · obtain ⟨-, rfl⟩ := hu.resolve_left (by simp [hr])
        exact .inr ⟨ht, .inr (.inr (.inl ⟨m, r, rfl⟩))⟩
      · exact .inl (ht.trans hs)
    | loupeRelease m =>
      have hu := writeCycle_fatal_phase s m 0x0F 0x8000 hs
      exact .inl (okWrite_fatal hs (hu.resolve_right (by simp)) h)
    | registerWrite m off v =>
      have hu := writeCycle_fatal_phase s m off.toNat v hs
      rcases okWrite_phase h with ⟨hr, ht⟩ | ht
      · obtain ⟨-, h7, rfl⟩ := hu.resolve_left (by simp [hr])
        obtain rfl : off = 7 := BitVec.eq_of_toNat_eq h7
        exact .inr ⟨ht, .inr (.inr (.inr ⟨m, rfl⟩))⟩
      · exact .inl (ht.trans hs)
    | claspApply => exact .inl (okWrite_fatal hs (by rw [live_of_fatal hs, hs]) h)
    | frameTransmitted p tdc =>
      exact .inl (okWrite_fatal hs (by rw [landed_life (fun t => t.frameOut p.val tdc) (frameOut_life_of_fatal s p.val tdc hs), hs]) h)
    | frameReceived p fr ns =>
      exact .inl (okWrite_fatal hs (by rw [landed_life (fun t => t.frameIn p.val fr ns) (frameIn_life_of_fatal s p.val ns fr hs), hs]) h)
    | rreqRegWrite p r => exact .inl (okWrite_fatal hs (by rw [serve_fatal s _ _ _ _ hs, hs]) h)
    | _ => cases ho
  · exact .inl ((exec_calm (by simpa using ho) h).fatal hs)

end Sys2Proof.Proofs
end

section
/-! SUPPORT. Resets and the boot (R470 to R478): what they keep, and how the device becomes ready. -/

namespace Sys2Proof.Proofs

open Sys2Proof Sys2Proof.Machine Sys2Proof.Laws

variable {s t u : State}

/-! ## A reset brings back of a facet what the spare-map log holds (R407, R470) -/

/-- Two entries of one facet, of which a read sees the first: a table out of its canonical form. -/
def twiceListed : State := { State.reset with facets := [(0, {}), (0, { subst := some 1 })] }

/-- Refutes O8: a reset drops the entries that equal the reset value, and in a table that lists a facet twice the entry behind then
shows, so that the facet's substitution changes. -/
theorem not_resetsKeepAndClear : ¬ Obligations.ResetsKeepAndClear := by
  unfold Obligations.ResetsKeepAndClear
  rintro ⟨hpower, -⟩
  obtain ⟨t, ht, -, -, -, -, -, -, -, -, -, -, -, -, -, -, -, -, -, -, -, hfacet⟩ := hpower twiceListed
  cases ht
  exact absurd (hfacet 0).1 (by decide)

/-! ## What the shared operations leave -/

section
variable (s : State) (n k : Nat)

/-- A cause that enters touches the facet's record, the interrupt status and the messages (R53, R58, R326). -/
theorem enterCause_eq : s.enterCause n k = { s with
    facets := (s.enterCause n k).facets, ctl := (s.enterCause n k).ctl, msg := (s.enterCause n k).msg } := by
  unfold State.enterCause
  extract_lets f m was f' s1 s2
  split
  · rfl
  · have h2 : s2 = { s with facets := s2.facets, ctl := s2.ctl, msg := s2.msg } := by
      simp only [s2]; split <;> rfl
    rw [facetAlarm_eq, h2]

@[simp] theorem enterCause_nvm : (s.enterCause n k).nvm = s.nvm := by rw [enterCause_eq]
@[simp] theorem enterCause_time : (s.enterCause n k).time = s.time := by rw [enterCause_eq]

/-- Facets that a failed part of their own puts in fault: the banks and the count stand. -/
theorem loadFaults_nvm : s.loadFaults.nvm = s.nvm :=
  forFacets_keeps s State.nvm _ (fun n t => ite_keeps State.nvm (enterCause_nvm t n 10) rfl) _

theorem loadFaults_time : s.loadFaults.time = s.time :=
  forFacets_keeps s State.time _ (fun n t => ite_keeps State.time (enterCause_time t n 10) rfl) _

theorem loadFactory_nvm : s.loadFactory.nvm = s.nvm := by
  unfold State.loadFactory
  exact (foldl_keeps State.nvm (fun s t => s.bezelSet t _) (fun _ _ => rfl) _ _).trans (loadFaults_nvm s)

theorem loadFactory_time : s.loadFactory.time = s.time := by
  unfold State.loadFactory
  exact (foldl_keeps State.time (fun s t => s.bezelSet t _) (fun _ _ => rfl) _ _).trans (loadFaults_time s)

end

/-! ## The boot (R475, R476, R503, R504) -/

/-- A supply that would keep the power-on reset acting. -/
theorem resetReleased_iff (held : Bool) (x : ResetEnd) : resetReleased held x = true ↔
    ¬ (x.dvdd < 620 ∨ x.avdd5 < 4300 ∨ x.avdd18 < 1500 ∨ x.iovdd < (if x.iosel then 2700 else 1450) ∨
      (held = true ∧ (x.dvdd ≤ 660 ∨ x.avdd5 ≤ 4500 ∨ x.avdd18 ≤ 1620 ∨ x.iovdd ≤ (if x.iosel then 2950 else 1600)))) := by
  have hs (v : Supply) (b : Bool) (a r mv : Nat) (ht : thresholds v b = some (a, r)) :
      supplyEffect v b held mv != .reset ↔ ¬ (mv < a ∨ (held = true ∧ mv ≤ r)) := by
    unfold supplyEffect
    rw [ht]
    dsimp only
    split
    · simp_all
    · rename_i h
      simp only [h, not_false_eq_true, iff_true, bne_iff_ne, ne_eq]
      cases v <;> simp <;> split <;> simp
  unfold resetReleased
  cases hx : x.iosel <;>
  · simp only [List.all_cons, List.all_nil, Bool.and_true, Bool.and_eq_true, hs .dvdd _ 620 660 _ rfl,
      hs .avdd5 _ 4300 4500 _ rfl, hs .avdd18 _ 1500 1620 _ rfl, hs .iovdd true 2700 2950 _ rfl,
      hs .iovdd false 1450 1600 _ rfl, if_true, Bool.false_eq_true, if_false]
    tauto

theorem fatal_of_running (c : FatalClass) (d : BitVec 32) (h : s.life.phase ≠ .fatal) :
    (s.fatal c d).life = { s.life with
      phase := .fatal, drivesOn := false, fatalClass := fatalCode c, fatalDetail := d, fatalTick := s.tick
      fatalDone := false, fatalStall := none } := by
  unfold State.fatal
  rw [if_neg h]

/-- A supply that is not up keeps the device in reset. -/
theorem boot_held {rows : List Nat} {a b : Bool} {x : ResetEnd}
    (h : resetReleased (s.life.resetKind == 0) x = false) : s.boot rows a b x = s := by
  simp [State.boot, h]

/-- Too many failed rows, or bad trim, halt the boot. -/
theorem boot_fails {rows : List Nat} {a b : Bool} {x : ResetEnd} (hp : s.life.phase = .reset)
    (hr : resetReleased (s.life.resetKind == 0) x = true)
    (h : 160 < ((rows ++ s.spare.rowsMarked).dedup).length ∨ a = false) :
    ∃ d, (s.boot rows a b x).life = { s.life with
      iosel := x.iosel, phase := .fatal, drivesOn := false, fatalClass := fatalCode .boot, fatalDetail := d
      fatalTick := s.tick, fatalDone := false, fatalStall := none } := by
  have hf (d : BitVec 32) := fatal_of_running (s := { s with life := { s.life with iosel := x.iosel } }) .boot d (by simp [hp])
  unfold State.boot
  rw [if_neg (by simp [hp, hr])]
  dsimp only at hf ⊢
  by_cases h1 : 160 < ((rows ++ s.spare.rowsMarked).dedup).length
  · rw [if_pos h1]; exact ⟨0, hf 0⟩
  · rw [if_neg h1, if_pos (by simpa using h.resolve_left h1)]; exact ⟨1, hf 1⟩

/-- Otherwise the device boots from the bank tried first. -/
theorem boot_runs {rows : List Nat} {b : Bool} {x : ResetEnd} (hp : s.life.phase = .reset)
    (hr : resetReleased (s.life.resetKind == 0) x = true) (h : ¬ 160 < ((rows ++ s.spare.rowsMarked).dedup).length) :
    ∃ m l, s.boot rows true b x = { s with
      life := { s.life with phase := .booting, patched := b, iosel := x.iosel }
      spare := { s.spare with rowsUsed := ((rows ++ s.spare.rowsMarked).dedup).length, rowsNew := m, rowsDone := l }
      nvm := { s.nvm with chosen := s.firstBank, refused := 0 } } := by
  unfold State.boot
  rw [if_neg (by simp [hp, hr])]
  dsimp only
  rw [if_neg h, if_neg (by simp)]
  exact ⟨_, _, rfl⟩

/-! ## The load (R473, R478, R482) -/

theorem atL_life (b : Option Nat) : (s.atL b).life = { s.life with phase := .ready, lTick := s.tick } := rfl
theorem atL_ctl (b : Option Nat) : (s.atL b).ctl = { s.ctl with wdtFrom := some s.tick } := rfl
theorem atL_bank (b : Option Nat) : (s.atL b).nvm.bank = b := rfl
theorem atL_brSeq (b : Option Nat) : (s.atL b).nvm.brSeq = s.nvm.brSeq + 1 := rfl

/-- At L the booted device becomes ready. -/
theorem okLoad_ready (hs : s.life.phase = .booting) (hu : u.life.phase = .ready) :
    okLoad s u = .next { u with
      pending := s.pending, life := { s.life with phase := .ready, lTick := s.tick } } := by
  unfold okLoad
  rw [if_pos ⟨hu, hs⟩]

/-- A load that does not make the device ready leaves the life. -/
theorem okLoad_waits (hu : u.life.phase ≠ .ready) : okLoad s u = .next { u with pending := s.pending, life := s.life } := by
  unfold okLoad
  rw [if_neg (fun h => hu h.1)]

/-- A logged event is the newest entry of the log, alone or merged with one of its code. -/
theorem logT_newest (s : State) (x c m o : Nat) (d : BitVec 32) : ∃ e,
    Store.get none (s.logT x c m o d).log (((s.logT x c m o d).logSeq + 65535) % 65536 % 256) = some e ∧ e.code = c := by
  have hk : ((s.logSeq + 1) % 65536 + 65535) % 65536 % 256 = s.logSeq % 256 := by omega
  have hput (e : LogEntry) (k : Nat) (h : e.code = c) (st : State) (hl : st.log = s.log.set none k (some e))
      (hs : (st.logSeq + 65535) % 65536 % 256 = k) : ∃ e,
      Store.get none st.log ((st.logSeq + 65535) % 65536 % 256) = some e ∧ e.code = c :=
    ⟨e, by rw [hl, hs, get_set_self], h⟩
  have hnew := hput { seq := s.logSeq, tick := x % 2 ^ 48, code := c, master := m, object := o, detail := d } (s.logSeq % 256) rfl
  unfold State.logT
  dsimp only
  split
  · exact hnew _ rfl hk
  · split
    · rename_i e _ h
      exact hput { e with repeats := min 31 (e.repeats + 1) } _ h.2.1 _ rfl rfl
    · exact hnew _ rfl hk

theorem logE_newest (s : State) (c m o : Nat) (d : BitVec 32) : ∃ e,
    Store.get none (s.logE c m o d).log (((s.logE c m o d).logSeq + 65535) % 65536 % 256) = some e ∧ e.code = c :=
  logT_newest ..

/-- The command of the load that is due: the first try, or the try after a bank has been refused. -/
def loadDue (s : State) (c : Instr) : Prop :=
  (c = .profileLoad ∧ s.nvm.refused = 0) ∨ (c = .profileFallbackLoad ∧ s.nvm.refused ≠ 0 ∧ s.nvm.triedAt < s.tick)

/-- Either command of the load tries the chosen bank where it is due. -/
theorem exec_load {c : Instr} (hp : s.life.phase = .booting) (hf : s.ctl.frameAt = some s.tick) (hc : loadDue s c) :
    exec c s = okLoad s s.tryLoad := by
  rcases hc with ⟨rfl, hr⟩ | ⟨rfl, hr, ht⟩
  · have : s.profileLoad = s.tryLoad := if_neg (by simp [hp, hf, hr])
    rw [← this]; rfl
  · have : s.profileFallback = s.tryLoad := if_neg (by simp [hp, hf, hr, ht])
    rw [← this]; rfl

/-- With no bank left to try the factory configuration takes effect. -/
theorem load_factory {c : Instr} (hp : s.life.phase = .booting) (hf : s.ctl.frameAt = some s.tick) (hc : loadDue s c)
    (hn : s.nvm.chosen = none) : ∃ t, exec c s = .next t ∧
      t.life = { s.life with phase := .ready, lTick := s.tick } ∧ t.ready = true ∧ t.ctl.wdtFrom = some s.tick ∧
      t.nvm.bank = none ∧ t.nvm.brSeq = s.nvm.brSeq + 1 := by
  obtain ⟨w, hw, hwn, hwt⟩ : ∃ w : State, s.tryLoad = w.atL none ∧ w.nvm.brSeq = s.nvm.brSeq ∧ w.time = s.time :=
    ⟨({ s with nvm := { s.nvm with triedAt := s.tick } } : State).loadFactory, by simp only [State.tryLoad, hn],
      by rw [loadFactory_nvm], by rw [loadFactory_time]⟩
  rw [exec_load hp hf hc, hw, okLoad_ready hp rfl]
  refine ⟨_, rfl, rfl, rfl, ?_, rfl, ?_⟩
  · show some w.time.tick = some s.time.tick
    rw [hwt]
  · rw [← hwn]; exact atL_brSeq none

/-- The state in which the chosen bank is tried. -/
def tried (s : State) : State := { s with nvm := { s.nvm with triedAt := s.tick } }

/-- A bank whose clasp passes its checks is committed. -/
theorem tryLoad_bank {b : Nat} (hb : s.nvm.chosen = some b) (hk : (tried s).loadCodes ((tried s).loadBank b) b = []) :
    s.tryLoad = ((tried s).loadBank b).atL (some b) := by
  have hb' : (tried s).nvm.chosen = some b := hb
  unfold State.tryLoad
  extract_lets _ u
  have hu : u = tried s := rfl
  clear_value u
  subst hu
  rw [hb']
  dsimp only
  rw [hk]

/-- One that fails a check is refused, and the other valid bank is to be tried. -/
theorem tryLoad_refused {b : Nat} (hb : s.nvm.chosen = some b)
    (hk : (tried s).loadCodes ((tried s).loadBank b) b ≠ []) : ∃ (w : State) (code : Nat),
    s.tryLoad = w.logE 3 (masterCode .mp) 0 (BitVec.ofNat 32 code) ∧ w.life = s.life ∧
    w.nvm = { s.nvm with
      triedAt := s.tick, refused := s.nvm.refused + 1
      chosen := if s.nvm.refused = 0 ∧ s.bankValid (1 - b) = true then some (1 - b) else none } ∧
    w.fpActive = s.fpActive ∧ w.ports = s.ports ∧ w.trg = s.trg := by
  have hb' : (tried s).nvm.chosen = some b := hb
  obtain ⟨k, ks, hks⟩ := List.exists_cons_of_ne_nil hk
  unfold State.tryLoad
  extract_lets _ u
  have hu : u = tried s := rfl
  clear_value u
  subst hu
  rw [hb']
  dsimp only
  rw [hks]
  exact ⟨_, ks.foldl min k, rfl, rfl, by rw [irq0_nvm, modClasp_nvm]; rfl, rfl, rfl, rfl⟩

/-- A bank whose clasp passes its checks is in force. -/
theorem load_bank {c : Instr} {b : Nat} (hp : s.life.phase = .booting) (hf : s.ctl.frameAt = some s.tick) (hc : loadDue s c)
    (hb : s.nvm.chosen = some b) (hk : (tried s).loadCodes ((tried s).loadBank b) b = []) : ∃ t, exec c s = .next t ∧
      t.life = { s.life with phase := .ready, lTick := s.tick } ∧ t.ready = true ∧ t.nvm.bank = some b := by
  rw [exec_load hp hf hc, tryLoad_bank hb hk, okLoad_ready hp rfl]
  exact ⟨_, rfl, rfl, rfl, rfl⟩

/-- A bank that fails a check is refused with its code; nothing of it is in force. -/
theorem load_refused {c : Instr} {b : Nat} (hp : s.life.phase = .booting) (hf : s.ctl.frameAt = some s.tick)
    (hc : loadDue s c) (hb : s.nvm.chosen = some b) (hk : (tried s).loadCodes ((tried s).loadBank b) b ≠ []) :
    ∃ t, exec c s = .next t ∧ t.life = s.life ∧ t.fpActive = s.fpActive ∧
      t.ports = s.ports ∧ t.trg = s.trg ∧ t.nvm.refused = s.nvm.refused + 1 ∧ t.nvm.triedAt = s.tick ∧
      t.nvm.chosen = (if s.nvm.refused = 0 ∧ s.bankValid (1 - b) = true then some (1 - b) else none) ∧
      ∃ e, Store.get none t.log ((t.logSeq + 65535) % 65536 % 256) = some e ∧ e.code = 3 := by
  obtain ⟨w, code, hw, hl, hwn, hact, hports, htrg⟩ := tryLoad_refused hb hk
  have hr : (w.logE 3 (masterCode .mp) 0 (BitVec.ofNat 32 code)).life.phase ≠ .ready := by simp [hl, hp]
  rw [exec_load hp hf hc, hw, okLoad_waits hr]
  refine ⟨_, rfl, rfl, ?_, ?_, ?_, ?_, ?_, ?_, logE_newest w ..⟩
  · exact (logE_fpActive ..).trans hact
  · exact (logE_ports ..).trans hports
  · exact (logE_trg ..).trans htrg
  all_goals
    refine (congrArg _ (logE_nvm ..)).trans ?_
    rw [hwn]

/-- Settles O9. -/
theorem bootAndLoadMakeReady : Obligations.BootAndLoadMakeReady := by
  unfold Obligations.BootAndLoadMakeReady
  refine ⟨⟨fun rows a b x s hp h => ?_, fun rows a b x s hp h1 h2 h3 h4 => ?_⟩, fun s hp hf hn => ⟨fun hr => ?_, fun hr ht => ?_⟩,
    fun s u b hp hf hb hu c hc => ?_⟩
  · have hr : resetReleased (s.life.resetKind == 0) x = false := by
      rw [← Bool.not_eq_true, resetReleased_iff, not_not]
      simpa using h
    have : exec (.bootSequence rows a b x) s = okLife s (s.boot rows a b x) := rfl
    rw [this, boot_held hr]
    rfl
  · have hr : resetReleased (s.life.resetKind == 0) x = true := by
      have hv : x.iovdd > if x.iosel = true then 2950 else 1600 := h4
      have hio : (if x.iosel = true then 2700 else 1450) < x.iovdd := by split at hv <;> simp_all <;> omega
      rw [resetReleased_iff]
      omega
    refine ⟨_, rfl, ?_⟩
    by_cases hb : 160 < ((rows ++ s.spare.rowsMarked).dedup).length ∨ a = false
    · obtain ⟨d, hd⟩ := boot_fails (b := b) hp hr hb
      dsimp only
      rw [if_pos hb, hd]
      exact ⟨rfl, rfl, rfl, rfl⟩
    · rw [not_or, Bool.not_eq_false] at hb
      obtain ⟨hn, rfl⟩ := hb
      obtain ⟨k, l, hk⟩ := boot_runs (b := b) hp hr hn
      dsimp only
      rw [if_neg (by simpa using hn), hk]
      exact ⟨rfl, rfl⟩
  · exact load_factory hp hf (.inl ⟨rfl, hr⟩) hn
  · exact load_factory hp hf (.inr ⟨rfl, hr, ht⟩) hn
  · cases (hu : u = tried s)
    by_cases hk : (tried s).loadCodes ((tried s).loadBank b) b = []
    · obtain ⟨t, ht, h⟩ := load_bank hp hf hc hb hk
      exact ⟨t, ht, fun _ => h, fun hn => absurd hk hn⟩
    · obtain ⟨t, ht, h⟩ := load_refused hp hf hc hb hk
      exact ⟨t, ht, fun hn => absurd hn hk, fun _ => h⟩

end Sys2Proof.Proofs
end

section
/-! SUPPORT. The start of acquisition, fatal errors, the watchdog and saves (R473 to R493). -/

namespace Sys2Proof.Proofs

open Sys2Proof Sys2Proof.Machine Sys2Proof.Laws

variable {s t u : State}

/-! ## A cause that enters at A (R53, R75) -/

section
variable (s : State) (n k : Nat)

@[simp] theorem enterCause_exc : (s.enterCause n k).exc = s.exc := by rw [enterCause_eq]
@[simp] theorem enterCause_fpActive : (s.enterCause n k).fpActive = s.fpActive := by rw [enterCause_eq]

theorem alarm_facet (c o d j : Nat) : (s.alarm c o d).facet j = s.facet j := by
  unfold State.facet; rw [alarm_facets]

theorem facetAlarm_facet_other (c d : Nat) {j : Nat} (h : j ≠ n) : (s.facetAlarm n c d).facet j = s.facet j := by
  unfold State.facetAlarm
  dsimp only
  split
  · exact (alarm_facet ..).trans (facet_setFacet_other s _ h)
  · exact ite_keeps (fun t : State => t.facet j) ((alarm_facet ..).trans (facet_setFacet_other s _ h)) (facet_setFacet_other s _ h)

theorem enterCause_facet_other {j : Nat} (h : j ≠ n) : (s.enterCause n k).facet j = s.facet j := by
  unfold State.enterCause
  dsimp only
  split
  · rfl
  · rw [facetAlarm_facet_other _ _ _ _ h]
    exact ite_keeps (fun t : State => t.facet j) (facet_setFacet_other s _ h) (facet_setFacet_other s _ h)

/-- The first cause of a facet sets IRQ_STAT0.FCT_FAULT. -/
theorem enterCause_raises (h : (s.facet n).faultNow = 0) : fld (s.enterCause n k).ctl.irq0 0 1 = 1 := by
  have hw : (s.facet n).inFault = false := by simp [FacetRT.inFault, h]
  have hm : ¬ ((s.facet n).faultNow &&& w16 (2 ^ k)) ≠ 0 := by simp [h]
  unfold State.enterCause
  dsimp only
  rw [if_neg hm, facetAlarm_ctl, if_neg (by simp [hw])]
  exact fld_or_bit _ 0 (by decide)

/-- An interrupt bit that is set stays set. -/
theorem enterCause_irq0 (h : fld s.ctl.irq0 0 1 = 1) : fld (s.enterCause n k).ctl.irq0 0 1 = 1 := by
  unfold State.enterCause
  dsimp only
  split
  · exact h
  · rw [facetAlarm_ctl]
    split
    · exact h
    · exact fld_or_bit _ 0 (by decide)

end

/-- A facet's start at A changes the facet alone, and no cause of fault, unless a drive of type 1 finds its tone lost. -/
theorem startFacet_cases (s : State) (n : Nat) : ∃ u : State, u.ctl = s.ctl ∧ u.exc = s.exc ∧ u.fpActive = s.fpActive ∧
    (∀ j, (u.facet j).faultNow = (s.facet j).faultNow) ∧
    s.startFacet n = if isZ n = true ∧ (s.blkA n).type = 1 ∧ s.exc.lock = false then u.enterCause n 8 else u := by
  have hmod (v : State) (f : FacetRT → FacetRT) (hf : ∀ g, (f g).faultNow = g.faultNow) (j : Nat) :
      ((v.modFacet n f).facet j).faultNow = (v.facet j).faultNow := by
    by_cases h : j = n
    · subst h; rw [facet_modFacet, hf]
    · exact congrArg FacetRT.faultNow (facet_setFacet_other v _ h)
  unfold State.startFacet
  extract_lets b exc
  unfold State.toneHolds
  by_cases hz : isZ n = true
  · rw [if_neg (by simp [hz])]
    refine ⟨_, ?_, ?_, ?_, ?_, if_congr ?_ rfl rfl⟩
    · rfl
    · rfl
    · rfl
    · intro j
      refine (hmod _ _ ?_ j).trans (hmod s _ ?_ j) <;> exact fun g => rfl
    · simp only [hz, true_and, beq_iff_eq, Bool.and_eq_true, Bool.not_eq_true', State.blkA]
      exact Iff.rfl
  · rw [if_pos (by simp [hz])]
    refine ⟨_, ?_, ?_, ?_, ?_, (if_neg fun h => hz h.1).symm⟩
    · rfl
    · rfl
    · rfl
    · refine hmod s _ ?_
      exact fun g => rfl

/-- The state in which the facets start at A. -/
def atA (s : State) : State := { s with life := { s.life with phase := .settled, drivesOn := true, aTick := s.tick } }

/-- At A the facets start; what else A does leaves the interrupts. -/
theorem referencesSettled_ctl (hp : s.life.phase = .ready) (hf : s.ctl.frameAt = some s.tick) :
    s.referencesSettled.ctl = ((atA s).forFacets allFacets fun n t => t.startFacet n).ctl := by
  unfold State.referencesSettled
  rw [if_neg (by simp [hp, hf])]
  extract_lets _ a b
  have hb : (atA s).forFacets allFacets (fun n t => t.startFacet n) = b := rfl
  rw [hb]
  clear_value b
  split
  · exact ite_keeps State.ctl rfl rfl
  · split
    · unfold State.decideCont
      exact ite_keeps State.ctl rfl (ite_keeps State.ctl (ite_keeps State.ctl rfl rfl) rfl)
    · rfl

/-- The reset state with the device ready, the tones lost and the first Z-facet of type 1 in use. -/
def tonesLost : State := { State.reset with
  life := { State.reset.life with phase := .ready }, ctl := { State.reset.ctl with frameAt := some 0 }
  exc := { State.reset.exc with lock := false }, fpActive := [(448 * 32, 1)] }

/-- What holds while the facets start: the tones are lost, and F448 has no cause of fault yet or the interrupt is set. -/
def Losing (t : State) : Prop :=
  t.exc.lock = false ∧ (t.blkA 448).type = 1 ∧ ((t.facet 448).faultNow = 0 ∨ fld t.ctl.irq0 0 1 = 1)

theorem startFacet_losing {n : Nat} (h : Losing t) :
    Losing (t.startFacet n) ∧ (n = 448 ∨ fld t.ctl.irq0 0 1 = 1 → fld (t.startFacet n).ctl.irq0 0 1 = 1) := by
  obtain ⟨hl, ht, hi⟩ := h
  obtain ⟨u, hctl, hexc, hfp, hnow, he⟩ := startFacet_cases t n
  have hu : u.exc.lock = false := by rw [hexc, hl]
  have hb (v : State) (hv : v.fpActive = t.fpActive) : (v.blkA 448).type = 1 := by
    rw [← ht]; unfold State.blkA State.fpA; rw [hv]
  rw [← hnow, ← hctl] at hi
  rw [← hctl, he]
  by_cases hn : n = 448
  · subst hn
    rw [if_pos ⟨rfl, ht, hl⟩]
    have hr : fld (u.enterCause 448 8).ctl.irq0 0 1 = 1 := hi.elim (enterCause_raises _ _ _) (enterCause_irq0 _ _ _)
    exact ⟨⟨by rw [enterCause_exc]; exact hu, hb _ (by rw [enterCause_fpActive, hfp]), .inr hr⟩, fun _ => hr⟩
  · split
    · refine ⟨⟨by rw [enterCause_exc]; exact hu, hb _ (by rw [enterCause_fpActive, hfp]), ?_⟩,
        fun h => enterCause_irq0 _ _ _ (h.resolve_left hn)⟩
      rw [enterCause_facet_other _ _ _ (Ne.symm hn)]
      exact hi.imp_right (enterCause_irq0 _ _ _)
    · exact ⟨⟨hu, hb _ hfp, hi⟩, fun h => h.resolve_left hn⟩

/-- Once F448 has started with its tone lost, the interrupt is set. -/
theorem startAll_raises (l : List Nat) : ∀ t, Losing t → 448 ∈ l ∨ fld t.ctl.irq0 0 1 = 1 →
    fld (t.forFacets l fun n t => t.startFacet n).ctl.irq0 0 1 = 1 := by
  induction l with
  | nil => intro t _ h; exact h.resolve_left (by simp)
  | cons n l ih =>
    intro t ht h
    obtain ⟨h1, h2⟩ := startFacet_losing (n := n) ht
    refine ih _ h1 ?_
    rw [List.mem_cons] at h
    rcases h with (h | h) | h
    · exact .inr (h2 (.inl h.symm))
    · exact .inl h
    · exact .inr (h2 (.inr h))

theorem started_ctl (h : exec .referencesSettled s = .next t) : t.ctl = s.referencesSettled.ctl := by
  cases h
  rfl

/-- Refutes O10: a facet of type 1 whose tone is lost when the drives start is in fault, which sets IRQ_STAT0.FCT_FAULT (R75). -/
theorem not_startOfAcquisition : ¬ Obligations.StartOfAcquisition := by
  unfold Obligations.StartOfAcquisition
  rintro ⟨h, -⟩
  obtain ⟨t, ht, hk, -⟩ := h tonesLost rfl rfl
  have hr : fld t.ctl.irq0 0 1 = 1 := by
    rw [started_ctl ht, referencesSettled_ctl rfl rfl]
    exact startAll_raises allFacets (atA tonesLost) ⟨rfl, rfl, .inl rfl⟩ (.inl (List.mem_range.mpr (by decide)))
  have hc : t.ctl.irq0 = 0 := congrArg (fun u : State => u.ctl.irq0) hk
  rw [hc] at hr
  exact absurd hr (by decide)

/-! ## Fatal errors and their dumps (R490 to R493, R504) -/

/-- What holds of the reset value and of every entry holds of what a read gives. -/
theorem get_of_all {α : Type} (P : α → Prop) {d : α} (hd : P d) {j : Nat} :
    ∀ {l : Store α}, (∀ e ∈ l, P e.2) → P (Store.get d l j)
  | [], _ => hd
  | (k, v) :: l, h => by
    unfold Store.get
    split
    · exact h _ (List.mem_cons_self ..)
    · exact get_of_all P hd fun e he => h e (List.mem_cons_of_mem _ he)

/-- A read of a table whose values have all been changed gives a changed value, or the reset value. -/
theorem get_mapV {α : Type} [DecidableEq α] (P : α → Prop) (d : α) (hd : P d) (f : Nat → α → α) (hf : ∀ k v, P (f k v))
    (m : Store α) (j : Nat) : P (Store.get d (Store.mapV d f m) j) := by
  refine get_of_all P hd fun e he => ?_
  obtain ⟨he, -⟩ := List.mem_filter.mp he
  obtain ⟨x, -, rfl⟩ := List.mem_map.mp he
  exact hf ..

/-- The error is one that halts the device: a level of a supply is so only where R504 says so. -/
def halts (s : State) (c : FatalClass) (d : BitVec 32) : Prop :=
  ∀ v, c = .supply v → supplyEffect v s.life.iosel false d.toNat = .fatal

theorem fatalEvent_of_halts {c : FatalClass} {d : BitVec 32} (h : halts s c d) : s.fatalEvent c d = s.fatal c d := by
  cases c with
  | supply v => exact if_pos (h v rfl)
  | _ => rfl

theorem halt_beads (h : s.time.acquiring = true) : s.halt.bead.beads = [] := by
  unfold State.halt
  rw [if_neg (by simp [h])]

/-- A fatal error of the running device halts it. -/
theorem fatal_halts (c : FatalClass) (d : BitVec 32) (h : s.life.phase ≠ .fatal) :
    (s.fatal c d).time.acquiring = false ∧ (s.fatal c d).trg.running = false ∧ (s.fatal c d).ctl.svc = false ∧
      (s.fatal c d).ctl.svcPend = none ∧ (∀ p, ((s.fatal c d).refTx p).sending = false) ∧
      (s.time.acquiring = true → (s.fatal c d).bead.beads = []) ∧ (s.fatal c d).ready = false := by
  unfold State.fatal
  rw [if_neg h]
  refine ⟨rfl, rfl, rfl, rfl, fun p => ?_, halt_beads, rfl⟩
  exact get_mapV (fun x : RefTx => x.sending = false) {} rfl (fun _ x => { x with sending := false }) (fun _ _ => rfl) _ p

theorem logE_eq (s : State) (c m o : Nat) (d : BitVec 32) :
    s.logE c m o d = { s with log := (s.logE c m o d).log, logSeq := (s.logE c m o d).logSeq } := logT_eq ..

/-- A further error while a dump is held: its class, nALERT and its log entry. -/
theorem heldFatal_eq (s : State) (k : Nat) : s.heldFatal k = { s with
    log := (s.heldFatal k).log, logSeq := (s.heldFatal k).logSeq
    life := { s.life with fatalDone := true, alert := true, loupeClass := k } } := by
  unfold State.heldFatal
  dsimp only
  rw [logE_eq]

theorem heldFatal_newest (s : State) (k : Nat) : ∃ e, Store.get none (s.heldFatal k).log
    (((s.heldFatal k).logSeq + 65535) % 65536 % 256) = some e ∧ e.code = 0x15 := logE_newest ..

theorem fatalAgain_held (c : FatalClass) (h : s.life.loupeValid = true) :
    s.fatalAgain c = { s with
      log := (s.fatalAgain c).log, logSeq := (s.fatalAgain c).logSeq
      life := { s.life with fatalDone := true, alert := true, loupeClass := fatalCode c } } ∧
    ∃ e, Store.get none (s.fatalAgain c).log (((s.fatalAgain c).logSeq + 65535) % 65536 % 256) = some e ∧ e.code = 0x15 := by
  unfold State.fatalAgain
  rw [if_pos h]
  refine ⟨?_, heldFatal_newest ..⟩
  rw [heldFatal_eq]
  split
  · rfl
  · rw [heldFatal_eq s]

theorem fatal_again (c : FatalClass) (d : BitVec 32) (h : s.life.phase = .fatal) : s.fatal c d = s.fatalAgain c := if_pos h

/-- The entry of an error's dump completes it: with a dump held, with none for a failure of the loupe unit, or with the dump. -/
theorem dumpComplete_ends (hw il : Bool) (hp : s.life.phase = .fatal) (hd : s.life.fatalDone = false) :
    (s.life.loupeValid = true ∧ s.dumpComplete hw il = s.heldFatal s.life.fatalClass) ∨
    (s.life.loupeValid = false ∧ il = true ∧ (s.life.fatalClass = 3 ∨ s.life.fatalClass = 6) ∧ s.dumpComplete hw il = { s with
      life := { s.life with fatalDone := true, alert := true, loupeClass := s.life.fatalClass } }) ∨
    (s.life.loupeValid = false ∧ ¬ (il = true ∧ (s.life.fatalClass = 3 ∨ s.life.fatalClass = 6)) ∧
      ∃ l, s.dumpComplete hw il = { s.logE 0x15 noMaster 0 (BitVec.ofNat 32 s.life.fatalClass) with
        loupe := l, free := s.free + 1
        life := { s.life with fatalDone := true, alert := true, loupeValid := true, loupeClass := s.life.fatalClass } }) := by
  unfold State.dumpComplete
  rw [if_neg (by simp [hp, hd])]
  extract_lets cls hw'
  by_cases hv : s.life.loupeValid = true
  · exact .inl ⟨hv, if_pos hv⟩
  · have hv' : s.life.loupeValid = false := by simpa using hv
    rw [if_neg hv]
    by_cases hi : il = true ∧ (cls = 3 ∨ cls = 6)
    · exact .inr (.inl ⟨hv', hi.1, hi.2, if_pos hi⟩)
    · exact .inr (.inr ⟨hv', hi, _, if_neg hi⟩)

/-- A heartbeat of a port: its number alone counts. -/
theorem hbeatOn_eq (s : State) (p n : Nat) : s.hbeatOn p n = { s with
    can := Store.set {} s.can p { s.canPort p with hSeq := ((s.canPort p).hSeq + 1) % 65536 }, msg := (s.hbeatOn p n).msg } := rfl

theorem hbeatOn_canPort (s : State) (p n : Nat) :
    (s.hbeatOn p n).canPort p = { s.canPort p with hSeq := ((s.canPort p).hSeq + 1) % 65536 } := canPort_setCanPort s p _

theorem hbeatOn_canPort_other (s : State) {p j : Nat} (n : Nat) (h : j ≠ p) : (s.hbeatOn p n).canPort j = s.canPort j :=
  canPort_setCanPort_other s _ h

theorem hbeats_eq (s : State) (n : Nat) : (s.hbeatOn 0 n).hbeatOn 1 n = { s with
    can := ((s.hbeatOn 0 n).hbeatOn 1 n).can, msg := ((s.hbeatOn 0 n).hbeatOn 1 n).msg } := by
  rw [hbeatOn_eq (s.hbeatOn 0 n), hbeatOn_eq s]

/-- The tick number that a heartbeat of the halted device carries (R490). -/
def openTick : Nat := 2 ^ 48 - 1

/-- The release of the loupe, of a master that answers. -/
theorem loupeRelease_of {m : Master} (hw : s.writeCycle m 0x0F 0x8000 = s.loupeRelease.ack m true)
    (hp : s.life.phase ≠ .reset) : exec (.loupeRelease m) s =
      .next (({ s with loupe := [], life := { s.life with alert := false, loupeValid := false } }).ack m true) := by
  have he : exec (.loupeRelease m) s = okWrite s (s.writeCycle m 0x0F 0x8000) := rfl
  obtain ⟨b, hb⟩ := ack_ex s.loupeRelease m true
  have hb' : ({ s with loupe := [], life := { s.life with alert := false, loupeValid := false } } : State).ack m true = _ := hb
  rw [he, hw, hb, hb']
  unfold okWrite State.loupeRelease
  rw [if_neg (by simpa using hp)]
  simp

/-- Settles O11. -/
theorem fatalErrorAndItsDump : Obligations.FatalErrorAndItsDump := by
  unfold Obligations.FatalErrorAndItsDump
  refine ⟨fun c d s => ⟨fun h => ⟨fun hp => ?_, fun hp hv => ?_⟩, fun hp hv => ?_, fun v hc hs => ?_⟩, fun hw il s hp hd => ?_,
    fun s hp hd => ?_, fun m s h => ?_, fun m s hp hm => ?_⟩
  · have h : halts s c d := h
    obtain ⟨h1, h2, h3, h4, h5, h6⟩ := fatal_halts c d hp
    refine ⟨{ s.fatal c d with pending := s.pending }, ?_, fatal_of_running c d hp, h1, h2, h3, h4, fun p _ => h5 p, h6⟩
    rw [← fatalEvent_of_halts h]; rfl
  · have h : halts s c d := h
    obtain ⟨h1, h2⟩ := fatalAgain_held c hv
    refine ⟨{ s.fatalAgain c with pending := s.pending }, ?_, ?_, h2⟩
    · rw [← fatal_again c d hp, ← fatalEvent_of_halts h]; rfl
    · rw [h1]
  · have : s.fatalEvent c d = s := by
      have hf : s.fatal c d = s := by rw [fatal_again c d hp]; exact if_neg (by simp [hv])
      cases c with
      | supply v => exact ite_keeps id hf rfl
      | _ => exact hf
    have he : exec (.fatalError c d) s = okLife s (s.fatalEvent c d) := rfl
    rw [he, this]; rfl
  · subst hc
    have he : exec (.fatalError (.supply v) d) s = okLife s (s.fatalEvent (.supply v) d) := rfl
    have hn : s.fatalEvent (.supply v) d = s := if_neg hs
    rw [he, hn]; rfl
  · refine ⟨{ s.dumpComplete hw il with pending := s.pending }, rfl, ?_⟩
    dsimp only
    rcases dumpComplete_ends hw il hp hd with ⟨hv, h⟩ | ⟨hv, hi, hc, h⟩ | ⟨hv, hi, l, h⟩
    · rw [h]
      have hl : (s.heldFatal s.life.fatalClass).loupe = s.loupe := by rw [heldFatal_eq]
      exact ⟨rfl, rfl, rfl, fun _ => ⟨hl, hv⟩, fun h => absurd hv (by simp [h]), fun h => absurd hv (by simp [h]),
        fun _ => heldFatal_newest .., hp⟩
    · rw [h]
      exact ⟨rfl, rfl, rfl, fun h => absurd hv (by simp [h]), fun _ _ _ => ⟨rfl, hv, rfl⟩, fun _ h => absurd hc (by simp_all),
        fun h => absurd hc (by simp_all), hp⟩
    · rw [h]
      exact ⟨rfl, rfl, rfl, fun h => absurd hv (by simp [h]), fun _ h1 h2 => absurd ⟨h1, h2⟩ hi, fun _ _ => rfl,
        fun _ => logE_newest .., hp⟩
  · have he : exec .fatalHbeat s = ok s s.fatalHbeat := rfl
    have hh : s.fatalHbeat = (s.hbeatOn 0 openTick).hbeatOn 1 openTick := by
      unfold State.fatalHbeat
      rw [if_neg (by simp [hp, hd])]
      rfl
    rw [he, hh]
    have heq := hbeats_eq s openTick
    refine ⟨_, ok_next s _ (by rw [heq]) (by rw [heq]), by rw [heq], fun p hlt => ?_, heq⟩
    have hcp : p = 0 ∨ p = 1 := by omega
    rcases hcp with rfl | rfl
    · rw [hbeatOn_canPort_other _ _ (by decide), hbeatOn_canPort]
    · rw [hbeatOn_canPort, hbeatOn_canPort_other _ _ (by decide)]
  · have hr : s.life.phase ≠ .reset := by
      intro hr; have := h.1; simp [State.ready, hr] at this
    refine loupeRelease_of ?_ hr
    rw [writeCycle_now h (.inl (by decide))]
    rfl
  · refine loupeRelease_of ?_ (by simp [hp])
    have hresp : s.responds m = true ∧ s.sessionOk m = true := by
      rcases hm with rfl | ⟨rfl, hx⟩
      · exact ⟨by simp [State.responds, hp], rfl⟩
      · exact ⟨by simp [State.responds, hp, hx], rfl⟩
    unfold State.writeCycle
    rw [if_neg (by simp [hresp]), if_neg (by decide)]
    unfold State.regWrite
    rw [if_pos hp]
    rfl

/-! ## The watchdog and standalone service (R483 to R488) -/

theorem aliveWrite_host (s : State) : s.aliveWrite .host = { s with ctl := { s.ctl with
    wdtFrom := some s.tick, aliveInSvc := s.ctl.svc || s.ctl.aliveInSvc } } := rfl

theorem aliveWrite_other {m : Master} (h : m ≠ .host) : s.aliveWrite m = s := if_pos h

theorem ack_host_ctl (s : State) (b : Bool) : s.ack .host b = { s with ctl := { s.ctl with acked := b } } := rfl

/-- A direct write of HOST_WDT is the watchdog's own, with its own check of the period. -/
theorem regDirect_wdt (s : State) (m : Master) (v : Word) : s.regDirect m 0x0C v = s.wdtWrite m v := by
  have hc : s.canIgnores m 0x0C v = false := rfl
  have hp : s.portIgnores m 0x0C = false := rfl
  have ha (t : State) : t.afterAccess m 0x0C = t := rfl
  have hn (t : State) : t.regStore m 0x0C (rwMerge 0x0C (t.regWord m 0x0C) v) v = t.wdtWrite m v := rfl
  unfold State.regDirect
  simp only [hp, hc, ha, rwFields, bne_self_eq_false, Bool.and_false, Bool.false_eq_true, if_false,
    List.cons_ne_nil, nowMask]
  rw [if_neg (by simp)]
  exact hn s

theorem writeCycle_wdt {m : Master} (h : s.directs m 0x0C) (v : Word) :
    s.writeCycle m 0x0C v = (s.wdtWrite m v).ack m true := by
  rw [writeCycle_direct s v h (by decide) (by decide), regDirect_wdt]

theorem wdtWrite_taken {m : Master} {v : Word} (h1 : 10 ≤ v.toNat) (h2 : v.toNat ≤ 6000) : s.wdtWrite m v = { s with
    ctl := { s.ctl with hostWdt := v, wdtFrom := if m = .host then some s.tick else s.ctl.wdtFrom } } :=
  if_neg (by omega)

theorem wdtWrite_ignored {m : Master} {v : Word} (h : v.toNat < 10 ∨ 6000 < v.toNat) :
    s.wdtWrite m v = s.logIgnored m 0x0C 0 := if_pos h

theorem watchdogExpiry_fires {b : Nat} (hb : s.ctl.wdtFrom = some b) (h : b + 400 * s.ctl.hostWdt.toNat ≤ s.tick) :
    s.watchdogExpiry = { s with ctl := { s.ctl with
      stamp := s.ctl.stamp + 1, wdtFrom := none, aliveInSvc := false
      svcPend := if s.ctl.svc = true ∧ s.ctl.svcEndPend = none then s.ctl.svcPend else some (s.ctl.stamp + 1) } } := by
  unfold State.watchdogExpiry
  rw [hb]
  dsimp only
  rw [if_neg (by omega)]
  simp [State.nextStamp]

/-- An alarm and an entry of the log leave the controls, as they leave all but the messages and the log. -/
theorem alarmLog_eq (s : State) (c o d l m k : Nat) (x : BitVec 32) : (s.alarm c o d).logE l m k x = { s with
    log := ((s.alarm c o d).logE l m k x).log, logSeq := ((s.alarm c o d).logE l m k x).logSeq, msg := (s.alarm c o d).msg } := by
  rw [logE_eq]; rfl

/-- Service begins at a frame boundary at which it is due and does not end (R484). -/
theorem serviceBegin_due {st : Nat} (hp : s.ctl.svcPend = some st) (hd : s.due st = true) (he : s.serviceDue = false)
    (hs : fld s.cap.ctl 5 1 = 0) (hc : s.host.clasp.isOpen = false) : s.serviceBegin =
      ((({ s with ctl := { s.ctl with
          svc := true, svcPend := none, aliveInSvc := false, modeSel := s.bankMode, modePend := none } }
        : State).irq0 13).alarm 8 objDevice 0).logE 0x14 noMaster 0 1 := by
  unfold State.serviceBegin
  rw [hp]
  extract_lets _ a b c
  have hcb : c = b := if_neg (by simp [b, a, hs])
  have hopen : ¬ c.host.clasp.isOpen = true := by simp [hcb, b, a, hc]
  exact (if_neg (by simp [hd, he])).trans ((if_neg hopen).trans hcb)

/-- Service ends at a frame boundary at which its end is due (R487). -/
theorem serviceEnd_due {st : Nat} (hp : s.ctl.svcEndPend = some st) (hd : s.due st = true) : s.serviceEnd =
    ((({ s with ctl := { s.ctl with svc := false, svcEndPend := none } } : State).irq0 13).alarm 9 objDevice 0).logE
      0x14 noMaster 0 0 := by
  unfold State.serviceEnd
  rw [hp]
  dsimp only
  rw [if_neg (by simp [hd])]

/-- In service SVC_RELEASE by HOST, after a write of HOST_ALIVE, asks for the end (R486, R487). -/
theorem writeCycle_svcRelease (hr : s.ready = true) (hx : s.ctl.extest = false) (hv : s.ctl.svc = true)
    (ha : s.ctl.aliveInSvc = true) : s.writeCycle .host 0x06 0x0001 = { s with ctl := { s.ctl with
      stamp := s.ctl.stamp + 1, svcEndPend := some (s.ctl.stamp + 1), acked := true } } := by
  have hf := ready_not_fatal s hr
  unfold State.writeCycle
  rw [if_neg (by simp [State.responds, State.sessionOk, hr, hx]), if_neg (by decide)]
  unfold State.regWrite
  rw [if_neg hf, if_pos ⟨rfl, hv, rfl⟩, if_pos rfl]
  dsimp only
  rw [if_neg (by decide), if_pos (by decide)]
  unfold State.svcRelease
  rw [if_neg (by simp), if_pos ⟨hv, ha⟩]
  rfl

/-- Settles O12. -/
theorem watchdogAndService : Obligations.WatchdogAndService := by
  unfold Obligations.WatchdogAndService
  refine ⟨fun v s h => ?_, fun m v s h hm => ?_, fun v s h h1 h2 => ?_, fun v s h hv => ?_, fun s b hr hb ht => ?_,
    fun s st hr hp hd he hs hc => ?_, fun s hr hx hv ha => ?_, fun s st hr hp hd => ?_⟩
  · have hw : s.writeCycle .host 0x0B v = (s.aliveWrite .host).ack .host true := writeCycle_now h (.inr rfl)
    exact ⟨_, (congrArg (ok s) hw).trans (ok_next s _ rfl rfl), rfl⟩
  · have hw : s.writeCycle m 0x0B v = s.ack m true := by
      rw [writeCycle_now h (.inr rfl)]
      exact congrArg (State.ack · m true) (aliveWrite_other hm)
    refine ⟨_, (congrArg (ok s) hw).trans (ok_next s _ (ack_pending ..) (ack_life ..)), ?_, ?_⟩ <;> rw [ack_ctl]
  · have hw := writeCycle_wdt h v
    rw [wdtWrite_taken h1 h2, if_pos rfl] at hw
    exact (congrArg (ok s) hw).trans (ok_next s _ rfl rfl)
  · have hw := writeCycle_wdt h v
    rw [wdtWrite_ignored hv] at hw
    refine ⟨_, (congrArg (ok s) hw).trans (ok_next s _ (by simp) (by simp)), ?_, ?_⟩ <;> rw [ack_ctl] <;> simp
  · exact (congrArg (ok s) ((live_ready s hr).trans (watchdogExpiry_fires hb ht))).trans (ok_next s _ rfl rfl)
  · have hw := (live_ready s hr).trans (serviceBegin_due hp hd he hs hc)
    rw [alarmLog_eq] at hw
    exact ⟨_, (congrArg (ok s) hw).trans (ok_next s _ rfl rfl), rfl, rfl, rfl, fld_or_bit _ 13 (by decide), rfl⟩
  · exact (congrArg (ok s) (writeCycle_svcRelease hr hx hv ha)).trans (ok_next s _ rfl rfl)
  · have hw := (live_ready s hr).trans (serviceEnd_due hp hd)
    rw [alarmLog_eq] at hw
    exact ⟨_, (congrArg (ok s) hw).trans (ok_next s _ rfl rfl), rfl, rfl, fld_or_bit _ 13 (by decide), rfl⟩

end Sys2Proof.Proofs
end

section
/-! SUPPORT. Saves of a profile and NVM pages (R466, R477, R480, R482). -/

namespace Sys2Proof.Proofs

open Sys2Proof Sys2Proof.Machine Sys2Proof.Laws

variable {s t u : State}

/-! ## A run of words in the NVM -/

/-- A read below a run, or above it, gives what it gave before; one in the run gives the run's word. -/
theorem get_setRun {α : Type} [DecidableEq α] (d : Nat → α) (a : Nat) : ∀ (vs : List α) (m : Store α) (k : Nat) (x : α),
    Store.get (d a) (Store.setRun d m k vs) a
      = if k ≤ a ∧ a < k + vs.length then vs.getD (a - k) x else Store.get (d a) m a
  | [], m, k, x => by
    rw [if_neg (by rw [List.length_nil]; omega)]; rfl
  | v :: vs, m, k, x => by
    rw [Store.setRun, get_setRun d a vs _ (k + 1) x, List.length_cons]
    by_cases h1 : k + 1 ≤ a ∧ a < k + 1 + vs.length
    · rw [if_pos h1, if_pos (by omega), show a - k = a - (k + 1) + 1 by omega, List.getD_cons_succ]
    · rw [if_neg h1]
      by_cases h2 : a = k
      · subst h2
        rw [get_set_self, if_pos (by omega), Nat.sub_self, List.getD_cons_zero]
      · rw [get_set_other _ _ _ _ h2, if_neg (by omega)]

theorem get_setRun_in {m : Store Word} {k j : Nat} {vs : List Word} (h : j < vs.length) (x : Word) :
    Store.get 0xFFFF (Store.setRun (fun _ => 0xFFFF) m k vs) (k + j) = vs.getD j x := by
  have := get_setRun (fun _ => (0xFFFF : Word)) (k + j) vs m k x
  rw [if_pos (by omega), Nat.add_sub_cancel_left] at this
  exact this

theorem get_setRun_out {m : Store Word} {k a : Nat} {vs : List Word} (h : a < k ∨ k + vs.length ≤ a) :
    Store.get 0xFFFF (Store.setRun (fun _ => 0xFFFF) m k vs) a = Store.get 0xFFFF m a := by
  have := get_setRun (fun _ => (0xFFFF : Word)) a vs m k 0
  rw [if_neg (by omega)] at this
  exact this

/-! ## The words of a save (R477) -/

theorem length_saveWords (s : State) (gen : Nat) : (s.saveWords gen).length = 65536 := by
  simp only [State.saveWords, List.length_append, List.length_set, List.length_map, List.length_range, List.length_replicate,
    List.length_cons, List.length_nil, bankLen]

/-- Apart from `PR_CRC` a save's words under the CRC are those of its layout. -/
theorem saveWords_getD (s : State) (gen : Nat) {k : Nat} (hk : k < bankLen) (h16 : k ≠ 16) (h17 : k ≠ 17) :
    (s.saveWords gen).getD k 0 = s.saveWord gen k := by
  unfold State.saveWords
  dsimp only
  rw [List.getD_eq_getElem?_getD, List.append_assoc, List.getElem?_append_left (by simpa using hk),
    List.getElem?_set_ne (Ne.symm h17), List.getElem?_set_ne (Ne.symm h16), List.getElem?_map, List.getElem?_range hk]
  rfl

/-- `PR_GEN_T` stands erased. -/
theorem saveWords_erased (s : State) (gen : Nat) {k : Nat} (h1 : 65534 ≤ k) (h2 : k < 65536) :
    (s.saveWords gen).getD k 0 = 0xFFFF := by
  unfold State.saveWords
  extract_lets body crc body'
  have hlen : (body' ++ List.replicate (65534 - bankLen) 0).length = 65534 := by
    simp only [body', body, List.length_append, List.length_set, List.length_map, List.length_range, List.length_replicate,
      bankLen]
  rw [List.getD_eq_getElem?_getD, List.getElem?_append_right (by omega), hlen]
  obtain rfl | rfl : k = 65534 ∨ k = 65535 := by omega
  · rfl
  · rfl

/-- A word of a facet's block in the bank. -/
theorem saveWord_facet (s : State) (gen : Nat) {n w : Nat} (hn : n < 512) (hw : w < 32) :
    s.saveWord gen (bkFacets + n * 32 + w) = s.fpWord n w true := by
  unfold State.saveWord
  rw [if_neg (by unfold bkFacets bkList; omega), if_neg (by omega), if_pos (by unfold bkFacets bkCoef; omega),
    show (bkFacets + n * 32 + w - bkFacets) / 32 = n by omega, show (bkFacets + n * 32 + w - bkFacets) % 32 = w by omega]

/-! ## PROF_SAVE (R480) -/

/-- The state that PROF_SAVE leaves, with `ws` the words of the save. -/
def saveBegun (s : State) (b : Nat) (ws : List Word) : State :=
  let s := s.putBank b 0 ws
  { s with nvm := { s.nvm with saving := some b }, ctl := { s.ctl with profBusy := true } }

theorem saveBegun_eq (s : State) (b : Nat) (ws : List Word) : saveBegun s b ws = { (s.putBank b 0 ws) with
    nvm := { (s.putBank b 0 ws).nvm with saving := some b }, ctl := { s.ctl with profBusy := true } } := rfl

theorem saveBegun_pending (s : State) (b : Nat) (ws : List Word) : (saveBegun s b ws).pending = s.pending := rfl
theorem saveBegun_life (s : State) (b : Nat) (ws : List Word) : (saveBegun s b ws).life = s.life := rfl

/-- A save's words begin where its bank begins. -/
theorem saveBegun_words (s : State) (b : Nat) (ws : List Word) : (saveBegun s b ws).nvm.words =
    Store.setRun (fun _ => 0xFFFF) s.nvm.words (bankBase b) ws := rfl

theorem profSave_begins {m : Master} {b gen : Nat} (h : s.nvm.saving = none) (ht : s.saveTarget = (b, gen)) :
    s.profSave m = saveBegun s b (s.saveWords gen) := by
  unfold State.profSave
  rw [if_neg (by simp [h]), ht]
  exact rfl

theorem profSave_ignored {m : Master} (h : s.nvm.saving.isSome = true) : s.profSave m = s.logIgnored m 0x06 0 := if_pos h

/-- A write of PROF_SAVE alone. -/
theorem writeCycle_profSave {m : Master} (h : s.directs m 0x06) : s.writeCycle m 0x06 0x0002 = (s.profSave m).ack m true := by
  have hst : stored s m 0x06 0x0002 = s :=
    if_neg (by rw [fld_rwMerge _ (by decide) (by decide) (by decide)]; decide)
  rw [writeCycle_store_now h (by decide) (by decide), hst]
  rfl

/-- The words that a save has put into its bank. -/
theorem saveBegun_word (s : State) (b gen : Nat) {k : Nat} (hk : k < 65536) :
    Store.get 0xFFFF (saveBegun s b (s.saveWords gen)).nvm.words (bankBase b + k) = (s.saveWords gen).getD k 0 := by
  rw [saveBegun_words]
  exact get_setRun_in (by rw [length_saveWords]; exact hk) 0

theorem saveBegun_other (s : State) (b gen : Nat) {a : Nat} (h : a < bankBase b ∨ bankBase b + 65536 ≤ a) :
    Store.get 0xFFFF (saveBegun s b (s.saveWords gen)).nvm.words a = Store.get 0xFFFF s.nvm.words a := by
  rw [saveBegun_words]
  exact get_setRun_out (by rw [length_saveWords]; exact h)

theorem saveTarget_inForce {b gen c : Nat} (ht : s.saveTarget = (b, gen)) (hc : s.nvm.bank = some c) :
    b = 1 - c ∧ gen = (s.bankGen c + 1) % 2 ^ 32 := by
  unfold State.saveTarget at ht
  rw [hc] at ht
  cases ht
  exact ⟨rfl, rfl⟩

/-! ## The end of a save, and pages -/

theorem bankRecord_bank (s : State) (k : Nat) : (s.bankRecord k).nvm.bank = s.nvm.bank := rfl
theorem bankRecord_saving (s : State) (k : Nat) : (s.bankRecord k).nvm.saving = s.nvm.saving := rfl
theorem bankRecord_ctl (s : State) (k : Nat) : (s.bankRecord k).ctl = s.ctl := rfl

/-- A save that was not read back intact leaves the bank in force. -/
theorem profSaveDone_bad {b : Nat} (h : s.nvm.saving = some b) : s.profSaveDone false =
    ({ s with nvm := { s.nvm with saving := none }, ctl := { s.ctl with profBusy := false } } : State).bankRecord 2 := by
  unfold State.profSaveDone
  rw [h]
  rfl

/-- The bank with its closing generation, once the MP has read it back. -/
def saveRead (s : State) (b : Nat) : State :=
  ({ s with nvm := { s.nvm with saving := none }, ctl := { s.ctl with profBusy := false } } : State).putBank b 65534
    [s.bankW b 6, s.bankW b 7]

theorem profSaveDone_good {b : Nat} (h : s.nvm.saving = some b) : s.profSaveDone true =
    if (saveRead s b).bankValid b then
      ({ saveRead s b with nvm := { (saveRead s b).nvm with bank := some b } } : State).bankRecord 1
    else (saveRead s b).bankRecord 2 := by
  unfold State.profSaveDone
  rw [h]
  dsimp only
  rw [if_pos rfl]
  have hw (k : Nat) : ({ s with nvm := { s.nvm with saving := none }, ctl := { s.ctl with profBusy := false } } : State).bankW b k
      = s.bankW b k := rfl
  rw [hw, hw]
  rfl

/-- A page takes its words when it is programmed. -/
theorem nvmProgrammed_page {page : Nat} {ws : List (Nat × Word)} (h : s.nvm.prog = some (page, ws)) (hp : page ≠ keyPage) :
    s.nvmProgrammed = { s with free := s.free + 128, nvm := { s.nvm with
      prog := none
      words := Store.setRun (fun _ => 0xFFFF) s.nvm.words (page * 128) ((List.range 128).map (pageWord s.free ws)) } } := by
  unfold State.nvmProgrammed
  rw [h]
  exact if_neg hp

theorem nvmProgrammed_key {ws : List (Nat × Word)} (h : s.nvm.prog = some (keyPage, ws)) :
    s.nvmProgrammed = { s with free := s.free + 128, nvm := { s.nvm with
      prog := none, key := dw (pageWord s.free ws 0) (pageWord s.free ws 1) } } := by
  unfold State.nvmProgrammed
  rw [h]
  exact if_pos rfl

theorem pageWord_staged {free k : Nat} {ws : List (Nat × Word)} {w : Word}
    (h : ws.find? (fun x => x.1 == k) = some (k, w)) : pageWord free ws k = w := by
  unfold pageWord
  rw [h]
  rfl

/-- Settles O13. -/
theorem savesToNvm : Obligations.SavesToNvm := by
  unfold Obligations.SavesToNvm
  refine ⟨fun m s b gen h hs ht => ?_, fun m s h hs => ?_, fun s b hr hb => ?_, fun s u b hr hb hu => ?_,
    fun s page ws hp hk => ?_, fun s ws hp => ?_⟩
  · have hw : s.writeCycle m 0x06 0x0002 = (saveBegun s b (s.saveWords gen)).ack m true := by
      rw [writeCycle_profSave h, profSave_begins hs ht]
    have hn : ((saveBegun s b (s.saveWords gen)).ack m true).nvm = (saveBegun s b (s.saveWords gen)).nvm := ack_nvm ..
    have hx : exec (.profSave m) s = .next ((saveBegun s b (s.saveWords gen)).ack m true) :=
      (congrArg (ok s) hw).trans (ok_next s _ (by rw [ack_pending, saveBegun_pending]) (by rw [ack_life, saveBegun_life]))
    refine ⟨(saveBegun s b (s.saveWords gen)).ack m true, hx, by rw [saveBegun_eq], fun k hk => ?_, fun a ha => ?_,
      fun c hc => ?_, ?_⟩
    · rw [hn]; exact saveBegun_word s b gen hk
    · rw [hn]; exact saveBegun_other s b gen ha
    · obtain ⟨hbc, hg⟩ := saveTarget_inForce ht hc
      refine ⟨hbc, hg, fun k hk => ?_⟩
      rw [hn]
      exact saveBegun_other s b gen (by unfold bankBase; omega)
    · have hf {k : Nat} (hk : k < 16) : (s.saveWords gen).getD k 0 = s.saveWord gen k :=
        saveWords_getD s gen (by unfold bankLen; omega) (by omega) (by omega)
      refine ⟨hf (by decide), hf (by decide), hf (by decide), hf (by decide), fun n hn w hw => ?_,
        saveWords_erased s gen (by decide) (by decide), saveWords_erased s gen (by decide) (by decide)⟩
      rw [saveWords_getD s gen (by unfold bkFacets bankLen; omega) (by unfold bkFacets; omega) (by unfold bkFacets; omega),
        saveWord_facet s gen hn hw]
  · have hw := writeCycle_profSave h
    rw [profSave_ignored hs] at hw
    refine ⟨_, (congrArg (ok s) hw).trans (ok_next s _ (by simp) (by simp)), ?_⟩
    rw [ack_eq, State.logIgnored, logE_eq]
  · have hw := (live_ready s (f := fun t => t.profSaveDone false) hr).trans (profSaveDone_bad hb)
    exact ⟨_, (congrArg (ok s) hw).trans (ok_next s _ rfl rfl), rfl, rfl, rfl⟩
  · cases (hu : u = saveRead s b)
    have hw := (live_ready s (f := fun t => t.profSaveDone true) hr).trans (profSaveDone_good hb)
    refine ⟨_, (congrArg (ok s) hw).trans (ok_next s _ (by split <;> rfl) (by split <;> rfl)), rfl, ?_, ?_, ?_⟩
    · split <;> rfl
    · split <;> rfl
    · split
      · rename_i hv; exact (if_pos hv).symm
      · rename_i hv; exact (if_neg hv).symm
  · refine ⟨_, (congrArg (ok s) (nvmProgrammed_page hp hk)).trans (ok_next s _ rfl rfl), rfl, rfl, fun k hk w hw => ?_,
      fun a ha => ?_⟩
    · refine (get_setRun_in (by simpa using hk) 0).trans ?_
      rw [List.getD_eq_getElem?_getD, List.getElem?_map, List.getElem?_range hk]
      exact pageWord_staged hw
    · exact get_setRun_out (by simpa using ha)
  · exact ⟨_, (congrArg (ok s) (nvmProgrammed_key hp)).trans (ok_next s _ rfl rfl), rfl, rfl, rfl⟩

end Sys2Proof.Proofs
end

section
/-! SUPPORT. Direct writes of the plain register words (R10, R444). -/

namespace Sys2Proof.Proofs

open Sys2Proof Sys2Proof.Machine Sys2Proof.Laws

variable {s t u : State}

/-! ## What the operations behind a plain register leave -/

section
variable (s : State)

/-- A cause that enters sets at most an interrupt bit of the controls. -/
theorem enterCause_ctl (n k : Nat) : (s.enterCause n k).ctl = { s.ctl with irq0 := (s.enterCause n k).ctl.irq0 } := by
  unfold State.enterCause
  dsimp only
  split
  · rfl
  · simp only [facetAlarm_ctl]
    split <;> rfl

end

/-- At most facets, an interrupt bit of IRQ_STAT0 and messages have changed. -/
def Raised (s u : State) : Prop :=
  u = { s with facets := u.facets, ctl := { s.ctl with irq0 := u.ctl.irq0 }, msg := u.msg }

theorem Raised.eq (h : Raised s u) :
    u = { s with facets := u.facets, ctl := { s.ctl with irq0 := u.ctl.irq0 }, msg := u.msg } := h

theorem Raised.refl (s : State) : Raised s s := rfl

theorem Raised.trans (h1 : Raised s t) (h2 : Raised t u) : Raised s u :=
  Eq.trans h2 (congrArg (fun v : State => { v with
    facets := u.facets, ctl := { v.ctl with irq0 := u.ctl.irq0 }, msg := u.msg }) h1)

theorem enterCause_raised (s : State) (n k : Nat) : Raised s (s.enterCause n k) := by
  have h := enterCause_eq s n k
  rw [enterCause_ctl] at h
  exact h

/-- What every step of a fold may do, the fold may do. -/
theorem foldl_rel {α β : Type} {R : β → β → Prop} (hr : ∀ b, R b b) (ht : ∀ {a b c}, R a b → R b c → R a c)
    {f : β → α → β} (hf : ∀ b a, R b (f b a)) : ∀ (l : List α) (b : β), R b (l.foldl f b)
  | [], b => hr b
  | a :: l, b => ht (hf b a) (foldl_rel hr ht hf l (f b a))

/-- The loss of the tones: the drives go off, with their causes of fault. -/
theorem toneLoss_raised (s : State) : Raised { s with exc := { s.exc with lock := false, resume := false } } s.toneLoss := by
  unfold State.toneLoss State.forFacets
  exact foldl_rel Raised.refl Raised.trans
    (fun u n => Raised.trans (t := u.modFacet n fun f => { f with driveOff := true }) rfl (enterCause_raised _ n 8)) _ _

section
variable (s : State)

theorem setTb_eq (st : TbState) (k : Nat) : s.setTb st k = { s with
    time := { s.time with
      src := k, inWin := 0, outWin := 0, state := st, ppsRej := (s.setTb st k).time.ppsRej }
    ctl := { s.ctl with irq0 := (s.setTb st k).ctl.irq0 }, msg := (s.setTb st k).msg } := by
  unfold State.setTb
  dsimp only
  split
  · rename_i h; subst h; rfl
  · rfl

end

/-! ## What keeps the plain register words -/

/-- The settings that the plain register words of the timebase and of the drives show. -/
def timeSettings (s : State) : Word × Word × Word × Option Word × Word :=
  (s.time.ctl, s.time.refCtl, s.time.refPeriod, s.time.refPeriodNew, s.time.syncCtl)

def excSettings (s : State) : Word × Word × Word := (s.exc.ctl, s.exc.cmw, s.exc.ztone)

/-- Every plain register word is kept, and what no write of one may touch. -/
structure PlainKept (s u : State) : Prop where
  frame : u = { s with
    ctl := { s.ctl with irq0 := u.ctl.irq0 }, time := u.time, exc := u.exc, log := u.log, logSeq := u.logSeq
    facets := u.facets, msg := u.msg, can := u.can }
  time : timeSettings u = timeSettings s
  exc : excSettings u = excSettings s

theorem PlainKept.refl (s : State) : PlainKept s s := ⟨rfl, rfl, rfl⟩

theorem PlainKept.trans (h1 : PlainKept s t) (h2 : PlainKept t u) : PlainKept s u where
  frame := h2.frame.trans (congrArg (fun v : State => { v with
    ctl := { v.ctl with irq0 := u.ctl.irq0 }, time := u.time, exc := u.exc, log := u.log, logSeq := u.logSeq
    facets := u.facets, msg := u.msg, can := u.can }) h1.frame)
  time := h2.time.trans h1.time
  exc := h2.exc.trans h1.exc

theorem Raised.plainKept (h : Raised s u) : PlainKept s u := by
  have he : u.exc = s.exc := by rw [h]
  have ht : u.time = s.time := by rw [h]
  refine ⟨?_, by rw [timeSettings, ht]; rfl, by rw [excSettings, he]; rfl⟩
  have hc : u.can = s.can := by rw [h]
  have hl : u.log = s.log ∧ u.logSeq = s.logSeq := by rw [h]; exact ⟨rfl, rfl⟩
  rw [ht, he, hc, hl.1, hl.2]
  exact h

/-- The plain register words are then what they were, for every master. -/
theorem PlainKept.regWord (h : PlainKept s u) (m : Master) : ∀ k ∈ plainRegs, u.regWord m k = s.regWord m k := by
  obtain ⟨hf, ht, he⟩ := h
  simp only [timeSettings, Prod.mk.injEq] at ht
  simp only [excSettings, Prod.mk.injEq] at he
  obtain ⟨h10, h19, h1b, h1bn, h1c⟩ := ht
  obtain ⟨h28, h2a, h2b⟩ := he
  have hp : u.time.refPeriodNew.getD u.time.refPeriod = s.time.refPeriodNew.getD s.time.refPeriod := by rw [h1b, h1bn]
  have hg {β : Type} (g : State → β) := congrArg g hf
  intro k hk
  simp only [plainRegs, List.mem_cons, List.not_mem_nil, or_false] at hk
  rcases hk with rfl | rfl | rfl | rfl | rfl | rfl | rfl | rfl | rfl | rfl | rfl | rfl | rfl | rfl | rfl | rfl | rfl | rfl |
    rfl | rfl | rfl | rfl | rfl
  · exact hg fun v => w16 v.ctl.station
  · exact h10
  · exact h19
  · exact hp
  · exact h1c
  · exact hg fun v => v.fctRead.ctl ||| w16 (32768 * b2n v.fctRead.pend)
  · exact h28
  · exact h2a
  · exact h2b
  · exact hg fun v => v.spare.ctl ||| w16 (32768 * b2n v.spare.cmd.isSome)
  · exact hg fun v => v.chain.ctl
  · exact hg fun v => v.chain.shStaged
  · exact hg fun v => v.chain.bankSel
  · exact hg fun v => v.chain.xfadeLen
  · exact hg fun v => v.bead.tareCtl
  · exact hg fun v => v.trg.auto
  · exact hg fun v => v.cap.pre
  · exact hg fun v => v.cap.post
  · exact hg fun v => v.cal.ctl
  · exact hg fun v => v.cal.refMv
  · exact hg fun v => v.cal.limits
  · exact hg fun v => v.ctl.mask0
  · exact hg fun v => v.ctl.mask1

theorem logIgnored_plainKept (s : State) (m : Master) (o a : Nat) : PlainKept s (s.logIgnored m o a) := by
  have h : s.logIgnored m o a = { s with log := (s.logIgnored m o a).log, logSeq := (s.logIgnored m o a).logSeq } := logE_eq ..
  have ht : (s.logIgnored m o a).time = s.time := by rw [h]
  have he : (s.logIgnored m o a).exc = s.exc := by rw [h]
  refine ⟨?_, by rw [timeSettings, ht]; rfl, by rw [excSettings, he]; rfl⟩
  rw [h]

theorem stopRef_plainKept (s : State) (p : Nat) : PlainKept s (s.stopRef p) := by
  unfold State.stopRef
  split
  · exact PlainKept.refl s
  · exact ⟨rfl, rfl, rfl⟩

theorem setTb_plainKept (s : State) (st : TbState) (k : Nat) : PlainKept s (s.setTb st k) := by
  have h := setTb_eq s st k
  have ht : timeSettings (s.setTb st k) = timeSettings s := by rw [h]; rfl
  have he : excSettings (s.setTb st k) = excSettings s := by rw [h]; rfl
  refine ⟨?_, ht, he⟩
  rw [h]

/-- At most the timebase, the ports, an interrupt bit and messages have changed. -/
def Timing (s u : State) : Prop :=
  u = { s with time := u.time, ctl := { s.ctl with irq0 := u.ctl.irq0 }, msg := u.msg, can := u.can }

theorem Timing.eq (h : Timing s u) :
    u = { s with time := u.time, ctl := { s.ctl with irq0 := u.ctl.irq0 }, msg := u.msg, can := u.can } := h

theorem Timing.refl (s : State) : Timing s s := rfl

theorem Timing.trans (h1 : Timing s t) (h2 : Timing t u) : Timing s u :=
  Eq.trans h2 (congrArg (fun v : State => { v with
    time := u.time, ctl := { v.ctl with irq0 := u.ctl.irq0 }, msg := u.msg, can := u.can }) h1)

theorem stopRef_timing (s : State) (p : Nat) : Timing s (s.stopRef p) := by
  unfold State.stopRef
  split <;> rfl

theorem setTb_timing (s : State) (st : TbState) (k : Nat) : Timing s (s.setTb st k) := by
  unfold Timing
  rw [setTb_eq]

theorem enterHoldover_timing (s : State) : Timing s s.enterHoldover := by
  unfold State.enterHoldover
  exact Timing.trans (t := { s with time := { s.time with holdFrom := s.tick, holdE0 := _ } }) rfl (setTb_timing ..)

theorem leaveRef_timing (s : State) : Timing s s.leaveRef := by
  unfold State.leaveRef
  split
  · rfl
  · split
    · rfl
    · exact enterHoldover_timing s

theorem refCtlWrite_timing (s : State) (w : Word) : Timing s (s.refCtlWrite w) := by
  unfold State.refCtlWrite
  refine Timing.trans (Timing.trans ?_ (foldl_rel Timing.refl Timing.trans (fun u p => ?_) _ _)) (leaveRef_timing _)
  · rfl
  · split
    · rfl
    · exact stopRef_timing u p

theorem ztoneWrite_raised (s : State) (w : Word) :
    ∃ e, Raised { s with exc := e } (s.ztoneWrite w) := by
  unfold State.ztoneWrite
  dsimp only
  split
  · exact ⟨_, toneLoss_raised _⟩
  · exact ⟨_, Raised.refl _⟩

theorem leaveRef_plainKept (s : State) : PlainKept s s.leaveRef := by
  unfold State.leaveRef
  split
  · exact PlainKept.refl s
  · split
    · exact ⟨rfl, rfl, rfl⟩
    · exact PlainKept.trans (t := { s with time := { s.time with holdFrom := s.tick, holdE0 := _ } }) ⟨rfl, rfl, rfl⟩
        (setTb_plainKept ..)

/-- A write of REFM_CTL keeps the other plain words. -/
theorem refCtlWrite_plainKept (s : State) (w : Word) :
    PlainKept { s with time := { s.time with refCtl := w } } (s.refCtlWrite w) := by
  unfold State.refCtlWrite
  refine PlainKept.trans (foldl_rel PlainKept.refl PlainKept.trans (fun u p => ?_) _ _) (leaveRef_plainKept _)
  split
  · exact PlainKept.refl u
  · exact stopRef_plainKept u p

theorem ztoneWrite_plainKept (s : State) (w : Word) :
    PlainKept { s with exc := { s.exc with ztone := w } } (s.ztoneWrite w) := by
  unfold State.ztoneWrite
  dsimp only
  split
  · have h := (toneLoss_raised { s with exc := { s.exc with ztone := w } }).plainKept
    refine PlainKept.trans ?_ h
    exact ⟨rfl, rfl, rfl⟩
  · exact PlainKept.refl _

/-! ## A direct write of a plain register -/

/-- What no direct write of a plain register touches, but for the log. -/
def PlainFrame (s u : State) : Prop :=
  u = { s with ctl := u.ctl, time := u.time, fctRead := u.fctRead, exc := u.exc, spare := u.spare, chain := u.chain
               bead := u.bead, trg := u.trg, cap := u.cap, cal := u.cal, log := u.log, logSeq := u.logSeq
               facets := u.facets, msg := u.msg, can := u.can }

theorem PlainFrame.trans (h1 : PlainFrame s t) (h2 : PlainFrame t u) : PlainFrame s u :=
  Eq.trans h2 (congrArg (fun v : State => { v with
    ctl := u.ctl, time := u.time, fctRead := u.fctRead, exc := u.exc, spare := u.spare, chain := u.chain
    bead := u.bead, trg := u.trg, cap := u.cap, cal := u.cal, log := u.log, logSeq := u.logSeq
    facets := u.facets, msg := u.msg, can := u.can }) h1)

theorem PlainKept.plainFrame (h : PlainKept s u) : PlainFrame s u := by
  unfold PlainFrame
  rw [h.frame]

/-- What a write of the plain register `off` with the word `w` does to `s`. -/
structure PlainWritten (m : Master) (off : Nat) (w : Word) (s u : State) : Prop where
  frame : PlainFrame s u
  log : u.log = s.log
  logSeq : u.logSeq = s.logSeq
  others : ∀ k ∈ plainRegs, k ≠ off → u.regWord m k = s.regWord m k
  held : ∃ b : Bool, u.regWord m off = w ||| w16 (32768 * b2n b) ∧ (b = true → nowMask off = 0x8000)
  facets : off ≠ 0x2B → u.facets = s.facets
  msg : off ≠ 0x19 → off ≠ 0x2B → u.msg = s.msg
  can : off ≠ 0x19 → u.can = s.can

/-- The settings that the plain register words show, but for that of `off`, are the same. -/
structure PlainOthers (off : Nat) (s u : State) : Prop where
  r03 : off ≠ 0x03 → u.ctl.station = s.ctl.station := by intro _; rfl
  r10 : off ≠ 0x10 → u.time.ctl = s.time.ctl := by intro _; rfl
  r19 : off ≠ 0x19 → u.time.refCtl = s.time.refCtl := by intro _; rfl
  r1B : off ≠ 0x1B → u.time.refPeriodNew.getD u.time.refPeriod = s.time.refPeriodNew.getD s.time.refPeriod := by
    intro _; rfl
  r1C : off ≠ 0x1C → u.time.syncCtl = s.time.syncCtl := by intro _; rfl
  r24 : off ≠ 0x24 → u.fctRead.ctl = s.fctRead.ctl := by intro _; rfl
  r28 : off ≠ 0x28 → u.exc.ctl = s.exc.ctl := by intro _; rfl
  r2A : off ≠ 0x2A → u.exc.cmw = s.exc.cmw := by intro _; rfl
  r2B : off ≠ 0x2B → u.exc.ztone = s.exc.ztone := by intro _; rfl
  r2D : off ≠ 0x2D → u.spare.ctl = s.spare.ctl := by intro _; rfl
  r30 : off ≠ 0x30 → u.chain.ctl = s.chain.ctl := by intro _; rfl
  r32 : off ≠ 0x32 → u.chain.shStaged = s.chain.shStaged := by intro _; rfl
  r35 : off ≠ 0x35 → u.chain.bankSel = s.chain.bankSel := by intro _; rfl
  r37 : off ≠ 0x37 → u.chain.xfadeLen = s.chain.xfadeLen := by intro _; rfl
  r4C : off ≠ 0x4C → u.bead.tareCtl = s.bead.tareCtl := by intro _; rfl
  r55 : off ≠ 0x55 → u.trg.auto = s.trg.auto := by intro _; rfl
  r58 : off ≠ 0x58 → u.cap.pre = s.cap.pre := by intro _; rfl
  r59 : off ≠ 0x59 → u.cap.post = s.cap.post := by intro _; rfl
  r70 : off ≠ 0x70 → u.cal.ctl = s.cal.ctl := by intro _; rfl
  r75 : off ≠ 0x75 → u.cal.refMv = s.cal.refMv := by intro _; rfl
  r76 : off ≠ 0x76 → u.cal.limits = s.cal.limits := by intro _; rfl
  r79 : off ≠ 0x79 → u.ctl.mask0 = s.ctl.mask0 := by intro _; rfl
  r7B : off ≠ 0x7B → u.ctl.mask1 = s.ctl.mask1 := by intro _; rfl
  readPend : u.fctRead.pend = s.fctRead.pend := by rfl
  spareCmd : u.spare.cmd = s.spare.cmd := by rfl

/-- Then the other plain register words read the same. -/
theorem PlainOthers.regWord {off : Nat} (h : PlainOthers off s u) (m : Master) :
    ∀ k ∈ plainRegs, k ≠ off → u.regWord m k = s.regWord m k := by
  intro k hk hn
  have hn := Ne.symm hn
  simp only [plainRegs, List.mem_cons, List.not_mem_nil, or_false] at hk
  rcases hk with rfl | rfl | rfl | rfl | rfl | rfl | rfl | rfl | rfl | rfl | rfl | rfl | rfl | rfl | rfl | rfl | rfl | rfl |
    rfl | rfl | rfl | rfl | rfl
  · exact congrArg w16 (h.r03 hn)
  · exact h.r10 hn
  · exact h.r19 hn
  · exact h.r1B hn
  · exact h.r1C hn
  · exact congrArg₂ (fun w b => w ||| w16 (32768 * b2n b)) (h.r24 hn) h.readPend
  · exact h.r28 hn
  · exact h.r2A hn
  · exact h.r2B hn
  · exact congrArg₂ (fun (w : Word) b => w ||| w16 (32768 * b2n b)) (h.r2D hn) (congrArg Option.isSome h.spareCmd)
  · exact h.r30 hn
  · exact h.r32 hn
  · exact h.r35 hn
  · exact h.r37 hn
  · exact h.r4C hn
  · exact h.r55 hn
  · exact h.r58 hn
  · exact h.r59 hn
  · exact h.r70 hn
  · exact h.r75 hn
  · exact h.r76 hn
  · exact h.r79 hn
  · exact h.r7B hn

theorem held_as {m : Master} {off : Nat} {w : Word} (h : u.regWord m off = w) :
    ∃ b : Bool, u.regWord m off = w ||| w16 (32768 * b2n b) ∧ (b = true → nowMask off = 0x8000) :=
  ⟨false, by rw [h]; exact (BitVec.or_zero).symm, fun h => by cases h⟩

/-- A register that holds its word in a field of its own. -/
theorem plainWritten_of {m : Master} {off : Nat} {w : Word} (hh : u.regWord m off = w) (ho : PlainOthers off s u)
    (hf : PlainFrame s u := by rfl) (hl : u.log = s.log := by rfl) (hq : u.logSeq = s.logSeq := by rfl)
    (hfc : u.facets = s.facets := by rfl) (hm : u.msg = s.msg := by rfl) (hc : u.can = s.can := by rfl) :
    PlainWritten m off w s u :=
  ⟨hf, hl, hq, ho.regWord m, held_as hh, fun _ => hfc, fun _ _ => hm, fun _ => hc⟩

/-- What keeps the plain words keeps a write of one. -/
theorem PlainWritten.kept {m : Master} {off : Nat} {w : Word} {r : State} (h : PlainWritten m off w s r) (hk : PlainKept r u)
    (ho : off ∈ plainRegs) (hl : u.log = r.log) (hq : u.logSeq = r.logSeq) (hf : off ≠ 0x2B → u.facets = r.facets)
    (hm : off ≠ 0x19 → off ≠ 0x2B → u.msg = r.msg) (hc : off ≠ 0x19 → u.can = r.can) : PlainWritten m off w s u where
  frame := h.frame.trans hk.plainFrame
  log := hl.trans h.log
  logSeq := hq.trans h.logSeq
  others k hk' hn := (hk.regWord m k hk').trans (h.others k hk' hn)
  held := by rw [hk.regWord m off ho]; exact h.held
  facets hn := (hf hn).trans (h.facets hn)
  msg h1 h2 := (hm h1 h2).trans (h.msg h1 h2)
  can h1 := (hc h1).trans (h.can h1)

/-- The word of SPARE_CTL; setting XC_EN begins a shadow period besides. -/
theorem spareCtl_cases (s : State) (w : Word) : ∃ a b c, s.spareCtl w = { s with
    spare := { s.spare with ctl := w, shadow := a, shadowFrom := b, shadowErrs := c } } := by
  unfold State.spareCtl
  dsimp only
  split
  · exact ⟨_, _, _, rfl⟩
  · exact ⟨s.spare.shadow, s.spare.shadowFrom, s.spare.shadowErrs, rfl⟩

theorem spareCtl_written (s : State) (m : Master) (w : Word) : PlainWritten m 0x2D w s (s.spareCtl w) := by
  obtain ⟨a, b, c, h⟩ := spareCtl_cases s w
  have ho : PlainOthers 0x2D s { s with spare := { s.spare with ctl := w, shadow := a, shadowFrom := b, shadowErrs := c } } :=
    { r2D := fun h => absurd rfl h }
  rw [h]
  exact ⟨rfl, rfl, rfl, ho.regWord m, ⟨s.spare.cmd.isSome, rfl, fun _ => rfl⟩, fun _ => rfl, fun _ _ => rfl, fun _ => rfl⟩

theorem fctReadCtl_written (s : State) (m : Master) (w : Word) :
    PlainWritten m 0x24 w s { s with fctRead := { s.fctRead with ctl := w } } := by
  have ho : PlainOthers 0x24 s { s with fctRead := { s.fctRead with ctl := w } } := { r24 := fun h => absurd rfl h }
  exact ⟨rfl, rfl, rfl, ho.regWord m, ⟨s.fctRead.pend, rfl, fun _ => rfl⟩, fun _ => rfl, fun _ _ => rfl, fun _ => rfl⟩

theorem refCtlWrite_written (s : State) (m : Master) (w : Word) : PlainWritten m 0x19 w s (s.refCtlWrite w) := by
  have h : PlainWritten m 0x19 w s { s with time := { s.time with refCtl := w } } :=
    plainWritten_of rfl { r19 := fun h => absurd rfl h }
  refine h.kept (refCtlWrite_plainKept s w) (by decide) ?_ ?_ (fun _ => ?_) (fun h => absurd rfl h) (fun h => absurd rfl h)
  · rw [(refCtlWrite_timing s w).eq]
  · rw [(refCtlWrite_timing s w).eq]
  · rw [(refCtlWrite_timing s w).eq]

theorem ztoneWrite_written (s : State) (m : Master) (w : Word) : PlainWritten m 0x2B w s (s.ztoneWrite w) := by
  have h : PlainWritten m 0x2B w s { s with exc := { s.exc with ztone := w } } :=
    plainWritten_of rfl { r2B := fun h => absurd rfl h }
  obtain ⟨e, he⟩ := ztoneWrite_raised s w
  refine h.kept (ztoneWrite_plainKept s w) (by decide) ?_ ?_ (fun h => absurd rfl h) (fun _ h => absurd rfl h) (fun _ => ?_)
  · rw [he.eq]
  · rw [he.eq]
  · rw [he.eq]

theorem regStore_plain (s : State) (m : Master) (w v : Word) : ∀ off ∈ plainRegs, PlainWritten m off w s (s.regStore m off w v) := by
  intro off ho
  simp only [plainRegs, List.mem_cons, List.not_mem_nil, or_false] at ho
  rcases ho with rfl | rfl | rfl | rfl | rfl | rfl | rfl | rfl | rfl | rfl | rfl | rfl | rfl | rfl | rfl | rfl | rfl | rfl |
    rfl | rfl | rfl | rfl | rfl
  · exact plainWritten_of (BitVec.ofNat_toNat ..) { r03 := fun h => absurd rfl h }
  · exact plainWritten_of rfl { r10 := fun h => absurd rfl h }
  · exact refCtlWrite_written s m w
  · exact plainWritten_of rfl { r1B := fun h => absurd rfl h }
  · exact plainWritten_of rfl { r1C := fun h => absurd rfl h }
  · exact fctReadCtl_written s m w
  · exact plainWritten_of rfl { r28 := fun h => absurd rfl h }
  · exact plainWritten_of rfl { r2A := fun h => absurd rfl h }
  · exact ztoneWrite_written s m w
  · exact spareCtl_written s m w
  · exact plainWritten_of rfl { r30 := fun h => absurd rfl h }
  · exact plainWritten_of rfl { r32 := fun h => absurd rfl h }
  · exact plainWritten_of rfl { r35 := fun h => absurd rfl h }
  · exact plainWritten_of rfl { r37 := fun h => absurd rfl h }
  · exact plainWritten_of rfl { r4C := fun h => absurd rfl h }
  · exact plainWritten_of rfl { r55 := fun h => absurd rfl h }
  · exact plainWritten_of rfl { r58 := fun h => absurd rfl h }
  · exact plainWritten_of rfl { r59 := fun h => absurd rfl h }
  · exact plainWritten_of rfl { r70 := fun h => absurd rfl h }
  · exact plainWritten_of rfl { r75 := fun h => absurd rfl h }
  · exact plainWritten_of rfl { r76 := fun h => absurd rfl h }
  · exact plainWritten_of rfl { r79 := fun h => absurd rfl h }
  · exact plainWritten_of rfl { r7B := fun h => absurd rfl h }

/-- A write cycle that reaches a plain register: its RW fields take the word, and a field out of its list is logged. -/
theorem writeCycle_plain {m : Master} {off : Nat} {v : Word} (ho : off ∈ plainRegs) (h : s.directs m off)
    (hn : v &&& nowMask off = 0) : ∃ r w, (r = if encBad off v then s.logIgnored m off 0 else s) ∧
      (w = rwMerge off (r.regWord m off) v) ∧ s.writeCycle m off v = (r.regStore m off w v).ack m true := by
  have hfacts : ∀ off ∈ plainRegs, simpleReg off = true ∧ off ≠ 0x0B ∧ off ≠ 0x0C ∧ (rwFields off).isEmpty = false ∧
      ¬ (0x61 ≤ off ∧ off ≤ 0x6E) ∧ off ≠ 0x54 := by decide
  obtain ⟨hs, hb, hc, hf, hp, h54⟩ := hfacts off ho
  have hf : rwFields off ≠ [] := by intro h; rw [h] at hf; cases hf
  refine ⟨_, _, rfl, rfl, ?_⟩
  rw [simpleReg_direct v h hs]
  unfold State.regDirect
  simp only [State.portIgnores, hp, decide_false, Bool.false_and, Bool.false_eq_true, if_false, hf, hn, hb, ne_eq, not_true_eq_false,
    or_self, and_false, State.afterAccess, h54, bne_iff_ne.mpr hc, Bool.and_true]

/-- The fields that act at once lie outside the RW fields. -/
theorem nowMask_disjoint : ∀ off ∈ plainRegs, ∀ i < 16, (nowMask off).getLsbD i = true → covered (rwFields off) i = false := by
  decide

/-- A word whose fields hold listed values is the word that leaves the register so. -/
theorem heldWord_rwMerge {off : Nat} {v : Word} (ho : off ∈ plainRegs) (old : Word) (h : encBad off v = false) :
    heldWord off (rwMerge off old v) = rwMerge off old v := by
  refine BitVec.eq_of_getLsbD_eq fun i hi => ?_
  unfold heldWord
  rw [BitVec.getLsbD_and, BitVec.getLsbD_not, getLsbD_rwMerge old h hi]
  cases hm : (nowMask off).getLsbD i
  · simp [hi]
  · simp [nowMask_disjoint off ho i hi hm]

/-- The bit of a register that shows a request is none of its RW fields. -/
theorem heldWord_or {off : Nat} (w : Word) {b : Bool} (h : b = true → nowMask off = 0x8000) :
    heldWord off (w ||| w16 (32768 * b2n b)) = heldWord off w := by
  cases b
  · exact congrArg (heldWord off) BitVec.or_zero
  · refine BitVec.eq_of_getLsbD_eq fun i hi => ?_
    unfold heldWord
    rw [h rfl, BitVec.getLsbD_and, BitVec.getLsbD_and, BitVec.getLsbD_or, Bool.and_or_distrib_right]
    have : ∀ i < 16, ((w16 (32768 * b2n true)).getLsbD i && (~~~(0x8000 : Word)).getLsbD i) = false := by decide
    rw [this i hi, Bool.or_false]

theorem ack_plainFrame (s : State) (m : Master) (b : Bool) : PlainFrame s (s.ack m b) := by
  unfold PlainFrame
  rw [ack_eq]

theorem ack_regWord (s : State) (m n : Master) (b : Bool) : ∀ k ∈ plainRegs, (s.ack m b).regWord n k = s.regWord n k := by
  intro k hk
  obtain ⟨c, h⟩ := ack_ex s m b
  have ho : PlainOthers 0 s { s with ctl := { s.ctl with acked := c } } := {}
  rw [h]
  exact ho.regWord n k hk (by rintro rfl; exact absurd hk (by decide))

theorem PlainFrame.pending (h : PlainFrame s u) : u.pending = s.pending := by
  have h : u = _ := h
  rw [h]

theorem PlainFrame.life (h : PlainFrame s u) : u.life = s.life := by
  have h : u = _ := h
  rw [h]

theorem logIgnored_newest (s : State) (m : Master) (o a : Nat) : ∃ e, Store.get none (s.logIgnored m o a).log
    (((s.logIgnored m o a).logSeq + 65535) % 65536 % 256) = some e ∧ e.code = 1 := logE_newest ..

/-- Settles O14. -/
theorem registerWriteReadsBack : Obligations.RegisterWriteReadsBack := by
  unfold Obligations.RegisterWriteReadsBack
  intro m off v s ho h hn
  obtain ⟨r, w, hr, hw, hc⟩ := writeCycle_plain ho h hn
  have hput := regStore_plain r m w v off.toNat ho
  have hrk : PlainKept s r := by
    rw [hr]; split
    · exact logIgnored_plainKept ..
    · exact PlainKept.refl s
  have hrest : r.facets = s.facets ∧ r.msg = s.msg ∧ r.can = s.can := by
    rw [hr]; split
    · simp
    · exact ⟨rfl, rfl, rfl⟩
  generalize r.regStore m off.toNat w v = u at hput hc
  have hframe : PlainFrame s (u.ack m true) := (hrk.plainFrame.trans hput.frame).trans (ack_plainFrame u m true)
  refine ⟨u.ack m true, ?_, fun hb => ⟨?_, ?_⟩, fun hb => ?_, fun k hk hne => ?_, fun h1 => ?_, fun h1 h2 => ?_, fun h1 => ?_, hframe⟩
  · have he : exec (.registerWrite m off v) s = okWrite s (s.writeCycle m off.toNat v) := rfl
    rw [he, hc]
    exact okWrite_next h.1 hframe.pending hframe.life
  · obtain ⟨b, hheld, hbit⟩ := hput.held
    rw [ack_regWord u m m true _ ho, hheld, heldWord_or w hbit, hw, heldWord_rwMerge ho _ hb, rwMerge_plain _ ho v hb]
  · rw [hb] at hr
    rw [ack_log, hput.log, hr]
    rfl
  · rw [hb] at hr
    rw [ack_log, ack_logSeq, hput.log, hput.logSeq, hr]
    exact logIgnored_newest s m off.toNat 0
  · rw [ack_regWord u m m true _ hk, hput.others k hk hne, hrk.regWord m k hk]
  · rw [ack_facets, hput.facets h1, hrest.1]
  · rw [ack_msg, hput.msg h1 h2, hrest.2.1]
  · rw [ack_can, hput.can h1, hrest.2.2]

end Sys2Proof.Proofs
end

section
/-! SUPPORT. Reads of registers (R8, R9, R58, R346) and accesses to the windows (R413, R415, R458). -/

namespace Sys2Proof.Proofs

open Sys2Proof Sys2Proof.Machine Sys2Proof.Laws

variable {s t u : State} {m : Master}

/-! ## The effects of a read -/

section
variable (s : State) (m : Master) (off ns : Nat)

theorem latchGroup_master_other {n : Master} (h : n ≠ m) : (s.latchGroup m off ns).master n = s.master n := by
  unfold State.latchGroup
  split
  iterate 3 exact master_modMaster_other _ _ h
  rfl

/-- A latch, a clear and an advance keep the queue and the life of the device. -/
theorem regRead_pending : (s.regRead m off ns).2.pending = s.pending := by
  have hl (u : State) : (u.latchGroup m off ns).pending = u.pending := by
    unfold State.latchGroup; split <;> simp
  have hc (u : State) : (u.clearRc m off).pending = u.pending := by
    unfold State.clearRc; dsimp only; split
    · rfl
    · split <;> rfl
  have ha (u : State) : (u.advance m off).pending = u.pending := by
    unfold State.advance; split <;> simp
  exact ((ha _).trans (hc _)).trans (hl s)

theorem regRead_life : (s.regRead m off ns).2.life = s.life := by
  have hl (u : State) : (u.latchGroup m off ns).life = u.life := by
    unfold State.latchGroup; split <;> simp
  have hc (u : State) : (u.clearRc m off).life = u.life := by
    unfold State.clearRc; dsimp only; split
    · rfl
    · split <;> rfl
  have ha (u : State) : (u.advance m off).life = u.life := by
    unfold State.advance; split <;> simp
  exact ((ha _).trans (hc _)).trans (hl s)

end

/-- An answered read cycle, as a command's meaning. -/
theorem ok_read {off ns : Nat} (h : s.reads m off) (hw : off ≠ 0x7F) : ok s (s.readCycle m off ns) =
    .next (((s.regRead m off ns).2.ret m (s.regRead m off ns).1).ack m true) := by
  rw [readCycle_read s h hw]
  exact ok_next s _ (by simp [State.ret, regRead_pending]) (by simp [State.ret, regRead_life])

theorem ret_rdata (s : State) (m : Master) (v : Word) (b : Bool) : (((s.ret m v).ack m b).master m).rdata = v := by
  simp [State.ret]

/-- The masters' other fields as `ret` leaves them. -/
theorem ret_master (s : State) (m : Master) (v : Word) (b : Bool) :
    ((s.ret m v).ack m b).master m = { s.master m with rdata := v } := by
  simp [State.ret]

theorem ret_master_other (s : State) {m n : Master} (v : Word) (b : Bool) (h : n ≠ m) :
    ((s.ret m v).ack m b).master n = s.master n := by
  rw [ack_master]; exact master_modMaster_other _ _ h

/-! ## Counts that clear on reading (R8, R346) -/

theorem getD_set_self (l : List Nat) (i : Nat) : (l.set i 0).getD i 0 = 0 := by
  rw [List.getD_eq_getElem?_getD, List.getElem?_set]
  split
  · split <;> rfl
  · rename_i h; exact absurd rfl h

/-- The words that clear on reading, as functions of the fields they show. -/
theorem regWord_ovr (s : State) (m : Master) : s.regWord m 0x3E = w16 (s.budget.ovr.getD (s.master m).budgetSel 0) := rfl
theorem regWord_missed (s : State) (m : Master) : s.regWord m 0x56 = w16 s.trg.missed := rfl
theorem regWord_canErr (s : State) (m : Master) : s.regWord m 0x69 = (s.canPort (s.master m).canSel).err := rfl

theorem regRead_rc {off : Nat} (h : off ∈ [0x3E, 0x56, 0x69]) (ns : Nat) :
    s.regRead m off ns = (s.regWord m off, s.clearRc m off) := by
  simp only [List.mem_cons, List.not_mem_nil, or_false] at h
  rcases h with rfl | rfl | rfl <;> rfl

/-- A read by a local master leaves the count 0. -/
theorem clearRc_zero {off : Nat} (v : Word) (h : off ∈ [0x3E, 0x56, 0x69]) (hl : isRemote m = false) :
    (((s.clearRc m off).ret m v).ack m true).regWord m off = 0 := by
  simp only [List.mem_cons, List.not_mem_nil, or_false] at h
  have hc : s.clearRc m off = _ := if_neg (by simp [hl])
  rcases h with rfl | rfl | rfl
  · have hm : (s.clearRc m 0x3E).master m = s.master m := by rw [hc]; cases m <;> rfl
    have hb : (s.clearRc m 0x3E).budget.ovr = s.budget.ovr.set (s.master m).budgetSel 0 := by rw [hc]; rfl
    rw [regWord_ovr, ret_master, ack_budget, State.ret, modMaster_budget, hb, hm, getD_set_self]
    rfl
  · have hb : (s.clearRc m 0x56).trg.missed = 0 := by rw [hc]; rfl
    rw [regWord_missed, ack_trg, State.ret, modMaster_trg, hb]
    rfl
  · have hm : (s.clearRc m 0x69).master m = s.master m := by rw [hc]; cases m <;> rfl
    have hb : (s.clearRc m 0x69).canPort (s.master m).canSel = { s.canPort (s.master m).canSel with err := 0 } := by
      rw [hc]; exact canPort_modCanPort ..
    rw [regWord_canErr, ret_master, hm]
    have hp (u : State) (p : Nat) : ((u.ret m v).ack m true).canPort p = u.canPort p := by
      unfold State.canPort; rw [ack_can, State.ret, modMaster_can]
    rw [hp, hb]

theorem clearRc_remote (s : State) {m : Master} (off : Nat) (h : isRemote m = true) : s.clearRc m off = s := if_pos h

/-- What a clear leaves. -/
theorem clearRc_eq (s : State) (m : Master) (off : Nat) : s.clearRc m off = { s with
    budget := (s.clearRc m off).budget, trg := (s.clearRc m off).trg, can := (s.clearRc m off).can } := by
  unfold State.clearRc
  dsimp only
  split
  · rfl
  · split <;> rfl

/-! ## Groups that the read of their first word captures (R9, R193) -/

theorem regRead_time (ns : Nat) : s.regRead m 0x12 ns = (wordOf (s.nowNs ns % 2 ^ 64) 0,
    (s.modMaster m fun x => { x with latchTime := s.nowNs ns % 2 ^ 64 })) := by
  have hw (u : State) : u.regWord m 0x12 = wordOf (u.master m).latchTime 0 := rfl
  have hc (u : State) : (u.clearRc m 0x12).advance m 0x12 = u := ite_keeps id rfl rfl
  unfold State.regRead
  dsimp only
  rw [hw, hc]
  refine Prod.ext ?_ rfl
  exact congrArg (fun x : MasterSt => wordOf x.latchTime 0) (master_modMaster ..)

theorem regRead_pos (ns : Nat) : s.regRead m 0x43 ns = ((s.port (s.master m).posSel).group.getD 0 0,
    (s.modMaster m fun x => { x with latchPos := (s.port x.posSel).group })) := by
  have hw (u : State) : u.regWord m 0x43 = (u.master m).latchPos.getD 0 0 := rfl
  have hc (u : State) : (u.clearRc m 0x43).advance m 0x43 = u := ite_keeps id rfl rfl
  unfold State.regRead
  dsimp only
  rw [hw, hc]
  refine Prod.ext ?_ rfl
  exact congrArg (fun x : MasterSt => x.latchPos.getD 0 0) (master_modMaster ..)

theorem regRead_cal (ns : Nat) : s.regRead m 0x73 ns = (wordOf s.cal.last 0,
    (s.modMaster m fun x => { x with latchCal := s.cal.last })) := by
  have hw (u : State) : u.regWord m 0x73 = wordOf (u.master m).latchCal 0 := rfl
  have hc (u : State) : (u.clearRc m 0x73).advance m 0x73 = u := ite_keeps id rfl rfl
  unfold State.regRead
  dsimp only
  rw [hw, hc]
  refine Prod.ext ?_ rfl
  exact congrArg (fun x : MasterSt => wordOf x.latchCal 0) (master_modMaster ..)

/-! ## FCT_FAULT_NEXT (R58) -/

/-- Below the first key of a table every key reads as unlisted. -/
theorem get_below {α : Type} {d : α} {j k : Nat} (hk : k ≤ j) : ∀ {l : Store α}, Store.rising (some j) l = true →
    Store.get d l k = d
  | [], _ => rfl
  | (i, v) :: l, h => by
    rw [rising_cons] at h
    have hi := h.1 j rfl
    rw [Store.get, if_neg (by omega), get_below (by omega : k ≤ i) h.2]

/-- In a table in its canonical form the first entry that passes a test is the lowest key that does. -/
theorem find_rising {α : Type} {d : α} {p : Nat → α → Bool} (hd : ∀ k, p k d = false) {n : Nat} {f : α} :
    ∀ {l : Store α} {lo : Option Nat}, Store.rising lo l = true → l.find? (fun e => p e.1 e.2) = some (n, f) →
      Store.get d l n = f ∧ p n f = true ∧ (∀ a, lo = some a → a < n) ∧ ∀ k < n, p k (Store.get d l k) = false
  | [], _, _, h => by cases h
  | (j, v) :: l, lo, hr, h => by
    rw [rising_cons] at hr
    obtain ⟨hlo, hr⟩ := hr
    rw [List.find?_cons] at h
    have hget (k : Nat) (hk : k < j) : Store.get d l k = d := get_below (Nat.le_of_lt hk) hr
    by_cases hp : p j v = true
    · simp only [hp] at h
      cases h
      refine ⟨by simp [Store.get], hp, hlo, fun k hk => ?_⟩
      rw [Store.get, if_neg (by omega), hget k hk, hd]
    · have hp : p j v = false := by simpa using hp
      simp only [hp] at h
      obtain ⟨h1, h2, h3, h4⟩ := find_rising hd hr h
      have hjn := h3 j rfl
      refine ⟨by rw [Store.get, if_neg (by omega), h1], h2, fun a ha => (hlo a ha).trans hjn, fun k hk => ?_⟩
      unfold Store.get
      split
      · rename_i hkj; rw [hkj, hp]
      · exact h4 k hk

/-- The facet holds a cause of fault, or has seen one. -/
def faulty (f : FacetRT) : Bool := f.faultNow != 0 || f.faultSeen != 0

theorem faulty_iff (f : FacetRT) : faulty f = true ↔ f.faultNow ≠ 0 ∨ f.faultSeen ≠ 0 := by
  simp [faulty]

/-- The key lies above the last one returned. -/
def above (after : Option Nat) (k : Nat) : Bool := match after with | none => true | some a => decide (a < k)

theorem above_iff (after : Option Nat) (k : Nat) : above after k = true ↔ ∀ a, after = some a → a < k := by
  cases after <;> simp [above]

/-- The facet that a read of FCT_FAULT_NEXT gives: the lowest above the last with a fault. -/
theorem nextFault_some {after : Option Nat} {n : Nat} (hw : Store.wf (fun _ => {}) s.facets = true)
    (h : s.nextFault after = some n) : ((s.facet n).faultNow ≠ 0 ∨ (s.facet n).faultSeen ≠ 0) ∧
      (∀ a, after = some a → a < n) ∧
      ∀ k < n, (∀ a, after = some a → a < k) → (s.facet k).faultNow = 0 ∧ (s.facet k).faultSeen = 0 := by
  obtain ⟨⟨i, f⟩, he, hn⟩ := Option.map_eq_some_iff.mp h
  obtain rfl : i = n := hn
  have hrise : Store.rising none s.facets = true := by
    simp only [Store.wf, Bool.and_eq_true] at hw; exact hw.1
  have he' : s.facets.find? (fun e => faulty e.2 && above after e.1) = some (i, f) := by cases after <;> exact he
  have hd (k : Nat) : (faulty {} && above after k) = false := rfl
  obtain ⟨h1, h2, -, h4⟩ := find_rising (p := fun k f => faulty f && above after k) (d := {}) hd hrise he'
  have hf : s.facet i = f := h1
  rw [Bool.and_eq_true] at h2
  refine ⟨by rw [hf]; exact (faulty_iff f).mp h2.1, (above_iff after i).mp h2.2, fun k hk ha => ?_⟩
  have hk := h4 k hk
  rw [(above_iff after k).mpr ha, Bool.and_true] at hk
  have := mt (faulty_iff (s.facet k)).mpr (by rw [State.facet, hk]; simp)
  rwa [not_or, not_not, not_not] at this

theorem regRead_next (ns : Nat) : s.regRead m 0x23 ns = (s.regWord m 0x23,
    s.modMaster m fun x => { x with faultPos := s.nextFault x.faultPos }) := by
  have hc : s.clearRc m 0x23 = s := ite_keeps id rfl rfl
  unfold State.regRead
  dsimp only
  have hl : s.latchGroup m 0x23 ns = s := rfl
  rw [hl, hc]
  rfl

theorem regWord_next (s : State) (m : Master) : s.regWord m 0x23 =
    match s.nextFault (s.master m).faultPos with | some n => w16 n | none => 0x8000 := rfl

/-- Settles O15. -/
theorem readsReturnLatchAndClear : Obligations.ReadsReturnLatchAndClear := by
  unfold Obligations.ReadsReturnLatchAndClear
  refine ⟨⟨fun m off ns s h hq => ?_, fun m s h => ?_, fun m off s => rfl, fun m off s ho h => ?_⟩,
    ⟨fun m ns s h => ?_, fun m ns s h => ?_, fun m ns s h => ?_⟩, fun m s h hwf => ?_⟩
  · have hq7 : off.toNat ≠ 0x7F := by rintro h7; exact hq (by rw [h7]; decide)
    have hr (ns : Nat) : s.regRead m off.toNat ns = (s.regWord m off.toNat, s) :=
      regRead_quiet ns fun he => hq ((by decide : ∀ k ∈ readEffects, k ∈ [0x12, 0x23, 0x3E, 0x43, 0x54, 0x56, 0x69, 0x73, 0x7F]) _ he)
    exact ⟨(ok_read h hq7).trans (by rw [hr]), (ok_read h hq7).trans (by rw [hr])⟩
  · have hr : s.regRead m 0x54 0 = (s.regWord m 0x54, s.modMaster m fun x => { x with trgSel := nextTrgSel x.trgSel }) := by
      have hc : s.clearRc m 0x54 = s := ite_keeps id rfl rfl
      have hl : s.latchGroup m 0x54 0 = s := rfl
      unfold State.regRead
      dsimp only
      rw [hl, hc]
      rfl
    exact (ok_read (off := 0x54) h (by decide)).trans (by rw [hr])
  · have h7 : off.toNat ≠ 0x7F := by rintro h7; rw [h7] at ho; exact absurd ho (by decide)
    have hx := ok_read (ns := 0) h h7
    rw [regRead_rc ho] at hx
    refine ⟨_, hx, ret_rdata .., clearRc_zero _ ho, fun hm => ?_, ?_⟩
    · rw [clearRc_remote s _ hm]
      simp [State.ret]
    · simp only [State.ret, ack_log, ack_bead, ack_facets, ack_time, modMaster_log, modMaster_bead, modMaster_facets,
        modMaster_time]
      rw [clearRc_eq]
      exact ⟨rfl, rfl, rfl, rfl⟩
  · have hx := ok_read (ns := ns) h (by decide)
    rw [regRead_time] at hx
    have hm (w : Word) (i : Nat) : wordOf ((((s.modMaster m fun x => { x with latchTime := s.nowNs ns % 2 ^ 64 }).ret m w).ack m
        true).master m).latchTime i = wordOf (s.nowNs ns % 2 ^ 64) i := by rw [ret_master, master_modMaster]
    refine ⟨_, hx, ret_rdata .., hm _ 1, hm _ 2, hm _ 3, fun n hn => ?_⟩
    rw [ret_master_other _ _ _ hn, master_modMaster_other _ _ hn]
  · have hx := ok_read (ns := ns) h (by decide)
    rw [regRead_pos] at hx
    have hm (w : Word) (i : Nat) : ((((s.modMaster m fun x => { x with latchPos := (s.port x.posSel).group }).ret m w).ack m
        true).master m).latchPos.getD i 0 = (s.port (s.master m).posSel).group.getD i 0 := by rw [ret_master, master_modMaster]
    refine ⟨_, hx, ret_rdata .., fun i hi => ?_, by simp [State.ret]⟩
    obtain rfl | rfl | rfl | rfl : i = 0 ∨ i = 1 ∨ i = 2 ∨ i = 3 := by omega
    · exact hm _ 0
    · exact hm _ 1
    · exact hm _ 2
    · exact hm _ 3
  · have hx := ok_read (ns := ns) h (by decide)
    rw [regRead_cal] at hx
    refine ⟨_, hx, ret_rdata .., ?_, by simp [State.ret]⟩
    refine Eq.trans (b := wordOf ((((s.modMaster m fun x => { x with latchCal := s.cal.last }).ret m
      (wordOf s.cal.last 0)).ack m true).master m).latchCal 1) rfl ?_
    rw [ret_master, master_modMaster]
  · have hx := ok_read (ns := 0) h (by decide)
    rw [regRead_next] at hx
    refine ⟨_, hx, ?_, fun n hn => ?_, by simp [State.ret]⟩
    · rw [ret_master, master_modMaster]
      dsimp only
      rw [regWord_next]
      cases hn : s.nextFault (s.master m).faultPos with
      | some n => exact ⟨rfl, rfl, nextFault_some hwf hn⟩
      | none => exact ⟨rfl, rfl⟩
    · rw [ret_master_other _ _ _ hn, master_modMaster_other _ _ hn]

/-! ## Accesses to the windows (R413, R415) -/

/-- What a transfer for a window access changes: a budget, and the line that the master has paid for. -/
def Charged (s : State) (m : Master) (u : State) : Prop :=
  ∃ b l, u = ({ s with budget := b } : State).modMaster m fun x => { x with lastCharged := l }

theorem charged_self (s : State) (m : Master) : Charged s m s :=
  ⟨s.budget, (s.master m).lastCharged, by cases m <;> rfl⟩

theorem spend_some {a n : Nat} (h : s.spend a n = some u) : u = { s with budget := u.budget } := by
  unfold State.spend at h
  dsimp only at h
  split at h
  · cases h; rfl
  · cases h

theorem chargeWin_charged {sp a : Nat} (h : s.chargeWin m sp a = some u) : Charged s m u := by
  unfold State.chargeWin at h
  dsimp only at h
  split at h
  · cases h; exact charged_self s m
  · split at h
    · rename_i t ht
      cases h
      exact ⟨t.budget, _, by rw [← spend_some ht]⟩
    · cases h

theorem chargeQueue_charged (h : s.chargeQueue m = some u) : Charged s m u := by
  unfold State.chargeQueue at h
  extract_lets act k count at h
  by_cases hq : s.cap.queue.isEmpty = true
  · rw [if_pos hq] at h
    cases h
    exact charged_self s m
  · rw [if_neg hq] at h
    by_cases hk : k ≠ 0
    · rw [if_pos hk] at h
      cases h
      exact ⟨s.budget, _, rfl⟩
    · rw [if_neg hk] at h
      obtain ⟨t, ht, hu⟩ := Option.map_eq_some_iff.mp h
      cases hu
      exact ⟨t.budget, _, by rw [← spend_some ht]⟩

/-- All that a transfer leaves. -/
theorem Charged.keeps (h : Charged s m u) : u.cap = s.cap ∧ u.fpStaged = s.fpStaged ∧ u.fpActive = s.fpActive ∧
    u.facets = s.facets ∧ u.life = s.life ∧ (u.master m).clasp = (s.master m).clasp ∧ u.winHold = s.winHold := by
  obtain ⟨b, l, rfl⟩ := h
  refine ⟨modMaster_cap .., modMaster_fpStaged .., modMaster_fpActive .., modMaster_facets .., modMaster_life .., ?_,
    modMaster_winHold ..⟩
  cases m <;> rfl

/-- The queue and the life stand aside from the masters. -/
theorem master_next (u : State) (p : List Instr) (l : LifeSt) (n : Master) :
    ({ u with pending := p, life := l } : State).master n = u.master n := by cases n <;> rfl

/-- A read of WIN_DATA by a master that the device answers. -/
theorem readCycle_window (hr : s.ready = true) (hx : m = .host → s.ctl.extest = false) :
    s.readCycle m 0x7F 0 = (s.winRead m).ack m true := by
  have hresp : s.responds m = true := by
    cases m <;> simp [State.responds, hr]
    exact hx rfl
  unfold State.readCycle
  rw [if_neg (by simp [hresp]), if_pos rfl]

/-- A value returned after a step of the window. -/
theorem stepRet_master (u : State) (m : Master) (v : Word) (b : Bool) :
    (((u.winStep m).ret m v).ack m b).master m = { u.master m with
      winAddr := ((u.master m).winAddr + 1) % 2 ^ 32, rdata := v } := by
  rw [ret_master, State.winStep, master_modMaster]

theorem flushGaps_grows (l : List (Loss × List Word)) : ∀ s : State, s.cap.queue <+: (s.flushGaps l).cap.queue ∧
    s.flushGaps l = { s with cap := (s.flushGaps l).cap } := by
  induction l with
  | nil => intro s; exact ⟨List.prefix_refl _, rfl⟩
  | cons g l ih =>
    intro s
    obtain ⟨g, body⟩ := g
    unfold State.flushGaps
    split
    · rename_i t ht
      have hp : s.cap.queue <+: t.cap.queue ∧ t = { s with cap := t.cap } := by
        unfold State.pushPacket at ht
        dsimp only at ht
        split at ht
        · cases ht; exact ⟨List.prefix_append .., rfl⟩
        · cases ht
      obtain ⟨h1, h2⟩ := ih t
      exact ⟨hp.1.trans h1, h2.trans (congrArg (fun v : State => { v with cap := (t.flushGaps l).cap }) hp.2)⟩
    · exact ⟨List.prefix_refl _, rfl⟩

/-- A word taken from the queue. -/
theorem popQueue_cons {w : Word} {ws : List Word} (h : s.cap.queue = w :: ws) : s.popQueue.1 = w ∧
    ws <+: s.popQueue.2.cap.queue ∧ (∀ n, s.popQueue.2.master n = s.master n) ∧
    (s.cap.gapWait = [] → s.popQueue.2.cap = { s.cap with queue := ws, packets := s.popQueue.2.cap.packets }) := by
  obtain ⟨ps, he⟩ : ∃ ps, s.popQueue = (w, ({ s with cap := { s.cap with queue := ws, packets := ps } } : State).flushGaps
      s.cap.gapWait) := by
    unfold State.popQueue
    rw [h]
    exact ⟨_, rfl⟩
  obtain ⟨h1, h2⟩ := flushGaps_grows s.cap.gapWait { s with cap := { s.cap with queue := ws, packets := ps } }
  rw [he]
  refine ⟨rfl, h1, fun n => ?_, fun hg => ?_⟩
  · dsimp only
    rw [h2]; cases n <;> rfl
  · rw [hg]; exact congrArg (fun g => { s.cap with queue := ws, packets := ps, gapWait := g }) hg.symm

theorem popQueue_nil (h : s.cap.queue = []) : s.popQueue = (0, s) := by
  unfold State.popQueue
  rw [h]

theorem chargeQueue_empty (h : s.cap.queue = []) : s.chargeQueue m = some s := by
  unfold State.chargeQueue
  dsimp only
  rw [if_pos (by simp [h])]

/-- A read of the queue. -/
theorem winRead_queue (he : s.entry m (winTarget 0xD) ≠ 0) (hs : (s.master m).winSpace = 0xD) (h : s.chargeQueue m = some t) :
    s.winRead m = ((t.popQueue.2).winStep m).ret m t.popQueue.1 := by
  unfold State.winRead
  dsimp only
  rw [hs, if_neg he, if_pos rfl, h]

theorem queueRead_eq (hr : s.ready = true) (hx : m = .host → s.ctl.extest = false) (hs : (s.master m).winSpace = 0xD) :
    exec (.streamQueueRead m) s = ok s ((s.winRead m).ack m true) := by
  rw [← readCycle_window hr hx]
  exact congrArg (ok s) (if_pos hs)

/-- A read that clears a count leaves the masters. -/
theorem winClear_master (s : State) (m n : Master) (p sp a : Nat) : (s.winClear m p sp a).master n = s.master n := by
  unfold State.winClear
  split
  · rfl
  · split
    · cases n <;> rfl
    · split
      · dsimp only
        split <;> cases n <;> rfl
      · rfl

/-! ## A parameter of a facet through its window (R458) -/

/-- A word of space 0x0 as it is taken. -/
theorem winPut_facet (s : State) (m : Master) (p a : Nat) (v : Word) : s.winPut m p 0 a v =
    if a % 32 = 12 then s.modFacet (a / 32) fun f => { f with faultSeen := f.faultSeen &&& ~~~v }
    else s.setFpS (a / 32) (a % 32) (v &&& fpMask (a / 32) (a % 32)) := rfl

/-- The word of a facet's block that a write through space 0x0 stages. -/
theorem winDirect_param {n w : Nat} (p : Nat) (v : Word) (hw : w < 32) (hp : fpIsParam n w = true)
    (hv : winValue 0 (n * 32 + w) = (0, 1)) : ∃ hold, s.winDirect m p 0 (n * 32 + w) v =
      ({ s with winHold := hold } : State).setFpS n w (v &&& fpMask n w) := by
  have h12 : w ≠ 12 := by
    rintro rfl
    unfold fpIsParam fpMask at hp
    revert hp
    cases isZ n <;> simp
  have hput (t : State) : t.winPut m p 0 (n * 32 + w) v = t.setFpS n w (v &&& fpMask n w) := by
    rw [winPut_facet, show (n * 32 + w) / 32 = n by omega, show (n * 32 + w) % 32 = w by omega, if_neg h12]
  unfold State.winDirect
  rw [if_neg (by simp [State.winLocked]), hv]
  dsimp only
  rw [if_neg (by omega), if_neg (by simp [winReserved])]
  exact ⟨_, hput _⟩

theorem fpS_setFpS (s : State) (n w : Nat) (v : Word) : (s.setFpS n w v).fpS n w = v := get_set_self ..

theorem fpS_setFpS_other (s : State) {n w k j : Nat} (v : Word) (hw : w < 32) (hj : j < 32) (h : (k, j) ≠ (n, w)) :
    (s.setFpS n w v).fpS k j = s.fpS k j :=
  get_set_other _ _ _ _ (by rintro he; exact h (Prod.ext (by dsimp only; omega) (by dsimp only; omega)))

/-- A direct write of a parameter through space 0x0. -/
theorem winWrite_param {n w : Nat} {v : Word} (hr : s.ready = true) (hsvc : m = .host → s.ctl.svc = false)
    (he : s.winEntry m 0 = 3) (hc : (s.master m).clasp.isOpen = false) (hs : (s.master m).winSpace = 0)
    (hn : n < 512) (hw : w < 32) (hp : fpIsParam n w = true) (hv : winValue 0 (n * 32 + w) = (0, 1))
    (ha : (s.master m).winAddr = n * 32 + w) (hu : s.chargeWin m 0 (n * 32 + w) = some u) :
    ∃ hold, s.winWrite m v = (({ u with winHold := hold } : State).setFpS n w (v &&& fpMask n w)).winStep m := by
  have hrw : ∀ t : State, t.winRw 0 (n * 32 + w) = true := by
    intro t
    unfold State.winRw
    dsimp only
    rw [show (n * 32 + w) / 32 = n by omega, show (n * 32 + w) % 32 = w by omega, hp]
    simp only [Bool.and_true, decide_eq_true_eq]
    omega
  have hin : s.winInside 0 (n * 32 + w) = true := by
    have h0 : winSize 0 = 0xC000 := rfl
    have : n * 32 + w < winSize 0 := by rw [h0]; omega
    simp [State.winInside, this]
  obtain ⟨hold, hd⟩ := winDirect_param (s := u) (m := m) (s.master m).canSel v hw hp hv
  have huc : (u.master m).clasp = (s.master m).clasp := (chargeWin_charged hu).keeps.2.2.2.2.2.1
  refine ⟨hold, ?_⟩
  unfold State.winWrite
  dsimp only
  rw [hs, ha, he, hu, if_neg (ready_not_fatal s hr), if_neg (fun h => by simp [hsvc h.1] at h), if_neg (by simp),
    if_neg (by simp [State.nvmBusy]), if_neg (by simp [State.winNoWrite, hin, hrw])]
  dsimp only
  unfold State.winTake
  dsimp only
  rw [hrw, if_pos rfl, huc, hc, if_neg (by simp), if_neg (by simp), hd]

/-- Settles O16. -/
theorem windowsReadAndWrite : Obligations.WindowsReadAndWrite := by
  unfold Obligations.WindowsReadAndWrite
  refine ⟨fun m s t' w ws hr hx he hs => ⟨fun hq hc => ?_, fun hq => ?_⟩, fun m s u hr hx he hs => ?_,
    fun m v s u n w ho he hsvc hc hs hn hw hp hv ha hu => ?_⟩
  · have hk := (chargeQueue_charged hc).keeps.1
    obtain ⟨h1, h2, h3, h4⟩ := popQueue_cons (s := t') (w := w) (ws := ws) (by rw [hk]; exact hq)
    rw [queueRead_eq hr hx hs, winRead_queue he hs hc]
    refine ⟨_, rfl, ?_, ?_, fun hg => ?_, ?_⟩
    · rw [master_next, stepRet_master]; exact h1
    · simpa [State.ret, State.winStep] using h2
    · have h4 := h4 (by rw [hk]; exact hg)
      rw [hk] at h4
      simpa [State.ret, State.winStep] using h4
    · rw [master_next, stepRet_master, h3]
  · rw [queueRead_eq hr hx hs, winRead_queue he hs (chargeQueue_empty hq), popQueue_nil hq]
    refine ⟨_, rfl, ?_, ?_, ?_⟩
    · rw [master_next, stepRet_master]
    · simp [State.ret, State.winStep]
    · simp [State.ret, State.winStep]
  · have hx : exec (.winDataRead m) s = ok s ((s.winRead m).ack m true) := congrArg (ok s) (readCycle_window hr hx)
    have hD : (s.master m).winSpace ≠ 0xD := by omega
    refine ⟨fun hb => ?_, fun hi hb => ?_, fun hi hb hc => ?_⟩
    · have hw : s.winRead m = (s.winStallSet m).ret m 0 := by
        unfold State.winRead
        dsimp only
        rw [if_neg he, if_neg hD, if_pos hb]
      rw [hx, hw]
      refine ⟨_, rfl, ?_, ?_, ?_⟩
      · rw [master_next, ret_master]
      · rw [master_next, ret_master, State.winStallSet, master_modMaster]
      · simp [State.ret, State.winStallSet]
    · have hw : s.winRead m = ((s.winErrSet m).winStep m).ret m 0 := by
        unfold State.winRead
        dsimp only
        rw [if_neg he, if_neg hD, if_neg (by simp [hb]), if_pos (by simp [hi])]
      rw [hx, hw]
      refine ⟨_, rfl, ?_, ?_, ?_, ?_⟩
      · rw [master_next, stepRet_master]
      · rw [master_next, stepRet_master, State.winErrSet, master_modMaster]
      · rw [master_next, stepRet_master, State.winErrSet, master_modMaster]
      · simp [State.ret, State.winErrSet, State.winStep]
    · have hw : s.winRead m = ((u.winClear m (s.master m).canSel (s.master m).winSpace (s.master m).winAddr).winStep m).ret m
          (u.winWord (s.master m).canSel (s.master m).winSpace (s.master m).winAddr) := by
        unfold State.winRead
        dsimp only
        rw [if_neg he, if_neg hD, if_neg (by simp [hb]), if_neg (by simp [hi]), hc]
      rw [hx, hw]
      refine ⟨_, rfl, ?_, ?_, ?_⟩
      · rw [master_next, stepRet_master]
      · rw [master_next, stepRet_master, winClear_master]
      · rw [master_next, stepRet_master, winClear_master]
  · obtain ⟨hr, hx, hses, -⟩ := ho
    obtain ⟨-, hst, hact, hfac, -, -, -⟩ := (chargeWin_charged hu).keeps
    obtain ⟨hold, hwr⟩ := winWrite_param (v := v) hr hsvc he hc hs hn hw hp hv ha hu
    have hresp : s.responds m = true := by
      cases m <;> simp [State.responds, hr]
      exact (hx rfl).1
    have hcyc : s.writeCycle m 0x7F v = (s.winWrite m v).ack m true := by
      unfold State.writeCycle
      rw [if_neg (by simp [hresp, hses]), if_pos rfl]
    have hx : exec (.winDataWrite m v) s = ok s ((s.winWrite m v).ack m true) := congrArg (ok s) hcyc
    rw [hx, hwr]
    have hS (k j : Nat) (t : State) : ((t.winStep m).ack m true).fpS k j = t.fpS k j := by
      unfold State.fpS; rw [ack_fpStaged, State.winStep, modMaster_fpStaged]
    refine ⟨_, rfl, ?_, fun k j hj hne => ?_, ?_, ?_, ?_⟩
    · exact (hS n w _).trans (fpS_setFpS ..)
    · refine ((hS k j _).trans (fpS_setFpS_other _ _ hw hj hne)).trans ?_
      exact congrArg (fun x => Store.get (fpReset k j) x (k * 32 + j)) hst
    · rw [master_next, ack_master, State.winStep, master_modMaster]
      have hm (x : State) (h : Store (Option Word)) (y : Word) : ((({ x with winHold := h } : State).setFpS n w y).master m) =
          x.master m := by cases m <;> rfl
      rw [hm]
    · simpa [State.winStep, State.setFpS] using hact
    · simpa [State.winStep, State.setFpS] using hfac

end Sys2Proof.Proofs
end

section
/-! SUPPORT. Cycles without effect (R412, R431), and how clasps open, are accepted and end (R419, R422, R424). -/

namespace Sys2Proof.Proofs

open Sys2Proof Sys2Proof.Machine Sys2Proof.Laws

variable {s t u : State} {m : Master}

/-! ## Cycles without effect -/

theorem cutShort_responds {off : Nat} (h : s.responds m = true) :
    s.cutShort m off = (s.logE 5 (masterCode m) off 0).ack m false := if_neg (by simp [h])

theorem selectExtest_locked (h : s.life.dbgLock = true) : s.selectExtest true = s := if_pos ⟨h, rfl⟩

theorem selectExtest_free {sel : Bool} (h : s.life.dbgLock = false ∨ sel = false) :
    s.selectExtest sel = { s with ctl := { s.ctl with extest := sel } } :=
  if_neg (by rcases h with h | h <;> simp [h])

/-- Settles O17. -/
theorem cyclesWithoutEffect : Obligations.CyclesWithoutEffect := by
  unfold Obligations.CyclesWithoutEffect
  refine ⟨fun m off s h => ?_, fun s => ok_next s s.doubleStrobe rfl rfl, fun s h => ?_, fun s h => ?_, fun s => ?_⟩
  · refine ⟨_, (congrArg (ok s) (cutShort_responds h)).trans (ok_next s _ (by simp) (by simp)), ?_, fun hm => ?_, ?_⟩
    · rw [ack_eq, logE_eq]
    · subst hm; rfl
    · rw [ack_log, ack_logSeq]; exact logE_newest ..
  · exact (congrArg (ok s) (selectExtest_free (.inl h))).trans (ok_next s _ rfl rfl)
  · exact (congrArg (ok s) (selectExtest_locked h)).trans (ok_next s _ rfl rfl)
  · exact (congrArg (ok s) (selectExtest_free (.inr rfl))).trans (ok_next s _ rfl rfl)

/-! ## Clasps -/

/-- The clasp's time has not run out. -/
theorem timeoutClasp_idle (h : (s.master m).clasp.isOpen = false ∨ s.tick < (s.master m).clasp.beginTick + 4000) :
    s.timeoutClasp m = s := by
  refine if_neg ?_
  rcases h with h | h
  · simp [h]
  · rw [decide_eq_false (by omega), Bool.and_false]; exact Bool.false_ne_true

/-- It has: the clasp rolls back with TIMEOUT (R424). -/
theorem timeoutClasp_ends (ho : (s.master m).clasp.isOpen = true) (h : (s.master m).clasp.beginTick + 4000 ≤ s.tick) :
    s.timeoutClasp m = s.claspDrop m 4 0xFF := if_pos (by simp [ho, h])

/-- A clasp that is dropped sets IRQ_STAT0.CLASP. -/
theorem claspDrop_irq (s : State) (m : Master) (r : Nat) (c : BitVec 32) : fld (s.claspDrop m r c).ctl.irq0 8 1 = 1 := by
  unfold State.claspDrop
  rw [logE_ctl]
  exact fld_or_bit _ 8 (by decide)

theorem claspDrop_stamp (s : State) (m : Master) (r : Nat) (c : BitVec 32) : (s.claspDrop m r c).ctl.stamp = s.ctl.stamp := by
  unfold State.claspDrop
  rw [logE_ctl]
  simp [State.modClasp]

theorem claspDrop_time (s : State) (m : Master) (r : Nat) (c : BitVec 32) : (s.claspDrop m r c).time = s.time := by
  simp [State.claspDrop]

theorem claspDrop_pending (s : State) (m : Master) (r : Nat) (c : BitVec 32) : (s.claspDrop m r c).pending = s.pending := by
  simp [State.claspDrop]

theorem claspDrop_life (s : State) (m : Master) (r : Nat) (c : BitVec 32) : (s.claspDrop m r c).life = s.life := by
  simp [State.claspDrop]

/-- A clasp that opens (R419). -/
def opened (s : State) (m : Master) : State :=
  s.nextStamp.modClasp m fun _ => { isOpen := true, beginTick := s.tick, beginStamp := s.ctl.stamp + 1 }

theorem opened_clasp (s : State) (m : Master) :
    ((opened s m).master m).clasp = { isOpen := true, beginTick := s.tick, beginStamp := s.ctl.stamp + 1 } :=
  congrArg MasterSt.clasp (master_modMaster ..)

theorem modClasp_other (s : State) {m n : Master} (f : Clasp → Clasp) (h : n ≠ m) : (s.modClasp m f).master n = s.master n :=
  master_modMaster_other _ _ h

theorem modClasp_clasp (s : State) (m : Master) (f : Clasp → Clasp) :
    ((s.modClasp m f).master m).clasp = f (s.master m).clasp := congrArg MasterSt.clasp (master_modMaster ..)

theorem beginClasp_opens (ho : ((s.timeoutClasp m).master m).clasp.isOpen = false)
    (hp : ((s.timeoutClasp m).master m).clasp.pend = false) : s.beginClasp m = opened (s.timeoutClasp m) m :=
  if_neg (by simp [ho, hp])

theorem beginClasp_open (h : ((s.timeoutClasp m).master m).clasp.isOpen = true ∨ ((s.timeoutClasp m).master m).clasp.pend = true) :
    s.beginClasp m = s.timeoutClasp m := if_pos (by simpa using h)

/-- A COMMIT that is accepted (R422). -/
theorem commitClasp_open (h : (s.master m).clasp.isOpen = true) (hl : s.tick < (s.master m).clasp.beginTick + 4000) :
    s.commitClasp m = s.nextStamp.modClasp m fun c =>
      { c with isOpen := false, pend := true, acceptStamp := s.ctl.stamp + 1 } := by
  unfold State.commitClasp
  rw [timeoutClasp_idle (.inr hl)]
  exact if_neg (by simp [h])

theorem commitClasp_closed (h : ((s.timeoutClasp m).master m).clasp.isOpen = false) : s.commitClasp m = s.timeoutClasp m :=
  if_pos h

theorem rollbackClasp_open (h : (s.master m).clasp.isOpen = true) (hl : s.tick < (s.master m).clasp.beginTick + 4000) :
    s.rollbackClasp m = s.modClasp m fun c => { c with isOpen := false, full := false, writes := [], result := 3 } := by
  unfold State.rollbackClasp
  rw [timeoutClasp_idle (.inr hl)]
  exact if_neg (by simp [h])

theorem rollbackClasp_closed (h : (s.master m).clasp.isOpen = false) : s.rollbackClasp m = s := by
  unfold State.rollbackClasp
  rw [timeoutClasp_idle (.inl h)]
  exact if_pos h

/-- A write of CLASP_CTL by the master is taken. -/
theorem writeCycle_claspCtl (h : s.owns m 0x08) (v : Word) : s.writeCycle m 0x08 v = (s.claspCtl m v).ack m true := by
  obtain ⟨hr, hx, hs, -⟩ := h
  exact writeCycle_own s v hr hx hs (by decide) (by decide)

/-- Settles O18. -/
theorem claspsOpenCommitAndEnd : Obligations.ClaspsOpenCommitAndEnd := by
  unfold Obligations.ClaspsOpenCommitAndEnd
  refine ⟨fun m s h => ?_, fun m s hr => ⟨fun ho hl => ?_, fun hn => ?_⟩⟩
  · have hb : exec (.claspBegin m) s = ok s ((s.beginClasp m).ack m true) := congrArg (ok s) (writeCycle_claspCtl h 1)
    have hc : exec (.claspCommit m) s = ok s ((s.commitClasp m).ack m true) := congrArg (ok s) (writeCycle_claspCtl h 2)
    have hk : exec (.claspRollback m) s = ok s ((s.rollbackClasp m).ack m true) := congrArg (ok s) (writeCycle_claspCtl h 4)
    refine ⟨fun ho hp => ?_, fun hq => ?_, fun ho hl => ⟨?_, ?_⟩, fun ho hl => ⟨?_, ?_⟩, fun ho => ?_⟩
    · have ht := timeoutClasp_idle (m := m) (.inl ho)
      rw [beginClasp_opens (by rw [ht, ho]) (by rw [ht, hp]), ht] at hb
      refine ⟨_, hb.trans (ok_next s _ (by simp [opened, State.modClasp]) (by simp [opened, State.modClasp])), ?_, ?_, ?_, ?_, fun n hn => ?_⟩
      · rw [ack_master, opened_clasp]
      · rw [ack_ctl]; simp [opened, State.modClasp]
      · simp [opened, State.modClasp]
      · rw [ack_ctl]; simp [opened, State.modClasp]
      · rw [ack_master, opened, modClasp_other _ _ hn, nextStamp_master]
    · have ht : s.timeoutClasp m = s := timeoutClasp_idle (by rcases hq with ⟨-, h⟩ | ⟨h, -⟩ <;> simp [h])
      rw [beginClasp_open (by rw [ht]; rcases hq with ⟨h, -⟩ | ⟨-, h⟩ <;> simp [h]), ht] at hb
      exact hb.trans (ok_next s _ (by simp) (by simp))
    · have ht := timeoutClasp_ends ho hl
      rw [beginClasp_opens (by rw [ht, claspDrop_master]) (by rw [ht, claspDrop_master]), ht] at hb
      have htick : (s.claspDrop m 4 0xFF).tick = s.tick := congrArg TimeSt.tick (claspDrop_time ..)
      refine ⟨_, hb.trans (ok_next s _ ?_ ?_), ?_, ?_⟩
      · simp [opened, State.modClasp, claspDrop_pending]
      · simp [opened, State.modClasp, claspDrop_life]
      · rw [ack_ctl, opened, State.modClasp, modMaster_ctl]; exact claspDrop_irq ..
      · rw [ack_master, opened_clasp, claspDrop_stamp, htick]
    · have ht := timeoutClasp_ends ho hl
      rw [commitClasp_closed (by rw [ht, claspDrop_master]), ht] at hc
      refine ⟨_, hc.trans (ok_next s _ ?_ ?_), ?_, ?_, ?_, ?_, ?_⟩
      · simp [claspDrop_pending]
      · simp [claspDrop_life]
      iterate 4 rw [ack_master, claspDrop_master]
      · rw [ack_ctl]; exact claspDrop_irq ..
    · rw [commitClasp_open ho hl] at hc
      refine ⟨_, hc.trans (ok_next s _ (by simp [State.modClasp]) (by simp [State.modClasp])), ?_, fun n hn => ?_⟩
      · rw [ack_master, modClasp_clasp, nextStamp_master]
      · rw [ack_master, modClasp_other _ _ hn, nextStamp_master]
    · rw [rollbackClasp_open ho hl] at hk
      refine ⟨_, hk.trans (ok_next s _ (by simp [State.modClasp]) (by simp [State.modClasp])), ?_, ?_, ?_, ?_, ?_, fun n hn => ?_⟩
      iterate 3 rw [ack_master, modClasp_clasp]
      · simp [State.modClasp]
      · rw [ack_ctl]; simp [State.modClasp]
      · rw [ack_master, modClasp_other _ _ hn]
    · rw [rollbackClasp_closed ho] at hk
      exact hk.trans (ok_next s _ (by simp) (by simp))
  · have hx : exec (.claspTimeout m) s = ok s (s.claspDrop m 4 0xFF) :=
      congrArg (ok s) ((live_ready s hr).trans (timeoutClasp_ends ho hl))
    refine ⟨_, hx.trans (ok_next s _ (claspDrop_pending ..) (claspDrop_life ..)), ?_, ?_, ?_, claspDrop_irq .., ?_, ?_,
      fun n hn => claspDrop_master_other _ _ _ hn⟩
    iterate 3 rw [claspDrop_master]
    · obtain ⟨e, he, -⟩ := logE_newest ((s.modClasp m fun c => { c with
        isOpen := false, pend := false, full := false, writes := [], result := 4 }).irq0 8) 3 (masterCode m) 0 0xFF
      exact ⟨e, he⟩
    · simp [State.claspDrop]
  · have hx : exec (.claspTimeout m) s = ok s s := congrArg (ok s) ((live_ready s hr).trans (timeoutClasp_idle hn))
    exact hx.trans (ok_next s _ rfl rfl)

end Sys2Proof.Proofs
end

section
/-! SUPPORT. What the operations on facets, spares, runs and beads leave: the parameters in force, the staged ones, the masters
and the settings stand aside from them. -/

namespace Sys2Proof.Proofs

open Sys2Proof Sys2Proof.Machine Sys2Proof.Laws

variable {s t u : State}

/-- What an operation on facets, spares, runs or beads may change of the controls. -/
def CtlSt.aside (c d : CtlSt) : CtlSt :=
  { c with irq0 := d.irq0, irq1 := d.irq1, stamp := d.stamp, tallyEntry := d.tallyEntry, tallyHold := d.tallyHold
           commits := d.commits }

/-- The state `s` with what such an operation may change as in `u`. -/
def asideOf (s u : State) : State :=
  { s with facets := u.facets, spare := u.spare, nvm := u.nvm, msg := u.msg, log := u.log, logSeq := u.logSeq, cal := u.cal
           bead := u.bead, ports := u.ports, ctl := CtlSt.aside s.ctl u.ctl }

/-- Nothing else has changed. -/
def Aside (s u : State) : Prop := u = asideOf s u

theorem Aside.refl (s : State) : Aside s s := rfl

theorem Aside.eq (h : Aside s u) : u = asideOf s u := h

theorem asideOf_asideOf (s t u : State) : asideOf (asideOf s t) u = asideOf s u := rfl

theorem Aside.trans (h1 : Aside s t) (h2 : Aside t u) : Aside s u :=
  h2.eq.trans ((congrArg (fun v : State => asideOf v u) h1.eq).trans (asideOf_asideOf ..))

section
variable (h : Aside s u)
include h

theorem Aside.fpActive : u.fpActive = s.fpActive := by rw [h.eq]; rfl
theorem Aside.fpStaged : u.fpStaged = s.fpStaged := by rw [h.eq]; rfl
theorem Aside.applies : u.applies = s.applies := by rw [h.eq]; rfl
theorem Aside.pending : u.pending = s.pending := by rw [h.eq]; rfl
theorem Aside.life : u.life = s.life := by rw [h.eq]; rfl
theorem Aside.time : u.time = s.time := by rw [h.eq]; rfl
theorem Aside.mask0 : u.ctl.mask0 = s.ctl.mask0 := by rw [h.eq]; rfl
theorem Aside.mask1 : u.ctl.mask1 = s.ctl.mask1 := by rw [h.eq]; rfl
theorem Aside.fpA (n w : Nat) : u.fpA n w = s.fpA n w := congrArg (fun x => Store.get (fpReset n w) x (n * 32 + w)) h.fpActive
theorem Aside.blkA (n : Nat) : u.blkA n = s.blkA n := funext fun w => h.fpA n w
theorem Aside.master (n : Master) : u.master n = s.master n := by rw [h.eq]; cases n <;> rfl

end

/-! ## Small steps -/

section
variable (s : State)

theorem aside_setFacet (n : Nat) (f : FacetRT) : Aside s (s.setFacet n f) := rfl
theorem aside_modFacet (n : Nat) (f : FacetRT → FacetRT) : Aside s (s.modFacet n f) := rfl
theorem aside_irq0 (b : Nat) : Aside s (s.irq0 b) := rfl
theorem aside_nextStamp : Aside s s.nextStamp := rfl
theorem aside_modBeadPort (p : Nat) (f : BeadPort → BeadPort) : Aside s (s.modBeadPort p f) := rfl
theorem aside_modPort (p : Nat) (f : PosPort → PosPort) : Aside s (s.modPort p f) := rfl
theorem aside_committed (m : Master) (u : CUnit) : Aside s (s.committed m u) := rfl
theorem aside_calev (a b c d : Nat) : Aside s (s.calev a b c d) := rfl
theorem aside_freeSpare (k i : Nat) : Aside s (s.freeSpare k i) := rfl

theorem aside_logE (c m o : Nat) (d : BitVec 32) : Aside s (s.logE c m o d) := by
  unfold Aside; rw [logE_eq]; rfl

theorem aside_lose (a b c d e f : Nat) : Aside s (s.lose a b c d e f) := by
  unfold Aside; rw [lose_eq]; rfl

theorem aside_flagBeads (p : Nat) (m : Word) : Aside s (s.flagBeads p m) := by
  unfold Aside; rw [flagBeads_eq]; rfl

theorem aside_facetAlarm (n c d : Nat) : Aside s (s.facetAlarm n c d) := by
  unfold Aside; rw [facetAlarm_eq]; rfl

theorem aside_enterCause (n k : Nat) : Aside s (s.enterCause n k) := by
  have h := enterCause_raised s n k
  unfold Aside; rw [h.eq]; rfl

/-- A fold whose steps stand aside stands aside. -/
theorem aside_foldl {α : Type} (f : State → α → State) (h : ∀ t a, Aside t (f t a)) (l : List α) : Aside s (l.foldl f s) :=
  foldl_rel Aside.refl Aside.trans h l s

theorem aside_ite {c : Prop} [Decidable c] {a b : State} (ha : Aside s a) (hb : Aside s b) : Aside s (if c then a else b) := by
  split <;> assumption

end

/-! ## Spares, runs and beads -/

section
variable (s : State)

theorem aside_slPut (a b c d e f : Nat) : Aside s (s.slPut a b c d e f) := rfl

theorem aside_slAppendAt (a b c d e f : Nat) : Aside s (s.slAppendAt a b c d e f) := by
  unfold State.slAppendAt
  refine Aside.trans ?_ (aside_slPut ..)
  split
  · refine Aside.trans ?_ (aside_foldl _ _ (fun t x => aside_slPut t ..) _)
    rfl
  · rfl

theorem aside_sparev (a b c d e : Nat) (x y : Bool) : Aside s (s.sparev a b c d e x y) := by
  unfold State.sparev
  extract_lets s1 e1 sp s2
  have h1 : Aside s s1 := aside_ite s (aside_slAppendAt ..) (Aside.refl s)
  exact h1.trans rfl

theorem aside_checkExhausted (k : Nat) : Aside s (s.checkExhausted k) := by
  unfold State.checkExhausted
  extract_lets left any
  refine aside_ite s rfl (aside_ite s rfl ?_)
  refine Aside.trans ?_ (aside_sparev ..)
  rfl

theorem aside_returnSpare (k i : Nat) : Aside s (s.returnSpare k i) :=
  (aside_freeSpare s k i).trans (aside_checkExhausted ..)

theorem aside_takeSpare (k i n st : Nat) : Aside s (s.takeSpare k i n st) := by
  unfold State.takeSpare
  extract_lets s1
  have h1 : Aside s s1 := aside_ite s rfl rfl
  refine h1.trans (Aside.trans ?_ (aside_checkExhausted ..))
  rfl

theorem aside_endShadow (n : Nat) : Aside s (s.endShadow n) := by
  unfold State.endShadow
  split
  refine Aside.trans ?_ (aside_foldl _ _ (fun t c => aside_returnSpare t ..) _)
  rfl

theorem aside_leaveCauses (n k : Nat) : Aside s (s.leaveCauses n k) := by
  unfold State.leaveCauses
  extract_lets f now spans s1
  refine aside_ite s rfl (aside_ite s (Aside.trans ?_ (aside_facetAlarm ..)) ?_) <;> rfl

theorem aside_calEndTarget (r : Nat) : Aside s (s.calEndTarget r) := by
  unfold State.calEndTarget
  split
  · rfl
  · extract_lets ev obj s1 s2 first s3
    have h2 : Aside s s2 := (aside_calev s ..).trans (aside_ite _ (Aside.refl _) (aside_logE ..))
    refine h2.trans ?_
    split
    · exact (aside_calev s2 ..).trans rfl
    · rfl

theorem aside_calLetGo (r : CalRun) : Aside s (s.calLetGo r) := by
  unfold State.calLetGo
  split
  · exact (aside_ite s (aside_modFacet ..) (Aside.refl s)).trans (aside_returnSpare ..)
  · rfl

theorem aside_calConfig (n : Nat) (b : Bool) : Aside s (s.calConfig n b) := by
  unfold State.calConfig
  split
  · refine aside_ite s rfl (aside_ite s ((aside_calLetGo ..).trans (aside_calEndTarget ..)) (aside_ite s (aside_calEndTarget ..)
      (aside_ite s ?_ rfl)))
    rfl
  · rfl

theorem aside_calDisturb (p r : Nat) : Aside s (s.calDisturb p r) := by
  unfold State.calDisturb
  split
  · exact aside_ite s (aside_calEndTarget ..) rfl
  · rfl

theorem aside_forceBeads (p c : Nat) : Aside s (s.forceBeads p c) := by
  unfold State.forceBeads
  extract_lets s1 s2 s3
  have h1 : Aside s s1 := aside_foldl _ _ (fun t w => aside_lose t ..) _
  have h2 : Aside s s2 := h1.trans (aside_modBeadPort ..)
  have h3 : Aside s s3 := h2.trans (aside_ite _ (Aside.refl _) (aside_modBeadPort ..))
  exact h3.trans rfl

theorem aside_toneHolds (n : Nat) : Aside s (s.toneHolds n) := by
  unfold State.toneHolds
  extract_lets on s1
  exact aside_ite s rfl ((aside_modFacet s ..).trans (aside_ite _ (aside_enterCause ..) (Aside.refl _)))

end

/-! ## Parameters taking effect (R48, R61) -/

/-- The parameters of facet `n` in force, after those of `b` have been made active. -/
theorem fpA_foldl_setFpA (n : Nat) (b : Nat → Word) : ∀ (ws : List Nat) (s : State) (k w : Nat), (∀ j ∈ ws, j < 32) → w < 32 →
    ((ws.map fun j => (j, b j)).foldl (fun t (x : Nat × Word) => t.setFpA n x.1 x.2) s).fpA k w
      = if k = n ∧ w ∈ ws then b w else s.fpA k w
  | [], s, k, w, _, _ => by simp
  | j :: ws, s, k, w, hj, hw => by
    rw [List.map_cons, List.foldl_cons, fpA_foldl_setFpA n b ws _ k w (fun i hi => hj i (List.mem_cons_of_mem _ hi)) hw]
    have hj32 := hj j (List.mem_cons_self ..)
    by_cases hk : k = n ∧ w ∈ ws
    · rw [if_pos hk, if_pos ⟨hk.1, List.mem_cons_of_mem _ hk.2⟩]
    · rw [if_neg hk]
      by_cases he : k = n ∧ w = j
      · obtain ⟨rfl, rfl⟩ := he
        rw [if_pos ⟨rfl, List.mem_cons_self ..⟩]
        exact get_set_self ..
      · rw [if_neg (by rintro ⟨h1, h2⟩; rcases List.mem_cons.mp h2 with h | h; exacts [he ⟨h1, h⟩, hk ⟨h1, h⟩])]
        exact get_set_other _ _ _ _ (fun h => he ⟨by omega, by omega⟩)

theorem activate_fpA (s : State) (n : Nat) (b : Blk) (k w : Nat) (hw : w < 32) :
    (s.activate n b (List.range 32)).fpA k w = if k = n ∧ fpIsParam n w = true then b w else s.fpA k w := by
  have h := fpA_foldl_setFpA n b ((List.range 32).filter (fpIsParam n)) s k w
    (fun j hj => List.mem_range.mp (List.mem_filter.mp hj).1) hw
  refine Eq.trans ?_ (h.trans (if_congr ?_ rfl rfl))
  · rfl
  · simp [List.mem_filter, hw]

theorem foldl_setFpA_eq (n : Nat) : ∀ (l : List (Nat × Word)) (s : State), l.foldl (fun t (x : Nat × Word) => t.setFpA n x.1 x.2) s
    = { s with fpActive := (l.foldl (fun t (x : Nat × Word) => t.setFpA n x.1 x.2) s).fpActive }
  | [], _ => rfl
  | x :: l, s => foldl_setFpA_eq n l (s.setFpA n x.1 x.2)

/-- Words made active touch the active block and what the facet keeps of it. -/
theorem setActive_eq (s : State) (n : Nat) (ws : List (Nat × Word)) : s.setActive n ws = { s with
    fpActive := (s.setActive n ws).fpActive, facets := (s.setActive n ws).facets } := by
  unfold State.setActive
  extract_lets old s1
  have h : s1 = { s with fpActive := s1.fpActive } := foldl_setFpA_eq n ws s
  rw [h]
  rfl

/-- The spare through which a change of the range alone goes, if any (R61). -/
def spareFor (s : State) (n : Nat) (b : Blk) : Option Nat := if onlyRange n (s.blkA n) b then s.rangeSpare n else none

/-- A change of the range alone through a spare puts no parameter in force yet. -/
theorem applyFacet_spare {n i : Nat} {b : Blk} (h : spareFor s n b = some i) : Aside s (s.applyFacet n b) := by
  unfold spareFor at h
  unfold State.applyFacet
  extract_lets a t av spare
  have hs : spare = some i := h
  rw [hs]
  dsimp -zeta only
  extract_lets s1 w
  have h1 : Aside s s1 := (aside_endShadow s n).trans (aside_takeSpare ..)
  exact (h1.trans (aside_setFacet ..)).trans (aside_calConfig ..)

/-- Any other change makes the block's parameters active, and nothing else of the settings. -/
theorem applyFacet_active {n : Nat} {b : Blk} (h : spareFor s n b = none) :
    Aside (s.activate n b (List.range 32)) (s.applyFacet n b) := by
  unfold spareFor at h
  unfold State.applyFacet
  extract_lets a t av spare w old a2 sch sch2 sd s1 b1 f0 sl exc f1 f2 f3 f4 x1 x2 f5 duty f6 s2 gone s3 fresh s4 s5 s6 s7 s8
  have hs : spare = none := h
  rw [hs]
  dsimp -zeta only
  have h3 : Aside s1 s3 := (aside_setFacet s1 n f6).trans
    (aside_ite _ (aside_leaveCauses ..) (aside_ite _ (Aside.refl _) (aside_leaveCauses ..)))
  have h5 : Aside s1 s5 := (h3.trans (aside_modFacet ..)).trans (aside_ite _ (aside_enterCause ..) (Aside.refl _))
  have h6 : Aside s1 s6 := h5.trans (aside_ite _ (aside_foldl _ _ (fun t p => aside_forceBeads t p 3) _) (Aside.refl _))
  have h7 : Aside s1 s7 := h6.trans (aside_ite _ (aside_foldl _ _ (fun t p => aside_calDisturb t p 13) _) (Aside.refl _))
  have h8 : Aside s1 s8 := h7.trans (aside_ite _ (aside_toneHolds ..) (Aside.refl _))
  exact (h8.trans (aside_endShadow ..)).trans (aside_calConfig ..)

/-! ## Blocks that agree on their words -/

/-- Two blocks have the same words. -/
def SameWords (a b : Blk) : Prop := ∀ w < 32, a w = b w

section
variable {a a' b b' : Blk}

theorem activeSlots_congr (h : SameWords a b) : activeSlots a = activeSlots b := by
  refine List.filter_congr fun j hj => ?_
  have hj4 := List.mem_range.mp hj
  rw [Blk.zDwell, Blk.zDwell, h (17 + 2 * j) (by omega)]

theorem contSlot_lt (b : Blk) : contSlot b < 4 := by
  unfold contSlot
  cases h : activeSlots b with
  | nil => decide
  | cons j js =>
    have hj : j ∈ activeSlots b := h ▸ List.mem_cons_self ..
    exact List.mem_range.mp (List.mem_filter.mp hj).1

theorem contSlot_congr (h : SameWords a b) : contSlot a = contSlot b := congrArg (fun l : List Nat => l.headD 0) (activeSlots_congr h)

theorem type_congr (h : SameWords a b) : a.type = b.type := congrArg (fun v => fld v 0 4) (h 0 (by decide))

theorem scheduled_congr (n : Nat) (h : SameWords a b) : scheduled n a = scheduled n b := by
  unfold scheduled
  rw [type_congr h, activeSlots_congr h]

theorem rangeOf_congr (n : Nat) (h : SameWords a b) : rangeOf n a = rangeOf n b := by
  unfold rangeOf
  have hz : a.zRange (contSlot a) = b.zRange (contSlot b) := by
    have := contSlot_lt b
    rw [contSlot_congr h, Blk.zRange, Blk.zRange, h (17 + 2 * contSlot b) (by omega)]
  rw [type_congr h, hz, Blk.range, Blk.range, h 1 (by decide)]

theorem all_range_congr {p q : Nat → Bool} {k : Nat} (h : ∀ w < k, p w = q w) : (List.range k).all p = (List.range k).all q := by
  rw [Bool.eq_iff_iff, List.all_eq_true, List.all_eq_true]
  exact forall₂_congr fun w hw => by rw [h w (List.mem_range.mp hw)]

theorem onlyRange_congr (n : Nat) (ha : SameWords a a') (hb : SameWords b b') : onlyRange n a b = onlyRange n a' b' := by
  unfold onlyRange
  have hr : rangeWord n b = rangeWord n b' := by unfold rangeWord; rw [contSlot_congr hb]
  rw [scheduled_congr n ha, scheduled_congr n hb, contSlot_congr ha, contSlot_congr hb, rangeOf_congr n ha, rangeOf_congr n hb, hr,
    all_range_congr fun w hw => by rw [ha w hw, hb w hw]]

end

/-! ## Several facets -/

/-- Nothing but active parameters has changed, and what stands aside. -/
def Apart (s u : State) : Prop := Aside { s with fpActive := u.fpActive } u

theorem Aside.apart (h : Aside s u) : Apart s u := by
  have hf := h.fpActive
  unfold Apart
  rw [hf]
  exact h

theorem Apart.eq (h : Apart s u) : u = asideOf { s with fpActive := u.fpActive } u := h

theorem Apart.trans (h1 : Apart s t) (h2 : Apart t u) : Apart s u :=
  h2.eq.trans ((congrArg (fun v : State => asideOf { v with fpActive := u.fpActive } u) h1.eq).trans rfl)

theorem activate_apart (s : State) (n : Nat) (b : Blk) (ws : List Nat) : Apart s (s.activate n b ws) := by
  unfold Apart Aside State.activate
  rw [setActive_eq]
  rfl

theorem applyFacet_apart (s : State) (n : Nat) (b : Blk) : Apart s (s.applyFacet n b) := by
  cases h : spareFor s n b with
  | some i => exact (applyFacet_spare h).apart
  | none => exact (activate_apart ..).trans (applyFacet_active h).apart

theorem spareFor_none {n : Nat} {b : Blk} (h : onlyRange n (s.blkA n) b = false) : spareFor s n b = none :=
  if_neg (by simp [h])

theorem applyFacet_fpA {n w : Nat} {b : Blk} (h : onlyRange n (s.blkA n) b = false) (k : Nat) (hw : w < 32) :
    (s.applyFacet n b).fpA k w = if k = n ∧ fpIsParam n w = true then b w else s.fpA k w :=
  ((applyFacet_active (spareFor_none h)).fpA k w).trans (activate_fpA s n b k w hw)

theorem applyFacets_apart (b : Nat → Blk) (ns : List Nat) (s : State) : Apart s (ns.foldl (fun t n => t.applyFacet n (b n)) s) :=
  foldl_rel (fun s => (Aside.refl s).apart) Apart.trans (fun t n => applyFacet_apart t n (b n)) ns s

/-- Blocks of several facets, none a change of the range alone, are in force for each of them and for no other. -/
theorem applyFacets_fpA (b : Nat → Blk) : ∀ (ns : List Nat) (s : State), ns.Nodup →
    (∀ n ∈ ns, onlyRange n (s.blkA n) (b n) = false) → ∀ k w, w < 32 →
    (ns.foldl (fun t n => t.applyFacet n (b n)) s).fpA k w = if k ∈ ns ∧ fpIsParam k w = true then b k w else s.fpA k w
  | [], s, _, _, k, w, _ => (if_neg (by simp)).symm
  | n :: ns, s, hd, h, k, w, hw => by
    obtain ⟨hn, hd⟩ := List.nodup_cons.mp hd
    have h1 := h n (List.mem_cons_self ..)
    have hrest : ∀ j ∈ ns, onlyRange j ((s.applyFacet n (b n)).blkA j) (b j) = false := fun j hj => by
      refine (onlyRange_congr j (fun v hv => ?_) fun _ _ => rfl).trans (h j (List.mem_cons_of_mem _ hj))
      exact (applyFacet_fpA h1 j hv).trans (if_neg fun e : j = n ∧ _ => hn (e.1 ▸ hj))
    rw [List.foldl_cons, applyFacets_fpA b ns _ hd hrest k w hw, applyFacet_fpA h1 k hw]
    by_cases hk : k = n
    · subst hk
      by_cases hp : fpIsParam k w = true <;> simp [hn, hp]
    · simp [hk]

/-! ## Scales, the fabric rate and Tally -/

theorem aside_keepSettings (s : State) (p : Nat) : Aside s (s.keepSettings p) := rfl

theorem aside_setScale (s : State) (p : Nat) (a b : DWord) : Aside s (s.setScale p a b) := by
  unfold State.setScale
  extract_lets changed s1 s2
  have h2 : Aside s s2 := (aside_keepSettings s p).trans (aside_modPort ..)
  exact h2.trans (aside_ite _ (aside_flagBeads ..) (Aside.refl _))

theorem aside_scaleEffect (s : State) (p : Nat) : Aside s (s.scaleEffect p) := by
  unfold State.scaleEffect
  extract_lets q
  exact aside_ite s (Aside.refl s) ((aside_setScale s ..).trans (aside_modPort ..))

theorem aside_fabricEdge (s : State) (b : Bool) : Aside s (s.fabricEdge b) := by
  unfold State.fabricEdge
  exact aside_ite s ((aside_irq0 s 11).trans (aside_logE ..)) (Aside.refl s)

theorem aside_tallyJudge (s : State) : Aside s s.tallyJudge := by
  unfold State.tallyJudge
  extract_lets s1 entry
  have h1 : Aside s s1 := aside_foldl s _ (fun t p => aside_modPort t p _) _
  exact h1.trans rfl

theorem Apart.winHold (h : Apart s u) : u.winHold = s.winHold := by rw [h.eq]; rfl

end Sys2Proof.Proofs
end

section
/-! SUPPORT. What the writes of a commit leave the remote sessions. -/

namespace Sys2Proof.Proofs

open Sys2Proof Sys2Proof.Machine Sys2Proof.Laws

variable {s t u : State} {m : Master}

/-- The sessions stand as they did. -/
def SessKept (s u : State) : Prop := u.sess = s.sess


theorem SessKept.refl (s : State) : SessKept s s := rfl
theorem SessKept.trans (h1 : SessKept s t) (h2 : SessKept t u) : SessKept s u := Eq.trans h2 h1
theorem Aside.sess (h : Aside s u) : SessKept s u := by unfold SessKept; rw [h.eq]; rfl
theorem Apart.sess (h : Apart s u) : SessKept s u := by unfold SessKept; rw [h.eq]; rfl

theorem sess_ite {c : Prop} [Decidable c] {a b : State} (ha : SessKept s a) (hb : SessKept s b) : SessKept s (if c then a else b) := by
  split <;> assumption

theorem sess_foldl {α : Type} {f : State → α → State} (h : ∀ t a, SessKept t (f t a)) (s : State) (l : List α) : SessKept s (l.foldl f s) :=
  foldl_rel SessKept.refl SessKept.trans h l s

section
variable (s : State)

theorem logIgnored_sess' (m : Master) (o a : Nat) : SessKept s (s.logIgnored m o a) := logIgnored_sess s ..

theorem logE_sess' (c m o : Nat) (d : BitVec 32) : SessKept s (s.logE c m o d) := logE_sess s ..

/-! ## Time, positions and beads -/

theorem dutyFrom_sess (p : Nat) : SessKept s (s.dutyFrom p) := rfl
theorem mark_sess (p e m : Nat) (x : Int) : SessKept s (s.mark p e m x) := rfl

theorem runsLosePort_sess (p : Nat) : SessKept s (s.runsLosePort p) := by
  unfold State.runsLosePort
  extract_lets _ s1
  have h1 : SessKept s s1 := sess_ite rfl rfl
  exact h1.trans (aside_calDisturb ..).sess

theorem enterPos_sess (p : Nat) (st : PosState) (f : Bool) : SessKept s (s.enterPos p st f) := by
  unfold State.enterPos
  extract_lets q was q1 q2 s1 s2 s3
  have h2 : SessKept s s2 := mark_sess (s1.irq1 2) ..
  clear_value s2
  have h3 : SessKept s s3 := h2.trans (sess_ite (sess_ite rfl rfl) rfl)
  clear_value s3
  exact sess_ite rfl (sess_ite rfl (sess_ite ((h3.trans (aside_forceBeads ..).sess).trans (runsLosePort_sess ..)) h3))

theorem posCfgEffect_sess (p : Nat) : SessKept s (s.posCfgEffect p) := by
  unfold State.posCfgEffect
  extract_lets q keep s1
  have h1 : SessKept s s1 := rfl
  exact sess_ite rfl (sess_ite (h1.trans (enterPos_sess ..)) (sess_ite (h1.trans (enterPos_sess ..)) h1))

theorem posRevWrite_sess (p v : Nat) : SessKept s (s.posRevWrite p v) := sess_ite rfl rfl

theorem activatePort_sess (p : Nat) : SessKept s (s.activatePort p) := by
  unfold State.activatePort
  extract_lets q s1 n loses s2 s3 s4 s5
  have h2 : SessKept s s2 := rfl
  have h3 : SessKept s s3 := h2.trans (sess_ite (enterPos_sess ..) rfl)
  have h4 : SessKept s s4 := h3.trans (sess_ite rfl rfl)
  have h5 : SessKept s s5 := h4.trans (sess_ite (aside_forceBeads ..).sess rfl)
  exact h5.trans (aside_calDisturb ..).sess

theorem beadPortsWrite_sess (m : Master) (ports : Nat) (pub c : Bool) : SessKept s (s.beadPortsWrite m ports pub c) :=
  sess_ite (logE_sess' ..) rfl

theorem beadPortsEffect_sess : SessKept s s.beadPortsEffect := by
  unfold State.beadPortsEffect
  extract_lets new old _ s1
  have h1 : SessKept s s1 := rfl
  refine sess_ite rfl (h1.trans (sess_foldl (fun t p => ?_) s1 (List.range 4)))
  exact sess_ite rfl (sess_ite rfl ((aside_forceBeads t p 3).trans (aside_modBeadPort ..)).sess)

theorem refCtlWrite_sess (w : Word) : SessKept s (s.refCtlWrite w) := by
  unfold SessKept; rw [(refCtlWrite_timing s w).eq]

theorem ztoneWrite_sess (w : Word) : SessKept s (s.ztoneWrite w) := by
  unfold State.ztoneWrite
  extract_lets _ s1
  refine sess_ite ?_ rfl
  unfold SessKept
  rw [(toneLoss_raised s1).eq]

/-! ## CAN ports -/

theorem canEvent_sess (p : Nat) (b : Bool) (k : Nat) : SessKept s (s.canEvent p b k) := logE_sess' (s.irq0 6) ..

theorem setCanState_sess (p : Nat) (st : CanState) : SessKept s (s.setCanState p st) := by
  unfold State.setCanState
  extract_lets c t
  have ht : SessKept s t := rfl
  exact sess_ite rfl (sess_ite (ht.trans (canEvent_sess ..)) ht)

theorem takeMode_sess (p k : Nat) : SessKept s (s.takeMode p k) := by
  unfold State.takeMode
  extract_lets sent s1
  exact sess_ite rfl rfl

theorem attemptFailed_sess (p i : Nat) : SessKept s (s.attemptFailed p i) := sess_ite rfl (sess_ite rfl rfl)

theorem leaveBus_sess (p : Nat) : SessKept s (s.leaveBus p) := by
  unfold State.leaveBus
  extract_lets c
  split
  · rfl
  · exact SessKept.trans (t := s.setCanPort ..) rfl (attemptFailed_sess ..)

theorem initSet_sess (p : Nat) : SessKept s (s.initSet p) := by
  unfold State.initSet
  extract_lets s1 c1 _ c2 s2
  have h1 : SessKept s s1 := leaveBus_sess ..
  have h2 : SessKept s s2 := (h1.trans (SessKept.trans (t := s1.setCanPort p c2) rfl (takeMode_sess ..))).trans (setCanState_sess ..)
  exact sess_ite rfl (h2.trans (sess_ite rfl rfl))

theorem initClear_sess (p : Nat) : SessKept s (s.initClear p) := by
  unfold State.initClear
  extract_lets c cause
  exact sess_ite rfl (sess_ite rfl (SessKept.trans (t := s.setCanPort ..) rfl (setCanState_sess ..)))

theorem canCtlWrite_sess (m : Master) (p : Nat) (v : Word) : SessKept s (s.canCtlWrite m p v) := by
  unfold State.canCtlWrite
  extract_lets c old asked s1 md wasInit toInit base s2 s3 s4 s5
  have h1 : SessKept s s1 := sess_ite (logIgnored_sess' ..) rfl
  have h2 : SessKept s s2 := h1
  have h3 : SessKept s s3 := h2.trans (sess_ite (sess_ite (setCanState_sess ..) rfl) rfl)
  have h4 : SessKept s s4 := h3.trans (sess_ite (initSet_sess ..) rfl)
  have h5 : SessKept s s5 := h4.trans (sess_ite (takeMode_sess ..) rfl)
  exact sess_ite rfl (sess_ite (h1.trans (logIgnored_sess' ..)) (sess_ite h5 (h5.trans (initClear_sess ..))))

theorem canWordWrite_sess (m : Master) (p a : Nat) (v : Word) : SessKept s (s.canWordWrite m p a v) := by
  unfold State.canWordWrite
  extract_lets c i w x old keep bad v1 _ s1
  have h1 : SessKept s s1 := rfl
  exact sess_ite rfl (sess_ite (sess_ite rfl (sess_ite (logIgnored_sess' ..) rfl)) (sess_ite (sess_ite rfl (sess_ite
    (logIgnored_sess' ..) (sess_ite (h1.trans (logIgnored_sess' ..)) h1))) (sess_ite rfl (sess_ite rfl rfl))))

theorem timingPut_sess (m : Master) (p off : Nat) (w : Word) : SessKept s (s.timingPut m p off w) := sess_ite (logIgnored_sess' ..) rfl

theorem failoverWrite_sess (v : Word) : SessKept s (s.failoverWrite v) := sess_ite rfl rfl

/-! ## The sequencer -/

theorem stagePacket_sess {t : State} {a b : Nat} {l : Loss} {ws : List Word} (h : s.stagePacket a b l ws = some t) : SessKept s t := by
  unfold State.stagePacket State.pushPacket at h
  extract_lets p at h
  split at h
  · split at h
    · obtain rfl := Option.some.inj h
      rfl
    · exact nomatch h
  · exact nomatch h

theorem stageHeader_sess : SessKept s s.stageHeader := by
  unfold State.stageHeader
  refine sess_ite rfl ?_
  split
  · rename_i t h
    exact (stagePacket_sess s h).trans rfl
  · rfl

theorem trigger_sess (src cond evid : Nat) : SessKept s (s.trigger src cond evid) := by
  unfold State.trigger
  extract_lets t _ s1 _ s2 _ c preAct long inside flags s3 s4
  have h2 : SessKept s s2 := rfl
  have h3 : SessKept s s3 := rfl
  have h4 : SessKept s s4 := h3.trans (stageHeader_sess s3)
  exact sess_ite (sess_ite (SessKept.trans rfl (logE_sess' ..)) h2) (sess_ite h3 (sess_ite (h4.trans rfl) h4))

theorem trgAct_sess (act st cond evid : Nat) : SessKept s (s.trgAct act st cond evid) := by
  unfold State.trgAct
  split
  · exact trigger_sess ..
  · rfl
  · rfl

theorem trgStep_sess : SessKept s s.trgStep := by
  unfold State.trgStep
  extract_lets st t hit cnt _ s1 _ s2 s3
  exact sess_ite rfl (sess_ite (SessKept.trans (t := s2) rfl (trgAct_sess ..))
    (sess_ite (SessKept.trans (t := s3) rfl (trgAct_sess ..)) rfl))

theorem trgJudge_sess : SessKept s s.trgJudge := by
  unfold State.trgJudge
  extract_lets force _ s1
  have h1 : SessKept s s1 := SessKept.trans rfl (trgStep_sess _)
  exact sess_ite rfl (sess_ite (h1.trans (trigger_sess ..)) h1)

theorem trgStop_sess : SessKept s s.trgStop := SessKept.trans (sess_ite (trgJudge_sess s) rfl) rfl

/-! ## Curves, banks and the NVM -/

theorem ucAct_sess (m : Master) (c : Nat) : SessKept s (s.ucAct m c) := by
  unfold State.ucAct
  extract_lets st
  split
  · rfl
  · exact sess_ite rfl rfl

theorem nvmPut_sess (m : Master) (a : Nat) (v : Word) : SessKept s (s.nvmPut m a v) := by
  unfold State.nvmPut
  extract_lets page
  split
  rename_i u ws h
  have hu : SessKept s u := by
    split at h
    · split at h
      · obtain ⟨rfl, -⟩ := Prod.mk.inj h
        rfl
      · obtain ⟨rfl, -⟩ := Prod.mk.inj h
        exact logIgnored_sess' ..
    · obtain ⟨rfl, -⟩ := Prod.mk.inj h
      rfl
  exact sess_ite hu hu

theorem trgWrite_sess (m : Master) (a : Nat) (v : Word) (x y : Nat) : SessKept s (s.trgWrite m a v x y) :=
  sess_ite rfl (sess_ite (logIgnored_sess' ..) (sess_ite (logIgnored_sess' ..) (sess_ite (logIgnored_sess' ..) rfl)))

theorem tareLoadReq_sess (m : Master) (p : Nat) : SessKept s (s.tareLoadReq m p) := sess_ite (logIgnored_sess' ..) rfl

end

section
variable (s : State)

theorem winPut_sess (m : Master) (p sp a : Nat) (v : Word) : SessKept s (s.winPut m p sp a v) := by
  unfold State.winPut
  split
  · exact sess_ite rfl rfl
  · rfl
  · exact sess_ite rfl rfl
  · extract_lets q w
    exact sess_ite (modPort_sess ..) (sess_ite (sess_ite (tareLoadReq_sess ..) (.refl s)) (modPort_sess ..))
  · rfl
  · exact nvmPut_sess ..
  · exact canWordWrite_sess ..
  · exact trgWrite_sess ..
  · extract_lets s1
    have h1 : SessKept s s1 := rfl
    exact sess_ite (h1.trans (ucAct_sess ..)) h1
  · rfl

theorem winDirect_sess (m : Master) (p sp a : Nat) (v : Word) : SessKept s (s.winDirect m p sp a v) := by
  unfold State.winDirect
  refine sess_ite (logIgnored_sess' ..) ?_
  split
  refine sess_ite rfl ?_
  extract_lets ws s1 now
  have h1 : SessKept s s1 := rfl
  refine sess_ite (h1.trans (logIgnored_sess' ..)) (h1.trans (sess_foldl (fun t x => ?_) s1 ws))
  exact winPut_sess ..

theorem claspDrop_sess (m : Master) (r : Nat) (c : BitVec 32) : SessKept s (s.claspDrop m r c) := by
  unfold State.claspDrop
  refine SessKept.trans ?_ (logE_sess' ..)
  exact modClasp_sess ..

theorem setDbgLock_sess : SessKept s s.setDbgLock := by
  unfold State.setDbgLock
  extract_lets _ _ s1
  have h1 : SessKept s s1 := rfl
  exact sess_ite rfl (sess_ite (h1.trans (claspDrop_sess ..)) h1)

theorem budgetWrite_sess (m : Master) (a v : Nat) : SessKept s (s.budgetWrite m a v) := by
  unfold State.budgetWrite
  extract_lets staged result cause s1
  have h1 : SessKept s s1 := modMaster_sess ..
  exact sess_ite h1 h1

theorem odecPut_sess (c sc n : Nat) : SessKept s (s.odecPut c sc n) := by
  unfold State.odecPut State.forFacets
  extract_lets ns _ s1
  have h1 : SessKept s s1 := rfl
  refine h1.trans (sess_foldl (fun t n => ?_) s1 ns)
  rfl

theorem regStore_sess (m : Master) (off : Nat) (w v : Word) : SessKept s (s.regStore m off w v) := by
  unfold State.regStore
  extract_lets x
  split
  any_goals rfl
  · exact sess_ite (setDbgLock_sess s) rfl
  · exact sess_ite (logIgnored_sess' ..) rfl
  · exact refCtlWrite_sess ..
  · exact ztoneWrite_sess ..
  · exact sess_ite rfl rfl
  · exact sess_ite rfl (odecPut_sess ..)
  · exact sess_ite rfl (budgetWrite_sess ..)
  · exact posRevWrite_sess ..
  · exact beadPortsWrite_sess ..
  · exact sess_ite (sess_ite rfl (sess_ite rfl rfl)) (trgStop_sess s)
  · exact sess_ite rfl (sess_ite (logIgnored_sess' ..) (winDirect_sess ..))
  · exact canCtlWrite_sess ..
  iterate 5 exact timingPut_sess ..
  · exact failoverWrite_sess ..

theorem regCommit_sess (m : Master) (off sel : Nat) (v : Word) : SessKept s (s.regCommit m off sel v) := by
  unfold State.regCommit
  split
  · rfl
  · rfl
  · rfl
  · rfl
  · exact SessKept.trans (modPort_sess ..) (posCfgEffect_sess ..)
  · exact SessKept.trans (posRevWrite_sess ..) (modPort_sess ..)
  · exact modPort_sess ..
  · exact modPort_sess ..
  · exact (beadPortsWrite_sess ..).trans (beadPortsEffect_sess _)
  · exact sess_ite (logIgnored_sess' ..) (winPut_sess ..)
  · extract_lets x s1 s2
    have h1 : SessKept s s1 := modMaster_sess ..
    have h2 : SessKept s s2 := h1.trans (sess_ite (.refl s1) (regStore_sess ..))
    exact h2.trans (modMaster_sess ..)

theorem winCommit_sess (m : Master) (p sp a : Nat) (v : Word) : SessKept s (s.winCommit m p sp a v) := by
  unfold State.winCommit
  split
  · rfl
  · exact sess_ite (logIgnored_sess' ..) rfl
  · exact sess_ite (nvmPut_sess ..) (logIgnored_sess' ..)
  · exact winPut_sess ..
  · exact sess_ite (logIgnored_sess' ..) (winPut_sess ..)

theorem writeCommit_sess (m : Master) (w : StagedWrite) : SessKept s (s.writeCommit m w) := by
  unfold State.writeCommit
  split
  · exact regCommit_sess ..
  · exact winCommit_sess ..

theorem holdLows_sess (z : Settled) : SessKept s (s.holdLows z) := by
  unfold State.holdLows
  refine SessKept.trans (t := { s with winHold := z.win }) rfl (sess_foldl (fun t e => ?_) _ _)
  exact sess_ite rfl (modPort_sess ..)

theorem curveCommit_sess (c : Nat) : SessKept s (s.curveCommit c) := rfl

/-- A commit leaves the remote sessions as they are. -/
theorem claspWrites_sess (m : Master) (ws : List StagedWrite) : SessKept s (s.claspWrites m ws) := by
  unfold State.claspWrites
  extract_lets z out ns blks ports was units s1 s2 s3 s4 s5 s6
  have h1 : SessKept s s1 := sess_foldl (fun t w => writeCommit_sess t m w) s _
  have h2 : SessKept s1 s2 := by
    refine sess_foldl (fun t b => ?_) s1 blks
    exact (applyFacet_apart t b.1 fun k => b.2.getD k 0).sess
  have h3 : SessKept s2 s3 := sess_foldl (fun t p => (activatePort_sess t p).trans (modPort_sess ..)) s2 _
  have h4 : SessKept s3 s4 := sess_foldl (fun t p => (aside_scaleEffect t p).sess) s3 _
  have h5 : SessKept s4 s5 := sess_foldl curveCommit_sess s4 _
  have h6 : SessKept s5 s6 := sess_foldl (fun t w => writeCommit_sess t m w) s5 _
  have h7 : SessKept s s6 := ((((h1.trans h2).trans h3).trans h4).trans h5).trans h6
  clear_value s6
  have h8 : Aside (s6.holdLows z) ((s6.holdLows z).fabricEdge was).tallyJudge := (aside_fabricEdge ..).trans (aside_tallyJudge _)
  exact (h7.trans (holdLows_sess s6 z)).trans (h8.trans (aside_foldl _ _ (fun t u => aside_committed t m u) _)).sess

end

end Sys2Proof.Proofs
end

section
/-! PROPERTY. Commits of clasps (O19). -/

namespace Sys2Proof.Proofs

open Sys2Proof Sys2Proof.Machine Sys2Proof.Laws

variable {s t u : State} {m : Master}

/-! ## How a commit ends -/

/-- The clasp of `m` is closed with a result and a code. -/
def closed (s : State) (m : Master) (result fail : Nat) : State :=
  s.modClasp m fun c => { c with pend := false, full := false, writes := [], result, fail }

/-- What the failed checks of the clasp of `m` leave to be seen (R117, R196). -/
def checksShown (s : State) (m : Master) : State :=
  if 25 ≤ s.claspCode m (s.master m).clasp ∧ s.claspCode m (s.master m).clasp ≤ 27 then s
  else (s.claspCurveErrs (s.master m).clasp.writes).claspPortCauses (s.master m).clasp.writes

/-- The clasp of `m` is due. -/
def ClaspDue (s : State) (m : Master) : Prop := (s.master m).clasp.pend = true ∧ s.turn (s.master m).clasp.acceptStamp = true

theorem claspApply_fails (h : ClaspDue s m) (hc : s.claspCode m (s.master m).clasp ≠ 0) : s.claspApply m =
    ((closed (checksShown s m) m 2 (s.claspCode m (s.master m).clasp)).irq0 8).logE 3 (masterCode m) 0
      (BitVec.ofNat 32 (s.claspCode m (s.master m).clasp)) :=
  (if_neg (by simp [h.1, h.2])).trans (if_pos hc)

theorem claspApply_passes (h : ClaspDue s m) (hc : s.claspCode m (s.master m).clasp = 0) : s.claspApply m =
    closed (if (s.master m).clasp.writes.isEmpty then s else s.claspWrites m (s.master m).clasp.writes) m 1 0 :=
  (if_neg (by simp [h.1, h.2])).trans (if_neg (not_not_intro hc))

theorem closed_clasp (s : State) (m : Master) (r f : Nat) : ((closed s m r f).master m).clasp =
    { (s.master m).clasp with pend := false, full := false, writes := [], result := r, fail := f } := modClasp_clasp ..

theorem commitReply_quiet (h : isRemote m = true → ∀ p < 2, (s.session p).commitReq = none) : s.commitReply m = s := by
  cases m with
  | canA => unfold State.commitReply; dsimp only; rw [if_pos rfl, h rfl 0 (by decide)]
  | canB => unfold State.commitReply; dsimp only; rw [if_neg (by decide), h rfl 1 (by decide)]
  | host | mp | debug => rfl

/-- The command where the clasp's master is owed no answer. -/
theorem exec_claspApply (hr : s.ready = true) (hq : isRemote m = true → ∀ p < 2, (s.session p).commitReq = none)
    (hs : (s.claspApply m).sess = s.sess) (hp : (s.claspApply m).pending = s.pending) (hl : (s.claspApply m).life = s.life) :
    exec (.claspApply m) s = .next (s.claspApply m) := by
  have hc : (s.claspApply m).commitReply m = s.claspApply m :=
    commitReply_quiet fun hm p hlt => (congrArg (fun x => (Store.get {} x p).commitReq) hs).trans (hq hm p hlt)
  exact (congrArg (okWrite s) ((live_ready s hr).trans hc)).trans (okWrite_next hr hp hl)

/-! ## A clasp that fails -/

/-- The state `s` with curves and ports as in `u`. -/
def shownOf (s u : State) : State := { s with curves := u.curves, free := u.free, ports := u.ports }

/-- Only the results of checks have changed. -/
def Shown (s u : State) : Prop := u = shownOf s u ∧ ∀ p, u.port p = { s.port p with cause := (u.port p).cause }

theorem Shown.refl (s : State) : Shown s s := ⟨rfl, fun _ => rfl⟩

theorem Shown.trans (h1 : Shown s t) (h2 : Shown t u) : Shown s u := by
  refine ⟨h2.1.trans ((congrArg (fun v : State => shownOf v u) h1.1).trans rfl), fun p => ?_⟩
  rw [h2.2 p, h1.2 p]

theorem shown_setUcStat (s : State) (c : Nat) (v : Word) : Shown s (s.setUcStat c v) := ⟨rfl, fun _ => rfl⟩

theorem shown_ucFail (s : State) (c e : Nat) : Shown s (s.ucFail c e) := by
  unfold State.ucFail
  extract_lets st
  split
  · exact ⟨rfl, fun _ => rfl⟩
  · exact shown_setUcStat ..

theorem shown_cause (s : State) (p k : Nat) : Shown s (s.modPort p fun q => { q with cause := k }) := by
  refine ⟨rfl, fun j => ?_⟩
  by_cases h : j = p
  · subst h; rw [port_modPort]
  · have e : (s.modPort p fun q => { q with cause := k }).port j = s.port j := port_setPort_other s _ h
    rw [e]

theorem shown_checks (s : State) (m : Master) : Shown s (checksShown s m) := by
  unfold checksShown
  split
  · exact .refl s
  · refine Shown.trans (t := s.claspCurveErrs (s.master m).clasp.writes) ?_ ?_
    · refine foldl_rel Shown.refl Shown.trans (fun v c => ?_) _ s
      split
      · exact .refl v
      · exact shown_ucFail ..
    · refine foldl_rel Shown.refl Shown.trans (fun v p => ?_) _ _
      dsimp only
      split
      · exact .refl v
      · exact shown_cause ..

/-- A clasp that fails leaves the results of its checks, its own state, an interrupt and an entry in the log. -/
theorem claspApply_failed (hr : s.ready = true) (hq : isRemote m = true → ∀ p < 2, (s.session p).commitReq = none)
    (h : ClaspDue s m) (hc : s.claspCode m (s.master m).clasp ≠ 0) :
    exec (.claspApply m) s = .next (((closed (checksShown s m) m 2 (s.claspCode m (s.master m).clasp)).irq0 8).logE 3
      (masterCode m) 0 (BitVec.ofNat 32 (s.claspCode m (s.master m).clasp))) := by
  obtain ⟨he, -⟩ := shown_checks s m
  rw [← claspApply_fails h hc]
  refine exec_claspApply hr hq ?_ ?_ ?_ <;> rw [claspApply_fails h hc, logE_eq, he] <;> cases m <;> rfl

theorem claspCode_empty (s : State) (m : Master) {c : Clasp} (hw : c.writes = []) : s.claspCode m c = if c.full then 26 else 0 := by
  have hf : claspFacets [] = [] := List.filter_eq_nil_iff.mpr fun n _ => by simp
  have hp : s.claspPorts [] = [] := List.filter_eq_nil_iff.mpr fun n _ => by simp
  have hk : s.claspCodes [] = [] := by
    unfold State.claspCodes
    simp [hp, State.settled, hf]
  unfold State.claspCode
  rw [hw]
  simp [hp, hk]

theorem claspCode_overtaken {c : Clasp} {v : Word} (hf : c.full = false) (hw : c.writes = [{ tgt := .reg 0x79 0, val := v }])
    (he : 2 ≤ s.entry m 7) (hc : s.conflicts m c.beginStamp (.reg 0x79 0) = true) : s.claspCode m c = 27 := by
  unfold State.claspCode
  rw [hw, if_neg, if_neg (by simp [hf]), if_pos]
  · simp [Target.unit, hc]
  · simp [Target.targets, show regTarget 0x79 = 7 from by decide]; omega

/-- What a failed clasp leaves: results of checks, the masters' own state, interrupts and the log as in `u`, all else as in `s`. -/
def ruinOf (s u : State) : State :=
  { s with host := u.host, mp := u.mp, canA := u.canA, canB := u.canB, debug := u.debug, curves := u.curves, free := u.free
           ports := u.ports, log := u.log, logSeq := u.logSeq, ctl := { s.ctl with irq0 := u.ctl.irq0 } }

/-- What O19 says of a clasp whose checks fail. -/
theorem claspApply_ruined (hr : s.ready = true) (hq : isRemote m = true → ∀ p < 2, (s.session p).commitReq = none)
    (h : ClaspDue s m) (hc : s.claspCode m (s.master m).clasp ≠ 0) :
    ∃ t, exec (.claspApply m) s = .next t ∧ (t.master m).clasp.pend = false ∧ (t.master m).clasp.result = 2 ∧
      (t.master m).clasp.fail = s.claspCode m (s.master m).clasp ∧ fld t.ctl.irq0 8 1 = 1 ∧
      t.fpActive = s.fpActive ∧ t.fpStaged = s.fpStaged ∧ t.facets = s.facets ∧ t.nvm = s.nvm ∧ t.time = s.time ∧
      t.chain = s.chain ∧ t.budget = s.budget ∧ t.exc = s.exc ∧ t.cal = s.cal ∧ t.trg = s.trg ∧ t.cap = s.cap ∧
      t.can = s.can ∧ t.bead = s.bead ∧ t.ctl = { s.ctl with irq0 := t.ctl.irq0 } ∧
      (∀ p, t.port p = { s.port p with cause := (t.port p).cause }) ∧
      ∃ e, Store.get none t.log ((t.logSeq + 65535) % 65536 % 256) = some e ∧ e.code = 3 := by
  obtain ⟨he, hport⟩ := shown_checks s m
  refine ⟨_, claspApply_failed hr hq h hc, ?_⟩
  generalize s.claspCode m (s.master m).clasp = x
  generalize hu : (closed (checksShown s m) m 2 x).irq0 8 = u
  obtain ⟨hf, hb⟩ : u = ruinOf s u ∧ fld u.ctl.irq0 8 1 = 1 := by
    rw [← hu, he]
    exact ⟨by cases m <;> rfl, fld_or_bit _ 8 (by decide)⟩
  have hm : (u.master m).clasp = { ((checksShown s m).master m).clasp with
      pend := false, full := false, writes := [], result := 2, fail := x } := by
    rw [← hu]
    exact Eq.trans (by cases m <;> rfl) (closed_clasp ..)
  have hp (p : Nat) : u.port p = (checksShown s m).port p := by
    rw [← hu]
    exact congrArg (fun y => Store.get {} y p) (modClasp_ports (checksShown s m) m _)
  have hn := logE_newest u 3 (masterCode m) 0 (BitVec.ofNat 32 x)
  have hl := logE_eq u 3 (masterCode m) 0 (BitVec.ofNat 32 x)
  generalize u.logE 3 (masterCode m) 0 (BitVec.ofNat 32 x) = v at hn hl
  have hv : v = ruinOf s v := by rw [hl, hf]; rfl
  have hk : (v.master m).clasp = (u.master m).clasp := by rw [hl]; cases m <;> rfl
  have hvp (p : Nat) : v.port p = u.port p := by rw [hl]; rfl
  have hg {α : Type} (g : State → α) : g v = g (ruinOf s v) := congrArg g hv
  refine ⟨?_, ?_, ?_, ?_, hg State.fpActive, hg State.fpStaged, hg State.facets, hg State.nvm, hg State.time, hg State.chain,
    hg State.budget, hg State.exc, hg State.cal, hg State.trg, hg State.cap, hg State.can, hg State.bead, hg State.ctl,
    fun p => ?_, hn⟩
  · rw [hk, hm]
  · rw [hk, hm]
  · rw [hk, hm]
  · rw [hl]; exact hb
  · rw [hvp, hp]; exact hport p

/-! ## A clasp of interrupt masks and facet parameters -/

/-- A staged write that takes effect by itself, and not behind the others. -/
def Alone (w : StagedWrite) : Prop :=
  (∃ off, off ∈ [0x79, 0x7B] ∧ w.tgt = .reg off 0) ∨ ∃ a port, w.tgt = .win 0 a port ∧ winValue 0 a = (0, 1)

theorem settleWrite_alone {w : StagedWrite} (h : Alone w) (z : Settled) : s.settleWrite z w = { z with out := z.out ++ [w] } := by
  unfold State.settleWrite
  rcases h with ⟨off, ho, ht⟩ | ⟨a, port, ht, hv⟩
  · rw [ht]
    rcases List.mem_pair.mp ho with rfl | rfl <;> rfl
  · rw [ht]
    dsimp only
    rw [hv]
    simp

theorem settled_alone (ws : List StagedWrite) (h : ∀ w ∈ ws, Alone w) : s.settled ws = { win := s.winHold, reg := [], out := ws } := by
  suffices ∀ (ws : List StagedWrite) (z : Settled), (∀ w ∈ ws, Alone w) → ws.foldl s.settleWrite z = { z with out := z.out ++ ws } from
    this ws _ h
  intro ws
  induction ws with
  | nil => intro z _; simp
  | cons w ws ih =>
    intro z h
    rw [List.foldl_cons, settleWrite_alone (h w (List.mem_cons_self ..)), ih _ fun v hv => h v (List.mem_cons_of_mem _ hv)]
    simp

theorem isLast_alone {w : StagedWrite} (h : Alone w) : w.isLast = false := by
  unfold StagedWrite.isLast
  rcases h with ⟨off, ho, ht⟩ | ⟨a, port, ht, -⟩
  · rw [ht]; rcases List.mem_pair.mp ho with rfl | rfl <;> rfl
  · rw [ht]

theorem claspPorts_alone (ws : List StagedWrite) (h : ∀ w ∈ ws, Alone w) : s.claspPorts ws = [] := by
  refine List.filter_eq_nil_iff.mpr fun p _ => ?_
  rw [Bool.not_eq_true, List.any_eq_false]
  intro w hw
  rcases h w hw with ⟨off, ho, ht⟩ | ⟨a, port, ht, -⟩
  · rw [ht]; rcases List.mem_pair.mp ho with rfl | rfl <;> simp
  · rw [ht]; simp

theorem claspCurves_alone (ws : List StagedWrite) (h : ∀ w ∈ ws, Alone w) : claspCurves ws = [] := by
  refine List.filter_eq_nil_iff.mpr fun p _ => ?_
  rw [Bool.not_eq_true, List.any_eq_false]
  intro w hw
  rcases h w hw with ⟨off, ho, ht⟩ | ⟨a, port, ht, -⟩
  · rw [ht]; simp
  · rw [ht]; simp

theorem rwMerge_mask {off : Nat} (h : off ∈ [0x79, 0x7B]) (old v : Word) : rwMerge off old v = v := by
  refine BitVec.eq_of_getLsbD_eq fun i hi => ?_
  have hf : rwMerge off old v = setFld 0 0 16 (fld v 0 16) := by
    rcases List.mem_pair.mp h with rfl | rfl <;> rfl
  rw [hf, getLsbD_setFld _ _ hi]
  simp [testBit_fld, hi]

theorem regCommit_mask0 (s : State) (m : Master) (v : Word) : s.regCommit m 0x79 0 v = { s with ctl := { s.ctl with mask0 := v } } := by
  have h : s.regCommit m 0x79 0 v = { s with ctl := { s.ctl with mask0 := rwMerge 0x79 (s.regWord m 0x79) v } } := by
    cases m <;> rfl
  rw [h, rwMerge_mask (by simp)]

theorem regCommit_mask1 (s : State) (m : Master) (v : Word) : s.regCommit m 0x7B 0 v = { s with ctl := { s.ctl with mask1 := v } } := by
  have h : s.regCommit m 0x7B 0 v = { s with ctl := { s.ctl with mask1 := rwMerge 0x7B (s.regWord m 0x7B) v } } := by
    cases m <;> rfl
  rw [h, rwMerge_mask (by simp)]

/-- The block that a clasp gives a facet, word by word. -/
def claspWords (s : State) (ws : List StagedWrite) (n : Nat) : Blk := fun k => ((List.range 32).map (s.claspBlk ws n)).getD k 0

theorem claspWords_same (s : State) (ws : List StagedWrite) (n : Nat) : SameWords (claspWords s ws n) (s.claspBlk ws n) := fun w hw => by
  simp [claspWords, hw]

/-- What follows the writes themselves, in a clasp whose writes take effect by themselves. -/
theorem claspWrites_alone (s : State) (m : Master) (ws : List StagedWrite) (h : ∀ w ∈ ws, Alone w)
    (hw : (ws.foldl (fun t w => t.writeCommit m w) s).winHold = s.winHold) :
    Aside ((claspFacets ws).foldl (fun t n => t.applyFacet n (claspWords s ws n)) (ws.foldl (fun t w => t.writeCommit m w) s))
      (s.claspWrites m ws) := by
  have hl : ws.filter (fun w => !w.isLast) = ws := List.filter_eq_self.mpr fun w hw => by simp [isLast_alone (h w hw)]
  have hn : ws.filter StagedWrite.isLast = [] := List.filter_eq_nil_iff.mpr fun w hw => by simp [isLast_alone (h w hw)]
  unfold State.claspWrites
  rw [settled_alone ws h, claspPorts_alone ws h]
  extract_lets z out ns blks ports was units s1 s2 s3 s4 s5 s6
  have h1 : s1 = ws.foldl (fun t w => t.writeCommit m w) s := by
    show (ws.filter fun w => !w.isLast).foldl (fun t w => t.writeCommit m w) s = _
    rw [hl]
  have h2 : s2 = ns.foldl (fun t n => t.applyFacet n (claspWords s ws n)) s1 := by
    show ((claspFacets ws).map fun n => (n, (List.range 32).map (s.claspBlk ws n))).foldl _ s1 = _
    rw [List.foldl_map]
    rfl
  have h3 : s3 = s2 := List.foldl_nil
  have h4 : Aside s2 s4 := by
    rw [← h3]
    exact aside_foldl s3 State.scaleEffect aside_scaleEffect (List.range 4)
  clear_value s4
  have h5 : s5 = s4 := (congrArg (List.foldl State.curveCommit s4) (claspCurves_alone ws h)).trans List.foldl_nil
  have h6 : s6 = s5 := (congrArg (List.foldl (fun t w => State.writeCommit t m w) s5) hn).trans List.foldl_nil
  have hz : s6.holdLows z = s6 := by
    have hs : s6.winHold = s.winHold := by
      rw [h6, h5, h4.apart.winHold, h2, (applyFacets_apart ..).winHold, h1, hw]
    show ({ s6 with winHold := s.winHold } : State) = s6
    rw [← hs]
  rw [hz, h6, h5, ← h1, ← h2]
  exact (h4.trans ((aside_fabricEdge ..).trans (aside_tallyJudge _))).trans (aside_foldl _ _ (fun t u => aside_committed t m u) _)

/-- The staged writes of one-word parameters. -/
def paramWrites (ps : List (Nat × Nat × Nat × Word)) : List StagedWrite :=
  ps.map fun e => { tgt := .win 0 (e.1 * 32 + e.2.1) e.2.2.1, val := e.2.2.2 }

/-- The writes of both masks, and of parameters between them. -/
def maskedWrites (v0 v1 : Word) (ps : List (Nat × Nat × Nat × Word)) : List StagedWrite :=
  { tgt := .reg 0x79 0, val := v0 } :: paramWrites ps ++ [{ tgt := .reg 0x7B 0, val := v1 }]

theorem paramWrites_commit (m : Master) : ∀ (ps : List (Nat × Nat × Nat × Word)) (s : State),
    (paramWrites ps).foldl (fun t w => t.writeCommit m w) s
      = { s with fpStaged := ((paramWrites ps).foldl (fun t w => t.writeCommit m w) s).fpStaged }
  | [], _ => rfl
  | e :: ps, s => by
    rw [show paramWrites (e :: ps) = _ :: paramWrites ps from rfl, List.foldl_cons, paramWrites_commit m ps]
    rfl

theorem maskedWrites_commit (s : State) (m : Master) (v0 v1 : Word) (ps : List (Nat × Nat × Nat × Word)) :
    ∃ x, (maskedWrites v0 v1 ps).foldl (fun t w => t.writeCommit m w) s
      = { s with fpStaged := x, ctl := { s.ctl with mask0 := v0, mask1 := v1 } } := by
  have h := paramWrites_commit m ps (s.regCommit m 0x79 0 v0)
  generalize State.fpStaged _ = x at h
  refine ⟨x, ?_⟩
  rw [maskedWrites, List.cons_append, List.foldl_cons, List.foldl_append,
    show s.writeCommit m { tgt := .reg 0x79 0, val := v0 } = s.regCommit m 0x79 0 v0 from rfl, h, regCommit_mask0]
  exact regCommit_mask1 ..

/-- The word that a staged write gives facet `n`. -/
def wordOf (n : Nat) (w : StagedWrite) : Option (Nat × Word) :=
  match w.tgt with
  | .win 0 a _ => if a / 32 = n then some (a % 32, w.val) else none
  | _ => none

/-- The facet whose block a staged write meets. -/
def facetOf (w : StagedWrite) : Option Nat :=
  match w.tgt with
  | .win 0 a _ => some (a / 32)
  | _ => none

theorem claspBlk_eq (s : State) (ws : List StagedWrite) (n k : Nat) : s.claspBlk ws n k =
    ((ws.filterMap (wordOf n)).reverse.find? fun e => e.1 == k).elim (s.fpA n k) fun e => e.2 &&& fpMask n k := by
  unfold State.claspBlk
  split
  · rename_i v h
    exact (congrArg (fun o : Option (Nat × Word) => o.elim (s.fpA n k) fun e => e.2 &&& fpMask n k) h).symm
  · rename_i h
    exact (congrArg (fun o : Option (Nat × Word) => o.elim (s.fpA n k) fun e => e.2 &&& fpMask n k) h).symm

theorem mem_claspFacets {ws : List StagedWrite} {n : Nat} : n ∈ claspFacets ws ↔ n < 512 ∧ n ∈ ws.filterMap facetOf := by
  have h : claspFacets ws = allFacets.filter fun n => (ws.filterMap facetOf).contains n := rfl
  rw [h, List.mem_filter, List.contains_iff_mem, allFacets, List.mem_range]

theorem claspFacets_nodup (ws : List StagedWrite) : (claspFacets ws).Nodup := List.nodup_range.filter _

section
variable {ps : List (Nat × Nat × Nat × Word)} (v0 v1 : Word)
  (hps : ∀ e ∈ ps, e.1 < 512 ∧ e.2.1 < 32 ∧ fpIsParam e.1 e.2.1 = true ∧ winValue 0 (e.1 * 32 + e.2.1) = (0, 1))
include hps

theorem maskedWrites_alone : ∀ w ∈ maskedWrites v0 v1 ps, Alone w := by
  intro w hw
  rcases List.mem_append.mp hw with hw | hw
  · rcases List.mem_cons.mp hw with rfl | hw
    · exact .inl ⟨0x79, by simp, rfl⟩
    · obtain ⟨e, he, rfl⟩ := List.mem_map.mp hw
      exact .inr ⟨_, _, rfl, (hps e he).2.2.2⟩
  · obtain rfl := List.mem_singleton.mp hw
    exact .inl ⟨0x7B, by simp, rfl⟩

/-- The words that the parameters written give facet `n`. -/
theorem wordOf_masked (n : Nat) : (maskedWrites v0 v1 ps).filterMap (wordOf n)
    = ps.filterMap fun e => if e.1 = n then some (e.2.1, e.2.2.2) else none := by
  have h : (paramWrites ps).filterMap (wordOf n) = ps.filterMap fun e => if e.1 = n then some (e.2.1, e.2.2.2) else none := by
    rw [paramWrites, List.filterMap_map]
    refine List.filterMap_congr fun e he => ?_
    obtain ⟨-, hw, -⟩ := hps e he
    simp only [Function.comp, wordOf]
    rw [show (e.1 * 32 + e.2.1) / 32 = e.1 by omega, show (e.1 * 32 + e.2.1) % 32 = e.2.1 by omega]
  rw [maskedWrites, List.cons_append, List.filterMap_cons_none rfl, List.filterMap_append, h]
  exact List.append_nil _

/-- The last write to a word of a facet gives the clasp's block that word. -/
theorem claspBlk_masked (s : State) (n w : Nat) : s.claspBlk (maskedWrites v0 v1 ps) n w =
    (ps.reverse.find? fun e => e.1 == n && e.2.1 == w).elim (s.fpA n w) fun e => e.2.2.2 &&& fpMask n w := by
  have hf : ((ps.filterMap fun e => if e.1 = n then some (e.2.1, e.2.2.2) else none).reverse.find? fun e => e.1 == w)
      = (ps.reverse.find? fun e => e.1 == n && e.2.1 == w).map fun e => (e.2.1, e.2.2.2) := by
    rw [← List.filterMap_reverse]
    induction ps.reverse with
    | nil => rfl
    | cons e es ih => by_cases hn : e.1 = n <;> by_cases hw : e.2.1 = w <;> simp [hn, hw, ih]
  rw [claspBlk_eq, wordOf_masked v0 v1 hps, hf, Option.elim_map]
  rfl

theorem facetOf_masked : (maskedWrites v0 v1 ps).filterMap facetOf = ps.map fun e => e.1 := by
  have h : (paramWrites ps).filterMap facetOf = ps.map fun e => e.1 := by
    rw [paramWrites, List.filterMap_map, ← List.filterMap_eq_map]
    refine List.filterMap_congr fun e he => ?_
    obtain ⟨-, hw, -⟩ := hps e he
    exact congrArg some (show (e.1 * 32 + e.2.1) / 32 = e.1 by omega)
  rw [maskedWrites, List.cons_append, List.filterMap_cons_none rfl, List.filterMap_append, h]
  exact List.append_nil _

/-- The parameters that a passing clasp of masks and parameters leaves in force. -/
theorem maskedWrites_fpA (s : State) (m : Master)
    (hr : ∀ n ∈ claspFacets (maskedWrites v0 v1 ps), onlyRange n (s.blkA n) (s.claspBlk (maskedWrites v0 v1 ps) n) = false)
    {k w : Nat} (hk : k < 512) (hw : w < 32) (hp : fpIsParam k w = true) : (s.claspWrites m (maskedWrites v0 v1 ps)).fpA k w =
      (ps.reverse.find? fun e => e.1 == k && e.2.1 == w).elim (s.fpA k w) fun e => e.2.2.2 &&& fpMask k w := by
  obtain ⟨x, hx⟩ := maskedWrites_commit s m v0 v1 ps
  have ha := claspWrites_alone s m _ (maskedWrites_alone v0 v1 hps) (by rw [hx])
  rw [ha.fpA, hx, applyFacets_fpA _ _ _ (claspFacets_nodup _) (fun n hn => ?_) _ _ hw, ← claspBlk_masked v0 v1 hps]
  · split
    · exact claspWords_same _ _ _ w hw
    · rename_i h
      have hnot : ∀ e ∈ ps, e.1 ≠ k := fun e he hek => h ⟨mem_claspFacets.mpr ⟨hk, by
        rw [facetOf_masked v0 v1 hps]; exact List.mem_map.mpr ⟨e, he, hek⟩⟩, hp⟩
      have hnone : ps.reverse.find? (fun e => e.1 == k && e.2.1 == w) = none := List.find?_eq_none.mpr fun e he => by
        simp [hnot e (List.mem_reverse.mp he)]
      rw [claspBlk_masked v0 v1 hps, hnone]
      rfl
  · exact (onlyRange_congr n (fun _ _ => rfl) fun w hw => claspWords_same s _ n w hw).trans (hr n hn)

/-- The rest of what O19 asks of such a clasp: the masks, and that nothing of the masters or the device's life changes. -/
theorem maskedWrites_apart (s : State) (m : Master) : ∃ x,
    Apart { s with fpStaged := x, ctl := { s.ctl with mask0 := v0, mask1 := v1 } } (s.claspWrites m (maskedWrites v0 v1 ps)) := by
  obtain ⟨x, hx⟩ := maskedWrites_commit s m v0 v1 ps
  have ha := claspWrites_alone s m _ (maskedWrites_alone v0 v1 hps) (by rw [hx])
  rw [hx] at ha
  exact ⟨x, (applyFacets_apart ..).trans ha.apart⟩

end

/-- Aside from the parameters in force, a master stands as it did. -/
theorem Apart.master (h : Apart s u) (n : Master) : u.master n = s.master n := by rw [h.eq]; cases n <;> rfl

/-- At its turn a clasp ends as closed, with the code of its checks. -/
theorem claspApply_clasp (h : ClaspDue s m) : ((s.claspApply m).master m).clasp.pend = false ∧
    ((s.claspApply m).master m).clasp.result = (if s.claspCode m (s.master m).clasp = 0 then 1 else 2) ∧
    ((s.claspApply m).master m).clasp.fail = s.claspCode m (s.master m).clasp := by
  by_cases hc : s.claspCode m (s.master m).clasp = 0
  · rw [claspApply_passes h hc, closed_clasp, if_pos hc, hc]
    exact ⟨rfl, rfl, rfl⟩
  · have hm : ((s.claspApply m).master m).clasp = ((closed (checksShown s m) m 2 (s.claspCode m (s.master m).clasp)).master m).clasp := by
      rw [claspApply_fails h hc, logE_eq]
      cases m <;> rfl
    rw [hm, closed_clasp, if_neg hc]
    exact ⟨rfl, rfl, rfl⟩

theorem closed_sess (s : State) (m : Master) (r f : Nat) : SessKept s (closed s m r f) := modClasp_sess ..

theorem claspApply_sess (h : ClaspDue s m) : SessKept s (s.claspApply m) := by
  by_cases hc : s.claspCode m (s.master m).clasp = 0
  · rw [claspApply_passes h hc]
    exact SessKept.trans (sess_ite (.refl s) (claspWrites_sess ..)) (closed_sess ..)
  · rw [claspApply_fails h hc]
    have hk : SessKept s (checksShown s m) := by unfold SessKept; rw [(shown_checks s m).1]; rfl
    exact (hk.trans (closed_sess ..)).trans (logE_sess' (State.irq0 _ 8) ..)

theorem claspApply_ruin_fpActive (h : ClaspDue s m) (hc : s.claspCode m (s.master m).clasp ≠ 0) :
    (s.claspApply m).fpActive = s.fpActive := by
  rw [claspApply_fails h hc, logE_fpActive]
  refine (modClasp_fpActive (checksShown s m) m _).trans ?_
  rw [(shown_checks s m).1]
  rfl

/-- The answer to the port's COMMIT, once its clasp has ended. -/
def commitAnswered (s : State) (p : Nat) (r : Req) : State :=
  (s.modSession p fun x => { x with commitReq := none }).respond p opCommit r
    (State.claspAnswer (s.modSession p fun x => { x with commitReq := none }) p
      (if (State.master (s.modSession p fun x => { x with commitReq := none }) (portMaster p)).clasp.result = 1 then 0 else 7))

theorem commitReply_answers (p : Fin 2) {r : Req} (hq : (s.session p.val).commitReq = some r)
    (hp : (s.master (portMaster p.val)).clasp.pend = false) :
    s.commitReply (portMaster p.val) = (commitAnswered s p.val r).serveWaiting p.val := by
  match p with
  | ⟨0, _⟩ =>
    have hn : ¬ (s.master .canA).clasp.pend = true := Bool.eq_false_iff.mp hp
    unfold State.commitReply
    dsimp only [portMaster]
    simp only [if_true]
    rw [hq]
    exact if_neg hn
  | ⟨1, _⟩ =>
    have hn : ¬ (s.master .canB).clasp.pend = true := Bool.eq_false_iff.mp hp
    unfold State.commitReply
    dsimp only [portMaster]
    simp only [show (1 : Nat) ≠ 0 from by decide, if_false, reduceCtorEq]
    rw [hq]
    exact if_neg hn

theorem serveWaiting_none {p : Nat} (hw : (s.session p).waiting = []) :
    s.serveWaiting p = s.modSession p fun x => { x with waiting := [] } := by
  unfold State.serveWaiting
  rw [hw]
  rfl

theorem commitAnswered_session (s : State) (p : Nat) (r : Req) :
    (commitAnswered s p r).session p = { (s.session p) with
      commitReq := none, recent := ((commitAnswered s p r).session p).recent } := by
  have h (u : State) (op : Nat) (a : Answer) : ((u.respond p op r a).session p)
      = { (u.session p) with recent := ((u.respond p op r a).session p).recent } := by
    unfold State.respond State.emit
    extract_lets body v
    have hv : v.session p = { (u.session p) with recent := (v.session p).recent } := by rw [session_modSession]
    exact hv
  unfold commitAnswered
  rw [h, session_modSession]

/-- The record of the answer. -/
theorem commitAnswered_sends (s : State) (p : Nat) (r : Req) : ∃ e ∈ (commitAnswered s p r).msg.out, e.1 = p ∧ e.2.ty = .rrsp ∧
    e.2.data = leBytes 1 opCommit ++ leBytes 1 (if (s.master (portMaster p)).clasp.result = 1 then 0 else 7) ++ leBytes 2 0
      ++ leBytes 4 r.addr.toNat ++ leBytes 2 (s.master (portMaster p)).clasp.fail := by
  have hm : (State.master (s.modSession p fun x => { x with commitReq := none }) (portMaster p)).clasp = (s.master (portMaster p)).clasp := by
    cases portMaster p <;> rfl
  refine ⟨_, List.mem_append_right _ (List.mem_singleton.mpr rfl), rfl, rfl, ?_⟩
  exact congrArg (fun c : Clasp => leBytes 1 opCommit ++ leBytes 1 (if c.result = 1 then 0 else 7) ++ leBytes 2 0
    ++ leBytes 4 r.addr.toNat ++ leBytes 2 c.fail) hm

/-- The answer leaves the masters and the parameters. -/
theorem commitAnswered_rest (s : State) (p : Nat) (r : Req) : ∃ x y, commitAnswered s p r = { s with sess := x, msg := y } := ⟨_, _, rfl⟩

theorem modClasp_congr {f g : Clasp → Clasp} (h : f (s.master m).clasp = g (s.master m).clasp) : s.modClasp m f = s.modClasp m g :=
  congrArg (fun c => s.setMaster m { s.master m with clasp := c }) h

/-- Settles O19. -/
theorem claspApplies : Obligations.ClaspApplies := by
  unfold Obligations.ClaspApplies
  refine ⟨fun m s hr hq hp ht => ⟨claspApply_ruined hr hq ⟨hp, ht⟩, fun hf hw => ?_, fun hf hw => ?_, fun v hf hw he hc => ?_⟩,
    fun m s v0 v1 ps ws hr hq hp ht hps hws hw honly hc => ?_, fun p r s hr hq hw hp ht => ?_⟩
  · have hc : s.claspCode m (s.master m).clasp = 26 := (claspCode_empty s m hw).trans (if_pos hf)
    obtain ⟨t, he, -, h2, h3, -⟩ := claspApply_ruined hr hq ⟨hp, ht⟩ (by rw [hc]; decide)
    exact ⟨t, he, h2, h3.trans hc⟩
  · have hc : s.claspCode m (s.master m).clasp = 0 := (claspCode_empty s m hw).trans (if_neg (by simp [hf]))
    have ha := claspApply_passes ⟨hp, ht⟩ hc
    rw [hw, List.isEmpty_nil, if_pos rfl] at ha
    have hcl : closed s m 1 0 = s.modClasp m fun c => { c with pend := false, writes := [], result := 1, fail := 0 } :=
      modClasp_congr (by rw [hf])
    rw [exec_claspApply hr hq (claspApply_sess ⟨hp, ht⟩) (by rw [ha]; exact modClasp_pending ..) (by rw [ha]; exact modClasp_life ..), ha, hcl]
  · have hc : s.claspCode m (s.master m).clasp = 27 := claspCode_overtaken hf hw he hc
    obtain ⟨t, hx, h1, h2, h3, h4, -, -, -, -, -, -, -, -, -, -, -, -, -, h5, -⟩ := claspApply_ruined hr hq ⟨hp, ht⟩ (by rw [hc]; decide)
    exact ⟨t, hx, h1, h2, h3.trans hc, (congrArg CtlSt.mask0 h5).trans rfl, h4⟩
  · obtain rfl : ws = maskedWrites v0 v1 ps := hws
    have hne : (maskedWrites v0 v1 ps).isEmpty = false := rfl
    have ha := claspApply_passes ⟨hp, ht⟩ hc
    rw [hw, hne, if_neg (by decide)] at ha
    obtain ⟨x, hx⟩ := maskedWrites_apart v0 v1 hps s m
    have hfp := fun k hk w hv hpar => maskedWrites_fpA v0 v1 hps s m honly (k := k) (w := w) hk hv hpar
    generalize s.claspWrites m (maskedWrites v0 v1 ps) = u at ha hx hfp
    have hctl : u.ctl.mask0 = v0 ∧ u.ctl.mask1 = v1 := by rw [hx.eq]; exact ⟨rfl, rfl⟩
    have hlife : u.life = s.life ∧ u.pending = s.pending := by rw [hx.eq]; exact ⟨rfl, rfl⟩
    have hk : (closed u m 1 0).ctl = u.ctl := modClasp_ctl ..
    have hcl := closed_clasp u m 1 0
    refine ⟨closed u m 1 0, ?_, by rw [hcl], by rw [hcl], by rw [hcl], by rw [hk]; exact hctl.1, by rw [hk]; exact hctl.2,
      fun n hn w hv hpar => ?_⟩
    · rw [← ha]
      refine exec_claspApply hr hq (claspApply_sess ⟨hp, ht⟩) ?_ ?_ <;> rw [ha]
      · exact (modClasp_pending ..).trans hlife.2
      · exact (modClasp_life ..).trans hlife.1
    · have hA : (closed u m 1 0).fpA n w = u.fpA n w := congrArg (fun y => Store.get (fpReset n w) y (n * 32 + w)) (modClasp_fpActive u m _)
      rw [hA, hfp n hn w hv hpar]
      cases ps.reverse.find? fun e => e.1 == n && e.2.1 == w <;> rfl
  · have hd : ClaspDue s (portMaster p.val) := ⟨hp, ht⟩
    obtain ⟨h1, h2, h3⟩ := claspApply_clasp hd
    have hs := claspApply_sess hd
    have hfa := claspApply_ruin_fpActive hd
    generalize hu : s.claspApply (portMaster p.val) = u at h1 h2 h3 hs hfa
    have hses (j : Nat) : u.session j = s.session j := by
      unfold State.session
      rw [show u.sess = s.sess from hs]
    have hans := commitReply_answers p ((congrArg Session.commitReq (hses p.val)).trans hq) h1
    have hwait : ((commitAnswered u p.val r).session p.val).waiting = [] := by rw [commitAnswered_session, hses]; exact hw
    rw [serveWaiting_none hwait] at hans
    have hlive : (s.live fun t => (t.claspApply (portMaster p.val)).commitReply (portMaster p.val))
        = (commitAnswered u p.val r).modSession p.val fun x => { x with waiting := [] } := by
      rw [live_ready s hr, hu, hans]
    obtain ⟨e, he, hport, hty, hdata⟩ := commitAnswered_sends u p.val r
    have hreq := commitAnswered_session u p.val r
    obtain ⟨x, y, hx⟩ := commitAnswered_rest u p.val r
    refine ⟨_, congrArg (okWrite s) hlive, ?_, ?_, fun hc => ?_, e, he, hport, hty, ?_⟩
    · have hnone : ((State.modSession (commitAnswered u p.val r) p.val fun x => { x with waiting := [] }).session p.val).commitReq
          = none := by rw [session_modSession, hreq]
      exact hnone
    · rw [master_next]
      refine Eq.trans ?_ h1
      rw [hx]
      cases portMaster p.val <;> rfl
    · refine Eq.trans ?_ (hfa hc)
      rw [hx]
      rfl
    · rw [hdata, h2, h3]
      by_cases hc : s.claspCode (portMaster p.val) (s.master (portMaster p.val)).clasp = 0 <;> simp [hc]

end Sys2Proof.Proofs
end

section
/-! PROPERTY. Open clasps, the bezel, budgets, slots and reset values (O20, O21, O57, O59). -/

namespace Sys2Proof.Proofs

open Sys2Proof Sys2Proof.Machine Sys2Proof.Laws

variable {s t u : State} {m : Master}

theorem plainRegs_kinds : ∀ off ∈ plainRegs, ownReg off = false ∧ off ≠ 0x7F ∧ (rwFields off).isEmpty = false ∧ off ≠ 0x54 ∧ off ≠ 0x0B ∧
    (3 < off → openReg off = false) := by decide

theorem responds_of_ready (hr : s.ready = true) (hx : m = .host → s.ctl.extest = false) : s.responds m = true := by
  unfold State.responds
  cases m with
  | host => simp [hr, hx rfl]
  | debug => simp [hr]
  | mp | canA | canB => exact hr

/-- A write cycle that the device answers, outside standalone service, to a register that is no master's own. -/
theorem writeCycle_shared {off : Nat} (v : Word) (hr : s.ready = true) (hs : s.sessionOk m = true)
    (hx : m = .host → s.ctl.extest = false ∧ s.ctl.svc = false) (hw : off ≠ 0x7F) (ho : ownReg off = false) :
    s.writeCycle m off v =
      (if s.entry m (regTarget off) < 2 then s.deny m (regTarget off) true
      else if (s.master m).clasp.isOpen then s.regStaged m off v (s.entry m (regTarget off))
      else if s.entry m (regTarget off) ≠ 3 then s.deny m (regTarget off) true
      else s.regDirect m off v).ack m true := by
  have hp : ¬ (s.responds m ≠ true ∨ s.sessionOk m ≠ true) := by
    rw [responds_of_ready hr fun h => (hx h).1, hs]
    decide
  have hv : ¬ (m = .host ∧ s.ctl.svc = true ∧ (!svcReg off) = true) := fun ⟨h, hsv, _⟩ => by simp [(hx h).2] at hsv
  unfold State.writeCycle
  rw [if_neg (by simpa using hp), if_neg hw]
  unfold State.regWrite
  rw [if_neg (ready_not_fatal s hr), if_neg hv, ho]
  rfl

theorem regStaged_stages {off e : Nat} {v : Word} (hf : (rwFields off).isEmpty = false) (h54 : off ≠ 0x54) (hb : off ≠ 0x0B)
    (hn : v &&& nowMask off = 0) : s.regStaged m off v e = s.stage m (.reg off ((s.master m).selOf off)) v := by
  unfold State.regStaged
  extract_lets x s1 s2
  have h1 : s1 = s.stage m (.reg off (x.selOf off)) v := if_neg (by simp [hf, h54])
  have h2 : s2 = s1 := if_neg (by simp [hn, hb])
  rw [h2, h1]
  exact if_neg h54

theorem modClasp_regWord (s : State) (m n : Master) (f : Clasp → Clasp) : ∀ off ∈ plainRegs,
    (s.modClasp m f).regWord n off = s.regWord n off := by
  intro off ho
  have h : PlainOthers 0 s (s.modClasp m f) := by cases m <;> exact {}
  exact h.regWord n off ho (by rintro rfl; exact absurd ho (by decide))

/-- A denied access leaves an interrupt and an entry in the log. -/
theorem deny_eq (s : State) (m : Master) (k : Nat) (w : Bool) : s.deny m k w = { s with
    ctl := { s.ctl with irq0 := (s.deny m k w).ctl.irq0 }, log := (s.deny m k w).log, logSeq := (s.deny m k w).logSeq } := by
  unfold State.deny
  rw [logE_eq]
  rfl

theorem deny_irq0 (s : State) (m : Master) (k : Nat) (w : Bool) : fld (s.deny m k w).ctl.irq0 9 1 = 1 := fld_or_bit _ 9 (by decide)

/-- Settles O20. -/
theorem openClaspStagesAndBezelDenies : Obligations.OpenClaspStagesAndBezelDenies := by
  unfold Obligations.OpenClaspStagesAndBezelDenies
  refine ⟨fun m off v s ho hr hs hx hopen he hn => ?_, fun m off v s ho h3 hr hs hm => ⟨fun he => ?_, fun he => ?_⟩⟩
  all_goals obtain ⟨hown, hw, hf, h54, hb, hop⟩ := plainRegs_kinds _ ho
  · have hc := writeCycle_shared v hr hs hx hw hown
    rw [if_neg (by omega), if_pos hopen, regStaged_stages hf h54 hb hn] at hc
    refine ⟨_, (congrArg (okWrite s) hc).trans (okWrite_next hr ((ack_pending ..).trans (modClasp_pending ..))
      ((ack_life ..).trans (modClasp_life ..))), ?_, ?_, ?_, ?_, ?_⟩
    · rw [ack_master]
      exact (modClasp_clasp ..).trans rfl
    · rw [ack_regWord _ m m true _ ho]
      exact modClasp_regWord s m m _ _ ho
    · rw [ack_log]
      exact modClasp_log ..
    · rw [ack_eq]
      exact modClasp_time ..
    · rw [ack_eq]
      exact modClasp_cal ..
  · have hc := writeCycle_shared v hr hs (fun h => absurd h hm) hw hown
    rw [if_pos he, show (s.deny m (regTarget off.toNat) true).ack m true = s.deny m (regTarget off.toNat) true from if_neg hm] at hc
    have hd := deny_eq s m (regTarget off.toNat) true
    refine ⟨_, (congrArg (okWrite s) hc).trans (okWrite_next hr ?_ ?_), deny_irq0 .., hd⟩ <;> rw [hd]
  · have hc : s.readCycle m off.toNat 0 = (s.deny m (regTarget off.toNat) false).ret m 0 := by
      unfold State.readCycle
      rw [if_neg (by simp [responds_of_ready hr fun h => absurd h hm]), if_neg hw, if_pos (by simp [hop h3, he])]
      exact if_neg hm
    refine ⟨_, congrArg (ok s) hc, ?_, ?_⟩
    · rw [master_next]
      exact congrArg MasterSt.rdata (master_modMaster ..)
    · refine Eq.trans ?_ (deny_irq0 s m (regTarget off.toNat) false)
      exact congrArg (fun c : CtlSt => fld c.irq0 9 1) (modMaster_ctl ..)

/-! ## Budgets (R435) -/

theorem get_eq_find {α : Type} (d : α) : ∀ (l : Store α) (k : Nat), Store.get d l k = ((l.find? fun e => e.1 == k).map (·.2)).getD d
  | [], _ => rfl
  | (j, v) :: l, k => by
    unfold Store.get
    by_cases h : k = j
    · simp [h]
    · simp [h, Ne.symm h, get_eq_find d l k]

/-- The sum that a direct write of BUDGET_SET would stage. -/
def stagedSum (s : State) (act v : Nat) : Nat :=
  (s.budget.set.mapIdx fun i x => if i = act then 4 * v else Store.get x s.budget.staged i).sum

/-- The code of a direct write of BUDGET_SET. -/
def budgetCode (s : State) (act v : Nat) : Nat :=
  if act = 0 ∧ 4 * v < 12000 then 1 else if 200000 < stagedSum s act v then 2 else 0

/-- A write of BUDGET_SET with the code `k`: without a fault it is staged. -/
def budgetTaken (s : State) (m : Master) (act v k : Nat) : State :=
  { (s.modMaster m fun x => { x with budgetCause := k }) with
    budget := if k ≠ 0 then s.budget else { s.budget with staged := Store.insert s.budget.staged act (4 * v) } }

theorem budgetWrite_eq (s : State) (m : Master) (act v : Nat) : s.budgetWrite m act v = budgetTaken s m act v (budgetCode s act v) := by
  have hsum : (s.budget.set.mapIdx fun i x => (((Store.insert s.budget.staged act (4 * v)).find? fun e => e.1 == i).map (·.2)).getD x).sum
      = stagedSum s act v := by
    refine congrArg List.sum (List.mapIdx_eq_mapIdx_iff.mpr fun i hi => ?_)
    rw [← get_eq_find]
    by_cases h : i = act
    · subst h
      rw [if_pos rfl]
      exact get_insert_self ..
    · rw [if_neg h, get_insert_other _ _ _ h]
  unfold State.budgetWrite
  extract_lets staged result cause s1
  have hc : cause = budgetCode s act v := by
    unfold budgetCode
    rw [← hsum]
  rw [← hc]
  unfold budgetTaken
  by_cases hz : cause = 0
  · rw [if_neg (not_not_intro hz), if_neg (not_not_intro hz)]
    cases m <;> rfl
  · rw [if_pos hz, if_pos hz]
    cases m <;> rfl

theorem encBad_budget {v : Word} (hv : v.toNat ≤ 50000) : encBad 0x3C v = false := by
  have hf : fld v 0 16 = v.toNat := (Nat.mod_eq_of_lt v.isLt) ▸ (by simp [fld, bits])
  unfold encBad
  show ([upTo 0 16 50000].any fun f => !f.2.2 (fld v f.1 f.2.1)) = false
  simp [upTo, hf, hv]

theorem rwMerge_budget {v : Word} (hv : v.toNat ≤ 50000) (old : Word) : rwMerge 0x3C old v = v := by
  refine BitVec.eq_of_getLsbD_eq fun i hi => ?_
  rw [getLsbD_rwMerge old (encBad_budget hv) hi, show covered (rwFields 0x3C) i = true by
    show covered [upTo 0 16 50000] i = true
    simp [covered, upTo, hi], Bool.true_and]

theorem writeCycle_budget {v : Word} (h : s.directs m 0x3C) (hv : v.toNat ≤ 50000) :
    s.writeCycle m 0x3C v = (s.budgetWrite m (s.master m).budgetSel v.toNat).ack m true := by
  rw [writeCycle_store h (encBad_budget hv) (by simp [nowMask])]
  have hs : stored s m 0x3C v = if encBad 0x3C v then s else s.budgetWrite m (s.master m).budgetSel (rwMerge 0x3C (s.regWord m 0x3C) v).toNat := rfl
  rw [hs, encBad_budget hv, rwMerge_budget hv]
  rfl

theorem setShed_eq (s : State) (n : Nat) : s.setShed n = { s with
    ctl := { s.ctl with shed := n, irq0 := s.ctl.irq0 ||| w16 (2 ^ 12) }
    log := (s.setShed n).log, logSeq := (s.setShed n).logSeq } := by
  unfold State.setShed
  rw [logE_eq]
  rfl

/-- The judgements in a row of 60 % or less. -/
def lowRuns (c : CtlSt) (load : Nat) : Nat := if load ≤ 60 then c.lowRun + 1 else 0

/-- The controls after a judgement, before the shed level changes. -/
def judgedCtl (c : CtlSt) (load : Nat) : CtlSt :=
  { c with load, lowRun := if 10 ≤ lowRuns c load then 0 else lowRuns c load, loadFrames := c.loadFrames - 100 }

/-- The shed level that a judgement asks for. -/
def judgedShed (c : CtlSt) (load : Nat) : Nat :=
  if 90 ≤ load ∧ c.shed < 4 then c.shed + 1 else if 10 ≤ lowRuns c load ∧ c.shed ≠ 0 then c.shed - 1 else c.shed

theorem judgeLoad_eq {load : Nat} (h : 100 ≤ s.ctl.loadFrames) : s.judgeLoad load =
    if judgedShed s.ctl load = s.ctl.shed then { s with ctl := judgedCtl s.ctl load }
    else State.setShed { s with ctl := judgedCtl s.ctl load } (judgedShed s.ctl load) := by
  have hj : s.judgeLoad load = if 90 ≤ load ∧ s.ctl.shed < 4 then State.setShed { s with ctl := judgedCtl s.ctl load } (s.ctl.shed + 1)
      else if 10 ≤ lowRuns s.ctl load ∧ s.ctl.shed ≠ 0 then State.setShed { s with ctl := judgedCtl s.ctl load } (s.ctl.shed - 1)
      else { s with ctl := judgedCtl s.ctl load } := if_neg (by omega)
  rw [hj]
  unfold judgedShed
  generalize lowRuns s.ctl load = run
  by_cases h1 : 90 ≤ load ∧ s.ctl.shed < 4
  · simp only [if_pos h1]
    rw [if_neg (by omega)]
  · by_cases h2 : 10 ≤ run ∧ s.ctl.shed ≠ 0
    · simp only [if_neg h1, if_pos h2]
      rw [if_neg (by omega)]
    · simp only [if_neg h1, if_neg h2, if_true]

theorem judgeLoad_ctl {load : Nat} (h : 100 ≤ s.ctl.loadFrames) : (s.judgeLoad load).ctl =
    { judgedCtl s.ctl load with shed := judgedShed s.ctl load
                                irq0 := if judgedShed s.ctl load = s.ctl.shed then s.ctl.irq0 else s.ctl.irq0 ||| w16 (2 ^ 12) } := by
  rw [judgeLoad_eq h]
  split
  · rename_i he
    rw [he]
    rfl
  · rw [setShed_eq]
    rfl

/-- Settles O21. -/
theorem budgetsAndShedding : Obligations.BudgetsAndShedding := by
  unfold Obligations.BudgetsAndShedding
  refine ⟨fun m v s sum h hv hsum => ?_, fun load s h => ?_, fun load s hr hs hf => ?_⟩
  · have hw := (writeCycle_budget h hv).trans (congrArg (fun x => State.ack x m true) (budgetWrite_eq s m _ _))
    have hcode : budgetCode s (s.master m).budgetSel v.toNat = if (s.master m).budgetSel = 0 ∧ v.toNat < 3000 then 1
        else if 200000 < sum then 2 else 0 := by
      unfold budgetCode
      rw [show stagedSum s (s.master m).budgetSel v.toNat = sum from hsum.symm]
      simp only [show 4 * v.toNat < 12000 ↔ v.toNat < 3000 by omega]
    generalize budgetCode s (s.master m).budgetSel v.toNat = k at hw hcode
    generalize hu : budgetTaken s m (s.master m).budgetSel v.toNat k = u at hw
    have hmaster (n : Master) : u.master n = (s.modMaster m fun x => { x with budgetCause := k }).master n := by
      rw [← hu]; cases n <;> rfl
    have hmine : (u.master m).budgetCause = k := (congrArg MasterSt.budgetCause (hmaster m)).trans
      (congrArg MasterSt.budgetCause (master_modMaster ..))
    have hother (n : Master) (hn : n ≠ m) : u.master n = s.master n := (hmaster n).trans (master_modMaster_other s _ hn)
    have hb : u.budget = if k ≠ 0 then s.budget else
        { s.budget with staged := Store.insert s.budget.staged (s.master m).budgetSel (4 * v.toNat) } := by rw [← hu]; rfl
    have hrest : u.pending = s.pending ∧ u.life = s.life ∧ u.fpActive = s.fpActive ∧ u.time = s.time ∧ u.chain = s.chain := by
      rw [← hu]; cases m <;> exact ⟨rfl, rfl, rfl, rfl, rfl⟩
    obtain ⟨hp, hl, hfp, ht, hch⟩ := hrest
    refine ⟨u.ack m true, (congrArg (ok s) hw).trans (ok_next s _ ((ack_pending ..).trans hp) ((ack_life ..).trans hl)), ?_⟩
    have ha : (u.ack m true).budget = u.budget ∧ (u.ack m true).fpActive = u.fpActive ∧ (u.ack m true).time = u.time
        ∧ (u.ack m true).chain = u.chain := by rw [ack_eq]; exact ⟨rfl, rfl, rfl, rfl⟩
    obtain ⟨h1, h2, h3, h4⟩ := ha
    rw [h1, h2, h3, h4, ack_master, hmine, hb]
    refine ⟨by split <;> rfl, by split <;> rfl, fun h => ?_, fun h hs => ?_, fun h hs => ?_, fun n hn => ?_, hfp, ht, hch⟩
    · rw [hcode, if_pos h]
      exact ⟨rfl, rfl⟩
    · rw [hcode, if_neg h, if_pos hs]
      exact ⟨rfl, rfl⟩
    · rw [hcode, if_neg h, if_neg (by omega)]
      exact ⟨rfl, rfl⟩
    · rw [ack_master, hother n hn]
  · have hj : (s.live fun t => t.judgeLoad load.val) = s := ite_eq_right_iff.mpr fun _ => if_pos h
    exact (congrArg (ok s) hj).trans (ok_next s s rfl rfl)
  · have hj : (s.live fun t => t.judgeLoad load.val) = s.judgeLoad load.val := live_ready s hr
    have he : s.judgeLoad load.val = { s with
        ctl := (s.judgeLoad load.val).ctl, log := (s.judgeLoad load.val).log, logSeq := (s.judgeLoad load.val).logSeq } := by
      rw [judgeLoad_eq hf]
      split
      · rfl
      · rw [setShed_eq]
    have hl (hc : judgedShed s.ctl load.val ≠ s.ctl.shed) : ∃ e, Store.get none (s.judgeLoad load.val).log
        (((s.judgeLoad load.val).logSeq + 65535) % 65536 % 256) = some e ∧ e.code = 0x11 := by
      rw [judgeLoad_eq hf, if_neg hc]
      exact logE_newest ..
    have hn := load.isLt
    refine ⟨s.judgeLoad load.val, (congrArg (ok s) hj).trans (ok_next s _ (by rw [he]) (by rw [he])), ?_⟩
    rw [judgeLoad_ctl hf]
    refine ⟨rfl, rfl, fun h => ?_, fun h h9 => ?_, fun h h9 => ?_, fun h => ?_, fun h h9 => ?_, fun h => ⟨?_, hl h⟩, ?_⟩
    · show judgedShed _ _ = _
      unfold judgedShed
      by_cases h4 : s.ctl.shed < 4
      · rw [if_pos ⟨h, h4⟩]; omega
      · rw [if_neg (by omega), if_neg (by rw [show lowRuns s.ctl load.val = 0 from if_neg (by omega)]; omega)]; omega
    · have hl : lowRuns s.ctl load.val = s.ctl.lowRun + 1 := if_pos h
      have hk : judgedShed s.ctl load.val = s.ctl.shed := by
        unfold judgedShed
        rw [hl, if_neg (by omega), if_neg (by omega)]
      exact ⟨hk, (if_neg (by rw [hl]; omega)).trans hl⟩
    · have hl : lowRuns s.ctl load.val = s.ctl.lowRun + 1 := if_pos h
      have hk : judgedShed s.ctl load.val = s.ctl.shed - 1 := by
        unfold judgedShed
        rw [hl, if_neg (by omega)]
        split <;> omega
      exact ⟨hk, if_pos (by rw [hl]; omega)⟩
    · have hl : lowRuns s.ctl load.val = 0 := if_neg (by omega)
      exact (if_neg (by rw [hl]; omega)).trans hl
    · have hl : lowRuns s.ctl load.val = 0 := if_neg (by omega)
      have hk : judgedShed s.ctl load.val = s.ctl.shed := by
        unfold judgedShed
        rw [hl, if_neg (by omega), if_neg (by omega)]
      exact ⟨hk, if_pos hk⟩
    · dsimp only
      rw [if_neg h]
      exact fld_or_bit _ 12 (by decide)
    · rw [← judgeLoad_ctl hf]
      exact he

theorem isZ_of_ge {n : Nat} (h : 448 ≤ n) : isZ n = true := by simpa [isZ] using h

/-- FP_ZSTAT.SCHED shows the operation. -/
theorem zstat_sched (s : State) {n : Nat} (h : 448 ≤ n) : fld (s.fpWord n 15 true) 0 1 = b2n (scheduled n (s.blkA n)) := by
  have hw : s.fpWord n 15 true = s.zstatWord n := if_pos (isZ_of_ge h)
  rw [hw]
  exact (fld_setFld_self _ _ (by decide)).trans (by cases scheduled n (s.blkA n) <;> rfl)

/-- Settles O57. -/
theorem operationFollowsActiveSlots : Obligations.OperationFollowsActiveSlots := by
  unfold Obligations.OperationFollowsActiveSlots
  intro s n hn hn2
  have hs := zstat_sched s hn
  have hz := isZ_of_ge hn
  refine ⟨fun h1 => ?_, fun h0 => ?_, fun h0 h2 => ?_⟩
  · have hf : scheduled n (s.blkA n) = false := by
      have : (activeSlots (s.blkA n)).length = 1 := h1
      simp [scheduled, this]
    exact ⟨hf, by rw [hs, hf]; rfl⟩
  · have hf : scheduled n (s.blkA n) = false := by simp [scheduled, h0]
    exact ⟨hf, by rw [hs, hf]; rfl⟩
  · have hf : scheduled n (s.blkA n) = true := by
      have : 2 ≤ (activeSlots (s.blkA n)).length := h2
      simp [scheduled, this, hz, h0]
    exact ⟨hf, by rw [hs, hf]; rfl⟩

/-- After reset the word of the timebase's rate, a rational's, is 0. -/
theorem reset_tbRate : (State.reset.regWord .host 0x17).toNat = 0 := by
  have hr : roundHalf (State.reset.time.freq / 10) = 0 := by
    have hf : State.reset.time.freq = 0 := rfl
    have hh : ((1 : Rat) / 2).floor = 0 := by norm_num [Rat.floor]
    norm_num [roundHalf, hf, hh]
  have h : State.reset.regWord .host 0x17 = w16i (max (-20000) (min 20000 (roundHalf (State.reset.time.freq / 10)))) := rfl
  rw [h, hr]
  rfl

/-- A register word reads after reset as listed: by evaluation, but for the word of the rate. -/
def resetHolds (e : Nat × Nat) : Bool :=
  if e.1 = 0x17 then e.2 == 0 else (State.reset.regWord .host e.1).toNat == e.2

theorem of_resetHolds {e : Nat × Nat} (h : resetHolds e = true) : (State.reset.regWord .host e.1).toNat = e.2 := by
  unfold resetHolds at h
  split at h
  · rename_i h17
    rw [h17, reset_tbRate, eq_of_beq h]
  · exact eq_of_beq h

/-- Settles O59. -/
theorem resetRegisterValues : Obligations.ResetRegisterValues := by
  unfold Obligations.ResetRegisterValues
  intro e he
  refine of_resetHolds ?_
  revert e
  decide

end Sys2Proof.Proofs
end

section
/-! PROPERTY. Causes of fault, protection, alarms, the rail and the tones (O26, O27). -/

namespace Sys2Proof.Proofs

open Sys2Proof Sys2Proof.Machine Sys2Proof.Laws

variable {s t u : State} {m : Master}

/-- In a running device an event that keeps the queue and the life answers its effect. -/
theorem live_next {f : State → State} (hr : s.ready = true) (hp : (f s).pending = s.pending) (hl : (f s).life = s.life) :
    ok s (s.live f) = .next (f s) := by
  rw [live_ready s hr]
  exact ok_next s (f s) hp hl

/-! ## What the causes do to a facet -/

/-- A facet as an alarm of its window leaves it: the words of the window alone may change. -/
def sameButAlarm (f g : FacetRT) : Prop :=
  g = { f with alarmFrom := g.alarmFrom, alarmSent := g.alarmSent, alarmHeld := g.alarmHeld }

theorem facetAlarm_facet (s : State) (n c d : Nat) : sameButAlarm (s.facet n) ((s.facetAlarm n c d).facet n) := by
  unfold State.facetAlarm
  extract_lets f
  split
  · rw [alarm_facet, facet_setFacet]; rfl
  · split
    · rw [alarm_facet, facet_setFacet]; rfl
    · rw [facet_setFacet]; rfl

/-- The facet with a cause entered, its alarm aside. -/
def FacetEntered (s : State) (n k : Nat) (g : FacetRT) : Prop :=
  g.faultNow = (s.facet n).faultNow ||| w16 (2 ^ k) ∧ g.faultSeen = (s.facet n).faultSeen ||| w16 (2 ^ k) ∧
    ((s.facet n).faultNow = 0 → g.faultSpans.head? = some (s.tick, none))

/-- What neither a cause nor an alarm changes in a facet. -/
def FacetSpared (f g : FacetRT) : Prop := g.isolated = f.isolated ∧ g.driveOff = f.driveOff ∧ g.settle = f.settle

theorem sameButAlarm.spared {f g : FacetRT} (h : sameButAlarm f g) : FacetSpared f g := by
  unfold sameButAlarm at h
  rw [h]
  exact ⟨rfl, rfl, rfl⟩

theorem enterCause_spared (s : State) (n k : Nat) : FacetSpared (s.facet n) ((s.enterCause n k).facet n) := by
  unfold State.enterCause
  extract_lets f b was f' s1 s2
  split
  · exact ⟨rfl, rfl, rfl⟩
  · have h := (facetAlarm_facet s2 n 1 f'.faultNow.toNat).spared
    have h2 : s2.facet n = f' := ite_keeps (fun t : State => t.facet n) (facet_setFacet s n f') (facet_setFacet s n f')
    rwa [h2] at h

/-- A cause that a facet does not have enters: the bits of the present and of the past, and a span of fault. -/
theorem enterCause_entered {n k : Nat} (h : (s.facet n).faultNow &&& w16 (2 ^ k) = 0) :
    FacetEntered s n k ((s.enterCause n k).facet n) := by
  unfold State.enterCause
  extract_lets f b was f' s1 s2
  rw [if_neg (not_not_intro h)]
  have ha := facetAlarm_facet s2 n 1 f'.faultNow.toNat
  have h2 : s2.facet n = f' := ite_keeps (fun t : State => t.facet n) (facet_setFacet s n f') (facet_setFacet s n f')
  rw [h2] at ha
  unfold sameButAlarm at ha
  rw [ha]
  refine ⟨rfl, rfl, fun h0 => ?_⟩
  have hw : was = false := by simp [was, FacetRT.inFault, f, h0]
  simp [f', hw]

theorem w16_bit_ne {k : Nat} (hk : k < 16) : w16 (2 ^ k) ≠ 0 := by
  intro h
  have hz := congrArg BitVec.toNat h
  have h2 : 2 ^ k < 65536 := Nat.pow_lt_pow_right (by decide) hk
  have h3 : 2 ^ k % 65536 = 0 := by simpa [w16] using hz
  rw [Nat.mod_eq_of_lt h2] at h3
  exact absurd h3 (Nat.two_pow_pos k).ne'

/-- After a cause has entered it stands, whether it stood before or not. -/
theorem enterCause_stands (s : State) (n : Nat) {k : Nat} (hk : k < 16) :
    ((s.enterCause n k).facet n).faultNow &&& w16 (2 ^ k) ≠ 0 := by
  by_cases h : (s.facet n).faultNow &&& w16 (2 ^ k) = 0
  · obtain ⟨hn, -, -⟩ := enterCause_entered h
    have hself : (((s.facet n).faultNow ||| w16 (2 ^ k)) &&& w16 (2 ^ k)) = w16 (2 ^ k) := by
      ext i hi; simpa using Or.inr
    rw [hn, hself]
    exact w16_bit_ne hk
  · unfold State.enterCause
    extract_lets f b was f' s1 s2
    rw [if_pos h]
    exact h

theorem leaveCauses_eq (s : State) (n k : Nat) :
    s.leaveCauses n k = { s with facets := (s.leaveCauses n k).facets, msg := (s.leaveCauses n k).msg } := by
  unfold State.leaveCauses
  extract_lets f now spans s1
  split
  · rfl
  · split
    · rw [facetAlarm_eq]; rfl
    · rfl

theorem leaveCauses_facet_other (s : State) {n j : Nat} (k : Nat) (h : j ≠ n) : (s.leaveCauses n k).facet j = s.facet j := by
  unfold State.leaveCauses
  extract_lets f now spans s1
  have h1 : s1.facet j = s.facet j := facet_setFacet_other s _ h
  split
  · rfl
  · exact ite_keeps (fun t : State => t.facet j) ((facetAlarm_facet_other s1 n 2 0 h).trans h1) h1

/-- The facet that causes have left: the causes seen, its drive and its windows stay. -/
theorem leaveCauses_facet (s : State) (n k : Nat) : ((s.leaveCauses n k).facet n).faultNow &&& w16 k = 0 ∧
    ((s.leaveCauses n k).facet n).faultSeen = (s.facet n).faultSeen ∧
    FacetSpared (s.facet n) ((s.leaveCauses n k).facet n) := by
  have hand (w b : Word) : w &&& ~~~b &&& b = 0 := by
    ext i hi; simp
  unfold State.leaveCauses
  extract_lets f now spans s1
  have h1 : s1.facet n = { f with faultNow := now, faultSpans := spans, checkBarred := f.checkBarred && now != 0 } :=
    facet_setFacet s n _
  split
  case isTrue h =>
    refine ⟨?_, rfl, rfl, rfl, rfl⟩
    change f.faultNow &&& w16 k = 0
    rw [← h]
    exact hand _ _
  case isFalse h =>
    split
    · have ha := facetAlarm_facet s1 n 2 0
      unfold sameButAlarm at ha
      rw [ha, h1]
      exact ⟨hand _ _, rfl, rfl, rfl, rfl⟩
    · rw [h1]
      exact ⟨hand _ _, rfl, rfl, rfl, rfl⟩

/-! ## Folds over facets -/

/-- A property that every step keeps holds at the end of the fold. -/
theorem foldl_keeps {α : Type} {P : State → Prop} {f : State → α → State} (hf : ∀ t a, P t → P (f t a)) :
    ∀ (l : List α) (s : State), P s → P (l.foldl f s)
  | [], _, h => h
  | a :: l, s, h => foldl_keeps hf l _ (hf s a h)

/-- What a step establishes for its own element, and keeps for every element, holds at the end for all of them. -/
theorem foldl_each {α : Type} {P : α → State → Prop} {f : State → α → State} (hown : ∀ n t, P n (f t n))
    (hkeep : ∀ n k t, P n t → P n (f t k)) (l : List α) : ∀ s : State, ∀ n ∈ l, P n (l.foldl f s) := by
  induction l with
  | nil => intro s n hn; cases hn
  | cons a l ih =>
    intro s n hn
    rcases List.mem_cons.1 hn with rfl | hn
    · exact foldl_keeps (fun t k => hkeep n k t) l _ (hown n s)
    · exact ih _ n hn

/-! ## Protection (R30) -/

theorem protection_isolates {n : Nat} (hin : (s.facet n).sig.inSpan = false) (hi : (s.facet n).isolated = false) :
    ((s.isolate n).facet n).isolated = true ∧ ((s.blkA n).type ≠ 0 → ((s.isolate n).facet n).faultNow &&& 0x80 ≠ 0) ∧
      s.isolate n = { s with facets := (s.isolate n).facets, ctl := (s.isolate n).ctl, msg := (s.isolate n).msg } := by
  unfold State.isolate
  extract_lets f s1
  have h1 : s1.facet n = { f with isolated := true, inSpanCnt := 0 } := facet_setFacet s n _
  rw [if_neg (show ¬ (f.sig.inSpan = true ∨ f.isolated = true) by simp [f, hin, hi])]
  split
  case isTrue h => exact ⟨by rw [h1], fun hn => absurd h hn, rfl⟩
  case isFalse h =>
    obtain ⟨hiso, -, -⟩ := enterCause_spared s1 n 7
    exact ⟨hiso.trans (by rw [h1]), fun _ => enterCause_stands s1 n (by decide), enterCause_eq s1 n 7⟩

theorem isolation_ends {n : Nat} (hi : (s.facet n).isolated = true) (hc : 8 ≤ (s.facet n).inSpanCnt) :
    ((s.isolationEnd n).facet n).isolated = false ∧ ((s.isolationEnd n).facet n).faultNow &&& 0x80 = 0 ∧
      (s.facet n).settle.length < ((s.isolationEnd n).facet n).settle.length ∧
      s.isolationEnd n = { s with facets := (s.isolationEnd n).facets, msg := (s.isolationEnd n).msg } := by
  unfold State.isolationEnd
  extract_lets f _ s1
  have h1 : s1.facet n = { f.openSettle (settleLen n (s.blkA n)) with isolated := false, inSpanCnt := 0 } :=
    facet_setFacet s n _
  rw [if_pos ⟨hi, hc⟩]
  obtain ⟨hnow, -, hiso, -, hset⟩ := leaveCauses_facet s1 n 128
  refine ⟨hiso.trans (by rw [h1]), hnow, ?_, leaveCauses_eq s1 n 128⟩
  rw [hset, h1]
  simp [FacetRT.openSettle, f]

/-! ## Causes enter and leave (R53, R96) -/

theorem enterDue_of {n : Nat} {c : Cause}
    (h : (c ≠ .snsOpen ∧ (s.enterNeed c ≤ Store.get 0 (s.facet n).enterCnt (causeBit c) ∨
        s.enterNeed c ≤ Store.get 0 (s.facet n).enterCnt (16 + causeBit c))) ∨
      (c = .snsOpen ∧ ∃ j ∈ activeSlots (s.blkA n), (Store.get (0, 0, false) (s.facet n).sns j).2.2 = true)) :
    s.enterDue n c = true := by
  rcases h with ⟨hc, h⟩ | ⟨rfl, j, hj, hb⟩
  · have hd : s.enterDue n c = (decide (s.enterNeed c ≤ Store.get 0 (s.facet n).enterCnt (causeBit c))
        || decide (s.enterNeed c ≤ Store.get 0 (s.facet n).enterCnt (16 + causeBit c))) := by
      cases c with
      | snsOpen => exact absurd rfl hc
      | _ => rfl
    rw [hd]
    simpa using h
  · exact List.any_eq_true.2 ⟨j, hj, hb⟩

theorem leaveDue_of {n : Nat} {c : Cause}
    (h : (c ≠ .snsOpen ∧ s.leaveNeed c ≤ Store.get 0 (s.facet n).leaveCnt (causeBit c) ∧ s.standsNow n c = false) ∨
      (c = .snsOpen ∧ (∀ j ∈ activeSlots (s.blkA n), (Store.get (0, 0, false) (s.facet n).sns j).2.2 = false) ∧
        ∃ j ∈ activeSlots (s.blkA n), 8 ≤ (Store.get (0, 0, false) (s.facet n).sns j).2.1)) :
    s.leaveDue n c = true := by
  rcases h with ⟨hc, h, hs⟩ | ⟨rfl, hall, j, hj, hb⟩
  · have hd : s.leaveDue n c = (decide (s.leaveNeed c ≤ Store.get 0 (s.facet n).leaveCnt (causeBit c))
        && !s.standsNow n c) := by
      cases c with
      | snsOpen => exact absurd rfl hc
      | _ => rfl
    simp [hd, h, hs]
  · simp only [State.leaveDue, Bool.and_eq_true, List.all_eq_true, List.any_eq_true, Bool.not_eq_true', decide_eq_true_eq]
    exact ⟨hall, j, hj, hb⟩

/-- A check that is asked for changes the spares' wants and the count of stamps alone. -/
theorem wantCheck_eq (s : State) (n : Nat) (d : Bool) : s.wantCheck n d =
    { s with spare := (s.wantCheck n d).spare, ctl := { s.ctl with stamp := (s.wantCheck n d).ctl.stamp } } := by
  unfold State.wantCheck
  extract_lets s1
  split <;> rfl

theorem wantCheck_facet (s : State) (n j : Nat) (d : Bool) : (s.wantCheck n d).facet j = s.facet j := by
  unfold State.facet
  rw [wantCheck_eq]

/-- A cause enters as `enterCause` says; an excitation cause may ask for a check besides. -/
theorem faultEnter_cases {n : Nat} {c : Cause} (hd : s.enterDue n c = true) (ht : (s.blkA n).type ≠ 0) :
    s.faultEnter n c = s.enterCause n (causeBit c) ∨
      causeIsExc c = true ∧ s.faultEnter n c = (s.enterCause n (causeBit c)).wantCheck n true := by
  unfold State.faultEnter
  extract_lets new s1
  rw [if_pos ⟨hd, ht⟩]
  split
  case isTrue h =>
    simp only [Bool.and_eq_true] at h
    exact .inr ⟨h.1.1, rfl⟩
  case isFalse => exact .inl rfl

/-- What a cause that enters does. -/
def CauseEntered (s : State) (n : Nat) (c : Cause) (t : State) : Prop :=
  (t.facet n).faultNow = (s.facet n).faultNow ||| w16 (2 ^ causeBit c) ∧
    (t.facet n).faultSeen = (s.facet n).faultSeen ||| w16 (2 ^ causeBit c) ∧
    ((s.facet n).faultNow = 0 → fld t.ctl.irq0 0 1 = 1 ∧ (t.facet n).faultSpans.head? = some (s.tick, none)) ∧
    (causeIsExc c = false → t = { s with facets := t.facets, ctl := t.ctl, msg := t.msg }) ∧ t.fpActive = s.fpActive ∧
    t.pending = s.pending ∧ t.life = s.life

theorem enterCause_causeEntered {n : Nat} {c : Cause} (hn : (s.facet n).faultNow &&& w16 (2 ^ causeBit c) = 0) :
    CauseEntered s n c (s.enterCause n (causeBit c)) := by
  obtain ⟨h1, h2, h3⟩ := enterCause_entered hn
  have heq := enterCause_eq s n (causeBit c)
  refine ⟨h1, h2, fun h0 => ⟨enterCause_raises s n _ h0, h3 h0⟩, fun _ => heq, enterCause_fpActive .., ?_, ?_⟩ <;> rw [heq]

theorem faultEnter_entered {n : Nat} {c : Cause} (hd : s.enterDue n c = true) (ht : (s.blkA n).type ≠ 0)
    (hn : (s.facet n).faultNow &&& w16 (2 ^ causeBit c) = 0) : CauseEntered s n c (s.faultEnter n c) := by
  have h := enterCause_causeEntered hn
  rcases faultEnter_cases hd ht with he | ⟨hx, he⟩
  · rwa [he]
  · obtain ⟨h1, h2, h3, -, h5, h6, h7⟩ := h
    have hw := wantCheck_eq (s.enterCause n (causeBit c)) n true
    rw [he]
    refine ⟨?_, ?_, ?_, fun hc => (Bool.false_ne_true (hc.symm.trans hx)).elim, ?_, ?_, ?_⟩
    · rwa [wantCheck_facet]
    · rwa [wantCheck_facet]
    · rw [wantCheck_facet, hw]; exact h3
    · rw [hw]; exact h5
    · rw [hw]; exact h6
    · rw [hw]; exact h7

/-! ## The end of an alarm window (R327) -/

theorem alarmWindow_ends {n b : Nat} (hb : (s.facet n).alarmFrom = some b) (ht : b + 4000 ≤ s.tick) :
    ((s.alarmWindowEnd n).facet n).alarmFrom = none ∧ ((s.alarmWindowEnd n).facet n).alarmHeld = 0 ∧
      (s.alarmWindowEnd n).msg.seq.a = (if (s.facet n).alarmHeld = 0 then s.msg.seq.a else (s.msg.seq.a + 1) % 65536) ∧
      (s.alarmWindowEnd n).msg.out.length = s.msg.out.length + (if (s.facet n).alarmHeld = 0 then 0 else 1) ∧
      s.alarmWindowEnd n = { s with facets := (s.alarmWindowEnd n).facets, msg := (s.alarmWindowEnd n).msg } := by
  have he : s.alarmWindowEnd n =
      (if (s.facet n).alarmHeld = 0 then s.setFacet n { s.facet n with alarmFrom := none, alarmSent := 0, alarmHeld := 0 }
       else (s.setFacet n { s.facet n with alarmFrom := none, alarmSent := 0, alarmHeld := 0 }).alarmAt (b + 4000) 12 n
        (min (s.facet n).alarmHeld 65535 + (s.facet n).faultNow.toNat * 65536)) := by
    unfold State.alarmWindowEnd
    extract_lets f
    split
    case h_1 h => rw [hb] at h; cases h
    case h_2 a h =>
      obtain rfl : b = a := Option.some.inj (hb.symm.trans h)
      rw [if_pos ht]
  have hf (t : State) (j c o d : Nat) : (t.alarmAt j c o d).facet n = t.facet n := rfl
  rw [he]
  split
  case isTrue h => exact ⟨by rw [facet_setFacet], by rw [facet_setFacet], rfl, rfl, rfl⟩
  case isFalse h =>
    refine ⟨?_, ?_, rfl, ?_, rfl⟩
    · rw [hf, facet_setFacet]
    · rw [hf, facet_setFacet]
    · exact List.length_append

/-- Settles O26: each event is one operation on its facet, whose causes, window and alarm are said once. -/
theorem faultsAndProtection : Obligations.FaultsAndProtection := by
  refine ⟨⟨fun f s hr hin hi => ?_, fun f s hr hi hc => ?_⟩, ⟨fun f c s hr ht hd hn => ?_, fun f c s hr hd => ?_⟩,
    fun f s b hr hb ht => ?_⟩
  · obtain ⟨h1, h2, h3⟩ := protection_isolates hin hi
    exact ⟨_, live_next hr (f := fun t => t.isolate f.val) (by rw [h3]) (by rw [h3]), h1, h2, h3⟩
  · obtain ⟨h1, h2, h3, h4⟩ := isolation_ends hi hc
    exact ⟨_, live_next hr (f := fun t => t.isolationEnd f.val) (by rw [h4]) (by rw [h4]), h1, h2, h3, h4⟩
  · obtain ⟨h1, h2, h3, h4, h5, h6, h7⟩ := faultEnter_entered (enterDue_of hd) ht hn
    exact ⟨_, live_next hr (f := fun t => t.faultEnter f.val c) h6 h7, h1, h2, h3, h4, h5⟩
  · have he : s.faultLeave f.val c = s.leaveCauses f.val (2 ^ causeBit c) := if_pos (leaveDue_of hd)
    have hq := leaveCauses_eq s f.val (2 ^ causeBit c)
    obtain ⟨h1, h2, -⟩ := leaveCauses_facet s f.val (2 ^ causeBit c)
    rw [← he] at hq h1 h2
    exact ⟨_, live_next hr (f := fun t => t.faultLeave f.val c) (by rw [hq]) (by rw [hq]), h1, h2, hq⟩
  · obtain ⟨h1, h2, h3, h4, h5⟩ := alarmWindow_ends hb ht
    exact ⟨_, live_next hr (f := fun t => t.alarmWindowEnd f.val) (by rw [h5]) (by rw [h5]), h1, h2, h3, h4, h5⟩

/-! ## The tones (R75, R87) -/

theorem toneLoss_each (s : State) : s.toneLoss.exc = { s.exc with lock := false, resume := false } ∧
    s.toneLoss.fpActive = s.fpActive ∧ s.toneLoss.pending = s.pending ∧ s.toneLoss.life = s.life ∧
    ∀ n ∈ s.zAssigned, (s.toneLoss.facet n).driveOff = true ∧ (s.toneLoss.facet n).faultNow &&& 0x100 ≠ 0 := by
  have heq := toneLoss_raised s
  unfold Raised at heq
  refine ⟨by rw [heq], by rw [heq], by rw [heq], by rw [heq], ?_⟩
  unfold State.toneLoss State.forFacets
  refine foldl_each (P := fun n t => (t.facet n).driveOff = true ∧ (t.facet n).faultNow &&& 0x100 ≠ 0)
    (fun n t => ⟨?_, enterCause_stands _ n (by decide)⟩) (fun n k t h => ?_) _ _
  · obtain ⟨-, hd, -⟩ := enterCause_spared (t.modFacet n fun f => { f with driveOff := true }) n 8
    rw [hd, facet_modFacet]
  · by_cases hk : n = k
    · subst hk
      obtain ⟨-, hd, -⟩ := enterCause_spared (t.modFacet n fun f => { f with driveOff := true }) n 8
      exact ⟨by rw [hd, facet_modFacet], enterCause_stands _ n (by decide)⟩
    · rw [enterCause_facet_other _ _ _ hk]
      exact (facet_setFacet_other t _ hk) ▸ h

theorem foldl_leave_eq (k : Nat) (l : List Nat) (s : State) : l.foldl (fun t n => t.leaveCauses n k) s =
    { s with facets := (l.foldl (fun t n => t.leaveCauses n k) s).facets
             msg := (l.foldl (fun t n => t.leaveCauses n k) s).msg } :=
  foldl_rel (R := fun a b : State => b = { a with facets := b.facets, msg := b.msg }) (fun _ => rfl)
    (fun {_ _ c} h1 h2 => h2.trans (congrArg (fun x : State => { x with facets := c.facets, msg := c.msg }) h1))
    (fun b a => leaveCauses_eq b a k) l s

theorem leaveCauses_drive (s : State) (n j k : Nat) : ((s.leaveCauses n k).facet j).driveOff = (s.facet j).driveOff := by
  by_cases h : j = n
  · subst h
    obtain ⟨-, -, -, hd, -⟩ := leaveCauses_facet s j k
    exact hd
  · rw [leaveCauses_facet_other s k h]

theorem toneReturn_each (he : fld s.exc.ztone 0 1 = 1) (hl : s.exc.lock = false) :
    s.toneReturn.exc = { s.exc with lock := true, resume := true, resumeStamp := s.ctl.stamp + 1 } ∧
      s.toneReturn.pending = s.pending ∧ s.toneReturn.life = s.life ∧
      ∀ n ∈ s.zAssigned, (s.toneReturn.facet n).faultNow &&& 0x100 = 0 ∧
        (s.toneReturn.facet n).driveOff = (s.facet n).driveOff := by
  unfold State.toneReturn
  extract_lets s1 _ s2
  rw [if_neg (by simp [he, hl])]
  unfold State.forFacets
  have heq := foldl_leave_eq 256 s2.zAssigned s2
  have hz : s2.zAssigned = s.zAssigned := rfl
  rw [hz] at heq ⊢
  refine ⟨by rw [heq]; rfl, by rw [heq]; rfl, by rw [heq]; rfl, fun n hn => ⟨?_, ?_⟩⟩
  · refine foldl_each (P := fun n t => (t.facet n).faultNow &&& 0x100 = 0) (fun n t => ?_) (fun n k t h => ?_) _ s2 n hn
    · exact (leaveCauses_facet t n 256).1
    · by_cases hk : n = k
      · subst hk; exact (leaveCauses_facet t n 256).1
      · rwa [leaveCauses_facet_other t 256 hk]
  · exact foldl_keeps (P := fun t => (t.facet n).driveOff = (s.facet n).driveOff)
      (fun t k h => (leaveCauses_drive t k n 256).trans h) _ s2 rfl

/-- A Z drive that resumes: its settling window is the last one. -/
def resumedDrive (t : State) (n : Nat) (f : FacetRT) : FacetRT :=
  { f with driveOff := false, settle := f.settle.filter (fun w => !w.exc) ++
      [{ left := settleLen n (t.blkA n), waitS := monitorJudges n (t.blkA n), exc := true }] }

theorem resumedDrive_runs (t : State) (n : Nat) (f : FacetRT) :
    (resumedDrive t n f).driveOff = false ∧ (resumedDrive t n f).settle ≠ [] := by
  simp [resumedDrive]

theorem zResume_each (hm : s.exc.resume = true) (hd : s.due s.exc.resumeStamp = true) :
    s.zResume.exc = { s.exc with resume := false } ∧ s.zResume = { s with exc := s.zResume.exc, facets := s.zResume.facets } ∧
      ∀ n ∈ s.zAssigned, (s.zResume.facet n).driveOff = false ∧ (s.zResume.facet n).settle ≠ [] := by
  have he : s.zResume = s.zAssigned.foldl (fun t n => t.modFacet n (resumedDrive t n))
      { s with exc := { s.exc with resume := false } } := if_pos ⟨hm, hd⟩
  have heq := foldl_rel (R := fun a b : State => b = { a with facets := b.facets }) (fun _ => rfl)
    (fun {_ _ c} h1 h2 => h2.trans (congrArg (fun x : State => { x with facets := c.facets }) h1))
    (f := fun t n => t.modFacet n (resumedDrive t n)) (fun b a => rfl) s.zAssigned
    { s with exc := { s.exc with resume := false } }
  rw [← he] at heq
  have hx : s.zResume.exc = { s.exc with resume := false } := by rw [heq]
  refine ⟨hx, by rw [hx]; exact heq, ?_⟩
  rw [he]
  refine foldl_each (P := fun n t => (t.facet n).driveOff = false ∧ (t.facet n).settle ≠ []) (fun n t => ?_)
    (fun n k t h => ?_) _ _
  · rw [facet_modFacet]; exact resumedDrive_runs ..
  · by_cases hk : n = k
    · subst hk; rw [facet_modFacet]; exact resumedDrive_runs ..
    · exact (facet_setFacet_other t _ hk).symm ▸ h

/-- Settles O27: the rail's events are one update each; those of the tones go over the Z-facets. -/
theorem railAndTones : Obligations.RailAndTones := by
  refine ⟨fun s hr => ⟨fun hc ho => ?_, fun hc => ?_, fun hc ho => ?_, fun hc => ?_, fun hv ha ho => ?_, fun hc => ?_⟩,
    fun s hr => ⟨?_, fun he hl => ?_, fun hm hd => ?_⟩⟩
  · have he : s.excRailOver = ({ s with exc := { s.exc with railOver := true } }.irq0 1).alarm 3 objDevice s.exc.railMa :=
      if_pos ⟨hc, by simp [ho]⟩
    refine ⟨_, live_next hr (f := State.excRailOver) (by rw [he]; rfl) (by rw [he]; rfl), ?_⟩
    rw [he]
    exact ⟨rfl, fld_or_bit _ 1 (by decide), rfl⟩
  · have he : s.excRailOverClear = { s with exc := { s.exc with railOver := false } } := if_pos hc
    exact (live_next hr (f := State.excRailOverClear) (by rw [he]) (by rw [he])).trans (congrArg _ he)
  · have he : s.excRailFold = { s with exc := { s.exc with fold := true } }.alarm 4 objDevice s.exc.railMa :=
      if_pos ⟨hc, by simp [ho]⟩
    refine ⟨_, live_next hr (f := State.excRailFold) (by rw [he]; rfl) (by rw [he]; rfl), ?_⟩
    rw [he]
    exact ⟨rfl, rfl⟩
  · have he : s.excFoldClear = { s with exc := { s.exc with fold := false } } := if_pos hc
    exact (live_next hr (f := State.excFoldClear) (by rw [he]) (by rw [he])).trans (congrArg _ he)
  · have he : s.excHeadroom = { s with exc := { s.exc with headroom := true } }.alarm 5 objDevice s.exc.exvdd :=
      if_pos ⟨hv, ha, by simp [ho]⟩
    refine ⟨_, live_next hr (f := State.excHeadroom) (by rw [he]; rfl) (by rw [he]; rfl), ?_⟩
    rw [he]
    exact ⟨rfl, rfl⟩
  · have hn : ¬ (s.exc.exvdd < 11500 ∧ s.any10V = true) := by
      rintro ⟨h1, h2⟩
      rcases hc with h | h
      · omega
      · exact Bool.false_ne_true (h.symm.trans h2)
    have he : s.excHeadroomClear = { s with exc := { s.exc with headroom := false } } := if_pos hn
    exact (live_next hr (f := State.excHeadroomClear) (by rw [he]) (by rw [he])).trans (congrArg _ he)
  · obtain ⟨h1, h2, h3, h4, h5⟩ := toneLoss_each s
    exact ⟨_, live_next hr (f := State.toneLoss) h3 h4, h1, h5, h2⟩
  · obtain ⟨h1, h2, h3, h4⟩ := toneReturn_each he hl
    exact ⟨_, live_next hr (f := State.toneReturn) h2 h3, h1, h4⟩
  · obtain ⟨h1, h2, h3⟩ := zResume_each hm hd
    exact ⟨_, live_next hr (f := State.zResume) (by rw [h2]) (by rw [h2]), h1, h3, h2⟩

end Sys2Proof.Proofs
end

section
/-! PROPERTY. The mode, range changes and applies of facet parameters (O24, O25, O32). -/

namespace Sys2Proof.Proofs

open Sys2Proof Sys2Proof.Machine Sys2Proof.Laws

-- one proof at a time: the text is compiled as a whole, and the proofs side by side would need too much memory
set_option Elab.async false

variable {s t u : State} {m : Master}

/-! ## A change of mode (R216 to R219) -/

/-- Beads and messages alone have changed. -/
def BeadsOnly (s u : State) : Prop := u = { s with bead := u.bead, msg := u.msg }

theorem BeadsOnly.refl (s : State) : BeadsOnly s s := rfl

theorem BeadsOnly.trans (h1 : BeadsOnly s t) (h2 : BeadsOnly t u) : BeadsOnly s u :=
  Eq.trans h2 (congrArg (fun v : State => { v with bead := u.bead, msg := u.msg }) h1)

theorem lose_beadsOnly (s : State) (a b c d e f : Nat) : BeadsOnly s (s.lose a b c d e f) := by
  unfold BeadsOnly
  rw [lose_eq]

theorem forceBeads_beadsOnly (s : State) (p c : Nat) : BeadsOnly s (s.forceBeads p c) := by
  unfold State.forceBeads
  extract_lets s1 s2 s3
  have h1 : BeadsOnly s s1 := foldl_rel BeadsOnly.refl BeadsOnly.trans (fun t w => lose_beadsOnly t ..) _ s
  have h2 : BeadsOnly s s2 := h1.trans rfl
  have h3 : BeadsOnly s s3 := h2.trans (by by_cases h : c = 2 <;> simp only [s3, h] <;> rfl)
  exact h3.trans rfl

/-- The state in which the mode, its cause and the mask of the ports that hold stand. -/
def modeMarked (s : State) (tally : Bool) (cause : Nat) : State :=
  let v : State := { s with ctl := { s.ctl with tally, modeCause := cause } }
  { v with ctl := { v.ctl with tallyHold := v.holdMask } }

/-- The state in which the interrupt and the log entry of the change stand too. -/
def modeSet (s : State) (tally : Bool) (cause : Nat) : State :=
  ((modeMarked s tally cause).irq1 1).logE 9 noMaster 0 (BitVec.ofNat 32 cause)

theorem setMode_beadsOnly (s : State) (w : Bool) (c : Nat) : BeadsOnly (modeSet s w c) (s.setMode w c) := by
  unfold State.setMode
  extract_lets _ s1 _ s2 s3
  have h3 : s3 = modeSet s w c := rfl
  rw [← h3]
  clear_value s3
  split
  · exact foldl_rel BeadsOnly.refl BeadsOnly.trans (fun t p => (rfl : BeadsOnly t (t.dutyFrom p))) _ s3
  · exact foldl_rel BeadsOnly.refl BeadsOnly.trans (fun t p => forceBeads_beadsOnly t p 1) _ s3

/-- What a change of mode to `w` with cause `c` does. -/
def ModeChanged (s : State) (w : Bool) (c : Nat) (t : State) : Prop :=
  t.ctl.tally = w ∧ t.ctl.modeCause = c ∧ fld t.ctl.irq1 1 1 = 1 ∧ t.time = s.time ∧ t.fpActive = s.fpActive ∧
    ∃ e, Store.get none t.log ((t.logSeq + 65535) % 65536 % 256) = some e ∧ e.code = 9

theorem setMode_changed (s : State) (w : Bool) (c : Nat) : ModeChanged s w c (s.setMode w c) := by
  have h := setMode_beadsOnly s w c
  unfold BeadsOnly at h
  have hctl : (modeSet s w c).ctl = ((modeMarked s w c).irq1 1).ctl := logE_ctl ..
  refine ⟨?_, ?_, ?_, ?_, ?_, ?_⟩ <;> rw [h]
  · exact congrArg CtlSt.tally hctl
  · exact congrArg CtlSt.modeCause hctl
  · exact (congrArg (fun x : CtlSt => fld x.irq1 1 1) hctl).trans (fld_or_bit _ 1 (by decide))
  · exact logE_time ((modeMarked s w c).irq1 1) ..
  · exact logE_fpActive ((modeMarked s w c).irq1 1) ..
  · exact logE_newest ((modeMarked s w c).irq1 1) ..

section
variable (hr : s.ready = true) (hf : s.ctl.frameAt = some s.tick) (hd : s.commitStamps.any s.due = false)
include hr hf hd

/-- At a frame boundary that has made its commits the mode changes where another is wanted. -/
theorem modeChange_sets (hw : s.modeWanted.1 ≠ s.ctl.tally) :
    ∃ t, exec .modeChange s = .next t ∧ ModeChanged s s.modeWanted.1 s.modeWanted.2 t := by
  have he : s.live State.modeChange = s.setMode s.modeWanted.1 s.modeWanted.2 := by
    rw [live_ready s hr]
    unfold State.modeChange
    rw [if_neg (by simp [hf, hd])]
    exact if_neg hw
  refine ⟨_, (congrArg (ok s) he).trans (ok_eq ..), ?_⟩
  exact setMode_changed s _ _

theorem modeChange_stays (hw : s.modeWanted.1 = s.ctl.tally) : exec .modeChange s = .next s := by
  have he : s.live State.modeChange = s := by
    rw [live_ready s hr]
    unfold State.modeChange
    rw [if_neg (by simp [hf, hd])]
    exact if_pos hw
  exact (congrArg (ok s) he).trans (ok_next s s rfl rfl)

/-- A policy that wants `w` with cause `c`, where the other mode runs. -/
theorem modeChange_to {w : Bool} {c : Nat} (hm : s.modeWanted = (w, c)) (hw : w ≠ s.ctl.tally) :
    ∃ t, exec .modeChange s = .next t ∧ ModeChanged s w c t := by
  have h := modeChange_sets hr hf hd (by rw [hm]; exact hw)
  rwa [hm] at h

end

/-! ## What the policy wants (R216 to R219) -/

theorem mem_tallyPorts {p : Nat} : p ∈ s.tallyPorts ↔ p < 4 ∧ fld s.ctl.tallyCtl (10 + p) 1 = 1 := by
  simp [State.tallyPorts]

theorem modeWanted_unset (h : s.ctl.modeRun = false) : s.modeWanted = (false, 0) := by simp [State.modeWanted, h]

theorem modeWanted_survey (h : s.ctl.modeRun = true) (hs : s.ctl.modeSel = 1) : s.modeWanted = (false, 4) := by
  simp [State.modeWanted, h, hs]

theorem modeWanted_tally (h : s.ctl.modeRun = true) (hs : s.ctl.modeSel = 2) : s.modeWanted = (true, 4) := by
  simp [State.modeWanted, h, hs]

section
variable (hm : s.ctl.modeRun = true) (hs : s.ctl.modeSel = 0)
include hm hs

/-- Under Auto in Survey one port that is fast for long enough asks for Tally. -/
theorem modeWanted_fast (ht : s.ctl.tally = false) {p b : Nat} (hp : p < 4) (hc : fld s.ctl.tallyCtl (10 + p) 1 = 1)
    (hb : (s.port p).fastFrom = some b) (hk : b + 8000 ≤ s.tick) : s.modeWanted = (true, 1) := by
  unfold State.modeWanted
  rw [if_neg (by simp [hm]), if_neg (by simp [hs]), if_neg (by simp [hs]), if_pos (by simp [ht])]
  refine Prod.ext (List.any_eq_true.2 ⟨p, mem_tallyPorts.2 ⟨hp, hc⟩, ?_⟩) rfl
  rw [hb]
  exact decide_eq_true hk

/-- Under Auto in Tally the ports that hold it decide. -/
theorem modeWanted_hold (ht : s.ctl.tally = true) : s.modeWanted = (s.tallyPorts.any s.tallyHolds,
    if (s.tallyPorts != [] && s.tallyPorts.all fun p => (s.port p).st != .valid) = true then 3 else 2) := by
  unfold State.modeWanted
  rw [if_neg (by simp [hm]), if_neg (by simp [hs]), if_neg (by simp [hs]), if_neg (by simp [ht])]

end

theorem tallyHolds_iff {p : Nat} : s.tallyHolds p = true ↔
    (s.port p).st = .valid ∧ ∀ b, (s.port p).slowFrom = some b → s.tick < b + 20000 := by
  unfold State.tallyHolds
  extract_lets q
  cases h : q.slowFrom <;> simp [q]

theorem noneHolds (h : ∀ p < 4, fld s.ctl.tallyCtl (10 + p) 1 = 1 →
    (s.port p).st ≠ .valid ∨ ∃ b, (s.port p).slowFrom = some b ∧ b + 20000 ≤ s.tick) :
    s.tallyPorts.any s.tallyHolds = false := by
  refine List.any_eq_false.2 fun p hp hh => ?_
  obtain ⟨hv, hs⟩ := tallyHolds_iff.1 hh
  obtain ⟨h4, hc⟩ := mem_tallyPorts.1 hp
  rcases h p h4 hc with hn | ⟨b, hb, hk⟩
  · exact hn hv
  · exact absurd (hs b hb) (by omega)

/-- Every selected port is out of VALID. -/
theorem allOut (hx : ∃ p < 4, fld s.ctl.tallyCtl (10 + p) 1 = 1)
    (ha : ∀ p < 4, fld s.ctl.tallyCtl (10 + p) 1 = 1 → (s.port p).st ≠ .valid) :
    (s.tallyPorts != [] && s.tallyPorts.all fun p => (s.port p).st != .valid) = true := by
  obtain ⟨p, h4, hc⟩ := hx
  have hne : s.tallyPorts ≠ [] := List.ne_nil_of_mem (mem_tallyPorts.2 ⟨h4, hc⟩)
  simp only [Bool.and_eq_true, bne_iff_ne, List.all_eq_true]
  exact ⟨hne, fun q hq => ha q (mem_tallyPorts.1 hq).1 (mem_tallyPorts.1 hq).2⟩

/-- No port is selected, or one is still VALID. -/
theorem notAllOut (h : (∀ p < 4, fld s.ctl.tallyCtl (10 + p) 1 = 0) ∨
    ∃ p < 4, fld s.ctl.tallyCtl (10 + p) 1 = 1 ∧ (s.port p).st = .valid) :
    ¬ (s.tallyPorts != [] && s.tallyPorts.all fun p => (s.port p).st != .valid) = true := by
  simp only [Bool.and_eq_true, bne_iff_ne, List.all_eq_true]
  rintro ⟨hne, ha⟩
  rcases h with h | ⟨p, h4, hc, hv⟩
  · obtain ⟨p, hp⟩ := List.exists_mem_of_ne_nil _ hne
    obtain ⟨h4, hc⟩ := mem_tallyPorts.1 hp
    rw [h p h4] at hc
    exact absurd hc (by decide)
  · exact ha p (mem_tallyPorts.2 ⟨h4, hc⟩) hv

/-- Settles O32: what the policy wants is said case by case, and a change of mode once. -/
theorem modeFollowsThePolicy : Obligations.ModeFollowsThePolicy := by
  intro s hr hf hd
  have go {w : Bool} {c : Nat} := modeChange_to (w := w) (c := c) hr hf hd
  refine ⟨fun hw => ?_, modeChange_stays hr hf hd, fun hm hs ht => ?_, fun hm hs ht => ?_,
    fun p b hm hs ht hp hc hb hk => ?_, fun hm hs ht hn => ?_, fun p hm hs ht hp hc hv hk => ?_, fun hm ht => ?_⟩
  · obtain ⟨t, hx, h1, h2, h3, h4, h5, -⟩ := modeChange_sets hr hf hd hw
    exact ⟨t, hx, h1, h2, h3, h4, h5⟩
  · obtain ⟨t, hx, h1, h2, -, -, h5, h6⟩ := go (modeWanted_survey hm hs) (by simp [ht])
    exact ⟨t, hx, h1, h2, h5, h6⟩
  · obtain ⟨t, hx, h1, h2, -, -, h5, h6⟩ := go (modeWanted_tally hm hs) (by simp [ht])
    exact ⟨t, hx, h1, h2, h5, h6⟩
  · obtain ⟨t, hx, h1, h2, h3, -⟩ := go (modeWanted_fast hm hs ht hp hc hb hk) (by simp [ht])
    exact ⟨t, hx, h1, h2, h3⟩
  · have hw := modeWanted_hold hm hs ht
    rw [noneHolds hn] at hw
    obtain ⟨t, hx, h1, h2, h3, -⟩ := go hw (by simp [ht])
    refine ⟨t, hx, h1, h3, fun he ha => ?_, fun h => ?_⟩
    · rw [h2, if_pos (allOut he ha)]
    · rw [h2, if_neg (notAllOut h)]
  · refine modeChange_stays hr hf hd ?_
    rw [modeWanted_hold hm hs ht, ht]
    exact List.any_eq_true.2 ⟨p, mem_tallyPorts.2 ⟨hp, hc⟩, tallyHolds_iff.2 ⟨hv, hk⟩⟩
  · obtain ⟨t, hx, h1, h2, -⟩ := go (modeWanted_unset hm) (by simp [ht])
    exact ⟨t, hx, h1, h2⟩

/-! ## What operations on spares change -/

/-- The spares, the NVM and the messages alone have changed. -/
def SparesOnly (s u : State) : Prop := u = { s with spare := u.spare, nvm := u.nvm, msg := u.msg }

theorem SparesOnly.refl (s : State) : SparesOnly s s := rfl

theorem SparesOnly.eq (h : SparesOnly s u) : u = { s with spare := u.spare, nvm := u.nvm, msg := u.msg } := h

theorem SparesOnly.trans (h1 : SparesOnly s t) (h2 : SparesOnly t u) : SparesOnly s u :=
  h2.eq.trans (congrArg (fun v : State => { v with spare := u.spare, nvm := u.nvm, msg := u.msg }) h1.eq)

theorem SparesOnly.ite {c : Prop} [Decidable c] {a b : State} (ha : SparesOnly s a) (hb : SparesOnly s b) :
    SparesOnly s (if c then a else b) := by split <;> assumption

section
variable (s : State)

theorem slPut_spares (a b c d e f : Nat) : SparesOnly s (s.slPut a b c d e f) := rfl

theorem slAppendAt_spares (a b c d e f : Nat) : SparesOnly s (s.slAppendAt a b c d e f) := by
  unfold State.slAppendAt
  extract_lets base _ s1 s2
  have h1 : SparesOnly s s1 := rfl
  have h2 : SparesOnly s s2 :=
    .ite (h1.trans (foldl_rel SparesOnly.refl SparesOnly.trans (fun t ⟨_, _, _, _⟩ => slPut_spares t ..) _ s1)) (.refl s)
  exact h2.trans (slPut_spares ..)

theorem sparev_spares (a b c d e : Nat) (x y : Bool) : SparesOnly s (s.sparev a b c d e x y) := by
  unfold State.sparev
  extract_lets s1 e1 sp s2
  have h1 : SparesOnly s s1 := SparesOnly.ite (slAppendAt_spares ..) (SparesOnly.refl s)
  exact h1.trans rfl

theorem checkExhausted_spares (k : Nat) : SparesOnly s (s.checkExhausted k) := by
  unfold State.checkExhausted
  extract_lets left any _ s1
  have h1 : SparesOnly s s1 := rfl
  exact SparesOnly.ite rfl (SparesOnly.ite rfl (h1.trans (sparev_spares ..)))

theorem setSpare_spares (k i : Nat) (v : SpareSt) : SparesOnly s (s.setSpare k i v) := rfl

theorem returnSpare_spares (k i : Nat) : SparesOnly s (s.returnSpare k i) :=
  (setSpare_spares s k i _).trans (checkExhausted_spares ..)

theorem takeSpare_spares (k i n st : Nat) : SparesOnly s (s.takeSpare k i n st) := by
  unfold State.takeSpare
  extract_lets s1
  have h1 : SparesOnly s s1 := SparesOnly.ite rfl (SparesOnly.refl s)
  exact (h1.trans (setSpare_spares ..)).trans (checkExhausted_spares ..)

end

theorem SparesOnly.facet (h : SparesOnly s u) (j : Nat) : u.facet j = s.facet j := by
  unfold State.facet
  rw [h.eq]

/-! ## What the end of a calibration's target changes -/

/-- The calibration, the messages, the log and IRQ_STAT1 alone have changed. -/
def EndsOnly (s u : State) : Prop :=
  u = { s with cal := u.cal, msg := u.msg, log := u.log, logSeq := u.logSeq, ctl := { s.ctl with irq1 := u.ctl.irq1 } }

theorem EndsOnly.refl (s : State) : EndsOnly s s := rfl

theorem EndsOnly.eq (h : EndsOnly s u) :
    u = { s with cal := u.cal, msg := u.msg, log := u.log, logSeq := u.logSeq, ctl := { s.ctl with irq1 := u.ctl.irq1 } } := h

theorem EndsOnly.trans (h1 : EndsOnly s t) (h2 : EndsOnly t u) : EndsOnly s u :=
  h2.eq.trans (congrArg (fun v : State => { v with
    cal := u.cal, msg := u.msg, log := u.log, logSeq := u.logSeq, ctl := { v.ctl with irq1 := u.ctl.irq1 } }) h1.eq)

theorem logE_ends (s : State) (c m o : Nat) (d : BitVec 32) : EndsOnly s (s.logE c m o d) := by
  unfold EndsOnly
  rw [logE_eq]

theorem calev_ends (s : State) (a b c d : Nat) : EndsOnly s (s.calev a b c d) := rfl

theorem calEndTarget_ends (s : State) (r : Nat) : EndsOnly s (s.calEndTarget r) := by
  unfold State.calEndTarget
  split
  · rfl
  · extract_lets ev obj s1 s2 first s3
    have h1 : EndsOnly s s1 := calev_ends ..
    have h2 : EndsOnly s s2 := h1.trans (by
      by_cases h : r = 0
      · rw [show s2 = s1 from if_pos h]; rfl
      · rw [show s2 = _ from if_neg h]; exact logE_ends ..)
    refine h2.trans ?_
    clear_value s2
    split
    · exact (calev_ends s2 ..).trans rfl
    · rfl

theorem EndsOnly.facet (h : EndsOnly s u) (j : Nat) : u.facet j = s.facet j := by
  unfold State.facet
  rw [h.eq]

/-! ## A calibration that ends leaves the facets' paths (R59 to R61) -/

/-- A facet as a calibration that ends leaves it: the driver that stands in may change. -/
def SameButDriver (f g : FacetRT) : Prop := g = { f with excStandin := g.excStandin }

theorem SameButDriver.trans {f g h : FacetRT} (h1 : SameButDriver f g) (h2 : SameButDriver g h) : SameButDriver f h :=
  Eq.trans h2 (congrArg (fun x : FacetRT => { x with excStandin := h.excStandin }) h1)

theorem SameButDriver.of_eq {f g : FacetRT} (h : g = f) : SameButDriver f g := h ▸ rfl

theorem calLetGo_facet (s : State) (r : CalRun) (j : Nat) : SameButDriver (s.facet j) ((s.calLetGo r).facet j) := by
  unfold State.calLetGo
  split
  · next i _ =>
    extract_lets s1
    have h1 : SameButDriver (s.facet j) (s1.facet j) := by
      by_cases hk : calKind r.proc r.target = 2
      · have hs : s1 = s.modFacet r.target fun f => { f with excStandin := none } := if_pos hk
        rw [hs]
        by_cases hj : j = r.target
        · subst hj
          rw [facet_modFacet]
          rfl
        · exact .of_eq (facet_setFacet_other s _ hj)
      · exact .of_eq (congrArg (fun v : State => v.facet j) (if_neg hk))
    exact h1.trans (.of_eq ((returnSpare_spares ..).facet j))
  · rfl

theorem calConfig_facet (s : State) (n : Nat) (b : Bool) (j : Nat) :
    SameButDriver (s.facet j) ((s.calConfig n b).facet j) := by
  unfold State.calConfig
  split
  · split
    · rfl
    · split
      · exact (calLetGo_facet ..).trans (.of_eq ((calEndTarget_ends ..).facet j))
      · split
        · exact .of_eq ((calEndTarget_ends ..).facet j)
        · split <;> rfl
  · rfl

/-! ## The swap of a range change (R61) -/

theorem setActive_facet_last (s : State) (n : Nat) (ws : List (Nat × Word)) :
    ((s.setActive n ws).facet n).last = (s.facet n).last ∧ ((s.setActive n ws).facet n).rangeChg = (s.facet n).rangeChg := by
  unfold State.setActive
  extract_lets old s1
  have hf : s1.facets = s.facets := by
    have h : s1 = { s with fpActive := s1.fpActive } := foldl_setFpA_eq n ws s
    rw [h]
  have h1 : s1.facet n = s.facet n := by unfold State.facet; rw [hf]
  rw [facet_modFacet, h1]
  exact ⟨rfl, rfl⟩

theorem setActive_one (s : State) (n w : Nat) (v : Word) : (s.setActive n [(w, v)]).fpA n w = v :=
  get_set_self ..

/-- The swap puts the new range in force, and the spare in the facet's place. -/
theorem rangeSwap_serves {n : Nat} {r : RangeChg} (hr : (s.facet n).rangeChg = some r) (hl : r.left = 0)
    (ha : s.tick % (s.blkA n).nout = 0) (hp : r.phase = 1) (hs : s.syncDue = false) :
    ((s.rangeSwap n).facet n).standin = some r.spare ∧ (∀ w v, r.new = [(w, v)] → (s.rangeSwap n).fpA n w = v) ∧
      (s.rangeSwap n).fpStaged = s.fpStaged ∧ ((s.rangeSwap n).facet n).last = (s.facet n).last := by
  have hd : s.swapDue n = true := by
    unfold State.swapDue
    split
    · next r' h =>
      obtain rfl : r = r' := Option.some.inj (hr.symm.trans h)
      simp [hp, hl, ha]
    · next h => rw [hr] at h; cases h
  unfold State.rangeSwap
  extract_lets f
  split
  case h_2 h => rw [hr] at h; cases h
  case h_1 r' h =>
    obtain rfl : r = r' := Option.some.inj (hr.symm.trans h)
    rw [if_pos ⟨hd, by simp [hs]⟩]
    extract_lets s1 f1 s2
    have hA := aside_calConfig s2 n true
    have hP := calConfig_facet s2 n true n
    have h2 : s2.facet n = { f1 with
        standin := some r.spare
        rangeChg := some { r with phase := 2, left := settleLen n (s1.blkA n) } } := facet_setFacet s1 n _
    unfold SameButDriver at hP
    rw [hP, h2]
    have hl : (s1.facet n).last = (s.facet n).last := (setActive_facet_last s n r.new).1
    have hs1 : s1.fpStaged = s.fpStaged := (congrArg State.fpStaged (setActive_eq s n r.new) :)
    have h1 (w : Nat) (v : Word) (hw : r.new = [(w, v)]) : s1.fpA n w = v := by
      have := setActive_one s n w v
      rwa [← hw] at this
    clear_value s1
    refine ⟨rfl, fun w v hw => ?_, ?_, hl⟩
    · exact (hA.fpA n w).trans (h1 w v hw)
    · exact hA.fpStaged.trans hs1

theorem rangeSwapBack_returns {n : Nat} {r : RangeChg} (hr : (s.facet n).rangeChg = some r) (hl : r.left = 0)
    (ha : s.tick % (s.blkA n).nout = 0) (hp : r.phase = 2) (hf : r.freeAt = none) :
    s.rangeSwapBack n = s.setFacet n { s.facet n with
      standin := none, rangeChg := some { r with freeAt := some (s.tick + 1) } } := by
  unfold State.rangeSwapBack
  extract_lets f
  split
  case h_2 h => rw [hr] at h; cases h
  case h_1 r' h =>
    obtain rfl : r = r' := Option.some.inj (hr.symm.trans h)
    exact if_pos ⟨hp, hl, ha, by simp [hf]⟩

/-! ## The facet read (R59, R60) -/

theorem encBad_fctRead {v : Word} (h : fld v 9 3 ≤ 4) : encBad 0x24 v = false := by
  show ([anyV 0 9, upTo 9 3 4].any fun f => !f.2.2 (fld v f.1 f.2.1)) = false
  simp [anyV, upTo, h]

theorem stored_fctRead {v : Word} (h : fld v 9 3 ≤ 4) :
    stored s m 0x24 v = { s with fctRead := { s.fctRead with ctl := v &&& 0x0FFF } } := by
  have hw : rwMerge 0x24 (s.regWord m 0x24) v = v &&& 0x0FFF := rwMerge_and _ _ (encBad_fctRead h) (by decide)
  unfold stored
  rw [hw]
  rfl

/-- The word of a request for kind `k` of facet `f`. -/
theorem fld_request {f k : Nat} (hf : f < 512) (hk : k ≤ 4) :
    fld (w16 (f + 512 * k + 0x8000)) 9 3 = k ∧ fld (w16 (f + 512 * k + 0x8000) &&& 0x0FFF) 0 9 = f ∧
      fld (w16 (f + 512 * k + 0x8000) &&& 0x0FFF) 9 3 = k ∧ fld (w16 (f + 512 * k + 0x8000)) 15 1 = 1 ∧
      w16 (f + 512 * k + 0x8000) &&& 0x8000 ≠ 0 := by
  have hn : (w16 (f + 512 * k + 0x8000)).toNat = f + 512 * k + 32768 := by
    simp only [w16, BitVec.toNat_ofNat]
    omega
  have hm : (w16 (f + 512 * k + 0x8000) &&& 0x0FFF).toNat = f + 512 * k := by
    rw [BitVec.toNat_and, hn, show (0x0FFF : Word).toNat = 2 ^ 12 - 1 from rfl, Nat.and_two_pow_sub_one_eq_mod]
    omega
  have h15 : fld (w16 (f + 512 * k + 0x8000)) 15 1 = 1 := by
    simp only [fld, bits, hn]
    omega
  refine ⟨?_, ?_, ?_, h15, and_ne_zero_of_fld h15 (by decide)⟩ <;> simp only [fld, bits, hn, hm] <;> omega

theorem writeCycle_fctReadGo {f k : Nat} (h : s.directs m 0x24) (hf : f < 512) (hk : k ≤ 4) :
    s.writeCycle m 0x24 (w16 (f + 512 * k + 0x8000)) = ({ s with fctRead := { s.fctRead with
      ctl := w16 (f + 512 * k), facet := f, kind := k, ready := false, pend := true } } : State).ack m true := by
  obtain ⟨h3, hlo, hhi, h15, hne⟩ := fld_request hf hk
  rw [writeCycle_store_now h (encBad_fctRead (h3.symm ▸ hk)) hne, stored_fctRead (h3.symm ▸ hk)]
  refine congrArg (fun t : State => t.ack m true) ?_
  refine (steps_one (v := w16 (f + 512 * k + 0x8000)) (b := 15)
    (fun t => t.fctReadGo (fld t.fctRead.ctl 0 9) (fld t.fctRead.ctl 9 3)) _).trans ((if_pos h15).trans ?_)
  dsimp only [State.fctReadGo]
  rw [hlo, hhi, if_neg (by omega), Nat.mod_eq_of_lt hf, Nat.mul_comm k 512]

/-- Settles O25: the swap, the swap back and the read are one update each. -/
theorem rangeChangeAndFacetRead : Obligations.RangeChangeAndFacetRead := by
  refine ⟨fun f s r hr hc hl ha => ⟨fun hp hs => ?_, fun hp hf => ?_⟩, fun m f k s hd hk => ?_, fun m w s hd hk hg => ?_,
    fun s hr hp => ?_⟩
  · obtain ⟨h1, h2, h3, h4⟩ := rangeSwap_serves hc hl ha hp hs
    exact ⟨_, (congrArg (ok s) (live_ready s hr)).trans (ok_eq ..), h1, h2, h3, h4⟩
  · have he := rangeSwapBack_returns hc hl ha hp hf
    exact (live_next hr (f := fun t => t.rangeSwapBack f.val) (by rw [he]; rfl) (by rw [he]; rfl)).trans (congrArg _ he)
  · have he := writeCycle_fctReadGo (m := m) hd f.isLt hk
    exact (congrArg (ok s) he).trans (ok_next s _ (ack_pending ..) (ack_life ..))
  · have hn : w &&& nowMask 0x24 = 0 := by
      refine BitVec.eq_of_getLsbD_eq fun i hi => ?_
      have h15 : w.getLsbD 15 = false := by
        have := testBit_fld w 15 1 0
        simpa [hg] using this.symm
      by_cases h : i = 15
      · subst h; rw [BitVec.getLsbD_and, h15]; rfl
      · have hz : (nowMask 0x24).getLsbD i = false := by
          have : ∀ j : Fin 16, j.val ≠ 15 → (nowMask 0x24).getLsbD j.val = false := by decide
          exact this ⟨i, hi⟩ h
        simp [hz]
    have he : s.writeCycle m 0x24 w = _ := writeCycle_store hd (encBad_fctRead hk) hn
    rw [stored_fctRead hk] at he
    obtain ⟨hr, -⟩ := hd
    refine ⟨_, (congrArg (okWrite s) he).trans (okWrite_next hr (ack_pending ..) (ack_life ..)), ack_fctRead ..⟩
  · have he : s.fctReadReady = { s with fctRead := { s.fctRead with
        result := (s.facetRead s.fctRead.facet s.fctRead.kind).1
        age := (s.facetRead s.fctRead.facet s.fctRead.kind).2, ready := true, pend := false } } := if_pos hp
    exact (live_next hr (f := State.fctReadReady) (by rw [he]) (by rw [he])).trans (congrArg _ he)

/-! ## A request of an apply (R46, R47, R50) -/

theorem get_append {α : Type} (d : α) (k : Nat) (l2 : Store α) : ∀ l1 : Store α,
    Store.get d (l1 ++ l2) k = Store.get (Store.get d l2 k) l1 k
  | [] => rfl
  | (j, v) :: l => by
    rw [List.cons_append, Store.get, Store.get, get_append d k l2 l]

/-- The words of one facet that a filter `p` chooses, as a request stores them. -/
theorem get_wordsOf (d : Word) (p : Nat → Bool) (f : Nat → Word) {n j w : Nat} (hw : w < 32) : ∀ ws : List Nat,
    (∀ v ∈ ws, v < 32) → Store.get d ((ws.filter p).map fun v => (n * 32 + v, f v)) (j * 32 + w) =
      if j = n ∧ w ∈ ws ∧ p w = true then f w else d
  | [], _ => (if_neg (by simp)).symm
  | v :: ws, h => by
    have hv := h v (List.mem_cons_self ..)
    have ih := get_wordsOf (n := n) (j := j) d p f hw ws fun x hx => h x (List.mem_cons_of_mem _ hx)
    by_cases hp : p v = true
    · rw [List.filter_cons_of_pos hp, List.map_cons, Store.get, ih]
      by_cases hk : j * 32 + w = n * 32 + v
      · obtain ⟨rfl, rfl⟩ : j = n ∧ w = v := by omega
        rw [if_pos rfl, if_pos ⟨rfl, List.mem_cons_self .., hp⟩]
      · rw [if_neg hk]
        refine if_congr (and_congr_right fun hj => ?_) rfl rfl
        have hne : w ≠ v := fun e => hk (by rw [hj, e])
        simp [hne]
    · rw [List.filter_cons_of_neg hp, ih]
      refine if_congr (and_congr_right fun hj => ?_) rfl rfl
      by_cases hne : w = v
      · subst hne; simp [hp]
      · simp [hne]

/-- The words of a request: the staged value where it is to change, and nothing elsewhere. -/
theorem get_applyWords (s : State) (d : Word) {n w : Nat} (hw : w < 32) : ∀ ns : List Nat,
    Store.get d (s.applyWords ns) (n * 32 + w) = if n ∈ ns ∧ s.stagedChange n w = true then s.fpS n w else d
  | [] => (if_neg (by simp)).symm
  | k :: ns => by
    have h1 := get_wordsOf (Store.get d (s.applyWords ns) (n * 32 + w)) (s.stagedChange k) (s.fpS k) (n := k) (j := n) hw
      (List.range 32) fun v hv => List.mem_range.mp hv
    have he : s.applyWords (k :: ns) =
        (((List.range 32).filter (s.stagedChange k)).map fun v => (k * 32 + v, s.fpS k v)) ++ s.applyWords ns := rfl
    rw [he, get_append, h1, get_applyWords s d hw ns]
    by_cases hk : n = k
    · subst hk
      by_cases hs : s.stagedChange n w = true
      · simp [hs, hw]
      · simp [hs]
    · simp [hk]

/-- The words of a request make of each parameter in force the staged one. -/
theorem applyWords_staged {ns : List Nat} {n w : Nat} (hn : n ∈ ns) (hw : w < 32) (hp : fpIsParam n w = true) :
    Store.get (s.fpA n w) (s.applyWords ns) (n * 32 + w) = s.fpS n w := by
  rw [get_applyWords s _ hw]
  by_cases hs : s.stagedChange n w = true
  · rw [if_pos ⟨hn, hs⟩]
  · rw [if_neg fun h => hs h.2]
    by_contra hne
    exact hs (by simp [State.stagedChange, hp, Ne.symm hne])

theorem applyRequest_refused {ns : List Nat} {b : Bool} {code n : Nat}
    (h : s.refusal (s.candApply ns) ns b = some (code, n)) :
    s.applyRequest m ns b = ({ s with applyCause := code } : State).logE 2 (masterCode m) n (BitVec.ofNat 32 code) := by
  unfold State.applyRequest
  split
  · next c k hk => obtain ⟨rfl, rfl⟩ := Prod.mk.inj (Option.some.inj (h.symm.trans hk)); rfl
  · next hk => rw [h] at hk; cases hk

/-- The entry that an accepted request appends. -/
def requestEntry (s : State) (m : Master) (ns : List Nat) (b : Bool) : ApplyReq :=
  { facets := ns.filter s.changedFacets.contains, words := s.applyWords ns, stamp := s.ctl.stamp + 1, needSpare := b, master := m }

theorem applyRequest_taken {ns : List Nat} {b : Bool} (h : s.refusal (s.candApply ns) ns b = none) :
    s.applyRequest m ns b = { s.nextStamp with applyCause := 0, applies := s.applies ++ [requestEntry s m ns b] } := by
  unfold State.applyRequest
  split
  · next hk => rw [h] at hk; cases hk
  · rfl

/-- The word of a request, for one facet or for all that changed. -/
def applyWord (all b : Bool) : Word := w16 ((if all then 2 else 1) + 4 * b2n b)

theorem applyWord_flds (all b : Bool) : encBad 0x21 (applyWord all b) = false ∧ applyWord all b &&& nowMask 0x21 ≠ 0 ∧
    (fld (applyWord all b) 2 1 == 1) = b ∧ (fld (applyWord all b) 0 1 = 1 ↔ all = false) ∧
    (fld (applyWord all b) 1 1 = 1 ↔ all = true) := by
  cases all <;> cases b <;> decide

theorem stored_apply (s : State) (m : Master) (all b : Bool) :
    stored s m 0x21 (applyWord all b) = { s with needSpare := b } := by
  obtain ⟨hb, -, hf, -⟩ := applyWord_flds all b
  have hs (w : Word) : s.regStore m 0x21 w (applyWord all b) = { s with needSpare := (fld w 2 1 == 1) } := rfl
  unfold stored
  rw [hs, fld_rwMerge _ hb (by decide) (by decide), hf]

theorem steps_apply (f g : State → State) (all b : Bool) (t : State) :
    steps (applyWord all b) [(0, f), (1, g)] t = if all then g t else f t := by
  obtain ⟨-, -, -, h0, h1⟩ := applyWord_flds all b
  have he : steps (applyWord all b) [(0, f), (1, g)] t =
    if fld (applyWord all b) 1 1 = 1 then g (if fld (applyWord all b) 0 1 = 1 then f t else t)
    else if fld (applyWord all b) 0 1 = 1 then f t else t := rfl
  rw [he, if_congr h1 rfl rfl, if_congr h0 rfl rfl]
  cases all <;> rfl

theorem regNow_apply (t : State) (m : Master) (all b : Bool) : t.regNow m 0x21 (applyWord all b) =
    if all then t.applyRequest m t.changedFacets t.needSpare else t.applyRequest m [(t.master m).fctSel] t.needSpare :=
  steps_apply (fun u => u.applyRequest m [(t.master m).fctSel] u.needSpare)
    (fun u => u.applyRequest m u.changedFacets u.needSpare) all b t

/-- A write of FCT_APPLY makes the request, for the selected facet or for all that changed. -/
theorem writeCycle_apply (h : s.directs m 0x21) (all b : Bool) :
    s.writeCycle m 0x21 (applyWord all b) = (({ s with needSpare := b } : State).applyRequest m
      (if all then ({ s with needSpare := b } : State).changedFacets else [(s.master m).fctSel]) b).ack m true := by
  obtain ⟨hb, hn, -, h0, h1⟩ := applyWord_flds all b
  rw [writeCycle_store_now h hb hn, stored_apply]
  refine congrArg (fun t : State => t.ack m true) ?_
  have hx : (({ s with needSpare := b } : State).master m).fctSel = (s.master m).fctSel := by cases m <;> rfl
  rw [regNow_apply, hx]
  cases all
  · rw [if_neg Bool.false_ne_true, if_neg Bool.false_ne_true]
  · rw [if_pos rfl, if_pos rfl]

theorem changedFacets_needSpare (s : State) (b : Bool) : ({ s with needSpare := b } : State).changedFacets = s.changedFacets := rfl

theorem refusal_needSpare (s : State) (b : Bool) (ns : List Nat) :
    ({ s with needSpare := b } : State).refusal (({ s with needSpare := b } : State).candApply ns) ns b =
      s.refusal (s.candApply ns) ns b := rfl

/-! ## An apply at its turn (R48, R49, R61, R423) -/

theorem get_get {α : Type} (d : α) (k : Nat) : ∀ l : Store α, Store.get (Store.get d l k) l k = Store.get d l k
  | [] => rfl
  | (j, v) :: l => by
    by_cases h : k = j
    · simp [Store.get, h]
    · simp only [Store.get, if_neg h]
      exact get_get d k l

/-- The range depends on parameters alone. -/
theorem rangeOf_params {n : Nat} {a b : Blk} (h : ∀ w < 32, fpIsParam n w = true → a w = b w) :
    rangeOf n a = rangeOf n b := by
  have hp (w : Nat) (hz : isZ n = true) (hw : w = 0 ∨ w = 17 ∨ w = 19 ∨ w = 21 ∨ w = 23) : a w = b w := by
    refine h w (by omega) ?_
    unfold fpIsParam fpMask
    rw [if_pos hz]
    rcases hw with rfl | rfl | rfl | rfl | rfl <;> rfl
  unfold rangeOf
  by_cases hz : isZ n = true
  · have hd : ∀ j < 4, a (17 + 2 * j) = b (17 + 2 * j) := fun j hj => hp _ hz (by omega)
    have hs : activeSlots a = activeSlots b := List.filter_congr fun j hj => by
      rw [Blk.zDwell, Blk.zDwell, hd j (List.mem_range.mp hj)]
    have hc : contSlot a = contSlot b := by unfold contSlot; rw [hs]
    rw [if_pos hz, if_pos hz, Blk.type, Blk.type, hp 0 hz (.inl rfl), Blk.zRange, Blk.zRange, hc, hd _ (contSlot_lt b)]
  · have h1 : fpIsParam n 1 = true := by
      unfold fpIsParam fpMask
      rw [if_neg hz]
      rfl
    rw [if_neg hz, if_neg hz, Blk.range, Blk.range, h 1 (by decide) h1]

theorem onlyRange_of_params {n : Nat} {a b : Blk} (h : ∀ w < 32, fpIsParam n w = true → a w = b w) :
    onlyRange n a b = false := by
  simp [onlyRange, rangeOf_params h]

/-- The block that the words `ws` make of facet `n`. -/
def wordsBlk (s : State) (ws : Store Word) (n : Nat) : Blk := fun w => Store.get (s.fpA n w) ws (n * 32 + w)

/-- One facet of an apply takes its words and commits. -/
def applyOne (ws : Store Word) (t : State) (n : Nat) : State := (t.applyFacet n (wordsBlk t ws n)).committed .host (.facet n)

theorem committed_fpActive (s : State) (m : Master) (c : CUnit) : (s.committed m c).fpActive = s.fpActive := rfl

theorem committed_facet (s : State) (m : Master) (c : CUnit) (n : Nat) : (s.committed m c).facet n = s.facet n := rfl

theorem applyOne_facet (ws : Store Word) (t : State) (n : Nat) :
    (applyOne ws t n).facet n = (t.applyFacet n (wordsBlk t ws n)).facet n := committed_facet ..

theorem applyOne_fpActive (ws : Store Word) (t : State) (n : Nat) :
    (applyOne ws t n).fpActive = (t.applyFacet n (wordsBlk t ws n)).fpActive :=
  committed_fpActive ..

/-- Facet `n` has its words of `ws` in force, from the state `s`. -/
def Taken (s : State) (ws : Store Word) (n : Nat) (t : State) : Prop :=
  ∀ w < 32, t.fpA n w = if fpIsParam n w = true then wordsBlk s ws n w else s.fpA n w

/-- Facet `n` has the words of `s` in force. -/
def Untaken (s : State) (n : Nat) (t : State) : Prop := ∀ w < 32, t.fpA n w = s.fpA n w

/-- Words taken once are the words that a second turn would take. -/
theorem wordsBlk_again {ws : Store Word} {n : Nat} (h : Untaken s n t ∨ Taken s ws n t) {w : Nat} (hw : w < 32) :
    wordsBlk t ws n w = wordsBlk s ws n w := by
  unfold wordsBlk
  rcases h with h | h
  · rw [h w hw]
  · rw [h w hw]
    split
    · exact get_get ..
    · rfl

theorem applyOne_fpA_eq (ws : Store Word) (t : State) (n k w : Nat) :
    (applyOne ws t n).fpA k w = (t.applyFacet n (wordsBlk t ws n)).fpA k w := by
  rw [State.fpA, State.fpA, applyOne_fpActive]

theorem applyOne_fpA {ws : Store Word} {n : Nat} (h : Untaken s n t ∨ Taken s ws n t)
    (ho : onlyRange n (s.blkA n) (wordsBlk s ws n) = false) {k w : Nat} (hw : w < 32) :
    (applyOne ws t n).fpA k w = if k = n ∧ fpIsParam n w = true then wordsBlk s ws n w else t.fpA k w := by
  have hsame : SameWords (wordsBlk t ws n) (wordsBlk s ws n) := fun w hw => wordsBlk_again h hw
  have ht : onlyRange n (t.blkA n) (wordsBlk t ws n) = false := by
    rcases h with hu | hk
    · exact (onlyRange_congr n hu hsame).trans ho
    · refine onlyRange_of_params fun w hw hp => ?_
      rw [hsame w hw]
      exact (hk w hw).trans (if_pos hp)
  have h1 := applyFacet_fpA ht k hw
  rw [hsame w hw] at h1
  exact (applyOne_fpA_eq ..).trans h1

/-- Every facet of the list has its words of `ws` in force, and every other facet the words of `s`. -/
theorem applyOnes_fpA {ws : Store Word} {fs : List Nat} (ho : ∀ n ∈ fs, onlyRange n (s.blkA n) (wordsBlk s ws n) = false) :
    ∀ (ns : List Nat) (t : State), (∀ n ∈ ns, n ∈ fs) → (∀ n, Untaken s n t ∨ n ∈ fs ∧ Taken s ws n t) →
      (∀ n, Untaken s n (ns.foldl (applyOne ws) t) ∨ n ∈ fs ∧ Taken s ws n (ns.foldl (applyOne ws) t)) ∧
        ∀ n, n ∈ ns ∨ Taken s ws n t → Taken s ws n (ns.foldl (applyOne ws) t)
  | [], t, _, hi => ⟨hi, fun n h => h.elim (fun h => absurd h (List.not_mem_nil)) id⟩
  | a :: ns, t, hs, hi => by
    have ha := hs a (List.mem_cons_self ..)
    have hstep {k w : Nat} (hw : w < 32) := applyOne_fpA ((hi a).imp_right And.right) (ho a ha) (k := k) hw
    have hbase (w : Nat) (hw : w < 32) (hp : ¬ fpIsParam a w = true) : t.fpA a w = s.fpA a w := by
      rcases hi a with h | ⟨-, h⟩
      · exact h w hw
      · exact (h w hw).trans (if_neg hp)
    have htake : Taken s ws a (applyOne ws t a) := fun w hw => by
      rw [hstep hw]
      by_cases hp : fpIsParam a w = true
      · rw [if_pos ⟨rfl, hp⟩, if_pos hp]
      · rw [if_neg fun h => hp h.2, if_neg hp, hbase w hw hp]
    have hother {n : Nat} (hn : n ≠ a) {w : Nat} (hw : w < 32) : (applyOne ws t a).fpA n w = t.fpA n w := by
      rw [hstep hw, if_neg fun h => hn h.1]
    have hkeep {n : Nat} (h : Taken s ws n t) : Taken s ws n (applyOne ws t a) := by
      by_cases hn : n = a
      · subst hn; exact htake
      · exact fun w hw => (hother hn hw).trans (h w hw)
    obtain ⟨h1, h2⟩ := applyOnes_fpA ho ns (applyOne ws t a) (fun n hn => hs n (List.mem_cons_of_mem _ hn)) fun n => by
      by_cases hn : n = a
      · subst hn; exact .inr ⟨ha, htake⟩
      · exact (hi n).imp (fun h w hw => (hother hn hw).trans (h w hw)) fun h => ⟨h.1, hkeep h.2⟩
    refine ⟨h1, fun n hn => h2 n ?_⟩
    rcases hn with hn | hn
    · rcases List.mem_cons.1 hn with rfl | hn
      · exact .inr htake
      · exact .inl hn
    · exact .inr (hkeep hn)

theorem applyOnes_apart (ws : Store Word) (ns : List Nat) (s : State) : Apart s (ns.foldl (applyOne ws) s) :=
  foldl_rel (fun s => (Aside.refl s).apart) Apart.trans
    (fun t n => (applyFacet_apart t n (wordsBlk t ws n)).trans (aside_committed _ .host (.facet n)).apart) ns s

section
variable {r : ApplyReq} {rest : List ApplyReq} (ha : s.applies = r :: rest) (ht : s.turn r.stamp = true)
include ha ht

/-- An apply that another commit has overtaken. -/
theorem applyEffect_overtaken (hc : r.facets.any (fun n => s.conflicts .host r.stamp (.facet n)) = true) :
    ∃ n, s.applyEffect = ({ s with applies := rest, applyCause := 27 } : State).logE 2 (masterCode r.master) n 27 := by
  unfold State.applyEffect
  split
  case h_1 h => rw [ha] at h; cases h
  case h_2 r' rest' h =>
    obtain ⟨rfl, rfl⟩ := List.cons.inj (ha.symm.trans h)
    rw [if_neg (by simp [ht])]
    extract_lets s1
    have hcf : (fun n => s1.conflicts .host r.stamp (.facet n)) = fun n => s.conflicts .host r.stamp (.facet n) := rfl
    split
    · next n _ => exact ⟨n, rfl⟩
    · next hn =>
      obtain ⟨x, hx, hxc⟩ := List.any_eq_true.1 hc
      exact absurd hxc (List.find?_eq_none.1 hn x hx)

/-- Otherwise its facets take their words in order. -/
theorem applyEffect_takes (hc : ∀ n ∈ r.facets, s.conflicts .host r.stamp (.facet n) = false) :
    s.applyEffect = r.facets.foldl (applyOne r.words) { s with applies := rest } := by
  unfold State.applyEffect
  split
  case h_1 h => rw [ha] at h; cases h
  case h_2 r' rest' h =>
    obtain ⟨rfl, rfl⟩ := List.cons.inj (ha.symm.trans h)
    rw [if_neg (by simp [ht])]
    extract_lets s1
    split
    · next n hn =>
      have hf : s.conflicts .host r.stamp (.facet n) = true := List.find?_some (p := fun n => s1.conflicts .host r.stamp (.facet n)) hn
      rw [hc n (List.mem_of_find?_eq_some hn)] at hf
      cases hf
    · rfl

end

/-- An apply whose facets take their words answers its effect, and it has left the queue. -/
theorem applyEffect_apart {ws : Store Word} {ns : List Nat} {rest : List ApplyReq} (hr : s.ready = true)
    (he : s.applyEffect = ns.foldl (applyOne ws) { s with applies := rest }) :
    exec .applyEffect s = .next s.applyEffect ∧ s.applyEffect.applies = rest := by
  have hA := applyOnes_apart ws ns { s with applies := rest }
  rw [← he] at hA
  exact ⟨live_next hr (f := State.applyEffect) (congrArg State.pending hA.eq :) (congrArg State.life hA.eq :),
    (congrArg State.applies hA.eq :)⟩

/-- A change of the range alone through spare `i` lends it and waits for its swap. -/
theorem applyFacet_lends {n i : Nat} {b : Blk} (h : spareFor s n b = some i) :
    ∃ c, ((s.applyFacet n b).facet n).rangeChg = some c ∧ c.spare = i ∧ c.phase = 1 := by
  unfold spareFor at h
  unfold State.applyFacet
  extract_lets a t av spare w
  have hs : spare = some i := h
  rw [hs]
  dsimp -zeta only
  extract_lets s1 f1
  refine ⟨{ spare := i, phase := 1, left := settleLen n a, new := [(w, b w)] }, ?_, rfl, rfl⟩
  have hP := calConfig_facet (s1.setFacet n { (s1.facet n).clearPath (some i) t with
    rangeChg := some { spare := i, phase := 1, left := settleLen n a, new := [(w, b w)] } }) n true n
  unfold SameButDriver at hP
  rw [facet_setFacet] at hP
  exact congrArg FacetRT.rangeChg hP

/-- Settles O24: a request is refused or appended; at its turn its facets take their words one after another, and a facet that
stands twice in the list takes the same words again. -/
theorem appliesAreCheckedAndTakeEffect : Obligations.AppliesAreCheckedAndTakeEffect := by
  refine ⟨fun m b s hd all ns hns => ?_, fun s r rest hr ha ht => ⟨fun hc => ?_, fun hc => ?_, fun n hn hc ho => ⟨fun hsp => ?_, fun i hsp => ?_⟩⟩⟩
  · have hw := writeCycle_apply hd all b
    rw [changedFacets_needSpare, ← hns] at hw
    have hx : exec (if all then .fctApplyAll m b else .fctApplyGo m b) s = ok s (s.writeCycle m 0x21 (applyWord all b)) := by
      cases all <;> rfl
    rw [hw] at hx
    have hq := refusal_needSpare s b ns
    refine ⟨fun code n h => ?_, fun h => ?_⟩
    · have hf := applyRequest_refused (m := m) (hq.trans h)
      have he := logE_eq ({ s with needSpare := b, applyCause := code } : State) 2 (masterCode m) n (BitVec.ofNat 32 code)
      rw [hf] at hx
      rw [ack_eq, he] at hx
      exact ⟨_, hx.trans (ok_next s _ rfl rfl), rfl, rfl⟩
    · have hf := applyRequest_taken (m := m) (hq.trans h)
      rw [hf, ack_eq] at hx
      refine ⟨_, requestEntry s m ns b, hx.trans (ok_next s _ rfl rfl), rfl, rfl, rfl, rfl, rfl, rfl, rfl, rfl, rfl, ?_⟩
      exact fun n hn w hw hp => applyWords_staged (List.mem_filter.1 hn).1 hw hp
  · obtain ⟨n, he⟩ := applyEffect_overtaken ha ht hc
    have hq := logE_eq ({ s with applies := rest, applyCause := 27 } : State) 2 (masterCode r.master) n 27
    rw [← he] at hq
    exact ⟨_, live_next hr (f := State.applyEffect) (by rw [hq]) (by rw [hq]), by rw [hq], hq⟩
  · have he := applyEffect_takes ha ht fun n hn => (hc n hn).1
    obtain ⟨hx, hl⟩ := applyEffect_apart hr he
    obtain ⟨h1, h2⟩ := applyOnes_fpA (s := { s with applies := rest }) (ws := r.words) (fun n hn => (hc n hn).2) r.facets
      { s with applies := rest } (fun _ h => h) fun n => .inl fun _ _ => rfl
    rw [← he] at h1 h2
    exact ⟨_, hx, hl, fun n hn w hw hp => (h2 n (.inl hn) w hw).trans (if_pos hp),
      fun k w hk hw => (h1 k).resolve_right (fun h => hk h.1) w hw⟩
  · have he := applyEffect_takes ha ht fun k hk => by rw [hn] at hk; exact List.mem_singleton.1 hk ▸ hc
    obtain ⟨hx, hl⟩ := applyEffect_apart hr he
    have hs : spareFor { s with applies := rest } n (wordsBlk { s with applies := rest } r.words n) = none :=
      (if_pos ho).trans hsp
    rw [hn, List.foldl_cons, List.foldl_nil] at he
    refine ⟨_, hx, hl, fun w hw hp => ?_⟩
    rw [he, applyOne_fpA_eq]
    exact ((applyFacet_active hs).fpA n w).trans ((activate_fpA _ n _ n w hw).trans (if_pos ⟨rfl, hp⟩))
  · have he := applyEffect_takes ha ht fun k hk => by rw [hn] at hk; exact List.mem_singleton.1 hk ▸ hc
    obtain ⟨hx, hl⟩ := applyEffect_apart hr he
    have hs : spareFor { s with applies := rest } n (wordsBlk { s with applies := rest } r.words n) = some i :=
      (if_pos ho).trans hsp
    obtain ⟨c, h1, h2, h3⟩ := applyFacet_lends hs
    rw [hn, List.foldl_cons, List.foldl_nil] at he
    refine ⟨_, c, hx, hl, ?_, h2, h3, ?_⟩
    · rw [he, applyOne_facet]; exact h1
    · rw [he, applyOne_fpActive, (applyFacet_spare hs).fpActive]

end Sys2Proof.Proofs
end

section
/-! PROPERTY. Mailboxes, references, SRAM rows and calibration commands (O44, O48, O53). -/

namespace Sys2Proof.Proofs

open Sys2Proof Sys2Proof.Machine Sys2Proof.Laws

-- one proof at a time: the text is compiled as a whole, and the proofs side by side would need too much memory
set_option Elab.async false

variable {s t u : State} {m : Master}

/-! ## Mailboxes, receive queues and filters (R296, R300, R304) -/

/-- A write of a register of a CAN port that serves, which sets a field that acts at once. -/
theorem writeCycle_canPort {off : Nat} {v : Word} (h : s.directs m off) (hd : s.canDead (s.master m).canSel = false)
    (hb : encBad off v = false) (hn : v &&& nowMask off ≠ 0) (h7 : off ≠ 0x7F := by decide) (ho : ownReg off = false := by rfl)
    (h61 : off ≠ 0x61 := by decide) (h54 : off ≠ 0x54 := by decide) :
    s.writeCycle m off v = ((if rwFields off = [] then s else stored s m off v).regNow m off v).ack m true := by
  rw [writeCycle_direct s v h h7 ho]
  refine congrArg (fun t : State => t.ack m true) ?_
  have hp : s.portIgnores m off = false := by simp [State.portIgnores, hd]
  have hi : s.canIgnores m off v = false := by simp [State.canIgnores, h61]
  have hw : v &&& nowMask off ≠ 0 ∨ off = 0x0B := .inl hn
  simp only [State.regDirect, hp, hb, hi, State.afterAccess, h54, stored, hw, Bool.false_eq_true, Bool.false_and, if_false,
    Bool.not_false, true_and, if_true]

/-- In a fold whose steps do nothing but one, that one acts. -/
theorem foldl_only {β : Type} {f : β → Nat → β} {i : Nat} (h : ∀ b j, j ≠ i → f b j = b) :
    ∀ (l : List Nat) (b : β), l.Nodup → l.foldl f b = if i ∈ l then f b i else b
  | [], b, _ => (if_neg (List.not_mem_nil)).symm
  | j :: l, b, hd => by
    obtain ⟨hj, hd⟩ := List.nodup_cons.1 hd
    rw [List.foldl_cons, foldl_only h l _ hd]
    by_cases hi : j = i
    · subst hi
      rw [if_neg hj, if_pos (List.mem_cons_self ..)]
    · rw [h b j hi]
      exact if_congr (by simp [Ne.symm hi]) rfl rfl

theorem foldl_range_only {β : Type} {f : β → Nat → β} {i n : Nat} (hi : i < n) (h : ∀ b j, j ≠ i → f b j = b) (b : β) :
    (List.range n).foldl f b = f b i :=
  (foldl_only h _ b List.nodup_range).trans (if_pos (List.mem_range.2 hi))

theorem bits_two_pow {i j : Nat} : bits (2 ^ i) j 1 = if j = i then 1 else 0 := by
  have h := Nat.testBit_two_pow (n := i) (m := j)
  have hb : bits (2 ^ i) j 1 = ((2 ^ i).testBit j).toNat := by
    rw [bits, Nat.pow_one, Nat.toNat_testBit]
  rw [hb, h]
  by_cases hij : j = i
  · simp [hij]
  · simp [hij, Ne.symm hij]

theorem mbox_setMbox (c : CanPort) (i : Nat) (b : Mailbox) : (c.setMbox i b).mbox i = b := get_set_self ..

theorem mbox_setMbox_other (c : CanPort) {i j : Nat} (b : Mailbox) (h : j ≠ i) : (c.setMbox i b).mbox j = c.mbox j :=
  get_set_other _ _ _ _ h

/-- A port with mailbox `24 + i` released. -/
def released (c : CanPort) (i : Nat) : CanPort :=
  { (c.setMbox (24 + i) { c.mbox (24 + i) with full := true, released := true, abort := false }) with res := setFld c.res (2 * i) 2 0 }

/-- TXREQ of one mailbox that is free and whose frame the port can send. -/
theorem txreq_one {p i : Nat} (hi : i < 8) (hd : s.canDead p = false) (he : ((s.canPort p).mbox (24 + i)).full = false)
    (hf : ((s.canPort p).mbox (24 + i)).frame.fdf = true → (s.canPort p).fdEn = true) :
    s.txreq m p (2 ^ i) = s.setCanPort p (released (s.canPort p) i) := by
  have hp : ¬ (p = 2 ∧ s.cSubst = true) := by simpa [State.canDead] using hd
  unfold State.txreq
  rw [if_neg hp, foldl_range_only hi fun b j hj => if_pos (by rw [bits_two_pow, if_neg hj])]
  extract_lets c b
  have hfd : ¬ (b.frame.fdf = true ∧ (!c.fdEn) = true) := fun h => by simp [c, hf h.1] at h
  rw [if_neg (by rw [bits_two_pow, if_pos rfl]; decide), if_neg (by simp [b, c, he]), if_neg hfd]
  rfl

theorem txreq_none (s : State) (m : Master) (p : Nat) : s.txreq m p 0 = s := by
  have hz : ∀ (l : List Nat) (f : State → Nat → State), (∀ b j, f b j = b) → ∀ b, l.foldl f b = b := fun l f hf => by
    induction l with
    | nil => exact fun b => rfl
    | cons a l ih => exact fun b => by rw [List.foldl_cons, hf, ih]
  unfold State.txreq
  split
  · rfl
  · exact hz _ _ (fun b j => if_pos (by simp [bits])) _

theorem txAbort_none (s : State) (p : Nat) : s.txAbort p 0 = s := by
  unfold State.txAbort
  exact foldl_keeps (P := fun t => t = s) (fun t j h => by rw [h]; exact if_pos (by simp [bits])) _ _ rfl

theorem txAbort_one {p i : Nat} (hi : i < 8) (hf : ((s.canPort p).mbox (24 + i)).full = true) :
    s.txAbort p (2 ^ i) = if ((s.canPort p).onBus.map Prod.fst) = some (24 + i) then
      s.setCanPort p ((s.canPort p).setMbox (24 + i) { (s.canPort p).mbox (24 + i) with abort := true })
      else s.hostDone p (24 + i) 2 := by
  unfold State.txAbort
  rw [foldl_range_only hi fun b j hj => if_pos (by rw [bits_two_pow, if_neg hj])]
  extract_lets c b
  rw [if_neg (by rw [bits_two_pow, if_pos rfl]; decide), if_neg (by simp [b, c, hf])]

/-- The words of TXREQ and of ABORT for mailbox `i`. -/
theorem txreq_words : ∀ i < 8, fld (w16 (BitVec.ofNat 8 (2 ^ i)).toNat) 0 8 = 2 ^ i ∧
    fld (w16 (BitVec.ofNat 8 (2 ^ i)).toNat) 8 8 = 0 ∧ w16 (BitVec.ofNat 8 (2 ^ i)).toNat &&& nowMask 0x6A ≠ 0 ∧
    fld (w16 (256 * (BitVec.ofNat 8 (2 ^ i)).toNat)) 0 8 = 0 ∧ fld (w16 (256 * (BitVec.ofNat 8 (2 ^ i)).toNat)) 8 8 = 2 ^ i ∧
    w16 (256 * (BitVec.ofNat 8 (2 ^ i)).toNat) &&& nowMask 0x6A ≠ 0 := by decide

theorem writeCycle_txreq {v : Word} (h : s.directs m 0x6A) (hd : s.canDead (s.master m).canSel = false)
    (hn : v &&& nowMask 0x6A ≠ 0) : s.writeCycle m 0x6A v =
      ((s.txreq m (s.master m).canSel (fld v 0 8)).txAbort (s.master m).canSel (fld v 8 8)).ack m true :=
  writeCycle_canPort h hd rfl hn

/-- A host's mailbox that is done with: it is empty, with its result, its done bit and the interrupt. -/
theorem hostDone_result (s : State) (p : Nat) {i r : Nat} (hi : i < 8) (hr : r < 4) :
    ((s.hostDone p (24 + i) r).canPort p).mbox (24 + i) =
        { (s.canPort p).mbox (24 + i) with full := false, released := false, abort := false } ∧
      fld ((s.hostDone p (24 + i) r).canPort p).res (2 * i) 2 = r ∧
      fld ((s.hostDone p (24 + i) r).canPort p).done i 1 = 1 ∧ fld (s.hostDone p (24 + i) r).ctl.irq1 8 1 = 1 := by
  have h24 : 24 + i - 24 = i := by omega
  have hc (t : State) (c : CanPort) (b : Nat) : ((t.setCanPort p c).irq1 b).canPort p = c := canPort_setCanPort ..
  unfold State.hostDone
  extract_lets c0 b _ c
  rw [hc]
  refine ⟨mbox_setMbox .., ?_, ?_, fld_or_bit _ 8 (by decide)⟩
  · have h : c.res = setFld c0.res (2 * (24 + i - 24)) 2 r := rfl
    rw [h, h24, fld_setFld_self _ _ (by omega)]
    exact Nat.mod_eq_of_lt hr
  · have h : c.done = c0.done ||| w16 (2 ^ (24 + i - 24)) := rfl
    rw [h, h24]
    exact fld_or_bit _ i (by omega)

theorem writeCycle_rxPop {q : Fin 2} (h : s.directs m (0x6B + q.val)) (hd : s.canDead (s.master m).canSel = false) :
    s.writeCycle m (0x6B + q.val) 0x8000 = (s.rxPop (s.master m).canSel q.val).ack m true := by
  match q with
  | 0 => exact writeCycle_canPort h hd rfl (by decide)
  | 1 => exact writeCycle_canPort h hd rfl (by decide)

/-- The bits of a filter word with GO. -/
theorem filter_words (en : Bool) : ∀ idx : BitVec 5,
    fld (w16 (idx.toNat + 32 * b2n en + 0x8000) &&& 0x003F) 0 5 = idx.toNat ∧
      (fld (w16 (idx.toNat + 32 * b2n en + 0x8000) &&& 0x003F) 5 1 == 1) = en ∧
      fld (w16 (idx.toNat + 32 * b2n en + 0x8000)) 15 1 = 1 := by
  cases en <;> decide

/-- A bit switched to `en` has that value, and every other bit stays. -/
theorem bits_switch (x : BitVec 32) {k i : Nat} (en : Bool) (hk : k < 32) :
    bits (if en then x &&& ~~~(BitVec.ofNat 32 (2 ^ i)) ||| BitVec.ofNat 32 (2 ^ i)
      else x &&& ~~~(BitVec.ofNat 32 (2 ^ i))).toNat k 1 = if k = i then b2n en else bits x.toNat k 1 := by
  have hb (y : BitVec 32) : bits y.toNat k 1 = (y.getLsbD k).toNat := by
    rw [bits, Nat.pow_one, ← Nat.toNat_testBit, BitVec.testBit_toNat]
  have h1 : (BitVec.ofNat 32 (2 ^ i)).getLsbD k = decide (i = k) := by
    rw [BitVec.getLsbD_ofNat, Nat.testBit_two_pow]
    simp [hk]
  generalize BitVec.ofNat 32 (2 ^ i) = y at h1 ⊢
  rw [hb, hb]
  have hn : (~~~y).getLsbD k = !decide (i = k) := by rw [BitVec.getLsbD_not, h1]; simp [hk]
  have hon : (x &&& ~~~y ||| y).getLsbD k = (x.getLsbD k && !decide (i = k) || decide (i = k)) := by
    rw [BitVec.getLsbD_or, BitVec.getLsbD_and, hn, h1]
  have hoff : (x &&& ~~~y).getLsbD k = (x.getLsbD k && !decide (i = k)) := by
    rw [BitVec.getLsbD_and, hn]
  by_cases hki : k = i
  · subst hki
    cases en
    · simp only [Bool.false_eq_true, if_false, if_true, hoff, decide_true, Bool.not_true, Bool.and_false]; rfl
    · simp only [if_true, hon, decide_true, Bool.or_true]; rfl
  · cases en
    · simp [hoff, hki, Ne.symm hki]
    · simp [hon, hki, Ne.symm hki]

theorem stored_filter (s : State) (m : Master) (v : Word) : stored s m 0x6D v =
    s.modCanPort (s.master m).canSel fun c => { c with fltSel := v &&& 0x003F } := by
  have hw : rwMerge 0x6D (s.regWord m 0x6D) v = v &&& 0x003F := rwMerge_and _ _ rfl (by decide)
  unfold stored
  rw [hw]
  rfl

theorem stampFilters_keeps (s : State) (p k : Nat) :
    ((s.stampFilters p k).canPort p).fltEn = (s.canPort p).fltEn := by
  unfold State.stampFilters
  rw [canPort_modCanPort]
  split <;> rfl

/-- GO switches the selected filter pair of the port. -/
theorem filterEnable_fltEn (p idx : Nat) (en : Bool) (hd : s.canDead p = false) {k : Nat} (hk : k < 32) :
    bits ((s.filterEnable p idx en).canPort p).fltEn.toNat k 1 =
      if k = idx then b2n en else bits (s.canPort p).fltEn.toNat k 1 := by
  have hp : ¬ (p = 2 ∧ s.cSubst = true) := by simpa [State.canDead] using hd
  unfold State.filterEnable
  rw [if_neg hp, canPort_modCanPort]
  exact bits_switch (s.canPort p).fltEn en hk

theorem filterEnable_eq (s : State) (p idx : Nat) (en : Bool) :
    s.filterEnable p idx en = { s with can := (s.filterEnable p idx en).can } := by
  unfold State.filterEnable
  split <;> rfl

/-- The port with the written word of CAN_FLT_SEL, after GO. -/
def filterGone (s : State) (m : Master) (idx : BitVec 5) (en : Bool) : State :=
  (s.modCanPort (s.master m).canSel fun c => { c with fltSel := w16 (idx.toNat + 32 * b2n en + 0x8000) &&& 0x003F }).filterEnable
    (s.master m).canSel idx.toNat en

theorem writeCycle_filter (h : s.directs m 0x6D) (hd : s.canDead (s.master m).canSel = false) (idx : BitVec 5) (en : Bool) :
    s.writeCycle m 0x6D (w16 (idx.toNat + 32 * b2n en + 0x8000)) = (filterGone s m idx en).ack m true := by
  obtain ⟨h1, h2, h3⟩ := filter_words en idx
  rw [writeCycle_canPort h hd rfl (and_ne_zero_of_fld h3 (by decide)), if_neg (by decide), stored_filter]
  refine congrArg (fun t : State => t.ack m true) ?_
  have hm (f : CanPort → CanPort) : (s.modCanPort (s.master m).canSel f).master m = s.master m := by cases m <;> rfl
  have hr (t : State) (v : Word) (h3 : fld v 15 1 = 1) : t.regNow m 0x6D v = t.filterEnable (t.master m).canSel
      (fld (t.canPort (t.master m).canSel).fltSel 0 5) (fld (t.canPort (t.master m).canSel).fltSel 5 1 == 1) :=
    (steps_one (v := v) (b := 15) (fun u => u.filterEnable (t.master m).canSel
      (fld (u.canPort (t.master m).canSel).fltSel 0 5) (fld (u.canPort (t.master m).canSel).fltSel 5 1 == 1)) t).trans (if_pos h3)
  rw [hr _ _ h3, hm, canPort_modCanPort]
  dsimp only
  rw [h1, h2]
  rfl

/-- What a filter switch leaves, with its stamp. -/
theorem filterCycle_cases (h : s.directs m 0x6D) (hd : s.canDead (s.master m).canSel = false) (idx : BitVec 5) (en : Bool) (ns : Nat) :
    ∃ t, exec (.filterEnable m idx ⟨en, ns⟩) s = .next t ∧
      (t.canPort (s.master m).canSel).fltEn = ((filterGone s m idx en).canPort (s.master m).canSel).fltEn ∧
      t = { s with can := t.can, ctl := { s.ctl with acked := t.ctl.acked } } := by
  have hw := writeCycle_filter h hd idx en
  have hg : filterGone s m idx en = { s with can := (filterGone s m idx en).can } := by
    unfold filterGone
    rw [filterEnable_eq]
    rfl
  have ha : (filterGone s m idx en).ack m true = { s with
      can := ((filterGone s m idx en).ack m true).can
      ctl := { s.ctl with acked := ((filterGone s m idx en).ack m true).ctl.acked } } := by
    rw [ack_eq, hg]
  have hc (p : Nat) : ((filterGone s m idx en).ack m true).canPort p = (filterGone s m idx en).canPort p := by
    unfold State.canPort
    rw [ack_can]
  have hx : exec (.filterEnable m idx ⟨en, ns⟩) s = ok s (s.filterCycle m idx.toNat en ns) := rfl
  rw [State.filterCycle, hw] at hx
  split at hx
  · rw [ha] at hx
    exact ⟨_, hx.trans (ok_next s _ rfl rfl), congrArg CanPort.fltEn (hc _), rfl⟩
  · have hst := stampFilters_keeps ((filterGone s m idx en).ack m true) (s.master m).canSel (s.nowNs ns)
    rw [hc] at hst
    refine ⟨_, hx.trans (ok_next s _ ?_ ?_), hst, ?_⟩
    · exact (modCanPort_pending ..).trans (congrArg State.pending ha :)
    · exact (modCanPort_life ..).trans (congrArg State.life ha :)
    · exact (congrArg (fun v : State => { v with can := (((filterGone s m idx en).ack m true).stampFilters (s.master m).canSel (s.nowNs ns)).can }) ha)

/-- Settles O44: one mailbox, one queue and one filter pair of the selected port change. -/
theorem mailboxesQueuesAndFilters : Obligations.MailboxesQueuesAndFilters := by
  intro m s hd
  have hack {t : State} (p : Nat) : (t.ack m true).canPort p = t.canPort p := by unfold State.canPort; rw [ack_can]
  refine ⟨fun i hi h he hf => ?_, fun i hi h he hb => ?_, fun i hi ns h he hb => ?_, fun q h => ?_, fun idx sw h => ?_⟩
  · obtain ⟨h1, h2, hn, -⟩ := txreq_words i hi
    have hw := writeCycle_txreq h hd hn
    rw [h1, h2, txAbort_none, txreq_one hi hd he hf] at hw
    refine ⟨_, (congrArg (ok s) hw).trans (ok_next s _ (ack_pending ..) (ack_life ..)), ?_⟩
    rw [hack, canPort_setCanPort]
    exact ⟨congrArg Mailbox.full (mbox_setMbox ..), congrArg Mailbox.released (mbox_setMbox ..),
      fun j hj => mbox_setMbox_other _ _ hj⟩
  · obtain ⟨-, -, -, h1, h2, hn⟩ := txreq_words i hi
    have hw := writeCycle_txreq h hd hn
    rw [h1, h2, txreq_none, txAbort_one hi he, hb, if_neg (by simp)] at hw
    refine ⟨_, (congrArg (ok s) hw).trans (ok_next s _ (ack_pending ..) (ack_life ..)), ?_⟩
    obtain ⟨h3, h4, h5, h6⟩ := hostDone_result s (s.master m).canSel (r := 2) hi (by decide)
    rw [hack, h3, h4, ack_ctl]
    exact ⟨rfl, rfl, h5, h6⟩
  · obtain ⟨-, -, -, h1, h2, hn⟩ := txreq_words i hi
    have hw := writeCycle_txreq h hd hn
    rw [h1, h2, txreq_none, txAbort_one hi he, hb, if_pos (by simp)] at hw
    refine ⟨_, (congrArg (ok s) hw).trans (ok_next s _ (ack_pending ..) (ack_life ..)), ?_⟩
    rw [hack, canPort_setCanPort, mbox_setMbox]
    exact ⟨he, rfl, hb⟩
  · have hw := writeCycle_rxPop h hd
    refine ⟨_, (congrArg (ok s) hw).trans (ok_next s _ (ack_pending ..) (ack_life ..)), ?_, ?_, ?_⟩
    · rintro rfl
      rw [hack, State.rxPop, canPort_modCanPort]
      exact ⟨rfl, rfl⟩
    · rintro rfl
      rw [hack, State.rxPop, canPort_modCanPort]
      exact ⟨rfl, rfl⟩
    · rw [ack_eq]
      rfl
  · obtain ⟨t, hx, hf, hq⟩ := filterCycle_cases h hd idx sw.en sw.ns
    have hdd : (s.modCanPort (s.master m).canSel fun c => { c with
        fltSel := w16 (idx.toNat + 32 * b2n sw.en + 0x8000) &&& 0x003F }).canDead (s.master m).canSel = false := hd
    refine ⟨t, hx, ?_, fun k hk hne => ?_, hq⟩
    · rw [hf, filterGone, filterEnable_fltEn _ _ _ hdd idx.isLt, if_pos rfl]
    · rw [hf, filterGone, filterEnable_fltEn _ _ _ hdd hk, if_neg hne, canPort_modCanPort]

/-! ## What the log of spares changes of the spares -/

/-- Of the spares the number of log entries alone has changed. -/
def SpareLogged (s u : State) : Prop := u.spare = { s.spare with logSeq := u.spare.logSeq }

theorem SpareLogged.trans (h1 : SpareLogged s t) (h2 : SpareLogged t u) : SpareLogged s u :=
  Eq.trans h2 (congrArg (fun x : SpareUnit => { x with logSeq := u.spare.logSeq }) h1)

theorem SpareLogged.refl (s : State) : SpareLogged s s := rfl

theorem slPut_logged (s : State) (a b c d e f : Nat) : SpareLogged s (s.slPut a b c d e f) := rfl

theorem nvm_logged (s : State) (n : NvmSt) : SpareLogged s { s with nvm := n } := rfl

theorem slAppendAt_logged (s : State) (a b c d e f : Nat) : SpareLogged s (s.slAppendAt a b c d e f) := by
  unfold State.slAppendAt
  refine SpareLogged.trans ?_ (slPut_logged _ a b c d e f)
  split
  · exact (nvm_logged s _).trans (foldl_rel SpareLogged.refl SpareLogged.trans (fun t x => slPut_logged t ..) _ _)
  · exact SpareLogged.refl s

theorem sparev_logged (s : State) (a b c d e : Nat) (x y : Bool) : SpareLogged s (s.sparev a b c d e x y) := by
  unfold State.sparev
  extract_lets s1 e1 sp s2
  have h1 : SpareLogged s s1 := by
    cases x
    · rfl
    · exact slAppendAt_logged ..
  exact h1.trans rfl

/-- The events of a reference that has failed: of the rest of the spares the kinds exhausted and the log's count may change. -/
theorem vrefExhausted_spare (s : State) : s.vrefExhausted.spare = { s.spare with
    exhausted := s.vrefExhausted.spare.exhausted, logSeq := s.vrefExhausted.spare.logSeq } := by
  unfold State.vrefExhausted
  extract_lets _ s1
  split
  · rfl
  · exact (congrArg (fun x : SpareUnit => { x with
      exhausted := (s1.sparev 5 4 (1 - s1.spare.refActive) objDevice 3 true false).spare.exhausted
      logSeq := (s1.sparev 5 4 (1 - s1.spare.refActive) objDevice 3 true false).spare.logSeq })
      (sparev_logged s1 5 4 (1 - s1.spare.refActive) objDevice 3 true false))

/-! ## A halt leaves the spares (R490) -/

theorem streamGap_spare (s : State) (k : Nat) (g : Loss) (n : Nat) : (s.streamGap k g n).spare = s.spare := by
  unfold State.streamGap
  refine ite_keeps State.spare ?_ rfl
  exact (congrArg State.spare (flushGaps_grows _ s).2 :)

theorem formGap_spare (s : State) (g : Loss) : (s.formGap g).spare = s.spare := by
  unfold State.formGap
  extract_lets p made s1 waiting seq _ _ s2 s3
  have h1 : s1.spare = s.spare := ite_keeps State.spare (logE_spare ..) rfl
  clear_value s1
  split
  · exact h1
  · refine ite_keeps State.spare h1 ?_
    exact (streamGap_spare s2 seq g made).trans h1

theorem halt_spare (s : State) : s.halt.spare = s.spare := by
  unfold State.halt
  split
  · rfl
  · extract_lets _ s1 start s2 s3
    have h1 : s1.spare = s.spare :=
      foldl_keeps (P := fun t => t.spare = s.spare) (fun t g h => (formGap_spare t g).trans h) _ _ rfl
    have h2 : s2.spare = s.spare := (formGap_spare ..).trans h1
    have h3 : s3.spare = s.spare :=
      foldl_keeps (P := fun t => t.spare = s.spare) (fun t b h => (formGap_spare t _).trans h) _ _ h2
    exact h3

theorem fatal_spare (s : State) (c : FatalClass) (d : BitVec 32) (h : s.life.phase ≠ .fatal) :
    (s.fatal c d).spare = s.spare := by
  unfold State.fatal
  rw [if_neg h]
  exact halt_spare s

/-! ## A reference that fails (R400, R489) -/

/-- The failure bits of the two references, with that of `b` set. -/
def failsMarked (u : SpareUnit) (b : Bool) : SpareUnit := if b then { u with failB := true } else { u with failA := true }

theorem refFails_spare (s : State) (b : Bool) : (s.refFails b).spare.failA = (failsMarked s.spare b).failA ∧
    (s.refFails b).spare.failB = (failsMarked s.spare b).failB ∧ (s.refFails b).spare.refActive = s.spare.refActive := by
  have ha : (failsMarked s.spare b).refActive = s.spare.refActive := by cases b <;> rfl
  have he : s.refFails b = if (if b then 1 else 0) = (failsMarked s.spare b).refActive then
      { s with spare := { failsMarked s.spare b with refSwitch := ({ s with spare := failsMarked s.spare b } : State).stbyOk } }
      else ({ s with spare := failsMarked s.spare b } : State).vrefExhausted := rfl
  rw [he]
  by_cases hc : (if b then 1 else 0) = (failsMarked s.spare b).refActive
  · rw [if_pos hc]
    exact ⟨rfl, rfl, ha⟩
  · rw [if_neg hc, vrefExhausted_spare]
    exact ⟨rfl, rfl, ha⟩

theorem refFails_switch {b : Bool} (ho : (if b then s.spare.failA else s.spare.failB) = false)
    (ha : (if b then 1 else 0) = s.spare.refActive) : (s.refFails b).spare.refSwitch = true := by
  have he : s.refFails b = if (if b then 1 else 0) = (failsMarked s.spare b).refActive then
      { s with spare := { failsMarked s.spare b with refSwitch := ({ s with spare := failsMarked s.spare b } : State).stbyOk } }
      else ({ s with spare := failsMarked s.spare b } : State).vrefExhausted := rfl
  have hm : (failsMarked s.spare b).refActive = s.spare.refActive := by cases b <;> rfl
  rw [he, if_pos (hm ▸ ha)]
  show ({ s with spare := failsMarked s.spare b } : State).stbyOk = true
  unfold State.stbyOk
  cases b
  · have h0 : s.spare.refActive = 0 := ha.symm
    rw [if_pos (hm.trans h0)]
    exact congrArg (fun x => !x) ho
  · have h1 : s.spare.refActive = 1 := ha.symm
    rw [if_neg (by rw [hm, h1]; decide)]
    exact congrArg (fun x => !x) ho

/-- The state in which a failed reference is marked. -/
def refMarked (s : State) (b : Bool) : State := { s.refFails b with life := s.life }

theorem referenceFailure_eq {b : Bool} (hf : (if b then s.spare.failB else s.spare.failA) = false)
    (hc : 8 ≤ (if b then s.spare.failCntB else s.spare.failCntA)) : s.referenceFailure b =
      if (refMarked s b).spare.failA && (refMarked s b).spare.failB then
        (refMarked s b).fatal .reference (BitVec.ofNat 32 (fld (refMarked s b).refStat 0 8)) else refMarked s b := by
  have hn : ¬ ((if b then s.spare.failB else s.spare.failA) = true ∨ (if b then s.spare.failCntB else s.spare.failCntA) < 8) := by
    rw [hf]
    simpa using hc
  exact if_neg hn

/-- Both references have failed where the other one had. -/
theorem refMarked_both (s : State) (b : Bool) : ((refMarked s b).spare.failA && (refMarked s b).spare.failB) =
    (if b then s.spare.failA else s.spare.failB) := by
  obtain ⟨h1, h2, -⟩ := refFails_spare s b
  have h (x y : Bool) (hx : (refMarked s b).spare.failA = x) (hy : (refMarked s b).spare.failB = y) :
      ((refMarked s b).spare.failA && (refMarked s b).spare.failB) = (x && y) := by rw [hx, hy]
  rw [h _ _ h1 h2]
  cases b
  · exact Bool.true_and _
  · exact Bool.and_true _

theorem refMarked_failed (s : State) (b : Bool) : (if b then (refMarked s b).spare.failB else (refMarked s b).spare.failA) = true := by
  obtain ⟨h1, h2, -⟩ := refFails_spare s b
  cases b
  · exact h1
  · exact h2

/-! ## Scrubs (R404) -/

/-- The row was hit within 86,400 s. -/
def rowHit (s : State) (r : Nat) : Bool :=
  match s.spare.rowHits.find? (fun e => e.1 == r) with
  | some e => decide (s.tick ≤ e.2 + 345600000)
  | none => false

/-- The state with the hit of row `r` entered. -/
def hitEntered (s : State) (r : Nat) : State :=
  { s with spare := { s.spare with rowHits := Store.insert s.spare.rowHits r s.tick } }

/-- The state with row `r` marked. -/
def rowMarked (s : State) (r : Nat) : State := { s with spare := { s.spare with rowsMarked := s.spare.rowsMarked ++ [r] } }

theorem scrubRows_one (s : State) (r : Nat) : s.scrubRows [r] =
    if (rowHit s r && !((hitEntered s r).spare.rowsMarked.contains r)) = true then
      (rowMarked (hitEntered s r) r).slAppend 7 6 0 3 objDevice else hitEntered s r := rfl

/-- What the scrub of one row marks, and what it leaves. -/
theorem scrubRows_marks (s : State) (r : Nat) :
    (rowHit s r = false → (s.scrubRows [r]).spare.rowsMarked = s.spare.rowsMarked) ∧
      (rowHit s r = true → r ∈ (s.scrubRows [r]).spare.rowsMarked) ∧
      (s.scrubRows [r]).facets = s.facets ∧ (s.scrubRows [r]).cal = s.cal := by
  have hs := slAppendAt_spares (rowMarked (hitEntered s r) r) (rowMarked (hitEntered s r) r).seconds 7 6 0 3 objDevice
  have hl := slAppendAt_logged (rowMarked (hitEntered s r) r) (rowMarked (hitEntered s r) r).seconds 7 6 0 3 objDevice
  rw [scrubRows_one]
  split
  · next h =>
    simp only [Bool.and_eq_true] at h
    refine ⟨fun h0 => absurd (h0.symm.trans h.1) Bool.false_ne_true, fun _ => ?_, (congrArg State.facets hs.eq :),
      (congrArg State.cal hs.eq :)⟩
    have hm : ((rowMarked (hitEntered s r) r).slAppend 7 6 0 3 objDevice).spare.rowsMarked = s.spare.rowsMarked ++ [r] :=
      congrArg SpareUnit.rowsMarked hl
    rw [hm]
    exact List.mem_append_right _ (List.mem_singleton_self r)
  · next h =>
    refine ⟨fun _ => rfl, fun h1 => ?_, rfl, rfl⟩
    have hc : (hitEntered s r).spare.rowsMarked.contains r = true := by simpa [h1] using h
    exact List.contains_iff_mem.1 hc

theorem rowHit_false {r : Nat} (h : ∀ e ∈ s.spare.rowHits, e.1 = r → e.2 + 345600000 < s.tick) : rowHit s r = false := by
  unfold rowHit
  split
  · next e he =>
    have h1 := h e (List.mem_of_find?_eq_some he) (by simpa using List.find?_some he)
    exact decide_eq_false (by omega)
  · rfl

theorem rowHit_true {r : Nat} {e : Nat × Nat} (h : s.spare.rowHits.find? (fun e => e.1 == r) = some e)
    (ht : s.tick ≤ e.2 + 345600000) : rowHit s r = true := by
  unfold rowHit
  split
  · next x hx =>
    obtain rfl : e = x := Option.some.inj (h.symm.trans hx)
    exact decide_eq_true ht
  · next hx => rw [h] at hx; cases hx

/-- The state in which the scrub of `rows` is done. -/
def scrubbed (s : State) (rows : List Nat) : State :=
  { s.scrubRows rows with life := s.life, spare := { (s.scrubRows rows).spare with scrubFrames := 0, scrubRead := 0 } }

theorem scrub_eq (s : State) (rows : List Nat) (bad : Option Nat) : s.scrub rows bad =
    bad.elim (if 1 ≤ s.ctl.shed ∨ (!s.scrubDone) = true then s else scrubbed s rows)
      fun a => (if 1 ≤ s.ctl.shed ∨ (!s.scrubDone) = true then s else scrubbed s rows).fatal .sram (BitVec.ofNat 32 a) := by
  cases bad <;> rfl

theorem scrub_idle {rows : List Nat} (h : 1 ≤ s.ctl.shed ∨ s.scrubDone = false) : s.scrub rows none = s := by
  rw [scrub_eq]
  exact if_pos (h.imp_right fun h => by simp [h])

theorem okLife_next (s t : State) (h : t.pending = s.pending) : okLife s t = .next t := by
  unfold okLife
  rw [← h]

/-- Settles O53: a failure marks its reference, a warning its bit, and a scrub its row; a fatal error halts the device and
leaves the spares. -/
theorem referencesAndMemoryFail : Obligations.ReferencesAndMemoryFail := by
  refine ⟨⟨fun b s hr hf hc => ?_, fun b s hc => ?_, fun s hr hw hn => ?_, fun s h => ?_⟩, fun rows s h => ?_,
    fun rows a s hr => ?_, fun r s hr hs hf hw => ?_⟩
  · have he := referenceFailure_eq hf hc
    rw [refMarked_both] at he
    have hp : (refMarked s b).life.phase ≠ .fatal := ready_not_fatal s hr
    obtain ⟨-, -, ha⟩ := refFails_spare s b
    have hx : exec (.referenceFailure b) s = .next { s.referenceFailure b with pending := s.pending } :=
      congrArg (okLife s) (live_ready s hr)
    cases ho : (if b then s.spare.failA else s.spare.failB) with
    | false =>
      rw [he, ho, if_neg Bool.false_ne_true] at hx
      refine ⟨_, hx, refMarked_failed s b, ha, fun h => absurd h Bool.false_ne_true, fun _ => ⟨rfl, fun hb => ?_⟩⟩
      exact refFails_switch ho hb
    | true =>
      rw [he, ho, if_pos rfl] at hx
      have hsp := fatal_spare (refMarked s b) .reference (BitVec.ofNat 32 (fld (refMarked s b).refStat 0 8)) hp
      have hl := fatal_of_running .reference (BitVec.ofNat 32 (fld (refMarked s b).refStat 0 8)) hp
      refine ⟨_, hx, ?_, (congrArg SpareUnit.refActive hsp).trans ha, fun _ => ⟨?_, ?_, ?_⟩, fun h => absurd h (by decide)⟩
      · exact (congrArg (fun x : SpareUnit => (if b then x.failB else x.failA) = true) hsp).mpr (refMarked_failed s b)
      · exact congrArg LifeSt.phase hl
      · exact congrArg LifeSt.fatalClass hl
      · exact congrArg LifeSt.drivesOn hl
  · have he : s.live (fun t => t.referenceFailure b) = s := ite_keeps id (if_pos (.inr hc)) rfl
    exact (congrArg (okLife s) he).trans (okLife_next s s rfl)
  · have he : s.referenceWarning =
        (({ s with spare := { s.spare with refWarn := true } } : State).irq0 7).logE 0x0F noMaster objDevice 0xFF :=
      if_neg (by rw [hn]; simpa using hw)
    rw [logE_eq] at he
    refine ⟨_, live_next hr (f := State.referenceWarning) (by rw [he]; rfl) (by rw [he]; rfl), ?_, ?_⟩
    · rw [he]; rfl
    · rw [he]; exact fld_or_bit _ 7 (by decide)
  · have he : s.live State.referenceWarning = s := ite_keeps id (if_pos h) rfl
    exact (congrArg (ok s) he).trans (ok_next s s rfl rfl)
  · have he : s.live (fun t => t.scrub rows none) = s := ite_keeps id (scrub_idle h) rfl
    exact (congrArg (okLife s) he).trans (okLife_next s s rfl)
  · have hx : exec (.sramScrub rows (some a)) s = .next { s.scrub rows (some a) with pending := s.pending } :=
      congrArg (okLife s) (live_ready s hr)
    have hp : (if 1 ≤ s.ctl.shed ∨ (!s.scrubDone) = true then s else scrubbed s rows).life.phase ≠ .fatal := by
      have hk : (if 1 ≤ s.ctl.shed ∨ (!s.scrubDone) = true then s else scrubbed s rows).life = s.life :=
        ite_keeps State.life rfl rfl
      rw [hk]
      exact ready_not_fatal s hr
    have hl := fatal_of_running .sram (BitVec.ofNat 32 a) hp
    rw [scrub_eq] at hx
    exact ⟨_, hx, congrArg LifeSt.phase hl, congrArg LifeSt.fatalClass hl, congrArg LifeSt.fatalDetail hl,
      congrArg LifeSt.drivesOn hl⟩
  · have hd : s.scrubDone = true := decide_eq_true ⟨hf, hw⟩
    have hx : exec (.sramScrub [r] none) s = .next { s.scrub [r] none with pending := s.pending } :=
      congrArg (okLife s) (live_ready s hr)
    have he : s.scrub [r] none = scrubbed s [r] := (scrub_eq ..).trans (if_neg (by simp [hs, hd]))
    rw [he] at hx
    obtain ⟨h1, h2, h3, h4⟩ := scrubRows_marks s r
    exact ⟨_, hx, rfl, rfl, rfl, fun h => h1 (rowHit_false h), fun e h ht => h2 (rowHit_true h ht), h3, h4⟩

/-! ## A write that may hold a value out of its list (R9, R10) -/

/-- The state after the log entry of a value out of its list. -/
def valuesChecked (s : State) (m : Master) (off : Nat) (v : Word) : State := if encBad off v then s.logIgnored m off 0 else s

/-- A write that sets a field that acts at once, whatever its other fields hold. -/
theorem writeCycle_checked {off : Nat} {v : Word} (h : s.directs m off) (hn : v &&& nowMask off ≠ 0)
    (hs : simpleReg off = true := by decide) (hc : off ≠ 0x0C := by decide) (hf : rwFields off ≠ [] := by simp [rwFields]) :
    s.writeCycle m off v = ((stored (valuesChecked s m off v) m off v).regNow m off v).ack m true := by
  rw [simpleReg_direct v h hs]
  refine congrArg (fun t : State => t.ack m true) ?_
  simp only [simpleReg, Bool.and_eq_true, Bool.not_eq_true', decide_eq_false_iff_not, bne_iff_ne, ne_eq] at hs
  obtain ⟨⟨⟨hcan, h54⟩, -⟩, -⟩ := hs
  have h61 : off ≠ 0x61 := by omega
  have hw : v &&& nowMask off ≠ 0 ∨ off = 0x0B := .inl hn
  have hb : (encBad off v && off != 0x0C) = encBad off v := by simp [hc]
  simp only [State.regDirect, State.portIgnores, hcan, hf, State.afterAccess, h54, stored, State.canIgnores, hw, hb,
    valuesChecked, decide_false, Bool.false_and, Bool.false_eq_true, if_false, beq_false_of_ne h61, Bool.not_false, and_self, if_true]

/-- Of the checked state the log alone differs. -/
theorem valuesChecked_ends (s : State) (m : Master) (off : Nat) (v : Word) : EndsOnly s (valuesChecked s m off v) := by
  unfold valuesChecked
  split
  · exact logE_ends ..
  · rfl

theorem EndsOnly.master (h : EndsOnly s u) (n : Master) : u.master n = s.master n := by
  rw [h.eq]
  cases n <;> rfl

/-! ## The calibration's target ends (R353, R356) -/

theorem calev_cal (s : State) (a b c d : Nat) : (s.calev a b c d).cal = s.cal := rfl

/-- The reason of a run: that of its first target that failed. -/
def firstReason (r : CalRun) (c : Nat) : Nat := if r.firstFail = 0 then c else r.firstFail

/-- The run at its next target. -/
def nextTarget (s : State) (r : CalRun) (c n : Nat) (ns : List Nat) : CalRun :=
  { r with
    target := n, todo := ns, firstFail := firstReason r c, phase := 0, standin := none, gapFrom := none, left := 0
    result := [], owed := 0, fail := 0, checked := false, counted := false, freeAt := none, waitFrom := s.tick }

/-- The calibration after the last target of the run. -/
def calOver (s : State) (r : CalRun) (c : Nat) : CalSt :=
  { s.cal with run := none, state := if firstReason r c = 0 then 3 else 4, proc := r.proc, reason := firstReason r c }

/-- The state in which the end of the target is sent and logged. -/
def endSent (s : State) (r : CalRun) (c : Nat) : State :=
  let v := s.calev (if r.proc = 10 then (if c = 0 then 3 else 4) else (if c = 0 then 1 else 2)) r.proc c (calObject r.proc r.target)
  if c = 0 then v else v.logE 0x0D noMaster (calObject r.proc r.target) (BitVec.ofNat 32 c)

theorem endSent_ends (s : State) (r : CalRun) (c : Nat) : EndsOnly s (endSent s r c) := by
  unfold endSent
  extract_lets v
  have hv : EndsOnly s v := calev_ends ..
  split
  · exact hv
  · exact hv.trans (logE_ends ..)

theorem endSent_cal (s : State) (r : CalRun) (c : Nat) : (endSent s r c).cal = s.cal := by
  unfold endSent
  extract_lets v
  have hv : v.cal = s.cal := rfl
  exact ite_keeps State.cal hv ((logE_cal ..).trans hv)

/-- Where no target is to come, or the run is aborted, the run is over. -/
theorem calEndTarget_over {r : CalRun} {c : Nat} (hr : s.cal.run = some r) (h : r.todo = [] ∨ c = 16) :
    s.calEndTarget c = State.irq1 { endSent s r c with cal := calOver s r c } 10 := by
  have hc : calOver (endSent s r c) r c = calOver s r c := by unfold calOver; rw [endSent_cal]
  unfold State.calEndTarget
  split
  · next h => rw [hr] at h; cases h
  · next r' h' =>
    obtain rfl : r = r' := Option.some.inj (hr.symm.trans h')
    extract_lets ev obj s1 s2 first s3
    have h2 : s2 = endSent s r c := rfl
    split
    · next hx hy =>
      rcases h with h | h
      · rw [h] at hx; cases hx
      · simp [h] at hy
    · rw [← hc, ← h2]
      rfl

/-- The calibration with the run at its next target. -/
def calMoved (s : State) (r : CalRun) (c n : Nat) (ns : List Nat) : CalSt := { s.cal with run := some (nextTarget s r c n ns) }

/-- Otherwise its next target is to come. -/
theorem calEndTarget_next {r : CalRun} {c n : Nat} {ns : List Nat} (hr : s.cal.run = some r) (h : r.todo = n :: ns)
    (h16 : c ≠ 16) : (s.calEndTarget c).cal = calMoved (endSent s r c) r c n ns := by
  unfold State.calEndTarget
  split
  · next h => rw [hr] at h; cases h
  · next r' h' =>
    obtain rfl : r = r' := Option.some.inj (hr.symm.trans h')
    extract_lets ev obj s1 s2 first s3
    have h2 : s2 = endSent s r c := rfl
    split
    · next hx hy =>
      obtain ⟨rfl, rfl⟩ := List.cons.inj (h.symm.trans hx)
      rw [← h2]
      rfl
    · next hx => exact absurd (decide_eq_false h16) (hx _ _ h)

/-- What the end of a target leaves of the calibration. -/
theorem calEndTarget_keeps {r : CalRun} (hr : s.cal.run = some r) (c : Nat) : (s.calEndTarget c).cal.image = s.cal.image ∧
    ((s.calEndTarget c).cal.run.isSome = true → (s.calEndTarget c).cal.state = s.cal.state ∧ (s.calEndTarget c).cal.proc = s.cal.proc) ∧
    ((s.calEndTarget c).cal.run = none → (s.calEndTarget c).cal.proc = r.proc) := by
  by_cases h16 : r.todo = [] ∨ c = 16
  · rw [calEndTarget_over hr h16]
    exact ⟨rfl, fun h => absurd (h : (none : Option CalRun).isSome = true) Bool.false_ne_true, fun _ => rfl⟩
  · obtain ⟨h0, h16⟩ := not_or.1 h16
    obtain ⟨n, ns, hn⟩ := List.exists_cons_of_ne_nil h0
    rw [calEndTarget_next hr hn h16, calMoved, endSent_cal]
    exact ⟨rfl, fun _ => ⟨rfl, rfl⟩, fun h => absurd h (Option.some_ne_none _)⟩

/-! ## GO starts a run (R353 to R358) -/

/-- The targets of a run of procedure `proc`. -/
def goTargets (s : State) (proc : Nat) (scope : Bool) : List Nat :=
  if scope ∧ (proc ≤ 1 ∨ 3 ≤ proc ∧ proc ≤ 5 ∨ proc = 9) then s.batch proc
  else [if proc = 2 ∨ proc = 10 then objDevice else s.cdTarget]

/-- The run that GO makes, with the declarations in force. -/
def goRun (s : State) (proc : Nat) (scope gap sys : Bool) : CalRun :=
  { proc, scope, allowGap := gap, sysOnly := sys
    target := (goTargets s proc scope).headD (if proc = 2 ∨ proc = 10 then objDevice else s.cdTarget)
    todo := (goTargets s proc scope).drop 1
    decl := s.cal.decl, refMv := s.cal.refMv, vDecl := s.vDecl, calR := f32R (s.declF 2), range := (s.decl 5).toNat
    blkEps := f32R (s.declF 6), sysKind := (s.decl 8).toNat, sysRef := f32R (s.declF 9), revs := (s.decl 11).toNat
    limits := s.cal.limits, stamp := s.ctl.stamp + 1, waitFrom := s.tick }

/-- The state in which the run is announced. -/
def goState (s : State) (proc : Nat) (scope gap sys : Bool) : State :=
  let v := s.nextStamp
  let w : State := { v with cal := { v.cal with
    ctl := w16 (proc + 16 * b2n scope + 32 * b2n gap + 64 * b2n sys), state := 1, proc, reason := 0 } }
  w.calev 0 proc 0 (calObject proc (goRun s proc scope gap sys).target)

theorem calGo_taken {proc : Nat} {scope gap sys : Bool} (hr : s.cal.run = none) (hp : proc ≤ 10) :
    s.calGo m proc scope gap sys = (goState s proc scope gap sys).beginTarget (goRun s proc scope gap sys) := by
  have hb : decide (10 < proc) = false := decide_eq_false (by omega)
  have hn : ¬ s.cal.run.isSome = true := by simp [hr]
  unfold State.calGo
  rw [if_neg hn, hb]
  rfl

theorem calGo_busy {proc : Nat} {scope gap sys : Bool} (hr : s.cal.run.isSome = true) :
    s.calGo m proc scope gap sys = s.logIgnored m 0x70 0 := if_pos hr

/-- A run of one target has none to come. -/
theorem goRun_todo (s : State) (proc : Nat) (gap sys : Bool) : (goRun s proc false gap sys).todo = [] := by
  show (goTargets s proc false).drop 1 = []
  rw [goTargets, if_neg (by simp)]
  rfl

theorem goRun_target (s : State) (proc : Nat) (gap sys : Bool) :
    (goRun s proc false gap sys).target = if proc = 2 ∨ proc = 10 then objDevice else s.cdTarget := by
  have h : goTargets s proc false = [if proc = 2 ∨ proc = 10 then objDevice else s.cdTarget] := if_neg (by simp)
  show (goTargets s proc false).headD (if proc = 2 ∨ proc = 10 then objDevice else s.cdTarget) = _
  rw [h]
  rfl

theorem calStatic_codes (s : State) (r : CalRun) : s.calStatic r ∈ [0, 1, 2, 3, 4, 5, 10, 11] := by
  have hite {c : Prop} [Decidable c] {a b : Nat} {l : List Nat} (ha : a ∈ l) (hb : b ∈ l) : (if c then a else b) ∈ l := by
    split <;> assumption
  unfold State.calStatic
  refine hite (by decide) (hite (by decide) (hite (by decide) (hite (by decide) (hite (by decide) ?_))))
  split
  · exact hite (by decide) (hite (by decide) (by decide))
  · decide

theorem restoreReason_codes (s : State) (b : Bool) : s.restoreReason b ∈ [0, 17, 18, 19, 20, 21] := by
  have hite {c : Prop} [Decidable c] {a b : Nat} {l : List Nat} (ha : a ∈ l) (hb : b ∈ l) : (if c then a else b) ∈ l := by
    split <;> assumption
  unfold State.restoreReason
  extract_lets ws
  exact hite (by decide) (hite (by decide) (hite (by decide) (hite (by decide) (hite (by decide) (by decide)))))

/-- A restore fails of the static checks that of the timebase alone. -/
theorem calStatic_restore {r : CalRun} (hp : r.proc = 10) (ht : r.target = objDevice) : s.calStatic r = if s.unset then 4 else 0 := by
  have h1 : s.procTarget r.proc r.target = true := by rw [hp]; rfl
  have h2 : s.targetBusy r = false := if_pos (.inr hp)
  have h3 : s.declBad r = false := by unfold State.declBad; simp only [hp]
  have h4 : r.borrows = false := by simp [CalRun.borrows, ht, objDevice]
  have h5 : calPort r.target = none := by rw [ht]; rfl
  unfold State.calStatic
  rw [h1, h2, h3, h4, h5]
  rfl

/-- The run as it waits, its static checks passed. -/
def goPassed (s : State) (r : CalRun) : CalRun :=
  if r.proc = 10 then { r with checked := true, phase := 3, owed := s.restoreCost } else { r with checked := true }

/-- The code of the first static check that a target fails. -/
def goCode (s : State) (r : CalRun) : Nat :=
  if s.calStatic r ≠ 0 then s.calStatic r else if r.proc = 10 then s.restoreReason r.sysOnly else 0

theorem beginTarget_fails {r : CalRun} (h : goCode s r ≠ 0) : s.beginTarget r = (s.setRun r).calEndTarget (goCode s r) := by
  unfold State.beginTarget
  unfold goCode at h ⊢
  extract_lets c1 c2
  by_cases h1 : s.calStatic r ≠ 0
  · rw [if_pos h1, if_pos h1]
  · rw [if_neg h1] at h ⊢
    rw [if_neg h1]
    by_cases h2 : r.proc = 10
    · rw [if_pos h2] at h ⊢
      rw [if_pos h2, if_pos h]
    · rw [if_neg h2] at h
      exact absurd rfl h

theorem beginTarget_passes {r : CalRun} (h : goCode s r = 0) : s.beginTarget r = s.setRun (goPassed s r) := by
  unfold State.beginTarget goPassed
  unfold goCode at h
  extract_lets c1 c2
  by_cases h1 : s.calStatic r ≠ 0
  · rw [if_pos h1] at h
    exact absurd h h1
  · rw [if_neg h1] at h
    rw [if_neg h1]
    by_cases h2 : r.proc = 10
    · rw [if_pos h2] at h
      rw [if_pos h2, if_neg (not_not_intro h), if_pos h2]
      rfl
    · rw [if_neg h2, if_neg h2]

theorem goCode_codes {proc : Nat} {gap sys : Bool} (h : goCode u (goRun s proc false gap sys) ≠ 0) :
    goCode u (goRun s proc false gap sys) ∈ (if proc = 10 then [4, 17, 18, 19, 20, 21] else [1, 2, 3, 4, 5, 10, 11]) := by
  have hc := calStatic_codes u (goRun s proc false gap sys)
  have hr := restoreReason_codes u (goRun s proc false gap sys).sysOnly
  have hp : (goRun s proc false gap sys).proc = proc := rfl
  by_cases h10 : proc = 10
  · have ht : (goRun s proc false gap sys).target = objDevice := by rw [goRun_target, if_pos (.inr h10)]
    have hs := calStatic_restore (s := u) (hp.trans h10) ht
    unfold goCode at h ⊢
    rw [hs] at h ⊢
    rw [if_pos h10]
    rw [if_pos (hp.trans h10)] at h ⊢
    cases hu : u.unset
    · simp only [hu, Bool.false_eq_true, if_false, ne_eq, not_true_eq_false] at h ⊢
      simp only [List.mem_cons] at hr ⊢
      tauto
    · simp
  · unfold goCode at h ⊢
    rw [if_neg h10]
    rw [if_neg (show ¬ (goRun s proc false gap sys).proc = 10 from h10)] at h ⊢
    by_cases h1 : u.calStatic (goRun s proc false gap sys) ≠ 0
    · rw [if_pos h1]
      simp only [List.mem_cons] at hc ⊢
      tauto
    · rw [if_neg h1] at h
      exact absurd rfl h

/-! ## The word of CAL_CTL -/

/-- The state with the word of CAL_CTL in force. -/
def calCtlSet (s : State) (w : Word) : State := { s with cal := { s.cal with ctl := w } }

/-- The word of GO. -/
def goWord (proc : BitVec 4) (scope gap sys : Bool) : Word :=
  w16 (proc.toNat + 16 * b2n scope + 32 * b2n gap + 64 * b2n sys + 0x2000)

theorem goWord_flds (scope gap sys : Bool) : ∀ proc : BitVec 4, proc.toNat ≤ 10 →
    encBad 0x70 (goWord proc scope gap sys) = false ∧ fld (goWord proc scope gap sys &&& 0x7F) 0 4 = proc.toNat ∧
      (fld (goWord proc scope gap sys &&& 0x7F) 4 1 == 1) = scope ∧ (fld (goWord proc scope gap sys &&& 0x7F) 5 1 == 1) = gap ∧
      (fld (goWord proc scope gap sys &&& 0x7F) 6 1 == 1) = sys := by
  cases scope <;> cases gap <;> cases sys <;> decide

theorem goWord_bits (scope gap sys : Bool) : ∀ proc : BitVec 4,
    goWord proc scope gap sys &&& nowMask 0x70 ≠ 0 ∧ fld (goWord proc scope gap sys) 13 1 = 1 ∧
      ¬ fld (goWord proc scope gap sys) 14 1 = 1 ∧ ¬ fld (goWord proc scope gap sys) 15 1 = 1 := by
  cases scope <;> cases gap <;> cases sys <;> decide

theorem regNow_calCtl (t : State) (m : Master) (v : Word) : t.regNow m 0x70 v =
    (fun t : State => if fld v 15 1 = 1 then t.calAbort else t)
      ((fun t : State => if fld v 14 1 = 1 then t.calNext else t) (if fld v 13 1 = 1 then t.calGoCtl m else t)) := rfl

theorem writeCycle_go (h : s.directs m 0x70) (proc : BitVec 4) (scope gap sys : Bool) :
    s.writeCycle m 0x70 (goWord proc scope gap sys) =
      ((stored (valuesChecked s m 0x70 (goWord proc scope gap sys)) m 0x70 (goWord proc scope gap sys)).calGoCtl m).ack m true := by
  obtain ⟨hn, h13, h14, h15⟩ := goWord_bits scope gap sys proc
  rw [writeCycle_checked h hn, regNow_calCtl]
  dsimp only
  rw [if_pos h13, if_neg h14, if_neg h15]

theorem stored_calCtl (s : State) (m : Master) (v : Word) : stored s m 0x70 v = calCtlSet s (rwMerge 0x70 (s.regWord m 0x70) v) := rfl

/-- GO of a procedure on a device without a run. -/
theorem writeCycle_goTaken (h : s.directs m 0x70) {proc : BitVec 4} (scope gap sys : Bool) (hr : s.cal.run = none)
    (hp : proc.toNat ≤ 10) : ∃ w, s.writeCycle m 0x70 (goWord proc scope gap sys) =
      ((goState (calCtlSet s w) proc.toNat scope gap sys).beginTarget (goRun s proc.toNat scope gap sys)).ack m true := by
  obtain ⟨hb, h1, h2, h3, h4⟩ := goWord_flds scope gap sys proc hp
  have hv : valuesChecked s m 0x70 (goWord proc scope gap sys) = s := if_neg (by simp [hb])
  have hw : rwMerge 0x70 (s.regWord m 0x70) (goWord proc scope gap sys) = goWord proc scope gap sys &&& 0x7F :=
    rwMerge_and _ _ hb (by decide)
  refine ⟨goWord proc scope gap sys &&& 0x7F, ?_⟩
  rw [writeCycle_go h, hv, stored_calCtl, hw]
  refine congrArg (fun t : State => t.ack m true) ?_
  have hg : (calCtlSet s (goWord proc scope gap sys &&& 0x7F)).calGoCtl m =
      (calCtlSet s (goWord proc scope gap sys &&& 0x7F)).calGo m (fld (goWord proc scope gap sys &&& 0x7F) 0 4)
        (fld (goWord proc scope gap sys &&& 0x7F) 4 1 == 1) (fld (goWord proc scope gap sys &&& 0x7F) 5 1 == 1)
        (fld (goWord proc scope gap sys &&& 0x7F) 6 1 == 1) := rfl
  rw [hg, h1, h2, h3, h4]
  exact calGo_taken (s := calCtlSet s _) hr hp

/-- What the check of a target leaves, whether the run starts, goes on to another target or ends. -/
theorem beginTarget_keeps (s : State) (r : CalRun) (h1 : s.cal.state = 1) (h2 : r.proc = s.cal.proc) {t : State}
    (ht : t = s.beginTarget r) : t.cal.proc = s.cal.proc ∧ t.cal.image = s.cal.image ∧ t.facets = s.facets ∧
      (t.cal.run.isSome = true → t.cal.state = 1) := by
  by_cases hc : goCode s r = 0
  · rw [ht, beginTarget_passes hc]
    exact ⟨rfl, rfl, rfl, fun _ => h1⟩
  · rw [beginTarget_fails hc] at ht
    have hk := calEndTarget_keeps (s := s.setRun r) rfl (goCode s r)
    have he := (calEndTarget_ends (s.setRun r) (goCode s r)).eq
    rw [← ht] at hk he
    obtain ⟨h3, h4, h5⟩ := hk
    refine ⟨?_, h3, (congrArg State.facets he :), fun h => (h4 h).1.trans h1⟩
    cases hx : t.cal.run with
    | none => exact (h5 hx).trans h2
    | some _ => exact (h4 (by rw [hx]; rfl)).2

/-- What GO leaves, whether the run starts, goes on to another target or ends. -/
theorem goTaken_keeps (s : State) (w : Word) (proc : Nat) (scope gap sys : Bool) {t : State}
    (ht : t = (goState (calCtlSet s w) proc scope gap sys).beginTarget (goRun s proc scope gap sys)) :
    t.cal.proc = proc ∧ t.cal.image = s.cal.image ∧ t.facets = s.facets ∧ (t.cal.run.isSome = true → t.cal.state = 1) :=
  beginTarget_keeps _ _ rfl rfl ht

/-- GO on one target: the run waits, or has ended with the code of the check that it fails. -/
theorem goTaken_one (s : State) (w : Word) (proc : Nat) (gap sys : Bool) {t : State}
    (ht : t = (goState (calCtlSet s w) proc false gap sys).beginTarget (goRun s proc false gap sys)) :
    (∃ r, t.cal.run = some r ∧ t.cal.state = 1 ∧ r.proc = proc ∧
      r.target = (if proc = 2 ∨ proc = 10 then objDevice else s.cdTarget) ∧ r.phase = (if proc = 10 then 3 else 0) ∧
      r.allowGap = gap ∧ r.sysOnly = sys ∧ r.limits = s.cal.limits ∧ r.decl = s.cal.decl) ∨
    t.cal.run = none ∧ t.cal.state = 4 ∧
      t.cal.reason ∈ (if proc = 10 then [4, 17, 18, 19, 20, 21] else [1, 2, 3, 4, 5, 10, 11]) := by
  by_cases hc : goCode (goState (calCtlSet s w) proc false gap sys) (goRun s proc false gap sys) = 0
  · rw [ht, beginTarget_passes hc]
    refine .inl ⟨_, rfl, rfl, ?_⟩
    have htg := goRun_target s proc gap sys
    unfold goPassed
    by_cases h10 : proc = 10
    · rw [if_pos (show (goRun s proc false gap sys).proc = 10 from h10), if_pos h10]
      exact ⟨rfl, htg, rfl, rfl, rfl, rfl, rfl⟩
    · rw [if_neg (show ¬ (goRun s proc false gap sys).proc = 10 from h10), if_neg h10]
      exact ⟨rfl, htg, rfl, rfl, rfl, rfl, rfl⟩
  · have hm := goCode_codes (u := goState (calCtlSet s w) proc false gap sys) hc
    rw [ht, beginTarget_fails hc, calEndTarget_over (r := goRun s proc false gap sys) rfl (.inl (goRun_todo ..))]
    refine .inr ⟨rfl, ?_, hm⟩
    exact if_neg hc

/-- REF_SCALE with a declaration in range passes its static checks. -/
theorem goCode_refScale {gap sys : Bool} (hu : s.unset = false) (hr : s.cal.refMv.toInt.natAbs ≤ 10240)
    (hd : (s.declF 0).toInt.natAbs ≤ 999999) (hlo : 5 ≤ s.vDecl) (hhi : s.vDecl ≤ 1024 / 100) (w : Word) :
    goCode (goState (calCtlSet s w) 2 false gap sys) (goRun s 2 false gap sys) = 0 := by
  have hb : State.declBad (goState (calCtlSet s w) 2 false gap sys) (goRun s 2 false gap sys) = false := by
    have h : State.declBad (goState (calCtlSet s w) 2 false gap sys) (goRun s 2 false gap sys) =
      !(decide (s.cal.refMv.toInt.natAbs ≤ 10240 ∧ (s.declF 0).toInt.natAbs ≤ 999999) &&
        decide (5 ≤ s.vDecl ∧ s.vDecl ≤ 1024 / 100)) := rfl
    rw [h, decide_eq_true ⟨hr, hd⟩, decide_eq_true ⟨hlo, hhi⟩]
    rfl
  have hs : State.calStatic (goState (calCtlSet s w) 2 false gap sys) (goRun s 2 false gap sys) = 0 := by
    unfold State.calStatic
    rw [hb, show State.unset (goState (calCtlSet s w) 2 false gap sys) = s.unset from rfl, hu]
    rfl
  unfold goCode
  rw [if_neg (not_not_intro hs)]
  rfl

/-! ## NEXT and ABORT (R356, R366) -/

theorem withBit_calCtl (old : Word) {b : Nat} (hb : b = 14 ∨ b = 15) :
    withBit 0x70 old b &&& nowMask 0x70 ≠ 0 ∧ ¬ fld (withBit 0x70 old b) 13 1 = 1 ∧
      (fld (withBit 0x70 old b) 14 1 = 1 ↔ b = 14) ∧ (fld (withBit 0x70 old b) 15 1 = 1 ↔ b = 15) := by
  have hz (k : Nat) (hk : k = 13 ∨ k = 14 ∨ k = 15) : fld (heldWord 0x70 old) k 1 = 0 := by
    have h : (heldWord 0x70 old).getLsbD k = false := by
      unfold heldWord
      rw [BitVec.getLsbD_and]
      have : (~~~(nowMask 0x70)).getLsbD k = false := by rcases hk with rfl | rfl | rfl <;> decide
      rw [this, Bool.and_false]
    have h2 := testBit_fld (heldWord 0x70 old) k 1 0
    have h3 := fld_lt (heldWord 0x70 old) k 1
    rw [Nat.add_zero, h] at h2
    rcases (show fld (heldWord 0x70 old) k 1 = 0 ∨ fld (heldWord 0x70 old) k 1 = 1 by omega) with h4 | h4
    · exact h4
    · rw [h4] at h2; exact absurd h2 (by decide)
  have hf (k : Nat) (hk : k = 13 ∨ k = 14 ∨ k = 15) : fld (withBit 0x70 old b) k 1 = if k = b then 1 else 0 := by
    unfold withBit
    by_cases h : k = b
    · subst h
      rw [fld_setFld_self _ _ (by omega), if_pos rfl]
      rfl
    · rw [fld_setFld_other _ _ (by omega) (by omega), if_neg h, hz k hk]
  refine ⟨and_ne_zero_of_fld (b := b) ((hf b (by omega)).trans (if_pos rfl)) (by rcases hb with rfl | rfl <;> decide), ?_, ?_, ?_⟩ <;>
    rw [hf _ (by omega)] <;> split <;> omega

/-- A word of one of the two bits goes on or aborts. -/
theorem regNow_calBit {v : Word} {b : Nat} (h13 : ¬ fld v 13 1 = 1) (h14 : fld v 14 1 = 1 ↔ b = 14)
    (h15 : fld v 15 1 = 1 ↔ b = 15) (hb : b = 14 ∨ b = 15) :
    s.regNow m 0x70 v = if b = 14 then s.calNext else s.calAbort := by
  rw [regNow_calCtl]
  dsimp only
  rw [if_neg h13]
  rcases hb with rfl | rfl
  · rw [if_neg (by rw [h15]; decide), if_pos (h14.mpr rfl), if_pos rfl]
  · rw [if_pos (h15.mpr rfl), if_neg (by rw [h14]; decide), if_neg (by decide)]

theorem writeCycle_calBit (h : s.directs m 0x70) {b : Nat} (hb : b = 14 ∨ b = 15) : ∃ u w, EndsOnly s u ∧ u.cal = s.cal ∧
    s.writeCycle m 0x70 (withBit 0x70 s.cal.ctl b) = (if b = 14 then (calCtlSet u w).calNext else (calCtlSet u w).calAbort).ack m true := by
  obtain ⟨hn, h13, h14, h15⟩ := withBit_calCtl s.cal.ctl hb
  refine ⟨valuesChecked s m 0x70 (withBit 0x70 s.cal.ctl b), rwMerge 0x70
    ((valuesChecked s m 0x70 (withBit 0x70 s.cal.ctl b)).regWord m 0x70) (withBit 0x70 s.cal.ctl b), valuesChecked_ends .., ?_, ?_⟩
  · unfold valuesChecked
    exact ite_keeps State.cal (logE_cal ..) rfl
  · rw [writeCycle_checked h hn, stored_calCtl, regNow_calBit h13 h14 h15 hb]

theorem calNext_block {r : CalRun} (hr : s.cal.run = some r) (hp : r.phase = 5) : s.calNext.cal = { s.cal with
    state := 1, run := some { r with phase := 2, block := true, measFrom := s.tick, faulted := false } } := by
  unfold State.calNext
  split
  · next h => rw [hr] at h; cases h
  · next r' h =>
    obtain rfl : r = r' := Option.some.inj (hr.symm.trans h)
    rw [if_pos hp]

theorem calNext_other {r : CalRun} (hr : s.cal.run = some r) (hp : r.phase ≠ 5) : s.calNext = s := by
  unfold State.calNext
  split
  · rfl
  · next r' h =>
    obtain rfl : r = r' := Option.some.inj (hr.symm.trans h)
    rw [if_neg hp]

theorem calAbort_marks {r : CalRun} (hr : s.cal.run = some r) (hc : r.closed = false) :
    s.calAbort = s.setRun { r with aborted := true } := by
  unfold State.calAbort
  split
  · next h => rw [hr] at h; cases h
  · next r' h =>
    obtain rfl : r = r' := Option.some.inj (hr.symm.trans h)
    rw [if_neg (by simp [hc])]

/-- Settles O48: GO begins a target, which passes its static checks or ends; NEXT and ABORT change the run alone. -/
theorem calibrationCommands : Obligations.CalibrationCommands := by
  intro m s hd
  have hack {v : Word} {u : State} (hw : s.writeCycle m 0x70 v = u.ack m true) :
      ∃ t, ok s (s.writeCycle m 0x70 v) = .next t ∧ t.cal = u.cal ∧ t.facets = u.facets ∧ t.spare = u.spare := by
    refine ⟨_, (congrArg (ok s) hw).trans (ok_eq ..), ack_cal .., ack_facets .., ack_spare ..⟩
  refine ⟨fun proc gap sys hr hp => ?_, fun proc gap sys hr hp => ?_, fun gap sys hr hu h1 h2 h3 h4 => ?_,
    fun proc scope gap sys r hr => ?_, fun r hr hp => ?_, fun r hr hp => ?_, fun r hr hc => ?_⟩
  · obtain ⟨w, hw⟩ := writeCycle_goTaken hd false gap sys hr hp
    obtain ⟨t, hx, hcal, hfac, -⟩ := hack hw
    obtain ⟨k1, k2, k3, -⟩ := goTaken_keeps s w proc.toNat false gap sys rfl
    have hone := goTaken_one s w proc.toNat gap sys rfl
    have h2 : (proc = 2 ∨ proc = 10) ↔ (proc.toNat = 2 ∨ proc.toNat = 10) := by
      rw [← BitVec.toNat_inj, ← BitVec.toNat_inj]; rfl
    have h10 : proc = 10 ↔ proc.toNat = 10 := by rw [← BitVec.toNat_inj]; rfl
    refine ⟨t, hx, ?_⟩
    have e1 : (if proc = 2 ∨ proc = 10 then objDevice else s.cdTarget) =
      if proc.toNat = 2 ∨ proc.toNat = 10 then objDevice else s.cdTarget := if_congr h2 rfl rfl
    have e2 : (if proc = 10 then 3 else 0) = if proc.toNat = 10 then 3 else 0 := if_congr h10 rfl rfl
    have e3 : (if proc = 10 then [4, 17, 18, 19, 20, 21] else [1, 2, 3, 4, 5, 10, 11]) =
      if proc.toNat = 10 then [4, 17, 18, 19, 20, 21] else [1, 2, 3, 4, 5, 10, 11] := if_congr h10 rfl rfl
    rw [hcal, hfac, e1, e2, e3]
    exact ⟨k1, k2, k3, hone⟩
  · obtain ⟨w, hw⟩ := writeCycle_goTaken hd true gap sys hr hp
    obtain ⟨t, hx, hcal, hfac, -⟩ := hack hw
    refine ⟨t, hx, ?_⟩
    rw [hcal, hfac]
    exact goTaken_keeps s w proc.toNat true gap sys rfl
  · obtain ⟨w, hw⟩ := writeCycle_goTaken hd (proc := 2) false gap sys hr (by decide)
    obtain ⟨t, hx, hcal, -⟩ := hack hw
    rw [show (2 : BitVec 4).toNat = 2 from rfl, beginTarget_passes (goCode_refScale hu h1 h2 h3 h4 w)] at hcal
    refine ⟨t, { goRun s 2 false gap sys with checked := true }, hx, ?_⟩
    rw [hcal]
    exact ⟨rfl, rfl, rfl, goRun_target s 2 gap sys, rfl, rfl⟩
  · have hw := writeCycle_go hd proc scope gap sys
    obtain ⟨t, hx, hcal, -⟩ := hack hw
    refine ⟨t, hx, ?_⟩
    have hv : (valuesChecked s m 0x70 (goWord proc scope gap sys)).cal = s.cal := by
      unfold valuesChecked
      exact ite_keeps State.cal (logE_cal ..) rfl
    rw [stored_calCtl] at hcal
    generalize hu : valuesChecked s m 0x70 (goWord proc scope gap sys) = v at hcal hv
    have hb (w : Word) : ((calCtlSet v w).calGoCtl m).cal = { s.cal with ctl := w } := by
      have hs : (calCtlSet v w).cal = { s.cal with ctl := w } := by rw [← hv]; rfl
      have hg : (calCtlSet v w).calGoCtl m = (calCtlSet v w).logIgnored m 0x70 0 :=
        calGo_busy (by rw [hs]; exact congrArg Option.isSome hr)
      rw [hg, ← hs]
      exact logE_cal ..
    rw [hcal, hb]
    exact ⟨hr, rfl, rfl⟩
  · obtain ⟨u, w, hq, hc, hw⟩ := writeCycle_calBit hd (b := 14) (.inl rfl)
    obtain ⟨t, hx, hcal, -⟩ := hack hw
    have hr' : (calCtlSet u w).cal.run = some r := by rw [← hr, ← hc]; rfl
    have ht : (calCtlSet u w).tick = s.tick := (congrArg (fun v : State => v.time.tick) hq.eq :)
    refine ⟨t, hx, ?_⟩
    rw [hcal, if_pos rfl, calNext_block hr' hp, ht]
    exact ⟨rfl, rfl⟩
  · obtain ⟨u, w, hq, hc, hw⟩ := writeCycle_calBit hd (b := 14) (.inl rfl)
    obtain ⟨t, hx, hcal, -⟩ := hack hw
    have hr' : (calCtlSet u w).cal.run = some r := by rw [← hr, ← hc]; rfl
    refine ⟨t, hx, ?_⟩
    rw [hcal, if_pos rfl, calNext_other hr' hp]
    exact ⟨hr', by rw [← hc]; rfl⟩
  · obtain ⟨u, w, hq, hc', hw⟩ := writeCycle_calBit hd (b := 15) (.inr rfl)
    obtain ⟨t, hx, hcal, hfac, hsp⟩ := hack hw
    have hr' : (calCtlSet u w).cal.run = some r := by rw [← hr, ← hc']; rfl
    refine ⟨t, hx, ?_⟩
    rw [if_neg (by decide), calAbort_marks hr' hc] at hcal hfac hsp
    exact ⟨congrArg CalSt.run hcal, hfac.trans (congrArg State.facets hq.eq :), hsp.trans (congrArg State.spare hq.eq :)⟩

end Sys2Proof.Proofs
end

section
/-! PROPERTY. The sequencer, captures, memory and the host stream (O38, O40). -/

namespace Sys2Proof.Proofs

open Sys2Proof Sys2Proof.Machine Sys2Proof.Laws

-- one proof at a time: the text is compiled as a whole, and the proofs side by side would need too much memory
set_option Elab.async false

variable {s t u : State} {m : Master}

/-! ## Packets of the stream queue (R274, R275) -/

/-- The queue, its packets and the gaps that wait for room alone have changed. -/
def QueueOnly (s u : State) : Prop :=
  u = { s with cap := { s.cap with queue := u.cap.queue, packets := u.cap.packets, gapWait := u.cap.gapWait } }

theorem QueueOnly.refl (s : State) : QueueOnly s s := rfl

theorem QueueOnly.eq (h : QueueOnly s u) :
    u = { s with cap := { s.cap with queue := u.cap.queue, packets := u.cap.packets, gapWait := u.cap.gapWait } } := h

theorem QueueOnly.trans (h1 : QueueOnly s t) (h2 : QueueOnly t u) : QueueOnly s u :=
  h2.eq.trans (congrArg (fun v : State => { v with
    cap := { v.cap with queue := u.cap.queue, packets := u.cap.packets, gapWait := u.cap.gapWait } }) h1.eq)

theorem pushPacket_some {k n : Nat} {l : Loss} {b : List Word} (h : s.pushPacket k n l b = some t) :
    QueueOnly s t ∧ s.cap.queue <+: t.cap.queue ∧ t.cap.queue.length = s.cap.queue.length + (b.length + 7) ∧
      s.cap.queue.length + (b.length + 7) ≤ s.streamRoom := by
  unfold State.pushPacket at h
  extract_lets p at h
  have hl : p.length = b.length + 7 := List.length_append.trans (Nat.add_comm ..)
  split at h
  · next hr =>
    obtain rfl := Option.some.inj h
    exact ⟨rfl, List.prefix_append .., (List.length_append ..).trans (by rw [hl]), hl ▸ hr⟩
  · cases h

theorem pushPacket_room {k n : Nat} {l : Loss} {b : List Word} (h : s.cap.queue.length + (b.length + 7) ≤ s.streamRoom) :
    ∃ t, s.pushPacket k n l b = some t := by
  unfold State.pushPacket
  extract_lets p
  have hl : p.length = b.length + 7 := List.length_append.trans (Nat.add_comm ..)
  rw [if_pos (by rw [hl]; exact h)]
  exact ⟨_, rfl⟩

theorem stagePacket_push {k n : Nat} {l : Loss} {b : List Word} (h : s.cap.gapWait = []) :
    s.stagePacket k n l b = s.pushPacket k n l b := if_pos h

theorem stagePacket_some {k n : Nat} {l : Loss} {b : List Word} (h : s.stagePacket k n l b = some t) :
    s.cap.gapWait = [] ∧ s.pushPacket k n l b = some t := by
  unfold State.stagePacket at h
  split at h
  · next hg => exact ⟨hg, h⟩
  · cases h

theorem stagePacket_none {k n : Nat} {l : Loss} {b : List Word}
    (h : s.cap.gapWait ≠ [] ∨ s.streamRoom < s.cap.queue.length + (b.length + 7)) : s.stagePacket k n l b = none := by
  cases hp : s.stagePacket k n l b with
  | none => rfl
  | some t =>
    obtain ⟨hg, ht⟩ := stagePacket_some hp
    obtain ⟨-, -, -, hr⟩ := pushPacket_some ht
    rcases h with h | h
    · exact absurd hg h
    · omega

theorem flushGaps_queue (l : List (Loss × List Word)) : ∀ s : State, QueueOnly s (s.flushGaps l) := by
  induction l with
  | nil => exact fun s => rfl
  | cons g l ih =>
    intro s
    unfold State.flushGaps
    split
    · next t ht => exact (pushPacket_some ht).1.trans (ih t)
    · rfl

/-! ## Losses -/

theorem lose_adds (a b c d e : Nat) {n : Nat} (hn : n ≠ 0) (hu : s.unset = false) : (s.lose a b c n d e).msg.losses ≠ [] := by
  unfold State.lose
  rw [if_neg (by simp [hn, hu])]
  extract_lets x same ext ls
  show ls ≠ []
  by_cases h : s.msg.losses.any same = true
  · have hl : ls = s.msg.losses.map (fun l => if same l then ext l else l) := if_pos h
    rw [hl]
    intro hz
    rw [List.map_eq_nil_iff.1 hz] at h
    cases h
  · have hl : ls = s.msg.losses ++ _ := if_neg h
    rw [hl]
    simp

theorem lose_keeps (a b c n d e : Nat) (h : s.msg.losses ≠ []) : (s.lose a b c n d e).msg.losses ≠ [] := by
  by_cases hz : n = 0 ∨ s.unset = true
  · unfold State.lose
    rw [if_pos (by simpa using hz)]
    exact h
  · obtain ⟨hn, hu⟩ := not_or.1 hz
    exact lose_adds a b c d e hn (by simpa using hu)

/-! ## The sequencer (R258, R261) -/

/-- Some state of the sequencer's table is bad. -/
def tableBad (s : State) : Bool := (List.range 8).any fun i => (s.trgState i).bad

/-- The sequencer after a write of EN. -/
def trgEnWritten (s : State) (en : Bool) : State := if en then s.trgEnable else s.trgStop

theorem stored_trgCtl {v : Word} : stored s m 0x50 v = trgEnWritten s (fld v 0 1 == 1) := by
  have hs (w : Word) : s.regStore m 0x50 w v = if fld w 0 1 = 1 then s.trgEnable else s.trgStop := rfl
  unfold stored
  rw [hs, fld_rwMerge _ (by rfl) (by decide) (by decide)]
  unfold trgEnWritten
  by_cases h : fld v 0 1 = 1 <;> simp [h]

theorem trgEnable_bad (h : tableBad s = true) : s.trgEnable = { s with trg := { s.trg with en := false, cause := 1 } } := if_pos h

theorem trgEnable_good (h : tableBad s = false) (he : s.trg.en = false) :
    s.trgEnable = { s with trg := { s.trg with en := true, cause := 0, startPend := true, running := false } } := by
  have hb : ¬ ((List.range 8).any fun i => (s.trgState i).bad) = true := by
    change ¬ tableBad s = true
    simp [h]
  unfold State.trgEnable
  rw [if_neg hb, if_neg (by simp [he])]

theorem trgEnable_again (h : tableBad s = false) (he : s.trg.en = true) :
    s.trgEnable = { s with trg := { s.trg with cause := 0 } } := by
  have hb : ¬ ((List.range 8).any fun i => (s.trgState i).bad) = true := by
    change ¬ tableBad s = true
    simp [h]
  unfold State.trgEnable
  rw [if_neg hb, if_pos he]

/-- A write that leaves EN as it is changes the sequencer alone, whose EN stays unless a state is bad. -/
theorem trgEnWritten_same (s : State) : (trgEnWritten s s.trg.en).trg.en = (s.trg.en && !tableBad s) ∧
    trgEnWritten s s.trg.en = { s with trg := (trgEnWritten s s.trg.en).trg } := by
  cases he : s.trg.en with
  | false =>
    have h : trgEnWritten s false = s.trgDisable := by
      show (if s.trg.en then s.trgJudge else s).trgDisable = _
      rw [he]
      rfl
    rw [h]
    exact ⟨rfl, rfl⟩
  | true =>
    have h : trgEnWritten s true = s.trgEnable := rfl
    rw [h]
    cases hb : tableBad s with
    | false => rw [trgEnable_again hb he]; exact ⟨he, rfl⟩
    | true => rw [trgEnable_bad hb]; exact ⟨rfl, rfl⟩

theorem force_word (en : Bool) : (fld (w16 (b2n en + 2)) 0 1 == 1) = en ∧ fld (w16 (b2n en + 2)) 1 1 = 1 := by
  cases en <;> decide

theorem writeCycle_force (h : s.directs m 0x50) :
    s.writeCycle m 0x50 (w16 (b2n s.trg.en + 2)) = (trgEnWritten s s.trg.en).trgForce.ack m true := by
  obtain ⟨h0, h1⟩ := force_word s.trg.en
  rw [writeCycle_store_now h (by rfl) (and_ne_zero_of_fld h1 (by decide)), stored_trgCtl, h0]
  refine congrArg (fun t : State => t.ack m true) ?_
  exact (steps_one (v := w16 (b2n s.trg.en + 2)) (b := 1) State.trgForce _).trans (if_pos h1)

theorem writeCycle_trgEnable (h : s.directs m 0x50) : s.writeCycle m 0x50 1 = s.trgEnable.ack m true := by
  rw [writeCycle_store h (by rfl) (by decide), stored_trgCtl]
  rfl

/-! ## Arming (R264, R266) -/

/-- What dropping the chunks that wait changes: the messages alone. -/
theorem dropChunks_eq (s : State) : s.dropChunks = { s with msg := s.dropChunks.msg } := by
  unfold State.dropChunks
  split
  rename_i gone out _
  exact foldl_rel (R := fun a b : State => b = { a with msg := b.msg }) (fun _ => rfl)
    (fun {_ _ c} h1 h2 => h2.trans (congrArg (fun v : State => { v with msg := c.msg }) h1))
    (fun b x => by rw [lose_eq]) gone { s with msg := { s.msg with out } }

theorem withBit_fld (off : Nat) (old : Word) {b k : Nat} (hb : b < 16) (hk : k < 16) :
    fld (withBit off old b) k 1 = if k = b then 1 else if (nowMask off).getLsbD k then 0 else fld old k 1 := by
  unfold withBit
  by_cases h : k = b
  · subst h
    rw [fld_setFld_self _ _ (by omega), if_pos rfl]
    rfl
  · rw [fld_setFld_other _ _ (by omega) (by omega), if_neg h]
    have hbit (w : Word) : fld w k 1 = (w.getLsbD k).toNat := by
      rw [fld, bits, Nat.pow_one, ← Nat.toNat_testBit, BitVec.testBit_toNat]
    have hn : (~~~(nowMask off)).getLsbD k = !(nowMask off).getLsbD k := by
      rw [BitVec.getLsbD_not]
      simp [hk]
    rw [hbit, hbit, heldWord, BitVec.getLsbD_and, hn]
    cases (nowMask off).getLsbD k <;> simp

theorem withBit_acts {off : Nat} (old : Word) {b : Nat} (hb : b < 16) (hn : fld (nowMask off) b 1 = 1) :
    withBit off old b &&& nowMask off ≠ 0 :=
  and_ne_zero_of_fld ((withBit_fld off old hb hb).trans (if_pos rfl)) hn

/-- The state in which the word of CAP_CTL is taken, as a write of an acting bit holds it. -/
def capCtlHeld (s : State) : State := s.hsEnableWrite (fld s.cap.ctl 5 1 == 1) (fld s.cap.ctl 3 1 == 1) (fld s.cap.ctl 4 1 == 1)

theorem stored_capCtl (s : State) (m : Master) {b : Nat} (hb : b < 3) : stored s m 0x57 (withBit 0x57 s.cap.ctl b) = capCtlHeld s := by
  have hs (w v : Word) : s.regStore m 0x57 w v = s.hsEnableWrite (fld w 5 1 == 1) (fld w 3 1 == 1) (fld w 4 1 == 1) := rfl
  have hf (k : Nat) (hk : k = 3 ∨ k = 4 ∨ k = 5) :
      fld (rwMerge 0x57 (s.regWord m 0x57) (withBit 0x57 s.cap.ctl b)) k 1 = fld s.cap.ctl k 1 := by
    have hc : ∀ i < 1, covered (rwFields 0x57) (k + i) = true := by rcases hk with rfl | rfl | rfl <;> decide
    rw [fld_rwMerge _ (by rfl) hc (by omega), withBit_fld _ _ (by omega) (by omega), if_neg (by omega), if_neg]
    rcases hk with rfl | rfl | rfl <;> decide
  unfold stored
  rw [hs, hf 5 (by simp), hf 3 (by simp), hf 4 (by simp)]
  rfl

/-- A write of one acting bit of CAP_CTL. -/
theorem writeCycle_capCtl (h : s.directs m 0x57) {b : Nat} (hb : b < 3) : s.writeCycle m 0x57 (withBit 0x57 s.cap.ctl b) =
    (if b = 0 then (capCtlHeld s).capArm else if b = 1 then (capCtlHeld s).capRelease else (capCtlHeld s).capAbort).ack m true := by
  have hv (k : Nat) (hk : k < 3) : fld (withBit 0x57 s.cap.ctl b) k 1 = if k = b then 1 else 0 := by
    rw [withBit_fld _ _ (by omega) (by omega)]
    refine if_congr Iff.rfl rfl (if_pos ?_)
    have : k = 0 ∨ k = 1 ∨ k = 2 := by omega
    rcases this with rfl | rfl | rfl <;> decide
  have hn : fld (nowMask 0x57) b 1 = 1 := by
    have : b = 0 ∨ b = 1 ∨ b = 2 := by omega
    rcases this with rfl | rfl | rfl <;> decide
  rw [writeCycle_store_now h (by rfl) (withBit_acts _ (by omega) hn), stored_capCtl s m hb]
  refine congrArg (fun t : State => t.ack m true) ?_
  have hs (t : State) (v : Word) : t.regNow m 0x57 v = (fun t : State => if fld v 2 1 = 1 then t.capAbort else t)
      ((fun t : State => if fld v 1 1 = 1 then t.capRelease else t) (if fld v 0 1 = 1 then t.capArm else t)) := rfl
  rw [hs]
  dsimp only
  rw [hv 0 (by decide), hv 1 (by decide), hv 2 (by decide)]
  have : b = 0 ∨ b = 1 ∨ b = 2 := by omega
  rcases this with rfl | rfl | rfl <;> simp

theorem capCtlHeld_keeps (s : State) : capCtlHeld s = { s with
    cap := { s.cap with ctl := (capCtlHeld s).cap.ctl, cause := (capCtlHeld s).cap.cause, hsStamp := (capCtlHeld s).cap.hsStamp }
    ctl := { s.ctl with stamp := s.ctl.stamp + 1 } } := rfl

/-- The reason that refuses ARM. -/
def armCause (s : State) : Nat :=
  if s.csLast < s.csFirst ∨ 511 < s.csLast then 1
  else if s.unset then 2
  else if s.cap.st = .fill ∨ s.cap.st = .post ∨ s.cap.st = .stream then 3 else 0

/-- The state in which ARM waits for its frame boundary. -/
def armWaits (s : State) : State :=
  let v := (State.dropChunks { s with trg := { s.trg with logMiss := true } }).nextStamp
  { v with cap := { v.cap with
    cause := 0, st := .idle, armPend := true, armStamp := v.ctl.stamp, mem := [], lines := [], sending := false } }

theorem capArm_refused (h : armCause s ≠ 0) : s.capArm = { s with cap := { s.cap with cause := armCause s } } := if_pos h

theorem capArm_taken (h : armCause s = 0) : s.capArm = if s.cap.st = .rearm then
    { s with trg := { s.trg with logMiss := true }, cap := { s.cap with cause := 0 } } else armWaits s :=
  if_neg (not_not_intro h)

theorem armCause_span (hf : s.csFirst ≤ s.csLast) (hl : s.csLast ≤ 511) : armCause s =
    if s.unset then 2 else if s.cap.st = .fill ∨ s.cap.st = .post ∨ s.cap.st = .stream then 3 else 0 := if_neg (by omega)

theorem armWaits_waits (s : State) : (armWaits s).cap.st = .idle ∧ (armWaits s).cap.armPend = true ∧
    (armWaits s).cap.cause = 0 ∧ (armWaits s).cap.mem = [] ∧ (armWaits s).cap.lines = [] ∧ (armWaits s).trg.logMiss = true := by
  have hd := congrArg State.trg (dropChunks_eq { s with trg := { s.trg with logMiss := true } })
  exact ⟨rfl, rfl, rfl, rfl, rfl, (congrArg TrgSt.logMiss hd :)⟩

/-! ## The ring fills, and the automatic trigger (R262, R264) -/

/-- What a ring that begins to fill leaves. -/
theorem beginFill_fills (s : State) (f : Nat) : (s.beginFill f).cap.st = .fill ∧ (s.beginFill f).cap.f = f ∧
    (s.beginFill f).cap.armPend = false ∧ (s.beginFill f).cap.mem = [] ∧ (s.beginFill f).cap.seq = s.cap.seq ∧
    s.beginFill f = { s with cap := (s.beginFill f).cap, ctl := { s.ctl with irq1 := (s.beginFill f).ctl.irq1 } } := by
  unfold State.beginFill
  extract_lets p part c pre g cl s1
  split <;> exact ⟨rfl, rfl, rfl, rfl, rfl, rfl⟩

/-- The header of a capture changes the queue and what stands of the header. -/
def HeaderOnly (s u : State) : Prop := u = { s with msg := u.msg, cap := { s.cap with
  queue := u.cap.queue, packets := u.cap.packets, gapWait := u.cap.gapWait, headPend := u.cap.headPend, headSent := u.cap.headSent } }

theorem HeaderOnly.eq (h : HeaderOnly s u) : u = { s with msg := u.msg, cap := { s.cap with
  queue := u.cap.queue, packets := u.cap.packets, gapWait := u.cap.gapWait, headPend := u.cap.headPend, headSent := u.cap.headSent } } := h

theorem HeaderOnly.trans (h1 : HeaderOnly s t) (h2 : HeaderOnly t u) : HeaderOnly s u :=
  h2.eq.trans (congrArg (fun v : State => { v with msg := u.msg, cap := { v.cap with
    queue := u.cap.queue, packets := u.cap.packets, gapWait := u.cap.gapWait
    headPend := u.cap.headPend, headSent := u.cap.headSent } }) h1.eq)

theorem QueueOnly.header (h : QueueOnly s u) : HeaderOnly s u := by
  unfold HeaderOnly
  rw [h.eq]

theorem stageHeader_header (s : State) : HeaderOnly s s.stageHeader := by
  unfold State.stageHeader
  split
  · rfl
  · split
    · next t ht =>
      obtain ⟨-, hp⟩ := stagePacket_some ht
      exact (pushPacket_some hp).1.header.trans rfl
    · rfl

theorem emitHeader_header (s : State) : HeaderOnly s s.emitHeader := rfl

/-- The capture that a trigger begins: the samples before it that the ring holds. -/
def preActual (s : State) : Nat := min s.cap.grant (s.tick - s.cap.f)

/-- What a trigger does to a ring that fills. -/
theorem trigger_fill (src cond evid : Nat) (h : s.cap.st = .fill) :
    (s.trigger src cond evid).cap.srcState = src ∧ (s.trigger src cond evid).cap.t = s.tick ∧
      (s.trigger src cond evid).cap.seq = (s.cap.seq + 1) % 65536 ∧ (s.trigger src cond evid).cap.endTick = s.tick + s.cap.p - 1 ∧
      (s.trigger src cond evid).trg.count = (s.trg.count + 1) % 256 ∧
      (s.trigger src cond evid).cap.st = if s.cap.c < preActual s + s.cap.p then .stream else .post := by
  unfold State.trigger
  extract_lets t _ s1 _ s2 _ c preAct long inside flags s3 s4
  have hl : long = decide (s.cap.c < preActual s + s.cap.p) := rfl
  have hs3 : s3.cap.st = if s.cap.c < preActual s + s.cap.p then .stream else .post := by
    have : s3.cap.st = if long then .stream else .post := rfl
    rw [this, hl]
    by_cases h : s.cap.c < preActual s + s.cap.p <;> simp [h]
  have h4 : HeaderOnly s3 (if fld s4.cap.ctl 4 1 = 1 then s4.emitHeader else s4) := by
    split
    · exact (stageHeader_header s3).trans (emitHeader_header s4)
    · exact stageHeader_header s3
  rw [if_neg (not_not_intro h)]
  split
  · exact ⟨rfl, rfl, rfl, rfl, rfl, hs3⟩
  · rw [h4.eq]
    exact ⟨rfl, rfl, rfl, rfl, rfl, hs3⟩

/-- Settles O38: the commands of the sequencer and of the capture are one update each, after the word that holds their bit. -/
theorem triggersAndArming : Obligations.TriggersAndArming := by
  refine ⟨⟨fun m s hd => ⟨fun hb he => ?_, fun hb => ?_, ?_⟩, fun fall width s hx hr => ?_⟩,
    fun m s hd hf hl => ?_, fun s hr hu hd hc => ?_, fun s hr hs ha ht => ?_⟩
  · have hw := writeCycle_trgEnable hd
    rw [trgEnable_good hb he] at hw
    exact (congrArg (ok s) hw).trans (ok_next s _ (ack_pending ..) (ack_life ..))
  · have hw := writeCycle_trgEnable hd
    rw [trgEnable_bad hb] at hw
    exact (congrArg (ok s) hw).trans (ok_next s _ (ack_pending ..) (ack_life ..))
  · have hw := writeCycle_force hd
    obtain ⟨h1, h2⟩ := trgEnWritten_same s
    have hF : (trgEnWritten s s.trg.en).trgForce = { s with trg := (trgEnWritten s s.trg.en).trgForce.trg } := by
      rw [h2]; rfl
    have ht : ((trgEnWritten s s.trg.en).trgForce.ack m true).trg = (trgEnWritten s s.trg.en).trgForce.trg := ack_trg ..
    refine ⟨_, (congrArg (ok s) hw).trans (ok_next s _ ((ack_pending ..).trans (congrArg State.pending hF :))
      ((ack_life ..).trans (congrArg State.life hF :))), ?_, ?_, ?_⟩
    · rw [ht]; rfl
    · rw [ht]; exact h1
    · rw [ack_eq, hF]
  · have he : s.landed (fun t => t.live fun t => t.trigInEdge fall width) = s.trigInEdge fall width := by
      rw [landed_open s hx, live_ready s hr]
    have hp : (s.trigInEdge fall width).pending = s.pending ∧ (s.trigInEdge fall width).life = s.life := by
      unfold State.trigInEdge
      split
      · exact ⟨rfl, rfl⟩
      · split <;> exact ⟨rfl, rfl⟩
    exact (congrArg (ok s) he).trans (ok_next s _ hp.1 hp.2)
  · have hw := writeCycle_capCtl hd (b := 0) (by decide)
    rw [if_pos rfl] at hw
    have hx : exec (.capArm m) s = .next { (capCtlHeld s).capArm.ack m true with pending := s.pending, life := s.life } :=
      (congrArg (ok s) hw).trans (ok_eq ..)
    have hc : ((capCtlHeld s).capArm.ack m true).cap = (capCtlHeld s).capArm.cap := ack_cap ..
    have ht : ((capCtlHeld s).capArm.ack m true).trg = (capCtlHeld s).capArm.trg := ack_trg ..
    have hk : armCause (capCtlHeld s) =
      if s.unset then 2 else if s.cap.st = .fill ∨ s.cap.st = .post ∨ s.cap.st = .stream then 3 else 0 :=
      armCause_span (s := capCtlHeld s) hf hl
    refine ⟨fun hu hs => ⟨_, hx, ?_⟩, fun hu => ⟨_, hx, ?_⟩, fun hu hs => ⟨_, hx, ?_⟩, fun hu hs => ⟨_, hx, ?_⟩⟩
    · rw [if_neg (by simp [hu]), if_neg (by rcases hs with h | h <;> simp [h])] at hk
      have ha : (capCtlHeld s).capArm = armWaits (capCtlHeld s) :=
        (capArm_taken hk).trans (if_neg (show ¬ s.cap.st = .rearm by rcases hs with h | h <;> simp [h]))
      obtain ⟨h1, h2, h3, h4, h5, h6⟩ := armWaits_waits (capCtlHeld s)
      rw [← ha] at h1 h2 h3 h4 h5 h6
      rw [← hc] at h1 h2 h3 h4 h5
      rw [← ht] at h6
      exact ⟨h1, h2, h3, h4, h5, h6⟩
    · rw [if_pos hu] at hk
      have ha := capArm_refused (s := capCtlHeld s) (by rw [hk]; decide)
      rw [hk] at ha
      replace hc := hc.trans (congrArg State.cap ha)
      exact ⟨(congrArg CapSt.cause hc :), (congrArg CapSt.st hc :), (congrArg CapSt.armPend hc :)⟩
    · rw [if_neg (by simp [hu]), if_pos hs] at hk
      have ha := capArm_refused (s := capCtlHeld s) (by rw [hk]; decide)
      rw [hk] at ha
      replace hc := hc.trans (congrArg State.cap ha)
      exact ⟨(congrArg CapSt.cause hc :), (congrArg CapSt.st hc :), (congrArg CapSt.mem hc :)⟩
    · rw [if_neg (by simp [hu]), if_neg (by simp [hs])] at hk
      have ha := (capArm_taken hk).trans (if_pos (show (capCtlHeld s).cap.st = .rearm from hs))
      replace hc := hc.trans (congrArg State.cap ha)
      exact ⟨(congrArg CapSt.cause hc :), (congrArg CapSt.st hc).trans hs, (congrArg CapSt.armStamp hc :)⟩
  · have he : s.fillStart = s.beginFill s.tick := by
      refine if_pos ?_
      unfold State.fillDue
      rcases hc with ⟨h1, h2⟩ | h1 <;> simp [hd, hu, h1]
      exact h2
    obtain ⟨h1, h2, h3, h4, h5, h6⟩ := beginFill_fills s s.tick
    rw [← he] at h1 h2 h3 h4 h5 h6
    exact ⟨_, live_next hr (f := State.fillStart) (by rw [h6]) (by rw [h6]), h1, h2, h3, h4, h5, h6⟩
  · have he : s.autoTrigger = s.trigger 9 0 s.tick := if_pos ⟨hs, ha, ht⟩
    obtain ⟨h1, h2, h3, h4, h5, h6⟩ := trigger_fill (s := s) 9 0 s.tick hs
    rw [← he] at h1 h2 h3 h4 h5 h6
    exact ⟨_, (congrArg (ok s) (live_ready s hr)).trans (ok_eq ..), h1, h2, h3, h4, h5, h6⟩

theorem QueueOnly.msg (h : QueueOnly s u) : u.msg = s.msg := by rw [h.eq]

/-! ## The partition of memory (R256, R257) -/

/-- Half-words of SRAM that tare tables in force take. -/
def tareHeld (s : State) : Nat :=
  (List.range 4).foldl (fun a p => match (s.port p).tareLen with | some l => a + 2 * tareCount l | none => a) 0

/-- The reason that refuses a partition. -/
def partReason (s : State) (c tare stage : Nat) : Nat :=
  if 126 < c + tare + stage then 1
  else if c < 8 ∨ 122 < c ∨ 16 < tare ∨ stage < 4 ∨ 16 < stage then 2
  else if s.cap.st ≠ .idle ∨ s.hsEn = true then 3
  else if tare * 65536 < tareHeld s then 4
  else if s.bead.tareState = 1 ∨ s.bead.tareState = 2 then 5 else 0

/-- The state with the three shares staged. -/
def partStaged (s : State) (c tare stage : Nat) : State := { s with cap := { s.cap with partStaged := [c, tare, stage] } }

theorem memPartGo_eq {c x tare stage : Nat} (h : s.cap.partStaged = [x, tare, stage]) : s.memPartGo c =
    if partReason s c tare stage ≠ 0 then
      { s with cap := { s.cap with partStaged := [c, tare, stage], partCause := partReason s c tare stage } }
    else { s.nextStamp with cap := { s.cap with
      partStaged := [c, tare, stage], partCause := 0, partPend := some ([c, tare, stage], s.ctl.stamp + 1) } } := by
  unfold State.memPartGo
  rw [h]
  rfl

theorem tareHeld_none (h : ∀ p < 4, (s.port p).tareLen = none) : tareHeld s = 0 := by
  unfold tareHeld
  show (List.foldl _ 0 [0, 1, 2, 3]) = 0
  simp only [List.foldl_cons, List.foldl_nil, h 0 (by decide), h 1 (by decide), h 2 (by decide), h 3 (by decide)]

theorem partWord (c : BitVec 7) : fld (w16 (c.toNat + 0x8000)) 15 1 = 1 ∧ (w16 (c.toNat + 0x8000) &&& 0x007F).toNat = c.toNat := by
  revert c
  decide

theorem writeCycle_memPart (h : s.directs m 0x5C) (c : BitVec 7) {x tare stage : Nat} (hp : s.cap.partStaged = [x, tare, stage]) :
    s.writeCycle m 0x5C (w16 (c.toNat + 0x8000)) = ((partStaged s c.toNat tare stage).memPartGo c.toNat).ack m true := by
  obtain ⟨h15, hc⟩ := partWord c
  have hst : stored s m 0x5C (w16 (c.toNat + 0x8000)) = partStaged s c.toNat tare stage := by
    have hw : rwMerge 0x5C (s.regWord m 0x5C) (w16 (c.toNat + 0x8000)) = w16 (c.toNat + 0x8000) &&& 0x007F :=
      rwMerge_and _ _ rfl (by decide)
    have hs (w v : Word) : s.regStore m 0x5C w v =
      { s with cap := { s.cap with partStaged := s.cap.partStaged.set 0 w.toNat } } := rfl
    unfold stored
    rw [hw, hs, hc, hp]
    rfl
  rw [writeCycle_store_now h rfl (and_ne_zero_of_fld h15 (by decide)), hst]
  refine congrArg (fun t : State => t.ack m true) ?_
  exact (steps_one (v := w16 (c.toNat + 0x8000)) (b := 15) (fun t => t.memPartGo (t.cap.partStaged.getD 0 0)) _).trans (if_pos h15)

/-- Losses alone have changed of the messages, and the staging of CAN ports. -/
def StagingOnly (s u : State) : Prop := u = { s with can := u.can, msg := u.msg }

theorem StagingOnly.eq (h : StagingOnly s u) : u = { s with can := u.can, msg := u.msg } := h

theorem StagingOnly.refl (s : State) : StagingOnly s s := rfl

theorem StagingOnly.trans (h1 : StagingOnly s t) (h2 : StagingOnly t u) : StagingOnly s u :=
  h2.eq.trans (congrArg (fun v : State => { v with can := u.can, msg := u.msg }) h1.eq)

theorem lose_staging (s : State) (a b c d e f : Nat) : StagingOnly s (s.lose a b c d e f) := by
  unfold StagingOnly
  rw [lose_eq]

/-- The staging of a port is lost: its records become losses. -/
def stagingLost (s : State) (p : Nat) : State :=
  State.modCanPort ((s.canPort p).staging.foldl (fun s r => s.loseRec r 8) s) p fun c => { c with staging := [] }

theorem foldl_loseRec_staging (l : List Rec) (s : State) : StagingOnly s (l.foldl (fun s r => s.loseRec r 8) s) :=
  foldl_rel StagingOnly.refl StagingOnly.trans (fun t _ => lose_staging t ..) l s

theorem stagingLost_staging (s : State) (p : Nat) : StagingOnly s (stagingLost s p) :=
  (foldl_loseRec_staging _ s).trans rfl

theorem stagingLost_own (s : State) (p : Nat) : ((stagingLost s p).canPort p).staging = [] := by
  unfold stagingLost
  rw [canPort_modCanPort]

theorem foldl_loseRec_can (l : List Rec) (s : State) : (l.foldl (fun s r => s.loseRec r 8) s).can = s.can :=
  foldl_keeps (P := fun t => t.can = s.can) (fun _ _ h => (lose_can ..).trans h) l s rfl

theorem stagingLost_other (s : State) {p k : Nat} (h : k ≠ p) : (stagingLost s p).canPort k = s.canPort k := by
  unfold stagingLost
  refine (canPort_setCanPort_other _ _ h).trans ?_
  unfold State.canPort
  rw [foldl_loseRec_can]

/-- Once there is a loss, there is one after losing more. -/
theorem foldl_loseRec_keeps (l : List Rec) (s : State) (h : s.msg.losses ≠ []) :
    (l.foldl (fun s r => s.loseRec r 8) s).msg.losses ≠ [] :=
  foldl_keeps (P := fun t => t.msg.losses ≠ []) (fun _ _ h => lose_keeps _ _ _ _ _ _ h) l s h

theorem loseRec_time (s : State) (r : Rec) (k : Nat) : (s.loseRec r k).time = s.time := lose_time ..

theorem foldl_loseRec_adds (l : List Rec) : ∀ s : State, s.unset = false → ∀ r ∈ l, r.len ≠ 0 →
    (l.foldl (fun s r => s.loseRec r 8) s).msg.losses ≠ [] := by
  induction l with
  | nil => intro s _ r hr; cases hr
  | cons a l ih =>
    intro s hu r hr hn
    rcases List.mem_cons.1 hr with rfl | hr
    · exact foldl_loseRec_keeps l _ (lose_adds _ _ _ _ _ hn hu)
    · refine ih (s.loseRec a 8) ?_ r hr hn
      unfold State.unset
      rw [loseRec_time]
      exact hu

theorem stagingLost_keeps (p : Nat) (h : s.msg.losses ≠ []) : (stagingLost s p).msg.losses ≠ [] :=
  foldl_loseRec_keeps (s.canPort p).staging s h

theorem stagingLost_adds {p : Nat} (hu : s.unset = false) {r : Rec} (hr : r ∈ (s.canPort p).staging) (hn : r.len ≠ 0) :
    (stagingLost s p).msg.losses ≠ [] := foldl_loseRec_adds (s.canPort p).staging s hu r hr hn

/-- The packets of the queue are lost. -/
def packetsLost (s : State) : State := s.cap.packets.foldl (fun s (_, l) => s.lose l.first l.last l.start l.len 8 l.cons) s

theorem packetsLost_msg (s : State) : packetsLost s = { s with msg := (packetsLost s).msg } :=
  foldl_rel (R := fun a b : State => b = { a with msg := b.msg }) (fun _ => rfl)
    (fun {_ _ c} h1 h2 => h2.trans (congrArg (fun v : State => { v with msg := c.msg }) h1))
    (fun b _ => lose_eq b ..) s.cap.packets s

/-- Memory under the new partition: the capture region and the queue are empty. -/
def memoryEmptied (v : State) (q : List Nat) : State :=
  { v with cap := { v.cap with part := q, partPend := none, mem := [], lines := [], queue := [], packets := [] } }

theorem memoryEmptied_msg (v : State) (q : List Nat) : (memoryEmptied v q).msg = v.msg := rfl

/-- The state in which the new partition is in force. -/
def partitioned (s : State) (q : List Nat) : State := memoryEmptied (stagingLost (stagingLost (packetsLost s) 0) 1) q

theorem partitionEffect_eq {q : List Nat} {st : Nat} (hp : s.cap.partPend = some (q, st)) (hd : s.due st = true) :
    s.partitionEffect = (partitioned s q).flushGaps (stagingLost (stagingLost (packetsLost s) 0) 1).cap.gapWait := by
  unfold State.partitionEffect
  split
  · next h => rw [hp] at h; cases h
  · next p stamp h =>
    obtain ⟨rfl, rfl⟩ := Prod.mk.inj (Option.some.inj (hp.symm.trans h))
    rw [if_neg (by simp [hd])]
    extract_lets s1 s2
    have h1 : s1 = packetsLost s := rfl
    have h2 : s2 = stagingLost (stagingLost s1 0) 1 := rfl
    rw [partitioned, ← h1, ← h2]
    clear_value s2
    rfl

theorem lostAll_staging (s : State) : StagingOnly s (stagingLost (stagingLost (packetsLost s) 0) 1) := by
  have h : StagingOnly s (packetsLost s) := by
    unfold StagingOnly
    rw [packetsLost_msg]
  exact (h.trans (stagingLost_staging _ 0)).trans (stagingLost_staging _ 1)

/-- Memory emptied after the staging has been lost, and the gaps flushed. -/
theorem emptied_flushed {w : State} {q : List Nat} (hv : StagingOnly s t) (hw : QueueOnly (memoryEmptied t q) w) :
    w.cap.part = q ∧ w.cap.partPend = none ∧ w.cap.mem = [] ∧ w.can = t.can ∧ w.msg = t.msg ∧
      w = { s with cap := w.cap, can := w.can, msg := w.msg } := by
  obtain ⟨c, ms, rfl⟩ : ∃ c ms, t = { s with can := c, msg := ms } := ⟨_, _, hv⟩
  obtain ⟨cap, rfl⟩ : ∃ cap, w = { memoryEmptied { s with can := c, msg := ms } q with
      cap := { s.cap with part := q, partPend := none, mem := [], lines := [], queue := cap.queue, packets := cap.packets
                          gapWait := cap.gapWait } } := ⟨w.cap, hw.eq⟩
  exact ⟨rfl, rfl, rfl, rfl, rfl, rfl⟩

/-- Staged records that are lost leave a loss in time. -/
theorem lostAll_adds (hu : s.unset = false) {r : Rec} (hr : r ∈ (s.canPort 0).staging) (hn : r.len ≠ 0) :
    (stagingLost (stagingLost (packetsLost s) 0) 1).msg.losses ≠ [] := by
  have hpk := packetsLost_msg s
  have hst : ((packetsLost s).canPort 0).staging = (s.canPort 0).staging := by
    unfold State.canPort
    rw [hpk]
  have hun : (packetsLost s).unset = false := by
    unfold State.unset
    rw [hpk]
    exact hu
  have hr' : r ∈ ((packetsLost s).canPort 0).staging := by rwa [hst]
  exact stagingLost_keeps 1 (stagingLost_adds hun hr' hn)

/-- At its turn a partition is in force, and what stood in memory is lost. -/
theorem partitionEffect_takes {q : List Nat} {st : Nat} (hp : s.cap.partPend = some (q, st)) (hd : s.due st = true) :
    s.partitionEffect.cap.part = q ∧ s.partitionEffect.cap.partPend = none ∧ s.partitionEffect.cap.mem = [] ∧
      (s.cap.gapWait = [] → s.partitionEffect.cap.queue = []) ∧ (s.partitionEffect.canPort 0).staging = [] ∧
      (s.partitionEffect.canPort 1).staging = [] ∧
      s.partitionEffect = { s with cap := s.partitionEffect.cap, can := s.partitionEffect.can, msg := s.partitionEffect.msg } ∧
      (s.unset = false → ∀ r ∈ (s.canPort 0).staging, r.len ≠ 0 → s.partitionEffect.msg.losses ≠ []) := by
  have hq := partitionEffect_eq hp hd
  have hl := lostAll_staging s
  have h0 : (stagingLost (stagingLost (packetsLost s) 0) 1).canPort 0 = (stagingLost (packetsLost s) 0).canPort 0 :=
    stagingLost_other _ (by decide)
  have hs0 := stagingLost_own (packetsLost s) 0
  have hs1 := stagingLost_own (stagingLost (packetsLost s) 0) 1
  have ha := @lostAll_adds s
  rw [← h0] at hs0
  unfold partitioned at hq
  generalize stagingLost (stagingLost (packetsLost s) 0) 1 = v at *
  have hw := flushGaps_queue v.cap.gapWait (memoryEmptied v q)
  rw [← hq] at hw
  obtain ⟨h1, h2, h3, h4, h5, h6⟩ := emptied_flushed hl hw
  have hcan (k : Nat) : s.partitionEffect.canPort k = v.canPort k := by rw [State.canPort, State.canPort, h4]
  refine ⟨h1, h2, h3, fun hg => ?_, (congrArg CanPort.staging (hcan 0)).trans hs0, (congrArg CanPort.staging (hcan 1)).trans hs1,
    h6, fun hu r hr hn => by rw [h5]; exact ha hu hr hn⟩
  rw [hq, show v.cap.gapWait = [] by rw [hl.eq]; exact hg]
  rfl

/-! ## Spending a budget (R432) -/

/-- What is spent is a matter of the budgets alone. -/
theorem spend_congr (h : t.budget = s.budget) (a n : Nat) :
    t.spend a n = (s.spend a n).map fun u => { t with budget := u.budget } := by
  unfold State.spend
  rw [h]
  dsimp only
  split <;> rfl

/-! ## The host stream (R275) -/

theorem hsWord_flds (en rearm can : Bool) : w16 (8 * b2n rearm + 16 * b2n can + 32 * b2n en) &&& nowMask 0x57 = 0 ∧
    (fld (w16 (8 * b2n rearm + 16 * b2n can + 32 * b2n en)) 5 1 == 1) = en ∧
    (fld (w16 (8 * b2n rearm + 16 * b2n can + 32 * b2n en)) 3 1 == 1) = rearm ∧
    (fld (w16 (8 * b2n rearm + 16 * b2n can + 32 * b2n en)) 4 1 == 1) = can := by
  cases en <;> cases rearm <;> cases can <;> decide

theorem writeCycle_hs (h : s.directs m 0x57) (en rearm can : Bool) :
    s.writeCycle m 0x57 (w16 (8 * b2n rearm + 16 * b2n can + 32 * b2n en)) = (s.hsEnableWrite en rearm can).ack m true := by
  obtain ⟨hn, h5, h3, h4⟩ := hsWord_flds en rearm can
  have hs (w v : Word) : s.regStore m 0x57 w v = s.hsEnableWrite (fld w 5 1 == 1) (fld w 3 1 == 1) (fld w 4 1 == 1) := rfl
  rw [writeCycle_store h rfl hn]
  unfold stored
  rw [hs, fld_rwMerge _ rfl (by decide) (by decide), fld_rwMerge _ rfl (by decide) (by decide),
    fld_rwMerge _ rfl (by decide) (by decide), h5, h3, h4]

/-- The state in which the oldest line of the host stream has left. -/
def lineLeft (s : State) (k : Nat) (rest : Store (List (Nat × DWord))) : State :=
  { s with cap := { s.cap with hsLines := rest, hsNext := k + 1 } }

/-- The words of a line, in the order of its facets. -/
def lineWords (l : List (Nat × DWord)) : List DWord := (l.mergeSort (fun a b => a.1 ≤ b.1)).map Prod.snd

theorem lineWords_length (l : List (Nat × DWord)) : (lineWords l).length = l.length := by
  unfold lineWords
  rw [List.length_map, List.length_mergeSort]

theorem sampleWords_length : ∀ ws : List DWord, (sampleWords ws).length = 2 * ws.length
  | [] => rfl
  | d :: ws => by
    have h : sampleWords (d :: ws) = lo16 d :: hi16 d :: sampleWords ws := rfl
    rw [h, List.length_cons, List.length_cons, sampleWords_length ws, List.length_cons]
    omega

/-- What comes of a line whose span is formed, given what its budget lets it have. -/
def lineTried (s : State) (k : Nat) (l : List (Nat × DWord)) (r : HsRun) : Option State → State
  | none => (s.stall actHost).lose r.first r.last k 1 5 2
  | some u => (u.stagePacket 1 k (lineLoss r.first r.last k 2) (sampleWords (lineWords l))).getD (u.lose r.first r.last k 1 4 2)

theorem tickPacket_eq {k : Nat} {l : List (Nat × DWord)} {rest : Store (List (Nat × DWord))} {r : HsRun}
    (hl : s.cap.hsLines = (k, l) :: rest) (hr : s.hsRunAt k = some r) :
    s.tickPacket = if s.spanFormed (spanOf r.first r.last) k = false then s else
      lineTried (lineLeft s k rest) k l r ((lineLeft s k rest).spend actHost ((14 + 4 * l.length + 7) / 8)) := by
  unfold State.tickPacket
  extract_lets c
  split
  · next h => rw [hl] at h; cases h
  · next k' l' rest' h =>
    obtain ⟨h1, rfl⟩ := List.cons.inj (hl.symm.trans h)
    obtain ⟨rfl, rfl⟩ := Prod.mk.inj h1
    rw [hr]
    dsimp -zeta only
    refine if_congr (by simp) rfl ?_
    extract_lets ws s1
    have hs1 : s1 = lineLeft s k rest := rfl
    have hws : ws = lineWords l := rfl
    have hn : ws.length = l.length := (congrArg List.length hws).trans (lineWords_length l)
    rw [hn, hs1]
    cases (lineLeft s k rest).spend actHost ((14 + 4 * l.length + 7) / 8) with
    | none => rfl
    | some u =>
      show _ = (u.stagePacket 1 k (lineLoss r.first r.last k 2) (sampleWords (lineWords l))).getD (u.lose r.first r.last k 1 4 2)
      rw [← hws]
      dsimp only
      cases u.stagePacket 1 k (lineLoss r.first r.last k 2) (sampleWords ws) <;> rfl

/-- A line that is lost leaves the capture as it is, and its loss. -/
theorem lineLost (s : State) (k : Nat) (r : HsRun) (c j : Nat) : StagingOnly s (s.lose r.first r.last k 1 c j) ∧
    (s.unset = false → (s.lose r.first r.last k 1 c j).msg.losses ≠ []) :=
  ⟨lose_staging s .., lose_adds _ _ _ _ _ (by decide)⟩

theorem stall_cap (s : State) (a : Nat) : (s.stall a).cap = s.cap := by
  unfold State.stall
  split <;> rfl

theorem stall_unset (s : State) (a : Nat) : (s.stall a).unset = s.unset := by
  unfold State.unset
  rw [stall_time]

theorem QueueOnly.cap (h : QueueOnly s u) :
    u.cap = { s.cap with queue := u.cap.queue, packets := u.cap.packets, gapWait := u.cap.gapWait } := congrArg State.cap h

theorem QueueOnly.budget (h : QueueOnly s u) : u.budget = s.budget := by rw [h.eq]

section
variable {k : Nat} {l : List (Nat × DWord)} {rest : Store (List (Nat × DWord))} {r : HsRun} (hr : s.ready = true)
  (hl : s.cap.hsLines = (k, l) :: rest) (hk : s.hsRunAt k = some r)
include hr hl hk

/-- The line's command answers a state whose capture, budget and messages are those of its effect. -/
theorem exec_tickPacket (hf : s.spanFormed (spanOf r.first r.last) k = true) : ∃ t, exec .tickPacket s = .next t ∧
    t.cap = (lineTried (lineLeft s k rest) k l r ((lineLeft s k rest).spend actHost ((14 + 4 * l.length + 7) / 8))).cap ∧
    t.budget = (lineTried (lineLeft s k rest) k l r ((lineLeft s k rest).spend actHost ((14 + 4 * l.length + 7) / 8))).budget ∧
    t.msg = (lineTried (lineLeft s k rest) k l r ((lineLeft s k rest).spend actHost ((14 + 4 * l.length + 7) / 8))).msg := by
  have he := tickPacket_eq hl hk
  rw [if_neg (by simp [hf])] at he
  exact ⟨_, (congrArg (ok s) ((live_ready s hr).trans he)).trans (ok_eq ..), rfl, rfl, rfl⟩

theorem tickPacket_stalled (hf : s.spanFormed (spanOf r.first r.last) k = true)
    (hb : s.spend actHost ((14 + 4 * l.length + 7) / 8) = none) : ∃ t, exec .tickPacket s = .next t ∧
      t.cap = { s.cap with hsLines := rest, hsNext := k + 1 } ∧ (s.unset = false → t.msg.losses ≠ []) := by
  obtain ⟨t, hx, hc, -, hm⟩ := exec_tickPacket hr hl hk hf
  rw [spend_congr (s := s) (t := lineLeft s k rest) rfl, hb, Option.map_none, lineTried] at hc hm
  refine ⟨t, hx, hc.trans ((lose_cap ..).trans (stall_cap ..)), fun hu => ?_⟩
  rw [hm]
  exact lose_adds _ _ _ _ _ (by decide) ((stall_unset ..).trans hu)

theorem tickPacket_staged {u : State} (hf : s.spanFormed (spanOf r.first r.last) k = true)
    (hb : s.spend actHost ((14 + 4 * l.length + 7) / 8) = some u) (hg : s.cap.gapWait = [])
    (hq : s.cap.queue.length + 7 + 2 * l.length ≤ s.streamRoom) : ∃ t, exec .tickPacket s = .next t ∧
      t.cap.hsLines = rest ∧ t.cap.hsNext = k + 1 ∧ t.budget = u.budget ∧ s.cap.queue <+: t.cap.queue ∧
      t.cap.queue.length = s.cap.queue.length + 7 + 2 * l.length ∧ t.msg = s.msg := by
  obtain ⟨t, hx, hc, hbud, hm⟩ := exec_tickPacket hr hl hk hf
  have hn : (sampleWords (lineWords l)).length + 7 = 7 + 2 * l.length := by
    rw [sampleWords_length, lineWords_length]; omega
  have hroom : s.cap.queue.length + ((sampleWords (lineWords l)).length + 7) ≤ s.streamRoom := by rw [hn]; omega
  obtain ⟨v, hv⟩ := pushPacket_room (s := { lineLeft s k rest with budget := u.budget }) (k := 1) (n := k)
    (l := lineLoss r.first r.last k 2) hroom
  obtain ⟨hQ, hpre, hlen, -⟩ := pushPacket_some hv
  rw [spend_congr (s := s) (t := lineLeft s k rest) rfl, hb, Option.map_some, lineTried,
    stagePacket_push (s := { lineLeft s k rest with budget := u.budget }) hg, hv, Option.getD_some] at hc hbud hm
  rw [hn] at hlen
  refine ⟨t, hx, ?_, ?_, hbud.trans hQ.budget, hc ▸ hpre, ?_, hm.trans hQ.msg⟩
  · rw [hc, hQ.cap]; rfl
  · rw [hc, hQ.cap]; rfl
  · rw [hc, hlen, Nat.add_assoc]; rfl

theorem tickPacket_dropped {u : State} (hf : s.spanFormed (spanOf r.first r.last) k = true)
    (hb : s.spend actHost ((14 + 4 * l.length + 7) / 8) = some u)
    (hg : s.cap.gapWait ≠ [] ∨ s.streamRoom < s.cap.queue.length + 7 + 2 * l.length) : ∃ t, exec .tickPacket s = .next t ∧
      t.cap = { s.cap with hsLines := rest, hsNext := k + 1 } ∧ (s.unset = false → t.msg.losses ≠ []) := by
  obtain ⟨t, hx, hc, -, hm⟩ := exec_tickPacket hr hl hk hf
  have hn : (sampleWords (lineWords l)).length + 7 = 7 + 2 * l.length := by
    rw [sampleWords_length, lineWords_length]; omega
  have hroom : s.cap.gapWait ≠ [] ∨ s.streamRoom < s.cap.queue.length + ((sampleWords (lineWords l)).length + 7) := by
    rw [hn, ← Nat.add_assoc]; exact hg
  rw [spend_congr (s := s) (t := lineLeft s k rest) rfl, hb, Option.map_some, lineTried,
    stagePacket_none (s := { lineLeft s k rest with budget := u.budget }) hroom, Option.getD_none] at hc hm
  refine ⟨t, hx, hc.trans (lose_cap ..), fun hu => ?_⟩
  rw [hm]
  exact lose_adds _ _ _ _ _ (by decide) hu

end

/-- What a write of GO leaves of the partition. -/
theorem exec_memPartGo (h : s.directs m 0x5C) (c : BitVec 7) {x tare stage : Nat} (hp : s.cap.partStaged = [x, tare, stage]) :
    ∃ t, exec (.memPartGo m c) s = .next t ∧ t.cap = ((partStaged s c.toNat tare stage).memPartGo c.toNat).cap :=
  ⟨_, (congrArg (ok s) (writeCycle_memPart h c hp)).trans (ok_eq ..), ack_cap ..⟩

theorem memPartGo_refused {c x tare stage : Nat} (hp : s.cap.partStaged = [x, tare, stage]) (h : partReason s c tare stage ≠ 0) :
    (s.memPartGo c).cap.partCause = partReason s c tare stage ∧ (s.memPartGo c).cap.part = s.cap.part ∧
      (s.memPartGo c).cap.partPend = s.cap.partPend := by
  rw [memPartGo_eq hp, if_pos h]
  exact ⟨rfl, rfl, rfl⟩

theorem memPartGo_taken {c x tare stage : Nat} (hp : s.cap.partStaged = [x, tare, stage]) (h : partReason s c tare stage = 0) :
    (s.memPartGo c).cap.partCause = 0 ∧ (s.memPartGo c).cap.part = s.cap.part ∧
      (s.memPartGo c).cap.partPend = some ([c, tare, stage], s.ctl.stamp + 1) := by
  rw [memPartGo_eq hp, if_neg (not_not_intro h)]
  exact ⟨rfl, rfl, rfl⟩

/-- Settles O40: a partition is taken or refused and at its turn empties memory; a line of the host stream becomes a packet or a
loss. -/
theorem memoryAndHostStream : Obligations.MemoryAndHostStream := by
  refine ⟨⟨fun m c s x tare stage hd hp => ⟨fun hs => ?_, fun hs h1 h2 h3 h4 h5 => ⟨fun hb => ?_, fun hi he hb1 hb2 ht => ?_⟩⟩,
    fun s q st hr hp hd => ?_⟩, fun m rearm can s hd => ⟨fun ho => ?_, fun ho => ?_, ?_⟩, fun s hr he hn hd => ?_,
    fun s hr he hn hd => ?_, fun s k l rest r hr hl hk => ⟨fun hf => ?_, fun hf => ⟨fun hb => ?_, fun u hb => ⟨fun hg hq => ?_, fun hg => ?_⟩⟩⟩⟩
  · obtain ⟨t, hx, hc⟩ := exec_memPartGo hd c hp
    have hk : partReason (partStaged s c.toNat tare stage) c.toNat tare stage = 1 := if_pos hs
    obtain ⟨k1, k2, k3⟩ := memPartGo_refused (s := partStaged s c.toNat tare stage) rfl (by rw [hk]; decide)
    rw [← hc] at k1 k2 k3
    exact ⟨t, hx, k1.trans hk, k2, k3⟩
  · obtain ⟨t, hx, hc⟩ := exec_memPartGo hd c hp
    have hk : partReason (partStaged s c.toNat tare stage) c.toNat tare stage = 3 :=
      (if_neg (by omega)).trans ((if_neg (by omega)).trans (if_pos hb))
    obtain ⟨k1, k2, k3⟩ := memPartGo_refused (s := partStaged s c.toNat tare stage) rfl (by rw [hk]; decide)
    rw [← hc] at k1 k2 k3
    exact ⟨t, hx, k1.trans hk, k2, k3⟩
  · obtain ⟨t, hx, hc⟩ := exec_memPartGo hd c hp
    have hheld : tareHeld (partStaged s c.toNat tare stage) = 0 := tareHeld_none ht
    have hk : partReason (partStaged s c.toNat tare stage) c.toNat tare stage = 0 := by
      refine (if_neg (by omega)).trans ((if_neg (by omega)).trans ((if_neg ?_).trans ((if_neg (by omega)).trans (if_neg ?_))))
      · rintro (h | h)
        · exact h hi
        · exact Bool.false_ne_true (he.symm.trans h)
      · rintro (h | h)
        · exact hb1 h
        · exact hb2 h
    obtain ⟨k1, k2, k3⟩ := memPartGo_taken (s := partStaged s c.toNat tare stage) rfl hk
    rw [← hc] at k1 k2 k3
    exact ⟨t, hx, k1, k2, k3⟩
  · obtain ⟨h1, h2, h3, h4, h5, h6, h7, h8⟩ := partitionEffect_takes hp hd
    exact ⟨_, live_next hr (f := State.partitionEffect) (by rw [h7]) (by rw [h7]), h1, h2, h3, h4, h5, h6, h7, h8⟩
  · have hw := writeCycle_hs hd true rearm can
    have hc : ((s.hsEnableWrite true rearm can).ack m true).cap = (s.hsEnableWrite true rearm can).cap := ack_cap ..
    refine ⟨_, (congrArg (ok s) hw).trans (ok_eq ..), (congrArg CapSt.ctl hc).trans ?_, (congrArg CapSt.cause hc).trans ?_,
      (congrArg CapSt.hsRun hc :)⟩ <;> simp [State.hsEnableWrite, ho, b2n]
  · have hw := writeCycle_hs hd true rearm can
    have hc : ((s.hsEnableWrite true rearm can).ack m true).cap = (s.hsEnableWrite true rearm can).cap := ack_cap ..
    refine ⟨_, (congrArg (ok s) hw).trans (ok_eq ..), (congrArg CapSt.ctl hc).trans ?_, (congrArg CapSt.cause hc).trans ?_⟩ <;>
      simp [State.hsEnableWrite, ho, b2n]
  · have hw := writeCycle_hs hd false rearm can
    have hc : ((s.hsEnableWrite false rearm can).ack m true).cap = (s.hsEnableWrite false rearm can).cap := ack_cap ..
    refine ⟨_, (congrArg (ok s) hw).trans (ok_next s _ (ack_pending ..) (ack_life ..)), (congrArg CapSt.ctl hc :), ?_⟩
    rw [ack_eq]
    rfl
  · have hsd : s.streamDue = true := by
      have he' : (fld s.cap.ctl 5 1 == 1) = true := he
      unfold State.streamDue
      rw [hd, he', hn]
      rfl
    have hE : s.hostStreamStart = { s with cap := { s.cap with hsRun := true, hsRuns := s.hostStreamStart.cap.hsRuns } } ∧
        s.hostStreamStart.cap.hsRuns.head? =
          some { from_ := s.tick, first := (s.trgWord 130).toNat, last := (s.trgWord 131).toNat } := by
      unfold State.hostStreamStart
      rw [if_pos ⟨he, hsd⟩]
      exact ⟨rfl, rfl⟩
    refine ⟨_, live_next hr (f := State.hostStreamStart) (by rw [hE.1]) (by rw [hE.1]), ?_, hE.2, hE.1⟩
    rw [hE.1]
  · have hsd : s.streamDue = true := by
      have he' : (fld s.cap.ctl 5 1 == 1) = false := he
      unfold State.streamDue
      rw [hd, he', hn]
      rfl
    have hE : s.hostStreamEnd = { s with cap := { s.cap with
        hsRun := false, hsRuns := s.cap.hsRuns.map fun r => { r with until_ := some (r.until_.getD s.tick) } } } :=
      if_pos ⟨by simp [he], hsd⟩
    refine ⟨_, live_next hr (f := State.hostStreamEnd) (by rw [hE]) (by rw [hE]), ?_, ?_⟩
    · rw [hE]
      intro r hr
      obtain ⟨x, -, rfl⟩ := List.mem_map.1 hr
      exact Option.some_ne_none _
    · rw [hE]
  · have he := (tickPacket_eq hl hk).trans (if_pos hf)
    exact (congrArg (ok s) ((live_ready s hr).trans he)).trans (ok_next s s rfl rfl)
  · exact tickPacket_stalled hr hl hk hf hb
  · exact tickPacket_staged hr hl hk hf hb hg hq
  · exact tickPacket_dropped hr hl hk hf hb hg

end Sys2Proof.Proofs
end

section
/-! PROPERTY. Port blocks, tare profiles, output rates, coefficient banks and user curves (O28, O34, O36). -/

namespace Sys2Proof.Proofs

open Sys2Proof Sys2Proof.Machine Sys2Proof.Laws

-- one proof at a time: the text is compiled as a whole, and the proofs side by side would need too much memory
set_option Elab.async false

variable {s t u : State} {m : Master}

/-! ## What an activation leaves to the port (R194 to R196) -/

theorem port_setPort (s : State) (p : Nat) (v : PosPort) : (s.setPort p v).port p = v := get_set_self ..

theorem port_setPort_other (s : State) {p j : Nat} (v : PosPort) (h : j ≠ p) : (s.setPort p v).port j = s.port j :=
  get_set_other _ _ _ _ h

/-- The block in force, the loop length, the settings in force and what waits are those of the other port. -/
structure SameBlock (q r : PosPort) : Prop where
  active : r.active = q.active
  len : r.len = q.len
  actPend : r.actPend = q.actPend
  cfgAct : r.cfgAct = q.cfgAct

theorem SameBlock.refl (q : PosPort) : SameBlock q q := ⟨rfl, rfl, rfl, rfl⟩

theorem SameBlock.trans {q r x : PosPort} (h1 : SameBlock q r) (h2 : SameBlock r x) : SameBlock q x :=
  ⟨h2.active.trans h1.active, h2.len.trans h1.len, h2.actPend.trans h1.actPend, h2.cfgAct.trans h1.cfgAct⟩

/-- Port `p` keeps its block, and the pending commands and the phase of the device's life stand. -/
structure BlockKept (p : Nat) (s u : State) : Prop where
  block : SameBlock (s.port p) (u.port p)
  pending : u.pending = s.pending
  life : u.life = s.life

theorem BlockKept.refl (p : Nat) (s : State) : BlockKept p s s := ⟨.refl _, rfl, rfl⟩

theorem BlockKept.trans {p : Nat} (h1 : BlockKept p s t) (h2 : BlockKept p t u) : BlockKept p s u :=
  ⟨h1.block.trans h2.block, h2.pending.trans h1.pending, h2.life.trans h1.life⟩

theorem BlockKept.of_ports {p : Nat} (hq : u.ports = s.ports) (hp : u.pending = s.pending) (hl : u.life = s.life) :
    BlockKept p s u :=
  ⟨by rw [State.port, State.port, hq]; exact .refl _, hp, hl⟩

theorem BlockKept.ite {p : Nat} {c : Prop} [Decidable c] (h1 : BlockKept p s t) (h2 : BlockKept p s u) :
    BlockKept p s (if c then t else u) := by
  split
  · exact h1
  · exact h2

theorem setPort_keeps {p j : Nat} {v : PosPort} (h : j = p → SameBlock (s.port p) v) : BlockKept p s (s.setPort j v) := by
  refine ⟨?_, rfl, rfl⟩
  by_cases hj : j = p
  · subst hj
    rw [port_setPort]
    exact h rfl
  · rw [port_setPort_other s v (Ne.symm hj)]
    exact .refl _

theorem modPort_keeps {p j : Nat} {f : PosPort → PosPort} (h : ∀ q, SameBlock q (f q)) : BlockKept p s (s.modPort j f) :=
  setPort_keeps fun hj => hj ▸ h _

theorem BeadsOnly.kept (p : Nat) (h : BeadsOnly s u) : BlockKept p s u := by
  rw [show u = _ from h]
  exact .of_ports rfl rfl rfl

theorem EndsOnly.kept (p : Nat) (h : EndsOnly s u) : BlockKept p s u := by
  rw [h.eq]
  exact .of_ports rfl rfl rfl

theorem calDisturb_ends (s : State) (p reason : Nat) : EndsOnly s (s.calDisturb p reason) := by
  unfold State.calDisturb
  split
  · split
    · exact calEndTarget_ends ..
    · exact .refl s
  · exact .refl s

theorem runsLosePort_keeps (p j : Nat) (s : State) : BlockKept p s (s.runsLosePort j) := by
  unfold State.runsLosePort
  extract_lets _ s1
  have h1 : BlockKept p s s1 := .ite (.of_ports rfl rfl rfl) (.refl p s)
  exact h1.trans ((calDisturb_ends ..).kept p)

theorem posLost_keeps (p j : Nat) (s : State) : BlockKept p s (s.posLost j) := modPort_keeps fun q => by
  split <;> exact ⟨rfl, rfl, rfl, rfl⟩

/-- The errors of a port that has become VALID count from its identifying pulse (R204). -/
theorem dutyFrom_keeps (p j : Nat) (s : State) : BlockKept p s (s.dutyFrom j) := .of_ports rfl rfl rfl

theorem enterPos_keeps (p j : Nat) (s : State) (st : PosState) (forget : Bool) :
    BlockKept p s (s.enterPos j st forget) := by
  unfold State.enterPos
  extract_lets q was q1 q2 s1 s2 s3
  by_cases hk : q.st = st ∧ (!forget) = true
  · rw [if_pos hk]
    exact setPort_keeps fun hj => hj ▸ ⟨rfl, rfl, rfl, rfl⟩
  rw [if_neg hk]
  have hq : SameBlock q q2 := by cases st <;> exact ⟨rfl, rfl, rfl, rfl⟩
  have h1 : BlockKept p s s1 := setPort_keeps fun hj => hj ▸ hq.trans ⟨rfl, rfl, rfl, rfl⟩
  have h2 : BlockKept p s s2 := h1.trans (.of_ports rfl rfl rfl)
  have h3 : BlockKept p s s3 := h2.trans
    (.ite (.ite ((dutyFrom_keeps p j s2).trans (posLost_keeps p j _)) (dutyFrom_keeps p j s2)) (.refl p s2))
  exact .ite h1 (.ite (h3.trans (((forceBeads_beadsOnly s3 j 2).kept p).trans (runsLosePort_keeps ..))) h3)

theorem forgetSource_block (q n : PosPort) : SameBlock n (q.forgetSource n) := by
  unfold PosPort.forgetSource
  extract_lets same
  split <;> exact ⟨rfl, rfl, rfl, rfl⟩

theorem tallyJudge_keeps (p : Nat) (s : State) : BlockKept p s s.tallyJudge := by
  unfold State.tallyJudge
  extract_lets s1 _
  have hf (t : State) (j : Nat) (a b : Option Nat) :
      BlockKept p t (t.modPort j fun q => { q with fastFrom := a, slowFrom := b }) :=
    modPort_keeps fun q => ⟨rfl, rfl, rfl, rfl⟩
  have h1 : BlockKept p s s1 := foldl_rel (BlockKept.refl p) BlockKept.trans (fun t j => hf t j _ _) _ s
  exact h1.trans (.of_ports rfl rfl rfl)

/-- A port after its activation: the staged words and the staged length are in force and nothing waits. -/
structure Activated (q r : PosPort) : Prop where
  active : r.active = q.staged
  len : r.len = q.lenStaged
  actPend : r.actPend = none
  enable : fld r.cfgAct 1 1 = fld q.cfg 1 1

theorem Activated.same {q r x : PosPort} (h : Activated q r) (hs : SameBlock r x) : Activated q x :=
  ⟨hs.active.trans h.active, hs.len.trans h.len, hs.actPend.trans h.actPend, hs.cfgAct ▸ h.enable⟩

theorem activatePort_block (s : State) (p : Nat) : Activated (s.port p) ((s.activatePort p).port p) ∧
    (s.activatePort p).pending = s.pending ∧ (s.activatePort p).life = s.life := by
  unfold State.activatePort
  extract_lets q s1 n loses s2 s3 s4 s5
  have hn : Activated q n := ⟨rfl, rfl, rfl, (fld_setFld_self (lo := 1) (n := 1) _ _ (by decide)).trans (Nat.mod_eq_of_lt (fld_lt ..))⟩
  have h2 : Activated q (s2.port p) := by
    rw [show s2.port p = q.forgetSource n from port_setPort ..]
    exact hn.same (forgetSource_block q n)
  have h3 : BlockKept p s2 s3 := .ite (enterPos_keeps ..) (.refl p s2)
  have h4 : BlockKept p s3 s4 := .ite (.of_ports rfl rfl rfl) (.refl p s3)
  have h5 : BlockKept p s4 s5 := .ite ((forceBeads_beadsOnly ..).kept p) (.refl p s4)
  have h := ((h3.trans h4).trans h5).trans ((calDisturb_ends s5 p 13).kept p)
  exact ⟨h2.same h.block, h.pending, h.life⟩

theorem committed_keeps (p : Nat) (s : State) (m : Master) (c : CUnit) : BlockKept p s (s.committed m c) :=
  .of_ports rfl rfl rfl

theorem portActivation_turn {p st : Nat} (ha : (s.port p).actPend = some (st, m)) (ht : s.turn st = true) :
    Activated (s.port p) ((s.portActivation p).port p) ∧ (s.portActivation p).pending = s.pending ∧
      (s.portActivation p).life = s.life := by
  have he : s.portActivation p = ((s.activatePort p).committed m (.portBlock p)).tallyJudge := by
    unfold State.portActivation
    rw [ha]
    exact if_pos ht
  rw [he]
  obtain ⟨hb, hp, hl⟩ := activatePort_block s p
  have hc := (committed_keeps p (s.activatePort p) m (.portBlock p)).trans (tallyJudge_keeps p _)
  exact ⟨hb.same hc.block, hc.pending.trans hp, hc.life.trans hl⟩

/-! ## A request for activation -/

/-- Port `p` with POS_CFG as written. -/
def cfgWritten (s : State) (p : Nat) (cfg : BitVec 5) : State :=
  s.setPort p { s.port p with cfg := w16 cfg.toNat, cfgPend := true }

theorem posCfg_request : ∀ cfg : BitVec 5, encBad 0x41 (w16 (cfg.toNat + 0x8000)) = false ∧
    w16 (cfg.toNat + 0x8000) &&& nowMask 0x41 ≠ 0 ∧ fld (w16 (cfg.toNat + 0x8000)) 15 1 = 1 := by decide

theorem stored_posCfg (s : State) (m : Master) (cfg : BitVec 5) :
    stored s m 0x41 (w16 (cfg.toNat + 0x8000)) = cfgWritten s (s.master m).posSel cfg := by
  have hs (w v : Word) : s.regStore m 0x41 w v =
    s.modPort (s.master m).posSel fun q => { q with cfg := w, cfgPend := true } := rfl
  have hw : ∀ c : BitVec 5, w16 (c.toNat + 0x8000) &&& 0x1F = w16 c.toNat := by decide
  unfold stored
  rw [hs, rwMerge_and _ 0x1F (posCfg_request cfg).1 (by decide), hw]
  rfl

theorem master_posSel_cfgWritten (s : State) (p : Nat) (cfg : BitVec 5) (m : Master) :
    ((cfgWritten s p cfg).master m).posSel = (s.master m).posSel := by cases m <;> rfl

/-- A write of POS_CFG with APPLY stores its settings and requests the activation of the selected port. -/
theorem writeCycle_posCfg (h : s.directs m 0x41) (cfg : BitVec 5) :
    s.writeCycle m 0x41 (w16 (cfg.toNat + 0x8000)) =
      ((cfgWritten s (s.master m).posSel cfg).posApply m (s.master m).posSel).ack m true := by
  obtain ⟨hb, hn, h15⟩ := posCfg_request cfg
  rw [writeCycle_store_now h hb hn, stored_posCfg]
  refine congrArg (fun t : State => t.ack m true) ?_
  refine (steps_one (v := w16 (cfg.toNat + 0x8000)) (b := 15) (fun t => t.posApply m _) _).trans ((if_pos h15).trans ?_)
  rw [master_posSel_cfgWritten]

theorem posApply_fails {p : Nat} (h : s.portCause p (s.port p).cfgS s.cand ≠ 0) :
    s.posApply m p = s.setPort p { s.port p with cause := s.portCause p (s.port p).cfgS s.cand } := if_pos h

theorem posApply_passes {p : Nat} (h : s.portCause p (s.port p).cfgS s.cand = 0) : s.posApply m p =
    s.nextStamp.setPort p { s.port p with cause := 0, actPend := some (s.ctl.stamp + 1, m) } :=
  if_neg (not_not_intro h)

/-- What a request does to the port whose staged block has the cause `k`. -/
structure Requested (s : State) (m : Master) (q r : PosPort) (k : Nat) : Prop where
  cfg : r.cfg = q.cfg
  cfgPend : r.cfgPend = q.cfgPend
  cause : r.cause = k
  active : r.active = q.active
  len : r.len = q.len
  passed : k = 0 → r.actPend = some (s.ctl.stamp + 1, m)
  failed : k ≠ 0 → r.actPend = q.actPend

theorem posApply_port (s : State) (m : Master) (p : Nat) :
    Requested s m (s.port p) ((s.posApply m p).port p) (s.portCause p (s.port p).cfgS s.cand) := by
  by_cases h : s.portCause p (s.port p).cfgS s.cand = 0
  · rw [posApply_passes h, port_setPort, h]
    exact ⟨rfl, rfl, rfl, rfl, rfl, fun _ => rfl, fun h => absurd rfl h⟩
  · rw [posApply_fails h, port_setPort]
    exact ⟨rfl, rfl, rfl, rfl, rfl, fun h0 => absurd h0 h, fun _ => rfl⟩

theorem posApply_frame (s : State) (m : Master) (p : Nat) :
    (s.posApply m p).pending = s.pending ∧ (s.posApply m p).life = s.life := by
  by_cases h : s.portCause p (s.port p).cfgS s.cand = 0
  · rw [posApply_passes h]
    exact ⟨rfl, rfl⟩
  · rw [posApply_fails h]
    exact ⟨rfl, rfl⟩

theorem ack_port (s : State) (m : Master) (b : Bool) (p : Nat) : (s.ack m b).port p = s.port p := by
  obtain ⟨c, h⟩ := ack_ex s m b
  rw [h]
  rfl

/-! ## The revolution count (R211) -/

theorem posRevWrite_refused {p v : Nat} (h : (s.port p).cfgA.revSrc ≠ 0 ∨ (s.port p).st = .off) : s.posRevWrite p v = s :=
  if_pos h

theorem posRevWrite_waits {p v : Nat} (h0 : (s.port p).cfgA.revSrc = 0) (h1 : (s.port p).st ≠ .off) :
    s.posRevWrite p v = s.setPort p { s.port p with revPend := some v } :=
  if_neg (not_or.mpr ⟨not_not_intro h0, h1⟩)

/-- A register of one field of 16 bits takes the word written. -/
theorem rwMerge_whole {off : Nat} (hf : rwFields off = [anyV 0 16]) (old v : Word) : rwMerge off old v = v := by
  have hb : encBad off v = false := by rw [encBad, hf]; rfl
  refine (rwMerge_and old (BitVec.allOnes 16) hb fun i hi => ?_).trans (BitVec.and_allOnes ..)
  rw [hf]
  rw [BitVec.getLsbD_allOnes, decide_eq_true hi]
  simp [covered, anyV, hi]

theorem writeCycle_posRev (h : s.directs m 0x46) (v : Word) :
    s.writeCycle m 0x46 v = (s.posRevWrite (s.master m).posSel v.toNat).ack m true := by
  rw [writeCycle_store h (by rfl) (by simp [nowMask])]
  refine congrArg (fun t : State => t.ack m true) ?_
  have hs (w : Word) : s.regStore m 0x46 w v = s.posRevWrite (s.master m).posSel w.toNat := rfl
  unfold stored
  rw [hs, rwMerge_whole rfl]

/-- Settles O34: a request changes the cause and what waits, an activation the block in force. -/
theorem portBlocksActivate : Obligations.PortBlocksActivate := by
  refine ⟨fun m cfg s hd => ?_, fun p s st m hr ha ht => ?_, fun m v s hd => ⟨fun h0 h1 => ?_, fun h => ?_⟩⟩
  · have hw := congrArg (ok s) (writeCycle_posCfg hd cfg)
    obtain ⟨hp, hl⟩ := posApply_frame (cfgWritten s (s.master m).posSel cfg) m (s.master m).posSel
    have hq : (cfgWritten s (s.master m).posSel cfg).port (s.master m).posSel =
      { s.port (s.master m).posSel with cfg := w16 cfg.toNat, cfgPend := true } := port_setPort ..
    obtain ⟨h1, h2, h3, h4, h5, h6, h7⟩ :=
      posApply_port (cfgWritten s (s.master m).posSel cfg) m (s.master m).posSel
    refine ⟨_, hw.trans (ok_next s _ ((ack_pending ..).trans hp) ((ack_life ..).trans hl)), ?_⟩
    rw [ack_port]
    rw [hq] at h1 h2 h3 h4 h5 h6 h7
    exact ⟨h1, h2, h3, h4, h5, h6, h7⟩
  · obtain ⟨h1, hp, hl⟩ := portActivation_turn ha ht
    exact ⟨_, live_next hr (f := fun t => t.portActivation p.val) hp hl, h1.active, h1.len, h1.actPend, h1.enable⟩
  · have hw := congrArg (ok s) ((writeCycle_posRev hd v).trans (by rw [posRevWrite_waits h0 h1]))
    exact hw.trans (ok_next s _ (ack_pending ..) (ack_life ..))
  · have hw := congrArg (ok s) ((writeCycle_posRev hd v).trans (by rw [posRevWrite_refused h]))
    exact hw.trans (ok_next s _ (ack_pending ..) (ack_life ..))

/-! ## A command through a window (R415, R458, R462) -/

/-- Master `m` with its window at address `a` of space `sp`. -/
def winAt (s : State) (m : Master) (sp a : Nat) : State := s.modMaster m fun y => { y with winSpace := sp, winAddr := a }

/-- The end of a command through a window: the address steps, the cycle is acknowledged and the window is as `x` had it. -/
def winDone (x : MasterSt) (t : State) (m : Master) : State :=
  ((t.winStep m).ack m true).modMaster m fun y => { y with winSpace := x.winSpace, winAddr := x.winAddr }

section
variable (x : MasterSt) (t : State) (m : Master) (sp a : Nat)

theorem winDone_ports : (winDone x t m).ports = t.ports := by simp [winDone, State.winStep]
theorem winDone_bead : (winDone x t m).bead = t.bead := by simp [winDone, State.winStep]
theorem winDone_curves : (winDone x t m).curves = t.curves := by simp [winDone, State.winStep]
theorem winDone_curvePend : (winDone x t m).curvePend = t.curvePend := by simp [winDone, State.winStep]
theorem winDone_fpActive : (winDone x t m).fpActive = t.fpActive := by simp [winDone, State.winStep]
theorem winDone_pending : (winDone x t m).pending = t.pending := by simp [winDone, State.winStep]
theorem winDone_life : (winDone x t m).life = t.life := by simp [winDone, State.winStep]
theorem winDone_winAddr : ((winDone x t m).master m).winAddr = x.winAddr := by
  unfold winDone
  rw [master_modMaster]

theorem winAt_ports : (winAt t m sp a).ports = t.ports := modMaster_ports ..
theorem winAt_bead : (winAt t m sp a).bead = t.bead := modMaster_bead ..

end

theorem responds_owns {off : Nat} (h : s.owns m off) : s.responds m = true := by
  obtain ⟨hr, hx, -, -⟩ := h
  cases m <;> simp [State.responds, hr]
  exact (hx rfl).1

theorem chargeWin_winAt {sp a : Nat} (h : s.chargeWin m sp a = some u) :
    (winAt s m sp a).chargeWin m sp a = some (winAt u m sp a) := by
  have hl : ((winAt s m sp a).master m).lastCharged = (s.master m).lastCharged := by
    unfold winAt
    rw [master_modMaster]
  have hs (k : Nat) := spend_congr (modMaster_budget s m fun y => { y with winSpace := sp, winAddr := a }) k 1
  unfold State.chargeWin at h ⊢
  extract_lets _ at h ⊢
  rw [hl]
  split at h
  · next hc =>
    cases h
    rw [if_pos hc]
  · next hc =>
    rw [if_neg hc]
    unfold winAt
    rw [hs]
    split at h
    · next v hv =>
      cases h
      rw [hv, spend_some hv]
      cases m <;> rfl
    · cases h

/-- A command through a window that the bezel lets the master write, with no clasp open. -/
theorem winCmd_taken {sp a : Nat} (v : Word) (ho : s.owns m 0x7D) (he : s.winEntry m sp = 3)
    (hsvc : m = .host → s.ctl.svc = false) (hb : sp ≠ 8) (hn : s.winNoWrite sp a = false)
    (hu : s.chargeWin m sp a = some u) :
    s.winCmd m sp a v = winDone (s.master m) ((winAt u m sp a).winTake m 3 (s.master m).canSel sp a v) m := by
  have hresp := responds_owns ho
  obtain ⟨hr, -, hses, -⟩ := ho
  have hw : (winAt s m sp a).winWrite m v =
      ((winAt u m sp a).winTake m 3 (s.master m).canSel sp a v).winStep m := by
    have h1 : ((winAt s m sp a).master m).winSpace = sp := by unfold winAt; rw [master_modMaster]
    have h2 : ((winAt s m sp a).master m).winAddr = a := by unfold winAt; rw [master_modMaster]
    have h3 : ((winAt s m sp a).master m).canSel = (s.master m).canSel := by unfold winAt; rw [master_modMaster]
    have h4 : (winAt s m sp a).winEntry m sp = 3 := (show _ = s.winEntry m sp by cases m <;> rfl).trans he
    have h5 : (winAt s m sp a).winNoWrite sp a = false := (show _ = s.winNoWrite sp a by cases m <;> rfl).trans hn
    have h6 : (winAt s m sp a).life = s.life := modMaster_life ..
    have h7 : (winAt s m sp a).ctl = s.ctl := modMaster_ctl ..
    unfold State.winWrite
    dsimp only
    rw [h1, h2, h3, h4, h5, h6, h7, chargeWin_winAt hu, if_neg (ready_not_fatal s hr), if_neg (fun h => by simp [hsvc h.1] at h),
      if_neg (by simp), if_neg (by simp [State.nvmBusy, hb]), if_neg (by simp)]
  have hresp' : (winAt s m sp a).responds m = true := (show _ = s.responds m by cases m <;> rfl).trans hresp
  have hses' : (winAt s m sp a).sessionOk m = true := (show _ = s.sessionOk m by cases m <;> rfl).trans hses
  have hc : (winAt s m sp a).writeCycle m 0x7F v = ((winAt s m sp a).winWrite m v).ack m true := by
    unfold State.writeCycle
    rw [if_neg (by simp [hresp', hses']), if_pos rfl]
  exact congrArg (fun t : State => t.modMaster m fun y => { y with
    winSpace := (s.master m).winSpace, winAddr := (s.master m).winAddr }) (hc.trans (by rw [hw]))

/-! ## A tare run starts and ends (R236 to R238) -/

theorem tareFail_ends (s : State) (c : Nat) : (s.tareFail c).bead.tareState = 4 ∧ (s.tareFail c).bead.tareCause = c ∧
    fld (s.tareFail c).ctl.irq1 3 1 = 1 ∧ (s.tareFail c).ports = s.ports ∧ (s.tareFail c).pending = s.pending ∧
    (s.tareFail c).life = s.life :=
  ⟨rfl, rfl, fld_or_bit _ 3 (by decide), rfl, rfl, rfl⟩

/-- A belt-scale run of the port runs. -/
def scaleRuns (s : State) (p : Nat) : Bool :=
  match s.cal.run with
  | some r => (r.proc == 7 || r.proc == 8) && r.target == 0x240 + p
  | none => false

theorem scaleRuns_some {r : CalRun} {p : Nat} (h : s.cal.run = some r) (hp : r.proc = 7 ∨ r.proc = 8) (ht : r.target = 0x240 + p) :
    scaleRuns s p = true := by
  unfold scaleRuns
  rw [h]
  simp [hp, ht]

theorem scaleRuns_none {p : Nat}
    (h : ∀ r, s.cal.run = some r → (r.proc ≠ 7 ∧ r.proc ≠ 8) ∨ r.target ≠ 0x240 + p) : scaleRuns s p = false := by
  unfold scaleRuns
  cases hr : s.cal.run with
  | none => rfl
  | some r => rcases h r hr with ⟨h7, h8⟩ | ht <;> simp [*]

/-- The state in which the run of port `p` begins. -/
def tareBegun (s : State) (p revs tol : Nat) : State :=
  { s with bead := { s.bead with
    tareCtl := w16 (p + 4 * revs + 32 * tol), tarePort := p, tareRevs := revs + 1, tareTol := tol, tareDone := 0, tareCause := 0
    tareAcc := [], tareWrap := none } }

theorem tareGo_ignored {p revs tol : Nat} (h : s.bead.tareState = 1 ∨ s.bead.tareState = 2 ∨ scaleRuns s p = true) :
    s.tareGo m p revs tol = s.logIgnored m 0x4C 0 := if_pos h

theorem tareGo_begun {p revs tol : Nat} (h : ¬ (s.bead.tareState = 1 ∨ s.bead.tareState = 2 ∨ scaleRuns s p = true)) :
    s.tareGo m p revs tol = if (s.port p).st ≠ .valid then (tareBegun s p revs tol).tareFail 1
      else if !s.tareRoom p then (tareBegun s p revs tol).tareFail 2
      else if s.loadOf p = [] then (tareBegun s p revs tol).tareFail 3
      else { tareBegun s p revs tol with bead := { (tareBegun s p revs tol).bead with tareState := 1 } } := if_neg h

/-! ## Writes of PB_TARE_CTL -/

/-- The state after a write of the fields of PB_TARE_CTL. -/
def tareCtlSet (s : State) (w : Word) : State := { s with bead := { s.bead with tareCtl := w } }

/-- The word of a request. -/
def tareWord (p : BitVec 2) (revs : BitVec 3) (tol : BitVec 2) : Word := w16 (p.toNat + 4 * revs.toNat + 32 * tol.toNat + 0x4000)

theorem tareWord_flds : ∀ (p : BitVec 2) (revs : BitVec 3) (tol : BitVec 2),
    tareWord p revs tol &&& nowMask 0x4C ≠ 0 ∧ fld (tareWord p revs tol) 14 1 = 1 ∧ fld (tareWord p revs tol) 15 1 ≠ 1 ∧
    fld (tareWord p revs tol &&& 0x7F) 0 2 = p.toNat ∧ fld (tareWord p revs tol &&& 0x7F) 2 3 = revs.toNat ∧
    fld (tareWord p revs tol &&& 0x7F) 5 2 = tol.toNat := by decide

theorem encBad_tareCtl (v : Word) : encBad 0x4C v = false := rfl

theorem stored_tareCtl (s : State) (m : Master) (v : Word) : stored s m 0x4C v = tareCtlSet s (v &&& 0x7F) := by
  have hs (w : Word) : s.regStore m 0x4C w v = tareCtlSet s w := rfl
  unfold stored
  rw [hs, rwMerge_and _ 0x7F (encBad_tareCtl v) (by decide)]

theorem regNow_tareCtl (t : State) (m : Master) (v : Word) : t.regNow m 0x4C v =
    if fld v 15 1 = 1 then (if fld v 14 1 = 1 then
        t.tareGo m (fld t.bead.tareCtl 0 2) (fld t.bead.tareCtl 2 3) (fld t.bead.tareCtl 5 2) else t).tareAbort
      else if fld v 14 1 = 1 then t.tareGo m (fld t.bead.tareCtl 0 2) (fld t.bead.tareCtl 2 3) (fld t.bead.tareCtl 5 2) else t := rfl

theorem writeCycle_tareGo (h : s.directs m 0x4C) (p : BitVec 2) (revs : BitVec 3) (tol : BitVec 2) :
    s.writeCycle m 0x4C (tareWord p revs tol) =
      ((tareCtlSet s (tareWord p revs tol &&& 0x7F)).tareGo m p.toNat revs.toNat tol.toNat).ack m true := by
  obtain ⟨hn, h14, h15, hp, hr, ht⟩ := tareWord_flds p revs tol
  rw [writeCycle_store_now h (encBad_tareCtl _) hn, stored_tareCtl, regNow_tareCtl, if_neg h15, if_pos h14]
  show (State.tareGo _ m (fld (tareWord p revs tol &&& 0x7F) 0 2) (fld (tareWord p revs tol &&& 0x7F) 2 3)
    (fld (tareWord p revs tol &&& 0x7F) 5 2)).ack m true = _
  rw [hp, hr, ht]

theorem writeCycle_tareAbort (h : s.directs m 0x4C) : ∃ w, s.writeCycle m 0x4C (withBit 0x4C s.bead.tareCtl 15) =
    (tareCtlSet s w).tareAbort.ack m true := by
  have hn : withBit 0x4C s.bead.tareCtl 15 &&& nowMask 0x4C ≠ 0 := withBit_acts _ (by decide) (by decide)
  have h15 : fld (withBit 0x4C s.bead.tareCtl 15) 15 1 = 1 := (withBit_fld _ _ (by decide) (by decide)).trans (if_pos rfl)
  have h14 : fld (withBit 0x4C s.bead.tareCtl 15) 14 1 = 0 := by
    rw [withBit_fld _ _ (by decide) (by decide), if_neg (by decide), if_pos (by decide)]
  refine ⟨withBit 0x4C s.bead.tareCtl 15 &&& 0x7F, ?_⟩
  rw [writeCycle_store_now h (encBad_tareCtl _) hn, stored_tareCtl, regNow_tareCtl, if_pos h15, if_neg (by omega)]

/-! ## What learning and a new profile change (R237 to R239) -/

/-- The beads alone have changed. -/
def BeadOnly (s u : State) : Prop := u = { s with bead := u.bead }

theorem BeadOnly.refl (s : State) : BeadOnly s s := rfl

theorem BeadOnly.eq (h : BeadOnly s u) : u = { s with bead := u.bead } := h

theorem BeadOnly.trans (h1 : BeadOnly s t) (h2 : BeadOnly t u) : BeadOnly s u :=
  h2.eq.trans (congrArg (fun v : State => { v with bead := u.bead }) h1.eq)

theorem BeadOnly.ite {c : Prop} [Decidable c] (h1 : BeadOnly s t) (h2 : BeadOnly s u) : BeadOnly s (if c then t else u) := by
  split
  · exact h1
  · exact h2

/-- The learned segments alone have changed. -/
def LearnedOnly (s u : State) : Prop := u = { s with bead := { s.bead with tareAcc := u.bead.tareAcc } }

theorem LearnedOnly.refl (s : State) : LearnedOnly s s := rfl

theorem LearnedOnly.ite {c : Prop} [Decidable c] (h1 : LearnedOnly s t) (h2 : LearnedOnly s u) :
    LearnedOnly s (if c then t else u) := by
  split
  · exact h1
  · exact h2

theorem LearnedOnly.trans (h1 : LearnedOnly s t) (h2 : LearnedOnly t u) : LearnedOnly s u :=
  Eq.trans h2 (congrArg (fun v : State => { v with bead := { v.bead with tareAcc := u.bead.tareAcc } }) h1)

theorem learnSegment_learned (s : State) (p : Nat) (a b : Placed) (x0 : Option Rat) :
    LearnedOnly s (s.learnSegment p a b x0) := by
  unfold State.learnSegment
  extract_lets len base
  split
  · rfl
  · refine foldl_rel (R := LearnedOnly) (fun _ => rfl) LearnedOnly.trans (fun t x => ?_) _ s
    exact .ite (.refl t) (.ite (.refl t) rfl)

theorem openAt_bead (s : State) (p k : Nat) (x : Rat) : BeadOnly s (s.openAt p k x) := by
  unfold State.openAt
  extract_lets q s1 rev idx b
  have h1 : BeadOnly s s1 := .ite (.refl s) rfl
  split
  · rfl
  · split
    · split
      · exact h1
      · exact h1.trans rfl
    · exact h1.trans rfl

theorem updateBead_bead (s : State) (p k : Nat) (x : Rat) (f : Bead → Bead) : BeadOnly s (s.updateBead p k x f) := by
  unfold State.updateBead
  extract_lets s1
  have h1 : BeadOnly s s1 := openAt_bead ..
  split
  · rfl
  · split
    · exact h1
    · split
      · exact h1
      · exact h1.trans rfl

/-- The state in which a profile is in force for port `p`. -/
def profileSet (s : State) (p : Nat) (entries : List Int) (mean : Int) : State :=
  s.setPort p { s.port p with
    tare := Store.setRun (fun _ => 0) [] 0 entries, tareLen := some (s.port p).len, tareGen := ((s.port p).tareGen + 1) % 65536
    tareMean := mean, tareLoad := false }

theorem useProfile_bead (s : State) (p : Nat) (entries : List Int) (mean : Int) :
    BeadOnly (profileSet s p entries mean) (s.useProfile p entries mean) := by
  unfold State.useProfile
  extract_lets q s1 s2 q2
  have h2 : BeadOnly (profileSet s p entries mean) s2 := rfl
  split
  · extract_lets set t b s3 s4
    have h3 : BeadOnly s2 s3 := rfl
    have h4 : BeadOnly s3 s4 := foldl_rel BeadOnly.refl BeadOnly.trans (fun _ _ => updateBead_bead ..) _ s3
    refine h2.trans (h3.trans ?_)
    refine .ite (.ite (h4.trans (updateBead_bead ..)) h4) (.refl s3)
  · exact h2

/-! ## The commands -/

section
variable (hd : s.directs m 0x4C) (p : BitVec 2) (revs : BitVec 3) (tol : BitVec 2)
include hd

theorem tareGo_next {x : State} (hp : x.pending = s.pending) (hl : x.life = s.life)
    (hx : (tareCtlSet s (tareWord p revs tol &&& 0x7F)).tareGo m p.toNat revs.toNat tol.toNat = x) :
    exec (.tareGo m p revs tol) s = .next (x.ack m true) :=
  (congrArg (ok s) ((writeCycle_tareGo hd p revs tol).trans (by rw [hx]))).trans
    (ok_next s _ ((ack_pending ..).trans hp) ((ack_life ..).trans hl))

/-- A request that is ignored changes the written fields alone. -/
theorem tareGo_kept (h : s.bead.tareState = 1 ∨ s.bead.tareState = 2 ∨ scaleRuns s p.toNat = true) :
    ∃ t, exec (.tareGo m p revs tol) s = .next t ∧ t.bead = { s.bead with tareCtl := t.bead.tareCtl } := by
  have hb := (ack_bead ((tareCtlSet s (tareWord p revs tol &&& 0x7F)).logIgnored m 0x4C 0) m true).trans (logE_bead ..)
  refine ⟨_, tareGo_next hd p revs tol ?_ ?_ (tareGo_ignored h), ?_⟩
  · exact logE_pending ..
  · exact logE_life ..
  · rw [hb]
    rfl

theorem tareGo_failed (h : ¬ (s.bead.tareState = 1 ∨ s.bead.tareState = 2 ∨ scaleRuns s p.toNat = true))
    (hv : (s.port p.toNat).st ≠ .valid) :
    ∃ t, exec (.tareGo m p revs tol) s = .next t ∧ t.bead.tareState = 4 ∧ t.bead.tareCause = 1 ∧ fld t.ctl.irq1 3 1 = 1 := by
  obtain ⟨h1, h2, h3, -, h5, h6⟩ := tareFail_ends
    (tareBegun (tareCtlSet s (tareWord p revs tol &&& 0x7F)) p.toNat revs.toNat tol.toNat) 1
  refine ⟨_, tareGo_next hd p revs tol h5 h6 ((tareGo_begun (s := tareCtlSet s (tareWord p revs tol &&& 0x7F)) h).trans (if_pos hv)), ?_⟩
  rw [ack_eq]
  exact ⟨h1, h2, h3⟩

theorem tareGo_waits (h : ¬ (s.bead.tareState = 1 ∨ s.bead.tareState = 2 ∨ scaleRuns s p.toNat = true))
    (hv : (s.port p.toNat).st = .valid) (hr : s.tareRoom p.toNat = true) (hl : s.loadOf p.toNat ≠ []) :
    ∃ t, exec (.tareGo m p revs tol) s = .next t ∧ t.bead.tareState = 1 ∧ t.bead.tarePort = p.toNat ∧
      t.bead.tareRevs = revs.toNat + 1 ∧ t.bead.tareTol = tol.toNat := by
  have hr' : (!(tareCtlSet s (tareWord p revs tol &&& 0x7F)).tareRoom p.toNat) ≠ true := by
    rw [show (tareCtlSet s (tareWord p revs tol &&& 0x7F)).tareRoom p.toNat = true from hr]
    exact Bool.false_ne_true
  refine ⟨_, tareGo_next hd p revs tol ?_ ?_
    ((tareGo_begun (s := tareCtlSet s (tareWord p revs tol &&& 0x7F)) h).trans ((if_neg (not_not_intro hv)).trans ((if_neg hr').trans (if_neg hl)))), ?_⟩
  · rfl
  · rfl
  · rw [ack_eq]
    exact ⟨rfl, rfl, rfl, rfl⟩

theorem tareAbort_next : ∃ w, exec (.tareAbort m) s = .next ((tareCtlSet s w).tareAbort.ack m true) := by
  obtain ⟨w, hw⟩ := writeCycle_tareAbort hd
  have hk : (tareCtlSet s w).tareAbort.pending = s.pending ∧ (tareCtlSet s w).tareAbort.life = s.life := by
    unfold State.tareAbort
    split <;> exact ⟨rfl, rfl⟩
  exact ⟨w, (congrArg (ok s) hw).trans (ok_next s _ ((ack_pending ..).trans hk.1) ((ack_life ..).trans hk.2))⟩

end

theorem tareLearnStart_learns (h1 : s.bead.tareState = 1) (hw : s.bead.tareWrap.isSome = true) :
    s.tareLearnStart.bead.tareState = 2 ∧ BeadOnly s s.tareLearnStart := by
  have hn : ¬ (s.bead.tareState ≠ 1 ∨ s.bead.tareWrap.isNone = true) := by
    rw [← Option.not_isSome, hw]
    simp [h1]
  unfold State.tareLearnStart
  rw [if_neg hn]
  extract_lets p _ s1
  have h2 : s1.bead.tareState = 2 ∧ BeadOnly s s1 := ⟨rfl, rfl⟩
  clear_value s1
  split
  · next a b _ _ =>
    have hl := learnSegment_learned s1 p a b (some (revOf (s1.port p).len b.x * ((s1.port p).len : Rat)))
    rw [hl]
    exact ⟨h2.1, h2.2.trans rfl⟩
  · exact h2

theorem profile_port (s : State) (p : Nat) (b : BeadSt) (entries : List Int) (mean : Int) :
    (State.irq1 { profileSet s p entries mean with bead := b } 3).port p = { s.port p with
      tare := Store.setRun (fun _ => 0) [] 0 entries, tareLen := some (s.port p).len
      tareGen := ((s.port p).tareGen + 1) % 65536, tareMean := mean, tareLoad := false } := port_setPort ..

theorem Charged.ports (h : Charged s m u) : u.ports = s.ports ∧ u.bead = s.bead ∧ u.pending = s.pending ∧ u.life = s.life := by
  obtain ⟨b, l, rfl⟩ := h
  exact ⟨modMaster_ports .., modMaster_bead .., modMaster_pending .., modMaster_life ..⟩

/-- A run whose profile passes its checks. -/
theorem tareRunEnd_passes (h2 : s.bead.tareState = 2) (hn : s.bead.tareRevs ≤ s.bead.tareDone)
    (hc : (learnProfile s.bead (s.port s.bead.tarePort).len).code = 0) (l : Learned)
    (hl : l = learnProfile s.bead (s.port s.bead.tarePort).len) :
    ∃ b, s.tareRunEnd = State.irq1 { profileSet s s.bead.tarePort l.entries l.mean with bead := b } 3 ∧
      b.tareState = 3 ∧ b.tareCause = 0 := by
  have hg : ¬ (s.bead.tareState ≠ 2 ∨ s.bead.tareDone < s.bead.tareRevs) := by omega
  unfold State.tareRunEnd
  rw [if_neg hg]
  dsimp only
  rw [if_neg (not_not_intro hc), ← hl, useProfile_bead s s.bead.tarePort l.entries l.mean]
  exact ⟨_, rfl, rfl, rfl⟩

theorem tareRunEnd_fails (h2 : s.bead.tareState = 2) (hn : s.bead.tareRevs ≤ s.bead.tareDone)
    (hc : (learnProfile s.bead (s.port s.bead.tarePort).len).code ≠ 0) :
    s.tareRunEnd = s.tareFail (learnProfile s.bead (s.port s.bead.tarePort).len).code := by
  have hg : ¬ (s.bead.tareState ≠ 2 ∨ s.bead.tareDone < s.bead.tareRevs) := by omega
  unfold State.tareRunEnd
  rw [if_neg hg]
  exact if_pos hc

/-! ## PB_TARE_LOAD (R462) -/

theorem tareLoadAddr (p : Fin 4) : (p.val * 0x40000 + 0x3F144) % 0x40000 = 0x3F144 ∧ (p.val * 0x40000 + 0x3F144) / 0x40000 = p.val ∧
    p.val * 0x40000 + 0x3F144 < 0x100000 := by
  have := p.isLt
  omega

theorem winRw_tareLoad (s : State) (p : Fin 4) : s.winRw 4 (p.val * 0x40000 + 0x3F144) = false := by
  obtain ⟨h1, h2, -⟩ := tareLoadAddr p
  unfold State.winRw
  dsimp only
  rw [h1]
  simp [pbMask]

theorem winNow_pos (a : Nat) : winNow 4 a = (a % 0x40000 == 0x3F144) := rfl

theorem winNow_tareLoad (p : Fin 4) : winNow 4 (p.val * 0x40000 + 0x3F144) = true := by
  rw [winNow_pos, (tareLoadAddr p).1]
  rfl

/-- The high words of the space lie inside for every loop length. -/
theorem highWord_inside (s : State) (q : Nat) {a : Nat} (h : a = 0x3F144) :
    (true && if 0x3F000 ≤ a then true else decide (a % 0x20000 < tareCount (s.port q).len)) = true := by
  rw [h, if_pos (by decide)]
  rfl

theorem winNoWrite_tareLoad (s : State) (p : Fin 4) : s.winNoWrite 4 (p.val * 0x40000 + 0x3F144) = false := by
  obtain ⟨h1, -, h3⟩ := tareLoadAddr p
  have hz : winSize 4 = 0x100000 := rfl
  have hi : s.winInside 4 (p.val * 0x40000 + 0x3F144) = true := by
    unfold State.winInside
    rw [if_neg (by simp), if_pos rfl, hz, decide_eq_true h3]
    exact highWord_inside s _ h1
  unfold State.winNoWrite
  rw [hi, winNow_tareLoad]
  simp

theorem winTake_tareLoad (s : State) (m : Master) (port : Nat) (p : Fin 4) :
    s.winTake m 3 port 4 (p.val * 0x40000 + 0x3F144) 1 = s.tareLoadReq m p.val := by
  obtain ⟨h1, h2, -⟩ := tareLoadAddr p
  unfold State.winTake
  extract_lets clasp
  rw [winRw_tareLoad, winNow_tareLoad, if_neg (by simp), if_pos rfl, if_neg (by simp)]
  unfold State.winPut
  dsimp only
  rw [h1, h2]
  rfl

/-- The request as it stands, on any state with the same ports and beads. -/
theorem tareLoadReq_waits {p : Nat} (h1 : s.bead.tareState ≠ 1) (h2 : s.bead.tareState ≠ 2) :
    s.tareLoadReq m p = (s.modPort p fun q => { q with tareLoad := true }).modBeadPort p fun b => { b with wrapSeen := false } :=
  if_neg (not_or.mpr ⟨h1, h2⟩)

theorem tareLoadReq_port {p k : Nat} (h1 : s.bead.tareState ≠ 1) (h2 : s.bead.tareState ≠ 2) :
    (s.tareLoadReq m p).port k = if k = p then { s.port p with tareLoad := true } else s.port k := by
  rw [tareLoadReq_waits h1 h2]
  show (s.setPort p { s.port p with tareLoad := true }).port k = _
  split
  · next h => rw [h, port_setPort]
  · next h => rw [port_setPort_other _ _ h]

theorem beadPort_modBeadPort (s : State) (p : Nat) (f : BeadPort → BeadPort) : (s.modBeadPort p f).beadPort p = f (s.beadPort p) :=
  get_set_self ..

theorem tareLoadActivate_uses {p : Nat} (hl : (s.port p).tareLoad = true) (hw : (s.beadPort p).wrapSeen = true) :
    s.tareLoadActivate p = (s.useProfile p ((List.range (tareCount (s.port p).len)).map fun e =>
      (Store.get 0 (s.port p).tareStg e).toInt) (s.port p).tareStgMean.toInt).irq1 3 :=
  if_neg (by simp [hl, hw])

/-- Settles O36: GO and ABORT act on the run's state, and a profile in force changes its port and the beads. -/
theorem tareIsLearnedAndLoaded : Obligations.TareIsLearnedAndLoaded := by
  refine ⟨⟨fun m p revs tol s hd => ?_, fun m s hd => ?_, fun s hr h1 hw => ?_, fun s hr h2 hn => ?_⟩,
    fun m p s u ho he hsvc hc hu h1 h2 => ?_, fun p s hr hl hw => ?_⟩
  · refine ⟨fun h => ?_, fun r hrun hp ht => ?_, fun h h1 h2 hv => ?_, fun h h1 h2 hv hroom hload => ?_⟩
    · obtain ⟨t, hx, hb⟩ := tareGo_kept hd p revs tol (h.imp_right .inl)
      exact ⟨t, hx, by rw [hb], by rw [hb], by rw [hb]⟩
    · exact tareGo_kept hd p revs tol (.inr (.inr (scaleRuns_some hrun hp ht)))
    · exact tareGo_failed hd p revs tol (by simp [h1, h2, scaleRuns_none h]) hv
    · exact tareGo_waits hd p revs tol (by simp [h1, h2, scaleRuns_none h]) hv hroom hload
  · obtain ⟨w, hx⟩ := tareAbort_next hd
    refine ⟨fun h => ?_, fun h1 h2 => ?_⟩
    · rw [show (tareCtlSet s w).tareAbort = (tareCtlSet s w).tareFail 8 from if_pos h] at hx
      obtain ⟨h1, h2, -, h4, -⟩ := tareFail_ends (tareCtlSet s w) 8
      refine ⟨_, hx, ?_⟩
      rw [ack_eq]
      exact ⟨h1, h2, h4⟩
    · rw [show (tareCtlSet s w).tareAbort = tareCtlSet s w from if_neg (not_or.mpr ⟨h1, h2⟩)] at hx
      refine ⟨_, hx, ?_⟩
      rw [ack_eq]
      rfl
  · obtain ⟨h2, hb⟩ := tareLearnStart_learns h1 hw
    exact ⟨_, live_next hr (f := State.tareLearnStart) (by rw [hb.eq]) (by rw [hb.eq]), h2, hb⟩
  · by_cases hc : (learnProfile s.bead (s.port s.bead.tarePort).len).code = 0
    · obtain ⟨b, he, h3, h4⟩ := tareRunEnd_passes h2 hn hc _ rfl
      refine ⟨_, live_next hr (f := State.tareRunEnd) (by rw [he]; rfl) (by rw [he]; rfl), ?_⟩
      dsimp only
      rw [he, if_pos hc]
      refine ⟨fld_or_bit _ 3 (by decide), h3, h4, ?_⟩
      have hp := profile_port s s.bead.tarePort b (learnProfile s.bead (s.port s.bead.tarePort).len).entries
        (learnProfile s.bead (s.port s.bead.tarePort).len).mean
      exact ⟨(congrArg PosPort.tareGen hp :), (congrArg PosPort.tareLen hp :), (congrArg PosPort.tareMean hp :)⟩
    · have he := tareRunEnd_fails h2 hn hc
      obtain ⟨h1, h2, h3, h4, h5, h6⟩ := tareFail_ends s (learnProfile s.bead (s.port s.bead.tarePort).len).code
      refine ⟨_, live_next hr (f := State.tareRunEnd) (by rw [he]; exact h5) (by rw [he]; exact h6), ?_⟩
      dsimp only
      rw [he, if_neg hc]
      exact ⟨h3, h1, h2, h4⟩
  · have hw := winCmd_taken 1 ho he hsvc (by decide) (winNoWrite_tareLoad s p) hu
    rw [winTake_tareLoad] at hw
    obtain ⟨hq, hb, hp, hl⟩ := (chargeWin_charged hu).ports
    have hWb := (winAt_bead u m 4 (p.val * 0x40000 + 0x3F144)).trans hb
    have hWp := (winAt_ports u m 4 (p.val * 0x40000 + 0x3F144)).trans hq
    have hWe : (winAt u m 4 (p.val * 0x40000 + 0x3F144)).pending = s.pending := (modMaster_pending ..).trans hp
    have hWl : (winAt u m 4 (p.val * 0x40000 + 0x3F144)).life = s.life := (modMaster_life ..).trans hl
    generalize winAt u m 4 (p.val * 0x40000 + 0x3F144) = w at *
    rw [← hWb] at h1 h2
    have hk (k : Nat) : (winDone (s.master m) (w.tareLoadReq m p.val) m).port k =
        if k = p.val then { s.port p.val with tareLoad := true } else s.port k := by
      rw [State.port, winDone_ports]
      refine (tareLoadReq_port h1 h2).trans ?_
      rw [State.port, State.port, State.port, State.port, hWp]
    have hx : exec (.pbTareLoad m p) s = ok s (winDone (s.master m) (w.tareLoadReq m p.val) m) := congrArg (ok s) hw
    refine ⟨_, hx.trans (ok_next s _ ?_ ?_), ?_, ?_, ?_, fun k h => ?_⟩
    · rw [winDone_pending, tareLoadReq_waits h1 h2]
      exact hWe
    · rw [winDone_life, tareLoadReq_waits h1 h2]
      exact hWl
    · rw [hk, if_pos rfl]
    · rw [State.beadPort, winDone_bead, tareLoadReq_waits h1 h2]
      exact congrArg BeadPort.wrapSeen (beadPort_modBeadPort (w.modPort p.val fun q => { q with tareLoad := true }) p.val
        fun b => { b with wrapSeen := false })
    · rw [hk, if_pos rfl]
    · rw [hk, if_neg h]
  · have he := tareLoadActivate_uses hl hw
    obtain ⟨b, hb⟩ : ∃ b, s.tareLoadActivate p.val = State.irq1 { profileSet s p.val ((List.range (tareCount (s.port p.val).len)).map
        fun e => (Store.get 0 (s.port p.val).tareStg e).toInt) (s.port p.val).tareStgMean.toInt with bead := b } 3 :=
      ⟨_, he.trans (congrArg (fun t : State => t.irq1 3) (useProfile_bead ..).eq)⟩
    have hp := profile_port s p.val b ((List.range (tareCount (s.port p.val).len)).map
        fun e => (Store.get 0 (s.port p.val).tareStg e).toInt) (s.port p.val).tareStgMean.toInt
    rw [← hb] at hp
    refine ⟨_, live_next hr (f := fun t => t.tareLoadActivate p.val) (by rw [hb]; rfl) (by rw [hb]; rfl),
      (congrArg PosPort.tareLoad hp :), (congrArg PosPort.tareLen hp :), (congrArg PosPort.tareMean hp :),
      (congrArg PosPort.tareGen hp :), ?_, ?_⟩
    · rw [hb]
      exact fld_or_bit _ 3 (by decide)
    · rw [hb]
      rfl

/-! ## ODEC (R125) -/

/-- Facet `n` stages the code of N_out. -/
def odecOne (code : Nat) (t : State) (n : Nat) : State := t.setFpS n 6 (setFld (t.fpS n 6) 0 4 code)

/-- The facets of the scope. -/
def odecFacets (scope facet : Nat) : List Nat :=
  match scope with
  | 0 => [facet] | 1 => List.range 448 | 2 => (List.range 64).map (448 + ·) | _ => allFacets

theorem odecPut_eq (s : State) (code scope facet : Nat) : s.odecPut code scope facet =
    (odecFacets scope facet).foldl (odecOne code) { s with chain := { s.chain with odecScope := scope } } := rfl

theorem odecOne_fpS (code : Nat) (t : State) (a : Nat) {n w : Nat} (hw : w < 32) :
    (odecOne code t a).fpS n w = if w = 6 ∧ n = a then setFld (t.fpS n 6) 0 4 code else t.fpS n w := by
  by_cases h : w = 6 ∧ n = a
  · obtain ⟨rfl, rfl⟩ := h
    rw [if_pos ⟨rfl, rfl⟩]
    exact fpS_setFpS ..
  · rw [if_neg h]
    exact fpS_setFpS_other _ _ (by decide) hw (by simpa [and_comm] using h)

theorem setFld_again (x : Word) (code : Nat) : setFld (setFld x 0 4 code) 0 4 code = setFld x 0 4 code := by
  refine BitVec.eq_of_getLsbD_eq fun i hi => ?_
  rw [getLsbD_setFld _ _ hi, getLsbD_setFld _ _ hi]
  split <;> rfl

theorem odec_fpS (code : Nat) (l : List Nat) : ∀ (t : State) {n w : Nat}, w < 32 →
    (l.foldl (odecOne code) t).fpS n w = if w = 6 ∧ n ∈ l then setFld (t.fpS n 6) 0 4 code else t.fpS n w := by
  induction l with
  | nil => intro t n w _; simp
  | cons a l ih =>
    intro t n w hw
    rw [List.foldl_cons, ih _ hw, odecOne_fpS code t a hw, odecOne_fpS code t a (by decide)]
    by_cases h6 : w = 6 <;> by_cases hl : n ∈ l <;> by_cases ha : n = a <;> simp [h6, hl, ha, setFld_again]

theorem odec_staged (code : Nat) (l : List Nat) (t : State) :
    l.foldl (odecOne code) t = { t with fpStaged := (l.foldl (odecOne code) t).fpStaged } :=
  foldl_rel (R := fun a b : State => b = { a with fpStaged := b.fpStaged }) (fun _ => rfl)
    (fun {_ _ c} h1 h2 => h2.trans (congrArg (fun v : State => { v with fpStaged := c.fpStaged }) h1)) (fun _ _ => rfl) l t

theorem mem_allFacets (n : Nat) : n ∈ allFacets ↔ n < 512 := List.mem_range

theorem mem_odecFacets (scope : BitVec 2) (facet n : Nat) : n ∈ odecFacets scope.toNat facet ↔
    (scope.toNat = 3 ∧ n < 512 ∨ (scope.toNat = 2 ∧ 448 ≤ n ∧ n < 512) ∨ (scope.toNat = 1 ∧ n < 448) ∨
      (scope.toNat = 0 ∧ n = facet)) := by
  have hz : n ∈ (List.range 64).map (448 + ·) ↔ 448 ≤ n ∧ n < 512 := by
    rw [List.mem_map]
    refine ⟨?_, fun h => ⟨n - 448, List.mem_range.mpr (by omega), by omega⟩⟩
    rintro ⟨a, ha, rfl⟩
    have := List.mem_range.mp ha
    omega
  have hs : scope.toNat = 0 ∨ scope.toNat = 1 ∨ scope.toNat = 2 ∨ scope.toNat = 3 := by omega
  rcases hs with h | h | h | h <;> rw [h]
  · have h0 : n ∈ odecFacets 0 facet ↔ n = facet := List.mem_singleton
    exact h0.trans (by omega)
  · have h1 : n ∈ odecFacets 1 facet ↔ n < 448 := List.mem_range
    exact h1.trans (by omega)
  · have h2 : n ∈ odecFacets 2 facet ↔ 448 ≤ n ∧ n < 512 := hz
    exact h2.trans (by omega)
  · have h3 : n ∈ odecFacets 3 facet ↔ n < 512 := mem_allFacets n
    exact h3.trans (by omega)

theorem odecWord_flds : ∀ (code : BitVec 4) (scope : BitVec 2), code.toNat ≤ 10 →
    encBad 0x34 (w16 (code.toNat + 16 * scope.toNat)) = false ∧
    fld (w16 (code.toNat + 16 * scope.toNat) &&& 0x3F) 0 4 = code.toNat ∧
    fld (w16 (code.toNat + 16 * scope.toNat) &&& 0x3F) 4 2 = scope.toNat := by decide

theorem writeCycle_odec (h : s.directs m 0x34) {code : BitVec 4} (scope : BitVec 2) (hc : code.toNat ≤ 10) :
    s.writeCycle m 0x34 (w16 (code.toNat + 16 * scope.toNat)) =
      (s.odecPut code.toNat scope.toNat (s.master m).fctSel).ack m true := by
  obtain ⟨hb, h0, h4⟩ := odecWord_flds code scope hc
  rw [writeCycle_store h hb (by simp [nowMask])]
  refine congrArg (fun t : State => t.ack m true) ?_
  have hs (w v : Word) : s.regStore m 0x34 w v = if encBad 0x34 v then { s with chain := { s.chain with odecScope := fld w 4 2 } }
      else s.odecPut (fld w 0 4) (fld w 4 2) (s.master m).fctSel := rfl
  unfold stored
  rw [hs, hb, if_neg Bool.false_ne_true, rwMerge_and _ 0x3F hb (by decide), h0, h4]

/-- ODEC stages the code for the facets of the scope and keeps every other staged word. -/
theorem odec_next (h : s.directs m 0x34) {code : BitVec 4} (scope : BitVec 2) (hc : code.toNat ≤ 10) :
    exec (.odecWrite m code scope) s = .next ((s.odecPut code.toNat scope.toNat (s.master m).fctSel).ack m true) ∧
      (∀ w < 32, ∀ n, ((s.odecPut code.toNat scope.toNat (s.master m).fctSel).ack m true).fpS n w =
        if w = 6 ∧ n ∈ odecFacets scope.toNat (s.master m).fctSel then setFld (s.fpS n 6) 0 4 code.toNat else s.fpS n w) ∧
      (s.odecPut code.toNat scope.toNat (s.master m).fctSel).ack m true = { s with
        chain := { s.chain with odecScope := scope.toNat }
        fpStaged := ((s.odecPut code.toNat scope.toNat (s.master m).fctSel).ack m true).fpStaged
        ctl := { s.ctl with acked := ((s.odecPut code.toNat scope.toNat (s.master m).fctSel).ack m true).ctl.acked } } := by
  have hq := odec_staged code.toNat (odecFacets scope.toNat (s.master m).fctSel)
    { s with chain := { s.chain with odecScope := scope.toNat } }
  rw [← odecPut_eq] at hq
  refine ⟨(congrArg (ok s) (writeCycle_odec h scope hc)).trans (ok_next s _ ?_ ?_), fun w hw n => ?_, ?_⟩
  · rw [ack_pending, hq]
  · rw [ack_life, hq]
  · refine Eq.trans ?_ (odec_fpS code.toNat (odecFacets scope.toNat (s.master m).fctSel)
      { s with chain := { s.chain with odecScope := scope.toNat } } hw)
    rw [← odecPut_eq, State.fpS, State.fpS, ack_fpStaged]
  · rw [ack_fpStaged]
    exact (ack_eq ..).trans (congrArg (fun v : State => { v with ctl := { v.ctl with
      acked := ((s.odecPut code.toNat scope.toNat (s.master m).fctSel).ack m true).ctl.acked } }) hq)

/-! ## Bank requests and fades (R139 to R143) -/

def bankSelSet (s : State) (w : Word) : State := { s with chain := { s.chain with bankSel := w } }

theorem bankWord_flds : ∀ target sync : Bool, w16 (b2n target + 2 * b2n sync + 0x8000) &&& nowMask 0x35 ≠ 0 ∧
    fld (w16 (b2n target + 2 * b2n sync + 0x8000)) 15 1 = 1 ∧
    fld (w16 (b2n target + 2 * b2n sync + 0x8000) &&& 3) 0 1 = b2n target ∧
    (fld (w16 (b2n target + 2 * b2n sync + 0x8000) &&& 3) 1 1 == 1) = sync := by decide

theorem writeCycle_bankSel (h : s.directs m 0x35) (target sync : Bool) : ∃ w,
    s.writeCycle m 0x35 (w16 (b2n target + 2 * b2n sync + 0x8000)) =
      ((bankSelSet s w).bankRequest (b2n target) s.chain.xfadeLen.toNat sync).ack m true := by
  obtain ⟨hn, h15, h0, h1⟩ := bankWord_flds target sync
  have hs (w v : Word) : s.regStore m 0x35 w v = bankSelSet s w := rfl
  have hb : encBad 0x35 (w16 (b2n target + 2 * b2n sync + 0x8000)) = false := rfl
  refine ⟨w16 (b2n target + 2 * b2n sync + 0x8000) &&& 3, ?_⟩
  rw [writeCycle_store_now h hb hn]
  refine congrArg (fun t : State => t.ack m true) ?_
  unfold stored
  rw [hs, rwMerge_and _ 3 hb (by decide)]
  refine (steps_one (v := w16 (b2n target + 2 * b2n sync + 0x8000)) (b := 15)
    (fun t => t.bankRequest (fld t.chain.bankSel 0 1) t.chain.xfadeLen.toNat (fld t.chain.bankSel 1 1 == 1)) _).trans
    ((if_pos h15).trans ?_)
  show (bankSelSet s _).bankRequest (fld (w16 (b2n target + 2 * b2n sync + 0x8000) &&& 3) 0 1) _
    (fld (w16 (b2n target + 2 * b2n sync + 0x8000) &&& 3) 1 1 == 1) = _
  rw [h0, h1]
  rfl

theorem bankRequest_fails {target len : Nat} {sync : Bool}
    (h : s.bankCause target (if sync then s.chain.shStaged else s.chain.shActive) ≠ 0) : s.bankRequest target len sync =
      { s with chain := { s.chain with cause := s.bankCause target (if sync then s.chain.shStaged else s.chain.shActive) } } :=
  if_pos h

theorem bankRequest_passes {target len : Nat} {sync : Bool}
    (h : s.bankCause target (if sync then s.chain.shStaged else s.chain.shActive) = 0) : s.bankRequest target len sync =
      { s with chain := { s.chain with
          cause := 0, queue := some { target, len, atSync := sync }, queueStamp := s.ctl.stamp + 1
          replaced := s.chain.replaced || s.chain.queue.isSome } }.nextStamp :=
  if_neg (not_not_intro h)

theorem fadeStart_due {q : FadeReq} (h1 : s.chain.fade = none) (h2 : s.chain.queue = some q) (h3 : q.atSync = false)
    (h4 : s.due s.chain.queueStamp = true) (h5 : s.chain.fadeBar ≠ some s.tick) (h6 : s.stepsDone = true) :
    s.fadeStart = if q.target = s.chain.bank then ({ s with chain := { s.chain with queue := none } }).irq1 4
      else { s with
        chain := { s.chain with
          queue := none, fade := some { start := s.tick, source := s.chain.bank, target := q.target, len := q.len, gen := s.coefGen }
          lastFade := some { start := s.tick, source := s.chain.bank, target := q.target, len := q.len, gen := s.coefGen } }
        facets := s.fadeStart.facets } := by
  have hd : s.fadeDue = true := by
    unfold State.fadeDue
    rw [h4, h1, h2]
    simp [h3, h5]
  have he : s.fadeStart = if q.target = s.chain.bank then ({ s with chain := { s.chain with queue := none } }).irq1 4
      else
        let fd : Fade := { start := s.tick, source := s.chain.bank, target := q.target, len := q.len, gen := s.coefGen }
        { s with
          chain := { s.chain with queue := none, fade := some fd, lastFade := some fd }
          facets := Store.mapV {} (fun _ f => { f with
            fadeJ := none
            pend := f.pend.map fun p => { p with later := some { fd with start := p.inCount s.tick } } }) s.facets } := by
    unfold State.fadeStart
    rw [h1, h2]
    exact if_pos ⟨hd, h6⟩
  by_cases hb : q.target = s.chain.bank
  · rw [he, if_pos hb, if_pos hb]
  · rw [if_neg hb]
    rw [if_neg hb] at he
    rw [he]

/-! ## User curves (R117) -/

/-- The check reads the words of the points and the encodings of the control word. -/
theorem curveErr_congr {f g : Nat → Word} (h : ∀ w, 4 ≤ w → f w = g w) (h0 : curveEnc (f 0) = curveEnc (g 0)) :
    curveErr f = curveErr g := by
  have hv (i : Nat) : dw (f (4 + 2 * i)) (f (5 + 2 * i)) = dw (g (4 + 2 * i)) (g (5 + 2 * i)) := by
    rw [h _ (by omega), h _ (by omega)]
  unfold curveErr
  simp only [hv, h0]

theorem curveEnc_act (x : Word) : curveEnc (setFld x 15 1 1 &&& 0x0033) = curveEnc x := by
  have h (lo : Nat) (hlo : lo = 0 ∨ lo = 4) : fld (setFld x 15 1 1 &&& 0x0033) lo 2 = fld x lo 2 := fld_congr fun i hi => by
    have hm : (0x0033 : Word).getLsbD (lo + i) = true := by
      have hi : i = 0 ∨ i = 1 := by omega
      rcases hlo with rfl | rfl <;> rcases hi with rfl | rfl <;> rfl
    rw [BitVec.getLsbD_and, getLsbD_setFld _ _ (by omega), if_neg (by omega), hm, Bool.and_true]
  unfold curveEnc
  rw [h 0 (.inl rfl), h 4 (.inr rfl)]

theorem ucAddr (c : Fin 16) : c.val * 256 < 0x1000 ∧ c.val * 256 % 256 = 0 ∧ c.val * 256 / 256 = c.val := by
  have := c.isLt
  omega

theorem winRw_uc (s : State) (c : Fin 16) : s.winRw 0xC (c.val * 256) = true := by
  obtain ⟨h1, h2, -⟩ := ucAddr c
  unfold State.winRw
  dsimp only
  rw [h2, decide_eq_true h1]
  rfl

theorem winNoWrite_uc (s : State) (c : Fin 16) : s.winNoWrite 0xC (c.val * 256) = false := by
  have hi : s.winInside 0xC (c.val * 256) = true := by
    unfold State.winInside
    rw [if_neg (by simp), if_neg (by simp), Bool.and_true]
    exact decide_eq_true ((ucAddr c).1.trans (by decide))
  unfold State.winNoWrite
  rw [hi, winRw_uc]
  rfl

/-- The state in which the control word of curve `c` stands. -/
def ucCtlSet (s : State) (c : Fin 16) (v : Word) (hold : Store (Option Word)) : State :=
  { s with winHold := hold, curves := Store.set 0 s.curves (c.val * 256) (v &&& 0x0033) }

theorem winPut_uc (s : State) (m : Master) (port a : Nat) (v : Word) : s.winPut m port 0xC a v =
    if a % 256 = 0 ∧ fld v 15 1 = 1 then
      State.ucAct { s with curves := Store.set 0 s.curves a (if a % 256 = 0 then v &&& 0x0033 else v) } m (a / 256)
    else { s with curves := Store.set 0 s.curves a (if a % 256 = 0 then v &&& 0x0033 else v) } := rfl

theorem winTake_uc (s : State) (m : Master) (port : Nat) (c : Fin 16) {v : Word} (hc : (s.master m).clasp.isOpen = false)
    (hv : fld v 15 1 = 1) : ∃ hold, s.winTake m 3 port 0xC (c.val * 256) v = (ucCtlSet s c v hold).ucAct m c.val := by
  obtain ⟨h1, h2, h3⟩ := ucAddr c
  have hval : winValue 0xC (c.val * 256) = (0, 1) := by
    show (if 4 ≤ c.val * 256 % 256 then _ else _) = _
    rw [h2]
    rfl
  have hput (t : State) : t.winPut m port 0xC (c.val * 256) v =
      State.ucAct { t with curves := Store.set 0 t.curves (c.val * 256) (v &&& 0x0033) } m c.val := by
    rw [winPut_uc, if_pos ⟨h2, hv⟩, if_pos h2, h3]
  unfold State.winTake
  extract_lets clasp
  have hcl : clasp = false := hc
  rw [winRw_uc, if_pos rfl, hcl, if_neg Bool.false_ne_true, if_neg (by simp)]
  unfold State.winDirect
  rw [if_neg (by simp [State.winLocked]), hval]
  dsimp only
  rw [if_neg (by omega), if_neg (by simp [winReserved])]
  exact ⟨_, hput _⟩

theorem ucS_set (s : State) (c : Fin 16) (v : Word) (hold : Store (Option Word)) {w : Nat} :
    (ucCtlSet s c v hold).ucS (48 + c.val) w = if w = 0 then v &&& 0x0033 else s.ucS (48 + c.val) w := by
  have hk : (48 + c.val - 48) * 256 + w = c.val * 256 + w := by omega
  unfold State.ucS ucCtlSet
  rw [hk]
  split
  · next h =>
    rw [h, Nat.add_zero]
    exact get_set_self ..
  · next h => exact get_set_other _ _ _ _ (by omega)

theorem ucAct_passes {c : Nat} (h : curveErr (fun w => s.ucS (48 + c) w) = 0) :
    (c, s.ctl.stamp + 1, m) ∈ (s.ucAct m c).curvePend := by
  unfold State.ucAct
  rw [h]
  exact List.mem_append_right _ (List.mem_singleton.mpr rfl)

theorem ucAct_fails {c : Nat} (h : curveErr (fun w => s.ucS (48 + c) w) ≠ 0) : (s.ucAct m c).curvePend = s.curvePend := by
  unfold State.ucAct
  split
  · contradiction
  · unfold State.ucFail
    split <;> rfl

theorem ucAct_frame (s : State) (m : Master) (c : Nat) : (s.ucAct m c).fpActive = s.fpActive ∧
    (s.ucAct m c).pending = s.pending ∧ (s.ucAct m c).life = s.life := by
  unfold State.ucAct
  split
  · exact ⟨rfl, rfl, rfl⟩
  · unfold State.ucFail
    split <;> exact ⟨rfl, rfl, rfl⟩

theorem userCurve_turn {c st : Nat} (h : s.curvePend.find? (fun x => x.1 == c) = some (c, st, m)) (ht : s.turn st = true) :
    s.userCurve' c = (({ s with curvePend := s.curvePend.filter (fun x => x.1 != c) } : State).ucActivate c).committed m (.curve c) := by
  unfold State.userCurve'
  rw [h]
  exact if_neg (by simp [ht])

theorem ucActivate_curves (s : State) (c : Nat) :
    (∀ w, w = 0 ∨ (4 ≤ w ∧ w < 136) → Store.get 0 (s.ucActivate c).curves (0x1000 + c * 256 + w) = s.ucS (48 + c) w) ∧
      Store.get 0 (s.ucActivate c).curves (0x1000 + c * 256 + 2) = Store.get 0 s.curves (0x1000 + c * 256 + 2) + 1 := by
  unfold State.ucActivate
  refine ⟨fun w hw => ?_, get_set_self ..⟩
  have hl : (s.ucWords c).length = 136 := by simp [State.ucWords]
  have hlt : w < (s.ucWords c).length := by omega
  dsimp only
  rw [get_set_other _ _ _ _ (by omega), get_set_other _ _ _ _ (by unfold ucStatAddr; omega)]
  refine (get_setRun (fun _ => (0 : Word)) (0x1000 + c * 256 + w) (s.ucWords c) s.curves (0x1000 + c * 256) 0).trans ?_
  rw [if_pos (by omega), Nat.add_sub_cancel_left]
  have hw' : w < 136 := by omega
  have hc : w = 0 ∨ 4 ≤ w := by omega
  simp [State.ucWords, List.getD, hw', hc]

theorem ucActivate_frame (s : State) (c : Nat) : (s.ucActivate c).pending = s.pending ∧ (s.ucActivate c).life = s.life ∧
    (s.ucActivate c).curvePend = s.curvePend := by
  unfold State.ucActivate
  exact ⟨rfl, rfl, rfl⟩

/-- The control word as UC_CTL.ACT is written. -/
theorem ucCtl_act (x : Word) : fld (setFld x 15 1 1) 15 1 = 1 := fld_setFld_self x 1 (by decide)

theorem ucCtlSet_curveErr (s : State) (c : Fin 16) (hold : Store (Option Word)) :
    curveErr (fun w => (ucCtlSet s c (setFld (s.ucS (48 + c.val) 0) 15 1 1) hold).ucS (48 + c.val) w) =
      curveErr (fun w => s.ucS (48 + c.val) w) := by
  refine curveErr_congr (fun w hw => ?_) ?_
  · rw [ucS_set, if_neg (by omega)]
  · rw [ucS_set, if_pos rfl]
    exact curveEnc_act _

theorem Charged.curves (h : Charged s m u) : u.curves = s.curves ∧ u.curvePend = s.curvePend := by
  obtain ⟨b, l, rfl⟩ := h
  exact ⟨modMaster_curves .., modMaster_curvePend ..⟩

/-- Settles O28: one case for each command. -/
theorem coefficientsAndCurves : Obligations.CoefficientsAndCurves := by
  refine ⟨fun m code scope s hd hc => ?_, ⟨fun m target sync s hd => ?_, fun s q hr h1 h2 h3 h4 h5 h6 => ?_, fun s fd hr hf ha => ?_⟩,
    fun m c s u ho he hsvc hc hu => ?_, fun c s st m hr hp ht => ?_⟩
  · obtain ⟨hx, hf, hq⟩ := odec_next hd scope hc
    refine ⟨_, hx, by rw [hq], by rw [hq], fun n hn h => ?_, fun n w hw h => ?_, by rw [hq]⟩
    · have hm : n ∈ odecFacets scope.toNat (s.master m).fctSel := by
        rw [mem_odecFacets]
        unfold isZ at h
        simp only [decide_eq_true_eq, decide_eq_false_iff_not] at h
        omega
      rw [hf 6 (by decide), if_pos ⟨rfl, hm⟩]
      refine ⟨?_, fld_setFld_other _ _ (by decide) (.inr (by decide))⟩
      rw [fld_setFld_self _ _ (by decide)]
      exact Nat.mod_eq_of_lt code.isLt
    · rw [hf w hw, if_neg]
      rintro ⟨h6, hm⟩
      rcases h with h | h
      · exact h h6
      · exact h ((mem_odecFacets ..).mp hm)
  · obtain ⟨w, hw⟩ := writeCycle_bankSel hd target sync
    refine ⟨fun h => ?_, fun h => ?_⟩
    · have hx := (congrArg (ok s) (hw.trans (congrArg (fun t : State => t.ack m true) (bankRequest_fails h)))).trans
        (ok_next s _ (ack_pending ..) (ack_life ..))
      refine ⟨_, hx, ?_⟩
      rw [ack_eq]
      exact ⟨rfl, rfl, rfl⟩
    · have hx := (congrArg (ok s) (hw.trans (congrArg (fun t : State => t.ack m true) (bankRequest_passes h)))).trans
        (ok_next s _ (ack_pending ..) (ack_life ..))
      refine ⟨_, hx, ?_⟩
      rw [ack_eq]
      exact ⟨rfl, rfl, rfl, rfl⟩
  · have he := fadeStart_due h1 h2 h3 h4 h5 h6
    by_cases hb : q.target = s.chain.bank
    · rw [if_pos hb] at he
      refine ⟨_, live_next hr (f := State.fadeStart) (by rw [he]; rfl) (by rw [he]; rfl), ?_⟩
      rw [he]
      exact ⟨rfl, rfl, fun h => absurd hb h, fun _ => ⟨h1, fld_or_bit _ 4 (by decide)⟩⟩
    · rw [if_neg hb] at he
      refine ⟨_, live_next hr (f := State.fadeStart) (by rw [he]) (by rw [he]), ?_⟩
      rw [he]
      exact ⟨rfl, rfl, fun _ => ⟨_, rfl⟩, fun h => absurd h hb⟩
  · have he : s.fadeEnd = ({ s with chain := { s.chain with
        bank := fd.target, fade := none, fadeBar := some s.tick } } : State).irq1 4 := by
      unfold State.fadeEnd
      rw [hf]
      exact if_pos ha
    refine ⟨_, live_next hr (f := State.fadeEnd) (by rw [he]; rfl) (by rw [he]; rfl), ?_⟩
    rw [he]
    exact ⟨rfl, rfl, fld_or_bit _ 4 (by decide), rfl⟩
  · have hw := winCmd_taken (setFld (s.ucS (48 + c.val) 0) 15 1 1) ho he hsvc (by decide) (winNoWrite_uc s c) hu
    obtain ⟨hcu, hcp⟩ := (chargeWin_charged hu).curves
    obtain ⟨-, -, hp, hl⟩ := (chargeWin_charged hu).ports
    obtain ⟨-, -, hfp, -, -, hcl, -⟩ := (chargeWin_charged hu).keeps
    have hWc : (winAt u m 0xC (c.val * 256)).curves = s.curves := (modMaster_curves ..).trans hcu
    have hWq : (winAt u m 0xC (c.val * 256)).curvePend = s.curvePend := (modMaster_curvePend ..).trans hcp
    have hWf : (winAt u m 0xC (c.val * 256)).fpActive = s.fpActive := (modMaster_fpActive ..).trans hfp
    have hWe : (winAt u m 0xC (c.val * 256)).pending = s.pending := (modMaster_pending ..).trans hp
    have hWl : (winAt u m 0xC (c.val * 256)).life = s.life := (modMaster_life ..).trans hl
    have hWo : ((winAt u m 0xC (c.val * 256)).master m).clasp.isOpen = false := by
      unfold winAt
      rw [master_modMaster]
      exact (congrArg Clasp.isOpen hcl).trans hc
    generalize winAt u m 0xC (c.val * 256) = w at *
    have hS (j : Nat) : w.ucS j 0 = s.ucS j 0 := by rw [State.ucS, State.ucS, hWc]
    obtain ⟨hold, hk⟩ := winTake_uc w m (s.master m).canSel c hWo (ucCtl_act (s.ucS (48 + c.val) 0))
    have hE := ucCtlSet_curveErr w c hold
    rw [hS] at hE
    have hE' : curveErr (fun j => w.ucS (48 + c.val) j) = curveErr (fun j => s.ucS (48 + c.val) j) := by
      unfold State.ucS
      rw [hWc]
    rw [hk] at hw
    obtain ⟨f1, f2, f3⟩ := ucAct_frame (ucCtlSet w c (setFld (s.ucS (48 + c.val) 0) 15 1 1) hold) m c.val
    refine ⟨_, (congrArg (ok s) hw).trans (ok_next s _ ((winDone_pending ..).trans (f2.trans hWe))
      ((winDone_life ..).trans (f3.trans hWl))), winDone_winAddr .., fun h => ?_, fun h => ?_,
      (winDone_fpActive ..).trans (f1.trans hWf)⟩
    · rw [winDone_curvePend]
      exact ⟨_, ucAct_passes (hE.trans (hE'.trans h))⟩
    · rw [winDone_curvePend, ucAct_fails (by rw [hE, hE']; exact h)]
      exact hWq
  · have he := userCurve_turn hp ht
    obtain ⟨h1, h2⟩ := ucActivate_curves ({ s with curvePend := s.curvePend.filter (fun x => x.1 != c.val) } : State) c.val
    obtain ⟨h3, h4, h5⟩ := ucActivate_frame ({ s with curvePend := s.curvePend.filter (fun x => x.1 != c.val) } : State) c.val
    refine ⟨_, live_next hr (f := fun t => t.userCurve' c.val) ?_ ?_, ?_⟩
    · rw [he]
      exact h3
    · rw [he]
      exact h4
    · rw [he]
      exact ⟨h1, h2, h5⟩

end Sys2Proof.Proofs
end

section
/-! PROPERTY. The timebase, synchronising resets and position ports (O29, O30, O33). -/

namespace Sys2Proof.Proofs

open Sys2Proof Sys2Proof.Machine Sys2Proof.Laws

-- one proof at a time: the text is compiled as a whole, and the proofs side by side would need too much memory
set_option Elab.async false

variable {s t u : State} {m : Master}

/-! ## Steering (R160 to R164) -/

theorem setTb_time (s : State) (st : TbState) (k : Nat) : (s.setTb st k).time = { s.time with
    src := k, inWin := 0, outWin := 0, state := st, ppsRej := (s.setTb st k).time.ppsRej } :=
  (congrArg State.time (setTb_eq s st k) :)

/-- The source, the last edge, the tick and the offset are those of the other state. -/
structure SameEdge (s u : State) : Prop where
  src : u.time.src = s.time.src
  ppsLast : u.time.ppsLast = s.time.ppsLast
  tick : u.time.tick = s.time.tick
  offset : u.time.offset = s.time.offset

theorem SameEdge.refl (s : State) : SameEdge s s := ⟨rfl, rfl, rfl, rfl⟩

theorem setTb_sameEdge (s : State) (st : TbState) : SameEdge s (s.setTb st s.time.src) := by
  have h := setTb_time s st s.time.src
  exact ⟨by rw [h], by rw [h], by rw [h], by rw [h]⟩

theorem SameEdge.ite {c : Prop} [Decidable c] (h1 : SameEdge s t) (h2 : SameEdge s u) : SameEdge s (if c then t else u) := by
  split
  · exact h1
  · exact h2

theorem SameEdge.trans (h1 : SameEdge s t) (h2 : SameEdge t u) : SameEdge s u :=
  ⟨h2.src.trans h1.src, h2.ppsLast.trans h1.ppsLast, h2.tick.trans h1.tick, h2.offset.trans h1.offset⟩

theorem steer_sameEdge (s : State) (now : Nat) (x : Int) (mark : Rat) :
    SameEdge { s with time := { s.time with offset := x } } (s.steer now x mark) := by
  unfold State.steer
  extract_lets _ s0 t f inWin outWin slew s1
  have h1 : SameEdge s0 s1 := ⟨rfl, rfl, rfl, rfl⟩
  have hif (c : Prop) [Decidable c] (st : TbState) : SameEdge s0 (if c then s1.setTb st s1.time.src else s1) := by
    split
    · exact h1.trans (setTb_sameEdge s1 st)
    · exact h1
  refine .ite (.refl s0) (.ite ⟨rfl, rfl, rfl, rfl⟩ ?_)
  split
  · exact hif _ _
  · exact hif _ _
  · exact hif _ _
  · exact h1

theorem steer_facts (s : State) (now : Nat) (x : Int) (mark : Rat) : (s.steer now x mark).time.ppsLast = s.time.ppsLast ∧
    (s.steer now x mark).time.src = s.time.src ∧ (s.steer now x mark).time.offset = x ∧
    (s.steer now x mark).time.tick = s.time.tick :=
  have h := steer_sameEdge s now x mark
  ⟨h.ppsLast, h.src, h.offset, h.tick⟩

/-- An edge of PPS that counts. -/
def ppsTaken (s : State) (ns : Nat) : State :=
  { s with time := { s.time with ppsLast := some (s.nowNs ns), ppsRej := 0 } }

/-- The offset of an edge from the nearest whole second. -/
def ppsOff (s : State) (ns : Nat) : Int := (s.nowNs ns : Int) - ((s.nowNs ns + 500000000) / 1000000000 * 1000000000 : Nat)

/-- The timebase follows PPS. -/
def ppsFollowed (s : State) : State := if s.time.src = 1 then s else s.setTb .acquiring 1

theorem ppsFollowed_time (s : State) : (ppsFollowed s).time.src = 1 ∧ (ppsFollowed s).time.ppsLast = s.time.ppsLast ∧
    (ppsFollowed s).time.tick = s.time.tick := by
  unfold ppsFollowed
  split
  · next h => exact ⟨h, rfl, rfl⟩
  · rw [setTb_time]
    exact ⟨rfl, rfl, rfl⟩

section
variable {fall : Bool} {width ns e : Nat} (hen : fld s.time.ctl 0 1 = 1) (hf : (fld s.time.ctl 1 1 == 1) = fall)
  (hw : 1000 ≤ width) (hl : ∀ l, s.time.ppsLast = some l → l + 900000000 ≤ s.nowNs ns) (he : s.errNs = some e)
  (hlt : e < 250000000)
include hen hf hw hl he hlt

theorem ppsEdge_counts : s.ppsEdge fall width ns =
    if s.time.state = .lockedPps ∧ 10000 < (ppsOff s ns).natAbs then
      { s with time := { s.time with ppsRej := min 3 (s.time.ppsRej + 1) } }
    else (ppsFollowed (ppsTaken s ns)).steer (s.nowNs ns) (ppsOff s ns) (ppsFollowed (ppsTaken s ns)).time.slewed := by
  unfold State.ppsEdge
  extract_lets t now early x s1 s2
  have hearly : early = false := by
    unfold early
    split
    · rfl
    · next l h => exact decide_eq_false (Nat.not_lt.mpr (hl l h))
  have hno : ¬ (fld t.ctl 0 1 = 0 ∨ (fld t.ctl 1 1 == 1) ≠ fall ∨ width < 1000 ∨ early = true) := by
    rw [hearly]
    rintro (h | h | h | h)
    · rw [show fld t.ctl 0 1 = 1 from hen] at h
      cases h
    · exact h hf
    · exact Nat.not_lt.mpr hw h
    · cases h
  have hx : x = ppsOff s ns := rfl
  have hlt' : ¬ 250000000 ≤ e := Nat.not_le.mpr hlt
  rw [if_neg hno, he, ← hx]
  clear_value x
  exact if_neg hlt'

theorem ppsEdge_rejects (h1 : s.time.state = .lockedPps) (h2 : 10000 < (ppsOff s ns).natAbs) :
    s.ppsEdge fall width ns = { s with time := { s.time with ppsRej := min 3 (s.time.ppsRej + 1) } } :=
  (ppsEdge_counts hen hf hw hl he hlt).trans (if_pos ⟨h1, h2⟩)

theorem ppsEdge_steers (hok : s.time.state ≠ .lockedPps ∨ (ppsOff s ns).natAbs ≤ 10000) :
    (s.ppsEdge fall width ns).time.ppsLast = some (s.nowNs ns) ∧ (s.ppsEdge fall width ns).time.src = 1 ∧
      (s.ppsEdge fall width ns).time.offset = ppsOff s ns ∧ (s.ppsEdge fall width ns).time.tick = s.time.tick := by
  have hno : ¬ (s.time.state = .lockedPps ∧ 10000 < (ppsOff s ns).natAbs) := fun ⟨h1, h2⟩ =>
    hok.elim (fun h => h h1) fun h => Nat.not_lt.mpr h h2
  obtain ⟨h1, h2, h3⟩ := ppsFollowed_time (ppsTaken s ns)
  obtain ⟨k1, k2, k3, k4⟩ := steer_facts (ppsFollowed (ppsTaken s ns)) (s.nowNs ns) (ppsOff s ns)
    (ppsFollowed (ppsTaken s ns)).time.slewed
  have heq := (ppsEdge_counts hen hf hw hl he hlt).trans (if_neg hno)
  rw [heq]
  exact ⟨k1.trans h2, k2.trans h1, k3, k4.trans h3⟩

end

/-! ## HOLDOVER (R164, R168, R174) -/

theorem enterHoldover_time (s : State) : s.enterHoldover.time.state = .holdover ∧ s.enterHoldover.time.src = 0 ∧
    s.enterHoldover.time.holdFrom = s.tick ∧ (s.time.src = 1 → s.enterHoldover.time.holdE0 = s.time.window) ∧
    s.enterHoldover.time.rx = s.time.rx ∧ s.enterHoldover.time.tx = s.time.tx := by
  unfold State.enterHoldover
  extract_lets t e0
  rw [setTb_time]
  exact ⟨rfl, rfl, rfl, fun h => by simp [e0, t, h], rfl, rfl⟩

theorem ppsLost_holdover {l : Nat} (h1 : s.time.src = 1) (hl : s.time.ppsLast = some l) (hlt : l + 3000000000 < s.nowNs 250000)
    (hp : ∀ q ∈ s.refPorts, (s.refRx q).pairs = 0) : s.ppsLost = s.enterHoldover := by
  have hf : s.refPorts.find? (fun p => (s.refRx p).pairs != 0) = none :=
    List.find?_eq_none.mpr fun q hq => by simp [hp q hq]
  unfold State.ppsLost
  extract_lets due
  have hd : due = true := by
    unfold due
    rw [hl]
    exact decide_eq_true hlt
  rw [if_neg (by simp [h1, hd]), hf]

theorem leaveRef_stays (h : s.time.src ≠ 2 + s.time.refPort) : s.leaveRef = s := if_pos (.inl h)

/-- The timebase, the interrupt bits and messages alone have changed, and no port's exchange of reference messages. -/
structure LeftRef (s u : State) : Prop where
  eq : u = { s with time := u.time, ctl := u.ctl, msg := u.msg }
  rx : u.time.rx = s.time.rx
  tx : u.time.tx = s.time.tx

theorem setTb_only (s : State) (st : TbState) (k : Nat) : s.setTb st k = { s with
    time := (s.setTb st k).time, ctl := (s.setTb st k).ctl, msg := (s.setTb st k).msg } := by
  rw [setTb_eq]

theorem leaveRef_left (s : State) : LeftRef s s.leaveRef := by
  unfold State.leaveRef
  split
  · exact ⟨rfl, rfl, rfl⟩
  · split
    · exact ⟨rfl, rfl, rfl⟩
    · obtain ⟨-, -, -, -, h1, h2⟩ := enterHoldover_time s
      refine ⟨?_, h1, h2⟩
      unfold State.enterHoldover
      extract_lets t e0
      exact setTb_only { s with time := { t with holdFrom := s.tick, holdE0 := e0 } } .holdover 0

theorem refPorts_nil (h : ∀ q < 3, s.refHeard q = false) : s.refPorts = [] := by
  have hh : (List.range 3).filter s.refHeard = [] :=
    List.filter_eq_nil_iff.mpr fun q hq => by simp [h q (List.mem_range.mp hq)]
  unfold State.refPorts
  rw [hh]
  rfl

/-- A port that is left with no other port heard leads to HOLDOVER. -/
theorem leaveRef_holdover (h1 : s.time.src = 2 + s.time.refPort) (hu : s.unset = false) (hp : s.time.refPort < 3)
    (h : ∀ q < 3, s.refHeard q = false) : s.leaveRef.time.state = .holdover ∧ s.leaveRef.time.src = 0 := by
  have he : s.leaveRef = s.enterHoldover := by
    unfold State.leaveRef
    rw [if_neg (by simp [h1, hu, h _ hp]), refPorts_nil h]
  obtain ⟨h2, h3, -⟩ := enterHoldover_time s
  exact ⟨by rw [he]; exact h2, by rw [he]; exact h3⟩

/-! ## A period that is missed (R171, R174) -/

/-- Port `p` has missed one more period. -/
def missedOne (s : State) (p : Nat) : State :=
  s.modRefRx p fun r => { r with
    missed := (s.refRx p).missed + 1, lost := r.lost || decide ((s.refRx p).missed + 1 = 3)
    pairs := if (s.refRx p).missed + 1 = 3 then 0 else r.pairs }

theorem refRx_modRefRx (s : State) (p : Nat) (f : RefRx → RefRx) : (s.modRefRx p f).refRx p = f (s.refRx p) := get_mod_self ..

theorem refRx_modRefRx_other (s : State) {p q : Nat} (f : RefRx → RefRx) (h : q ≠ p) : (s.modRefRx p f).refRx q = s.refRx q :=
  get_mod_other _ _ _ _ h

theorem refTx_modRefTx (s : State) (p : Nat) (f : RefTx → RefTx) : (s.modRefTx p f).refTx p = f (s.refTx p) := get_mod_self ..

theorem refTx_modRefTx_other (s : State) {p q : Nat} (f : RefTx → RefTx) (h : q ≠ p) : (s.modRefTx p f).refTx q = s.refTx q :=
  get_mod_other _ _ _ _ h

theorem refMissed_due {p q l : Nat} (hl : (s.refRx p).last = some (q, l)) (hs : s.refSel p = true) (hm : (s.refRx p).missed < 3)
    (hlt : l + (s.refRx p).period * 1500000 + (s.refRx p).missed * (s.refRx p).period * 1000000 < s.nowNs 250000) :
    s.refMissed p = (missedOne s p).leaveRef := by
  unfold State.refMissed
  extract_lets r
  have hr : r.last = some (q, l) := hl
  rw [hr]
  dsimp only
  rw [if_neg]
  · rfl
  · rw [hs]
    simp only [Bool.not_true, Bool.false_eq_true, false_or, not_or]
    exact ⟨Nat.not_le.mpr hm, Nat.not_le.mpr hlt⟩

theorem missedOne_unheard {p : Nat} (hm : (s.refRx p).missed = 2) (h : ∀ q < 3, q ≠ p → s.refHeard q = false) :
    ∀ q < 3, (missedOne s p).refHeard q = false := by
  intro q hq
  by_cases hqp : q = p
  · subst hqp
    have h3 : ((missedOne s q).refRx q).missed = 3 := by
      unfold missedOne
      rw [refRx_modRefRx, hm]
    unfold State.refHeard
    rw [h3]
    simp
  · have hr : (missedOne s p).refRx q = s.refRx q := refRx_modRefRx_other s _ hqp
    refine Eq.trans ?_ (h q hq hqp)
    unfold State.refHeard
    rw [hr]
    rfl

theorem leaveRef_refRx (s : State) (p : Nat) : s.leaveRef.refRx p = s.refRx p := by
  rw [State.refRx, State.refRx, (leaveRef_left s).rx]

theorem leaveRef_refTx (s : State) (p : Nat) : s.leaveRef.refTx p = s.refTx p := by
  rw [State.refTx, State.refTx, (leaveRef_left s).tx]

/-! ## Sending (R170 to R173) -/

/-- The mailbox that takes the frame of a period. -/
def refBox (s : State) (p : Nat) : Nat := if (s.canPort p).withdrawRef.onBus.map Prod.fst = some 0 then 1 else 0

theorem refSend_sends {p : Nat} (h1 : (s.refTx p).sending = true) (h2 : s.mayRef p = true)
    (h3 : s.tick % (4 * s.time.refPeriod.toNat) = 0) (h4 : (s.refTx p).sentAt ≠ some s.tick) :
    s.refSend p = (s.setCanPort p ((s.canPort p).withdrawRef.setMbox (refBox s p) {
      frame := deviceFrame (mkIdent 0 0 s.ctl.station 0) (s.refBody p), full := true, released := true
      refSeq := (s.refTx p).seq })).modRefTx p fun t => { t with seq := (t.seq + 1) % 65536, sentAt := some s.tick } :=
  if_neg (by simp [h1, h2, h3, h4])

theorem refBox_lt (s : State) (p : Nat) : refBox s p < 2 := by
  unfold refBox
  split <;> decide

theorem refSenderStart_starts {p : Nat} (h1 : (s.refTx p).sending = false) (h2 : s.mayRef p = true)
    (h3 : s.tick % (4 * s.time.refPeriod.toNat) = 0)
    (h4 : (fld s.time.refCtl 0 2 = 1 ∧ (s.refRx p).lost = true ∧ (s.refTx p).listen = false) ∨
      (fld s.time.refCtl 0 2 = 2 ∧ (s.refTx p).quietFrom + s.listenTicks ≤ s.tick)) :
    s.refSenderStart p = (s.modRefTx p fun t => { t with sending := true, listen := false }).leaveRef := by
  unfold State.refSenderStart
  extract_lets t quiet role ok
  have hok : ok = true := by
    unfold ok quiet
    rcases h4 with ⟨hr, hl, ht⟩ | ⟨hr, hq⟩
    · have ht' : t.listen = false := ht
      have hr' : role = 1 := hr
      rw [hr', hl, ht']
      rfl
    · have hr' : role = 2 := hr
      have hq' : t.quietFrom + s.listenTicks ≤ s.tick := hq
      rw [hr', decide_eq_true hq']
      rfl
  have h1' : t.sending = false := h1
  rw [if_neg (by simp [h1', h2, h3, hok])]

theorem starting_unheard {p : Nat} {f : RefTx → RefTx} (hf : (f (s.refTx p)).sending = true)
    (h : ∀ q < 3, q ≠ p → s.refHeard q = false) : ∀ q < 3, (s.modRefTx p f).refHeard q = false := by
  intro q hq
  by_cases hqp : q = p
  · subst hqp
    unfold State.refHeard
    rw [refTx_modRefTx, hf]
    simp
  · refine Eq.trans ?_ (h q hq hqp)
    unfold State.refHeard
    rw [refTx_modRefTx_other s f hqp]
    rfl

theorem mayRef_set {p : Nat} (h : s.mayRef p = true) : s.unset = false := by
  unfold State.mayRef at h
  simp only [Bool.and_eq_true, Bool.not_eq_true'] at h
  exact h.1.1.2

/-! ## What a received frame changes (R301) -/

/-- The ports, marker sources, interrupts, the log and the free choices alone have changed. -/
def Received (s u : State) : Prop :=
  u = { s with can := u.can, ports := u.ports, free := u.free, log := u.log, logSeq := u.logSeq
               ctl := { s.ctl with irq0 := u.ctl.irq0, irq1 := u.ctl.irq1 } }

theorem Received.refl (s : State) : Received s s := rfl

theorem Received.eq (h : Received s u) :
    u = { s with can := u.can, ports := u.ports, free := u.free, log := u.log, logSeq := u.logSeq
                 ctl := { s.ctl with irq0 := u.ctl.irq0, irq1 := u.ctl.irq1 } } := h

theorem Received.trans (h1 : Received s t) (h2 : Received t u) : Received s u :=
  h2.eq.trans (congrArg (fun v : State => { v with
    can := u.can, ports := u.ports, free := u.free, log := u.log, logSeq := u.logSeq
    ctl := { v.ctl with irq0 := u.ctl.irq0, irq1 := u.ctl.irq1 } }) h1.eq)

theorem Received.ite {c : Prop} [Decidable c] (h1 : Received s t) (h2 : Received s u) : Received s (if c then t else u) := by
  split
  · exact h1
  · exact h2

theorem logE_received (s : State) (c k o : Nat) (d : BitVec 32) : Received s (s.logE c k o d) := by
  unfold Received
  rw [logE_eq]

section
variable (s : State) (p : Nat)

theorem setCanPort_received (c : CanPort) : Received s (s.setCanPort p c) := rfl

theorem modCanPort_received (f : CanPort → CanPort) : Received s (s.modCanPort p f) := rfl

theorem hostDone_received (i r : Nat) : Received s (s.hostDone p i r) := rfl

theorem canEvent_received (f : Bool) (d : Nat) : Received s (s.canEvent p f d) :=
  Received.trans (t := s.irq0 6) rfl (logE_received (s.irq0 6) ..)

theorem setCanState_received (st : CanState) : Received s (s.setCanState p st) := by
  unfold State.setCanState
  extract_lets c v
  have hv : Received s v := rfl
  exact .ite (.refl s) (.ite (hv.trans (canEvent_received ..)) hv)

theorem attemptFailed_received (i : Nat) : Received s (s.attemptFailed p i) :=
  .ite (.refl s) (.ite (hostDone_received ..) (modCanPort_received ..))

theorem leaveBus_received : Received s (s.leaveBus p) := by
  unfold State.leaveBus
  extract_lets c
  split
  · rfl
  · exact (setCanPort_received ..).trans (attemptFailed_received ..)

theorem recSuccess_received : Received s (s.recSuccess p) := by
  unfold State.recSuccess
  extract_lets c c1 c2
  refine .ite (.refl s) (.ite ((setCanPort_received ..).trans (setCanState_received ..)) ?_)
  exact Received.trans (t := { s with free := s.free + 1 }) rfl ((setCanPort_received ..).trans (setCanState_received ..))

theorem enqueue_received (q : Nat) (x : RxFrame) : Received s (s.enqueue p q x) := by
  unfold State.enqueue
  extract_lets c rx put s1
  have h1 : Received s s1 := modCanPort_received ..
  exact .ite (.ite (h1.trans rfl) h1) (modCanPort_received ..)

theorem filterFrame_received (f : Frame) (ns : Nat) : Received s (s.filterFrame p f ns) := by
  unfold State.filterFrame
  extract_lets c
  split
  · exact modCanPort_received ..
  · extract_lets dest
    exact .ite (enqueue_received ..) (.refl s)

theorem copyMark_received (f : Frame) : Received s (s.copyMark f) := by
  unfold State.copyMark
  extract_lets d
  refine .ite (.refl s) (foldl_rel Received.refl Received.trans (fun t q => ?_) _ s)
  split <;> rfl

theorem internalCopy_received (f : Frame) : Received s (s.internalCopy p f) :=
  .ite (.refl s) (.ite (modCanPort_received ..) (.ite (copyMark_received ..) (.refl s)))

theorem frameReceived_received (f : Frame) (ns : Nat) : Received s (s.frameReceived p f ns) := by
  unfold State.frameReceived
  extract_lets s1
  have h1 : Received s s1 := (leaveBus_received s p).trans (recSuccess_received ..)
  exact .ite (.refl s) (.ite h1 (h1.trans ((filterFrame_received ..).trans (internalCopy_received ..))))

end

/-! ## The first reference frame of a port (R167, R172) -/

/-- The exchange of reference messages and the tick are those of the other state. -/
structure SameRef (s u : State) : Prop where
  rx : u.time.rx = s.time.rx
  tick : u.time.tick = s.time.tick

theorem SameRef.refl (s : State) : SameRef s s := ⟨rfl, rfl⟩

theorem refSync_sameRef (s : State) (k : Nat) : SameRef s (s.refSync k) := by
  have ha (v : State) (y src : Nat) : SameRef v (v.armSync y src) := by
    unfold State.armSync State.requestSync
    extract_lets s1
    split <;> exact ⟨rfl, rfl⟩
  unfold State.refSync
  split
  · exact .refl s
  · split
    · split
      · exact .refl s
      · next y _ _ =>
        have h := ha { s with time := { s.time with refTgt := some y } } y 3
        exact ⟨h.rx, h.tick⟩
    · exact .refl s

theorem stopRef_idle {p : Nat} (h : (s.refTx p).sending = false) : s.stopRef p = s := if_pos (by simp [h])

/-- The word of a reference frame at byte `i`, of `n` bytes. -/
def refField (fr : Frame) (i n : Nat) : Nat := leNat ((fr.data.drop i).take n)

theorem refCopy_first {p : Nat} {fr : Frame} {ns valid : Nat} (h1 : s.onBusOk p = true) (h2 : (s.canPort p).mode ≠ 4)
    (h3 : idType fr = 0) (h4 : s.refSel p = true) (h5 : fr.rtr = false) (h6 : fr.ide = true) (h7 : fr.fdf = true)
    (h8 : 24 ≤ fr.data.length) (h9 : (s.refTx p).sending = false) (h10 : (s.refRx p).last = none) :
    ∃ r, (s.refCopy p fr ns valid).refRx p = r ∧ r.last = some (leNat (fr.data.take 2), ns) ∧ r.missed = 0 ∧
      r.mstation = idStation fr ∧ (s.refCopy p fr ns valid).time.tick = s.time.tick ∧
      (refRank (leNat ((fr.data.drop 12).take 1) % 8) (idStation fr) < refRank (fld s.time.refCtl 2 3) s.ctl.station →
        r.lost = false) := by
  unfold State.refCopy
  extract_lets d prio station rank higher tx s1 r0 other r seq tPrev paired new s2 s3
  have hs1 : SameRef s s1 := by
    unfold s1
    rw [stopRef_idle h9]
    split <;> exact ⟨rfl, rfl⟩
  have h0 : r0.last = none := (congrArg RefRx.last (show s1.refRx p = s.refRx p by rw [State.refRx, State.refRx, hs1.rx])).trans h10
  have hr : r.last = none := by
    unfold r
    split
    · rfl
    · exact h0
  have hs3 : SameRef s2 s3 := by
    unfold s3
    split
    · exact refSync_sameRef ..
    · exact .refl s2
  have hs2 : s2.refRx p = new := refRx_modRefRx s1 p _
  have hs2t : s2.time.tick = s1.time.tick := rfl
  have htx : tx.sending = false := h9
  rw [if_neg (by simp [h1, h2, h3, h4, h5, h6, h7, h8]), if_neg (by simp [htx]), if_neg (by simp [h0]), hr]
  refine ⟨new, ?_, rfl, rfl, rfl, ?_, fun hh => ?_⟩
  · rw [State.refRx, hs3.rx]
    exact hs2
  · exact hs3.tick.trans (hs2t.trans hs1.tick)
  · have hhi : higher = true := decide_eq_true hh
    show (r.lost && !higher) = false
    rw [hhi]
    exact Bool.and_false _

/-- An event at a land of a running device outside EXTEST. -/
theorem landed_live {f : State → State} (hx : s.ctl.extest = false) (hr : s.ready = true) :
    s.landed (fun t => t.live f) = f s := (landed_open s hx).trans (live_ready s hr)

/-- Settles O30: steering, the exchange of reference messages, and the sender's own. -/
theorem timebaseIsSteered : Obligations.TimebaseIsSteered := by
  refine ⟨⟨fun fall width ns e s hx hr hen hf hw hl he hlt => ⟨fun hok => ?_, fun h1 h2 => ?_⟩, fun s l hr h1 hl hlt hp => ?_⟩,
    fun p fr ns valid s u hx hr hu h1 h2 h3 h4 h5 h6 h7 h8 h9 h10 => ?_, fun p s q l hr hl hs hm hlt => ?_,
    fun p s hr h1 h2 h3 h4 => ?_, fun p s hr h1 h2 h3 h4 => ?_⟩
  · obtain ⟨k1, k2, k3, k4⟩ := ppsEdge_steers hen hf hw hl he hlt hok
    exact ⟨_, (congrArg (ok s) (landed_live (f := fun t => t.ppsEdge fall width ns) hx hr)).trans (ok_eq ..), k1, k2, k3, k4⟩
  · have h := ppsEdge_rejects hen hf hw hl he hlt h1 h2
    exact (congrArg (ok s) ((landed_live (f := fun t => t.ppsEdge fall width ns) hx hr).trans h)).trans (ok_next s _ rfl rfl)
  · have h := ppsLost_holdover h1 hl hlt hp
    obtain ⟨k1, k2, k3, k4, -⟩ := enterHoldover_time s
    rw [← h] at k1 k2 k3 k4
    exact ⟨_, (congrArg (ok s) (live_ready s hr)).trans (ok_eq ..), k1, k2, k3, k4 h1⟩
  · have hR := frameReceived_received s p.val fr ns
    rw [← hu] at hR
    obtain ⟨r, k1, k2, k3, k4, k5, k6⟩ := refCopy_first (ns := ns) (valid := valid) h1 h2 h3 h4 h5 h6 h7 h8 h9 h10
    have hc : s.refFrame p.val fr ns valid = u.refCopy p.val fr ns valid := by rw [hu]; rfl
    rw [← hc] at k1 k5
    refine ⟨_, (congrArg (ok s) (landed_live (f := fun t => t.refFrame p.val fr ns valid) hx hr)).trans (ok_eq ..),
      ?_, ?_, ?_, ?_, ?_⟩
    · exact (congrArg RefRx.last k1).trans k2
    · exact (congrArg RefRx.missed k1).trans k3
    · exact (congrArg RefRx.mstation k1).trans k4
    · exact k5.trans (congrArg (fun v : State => v.time.tick) hR.eq :)
    · exact fun h => (congrArg RefRx.lost k1).trans (k6 h)
  · have he := refMissed_due hl hs hm hlt
    refine ⟨_, (congrArg (ok s) (live_ready s hr)).trans (ok_eq ..), ?_, fun h2 hsrc hp hu hq => ?_⟩
    · refine (congrArg (fun v : State => (v.refRx p.val).missed) he).trans ?_
      rw [leaveRef_refRx, missedOne, refRx_modRefRx]
    · obtain ⟨k1, k2⟩ := leaveRef_holdover (s := missedOne s p.val) (hsrc.trans (by rw [← hp]; rfl)) hu
        (show s.time.refPort < 3 by rw [hp]; exact p.isLt) (missedOne_unheard h2 hq)
      rw [← he] at k1 k2
      exact ⟨k1, k2⟩
  · have he := refSend_sends h1 h2 h3 h4
    have htx := refTx_modRefTx (s.setCanPort p.val ((s.canPort p.val).withdrawRef.setMbox (refBox s p.val) {
      frame := deviceFrame (mkIdent 0 0 s.ctl.station 0) (s.refBody p.val), full := true, released := true
      refSeq := (s.refTx p.val).seq })) p.val fun t => { t with seq := (t.seq + 1) % 65536, sentAt := some s.tick }
    have hcan := canPort_setCanPort s p.val ((s.canPort p.val).withdrawRef.setMbox (refBox s p.val) {
      frame := deviceFrame (mkIdent 0 0 s.ctl.station 0) (s.refBody p.val), full := true, released := true
      refSeq := (s.refTx p.val).seq })
    rw [← he] at htx
    have hc2 := (congrArg (fun v : State => v.canPort p.val) he).trans hcan
    refine ⟨_, live_next hr (f := fun t => t.refSend p.val) (by rw [he]; rfl) (by rw [he]; rfl), ?_, ?_, ?_, ?_⟩
    · exact congrArg RefTx.seq htx
    · exact congrArg RefTx.sentAt htx
    · refine ⟨refBox s p.val, refBox_lt s p.val, ?_⟩
      refine (congrArg (fun c : CanPort => (c.mbox (refBox s p.val)).full) hc2).trans ?_
      rw [mbox_setMbox]
    · rw [he]
      rfl
  · have he := refSenderStart_starts h1 h2 h3 h4
    have hL := leaveRef_left (s.modRefTx p.val fun t => { t with sending := true, listen := false })
    have htx : ((s.modRefTx p.val fun t => { t with sending := true, listen := false }).leaveRef.refTx p.val).sending = true := by
      rw [leaveRef_refTx, refTx_modRefTx]
    rw [← he] at hL htx
    refine ⟨_, live_next hr (f := fun t => t.refSenderStart p.val) (by rw [hL.eq]; rfl) (by rw [hL.eq]; rfl), htx, ?_, fun hs => ?_,
      fun hs hp hq => ?_⟩
    · exact hL.eq
    · rw [he, leaveRef_stays (s := s.modRefTx p.val fun t => { t with sending := true, listen := false })
        (show s.time.src ≠ 2 + s.time.refPort by omega)]
      rfl
    · obtain ⟨k1, k2⟩ := leaveRef_holdover (s := s.modRefTx p.val fun t => { t with sending := true, listen := false })
        (hs.trans (by rw [← hp]; rfl)) (mayRef_set h2) (show s.time.refPort < 3 by rw [hp]; omega)
        (starting_unheard rfl hq)
      rw [← he] at k1 k2
      exact ⟨k1, k2⟩

/-! ## Requests by SYNC_CTL (R179, R180) -/

/-- The state in which the fields of SYNC_CTL are written. -/
def syncCtlSet (s : State) (w : Word) : State := { s with time := { s.time with syncCtl := w } }

/-- What an acting bit of SYNC_CTL does. -/
def syncAct (b : Nat) (t : State) : State := if b = 0 then t.syncNow else if b = 1 then t.syncArm else t.syncCancel

theorem writeCycle_sync (h : s.directs m 0x1C) {b : Nat} (hb : b < 3) :
    ∃ w, s.writeCycle m 0x1C (withBit 0x1C s.time.syncCtl b) = (syncAct b (syncCtlSet s w)).ack m true := by
  have hv (k : Nat) (hk : k < 3) : fld (withBit 0x1C s.time.syncCtl b) k 1 = if k = b then 1 else 0 := by
    rw [withBit_fld _ _ (by omega) (by omega)]
    refine if_congr Iff.rfl rfl (if_pos ?_)
    have : k = 0 ∨ k = 1 ∨ k = 2 := by omega
    rcases this with rfl | rfl | rfl <;> decide
  have hn : fld (nowMask 0x1C) b 1 = 1 := by
    have : b = 0 ∨ b = 1 ∨ b = 2 := by omega
    rcases this with rfl | rfl | rfl <;> decide
  have hst (w v : Word) : s.regStore m 0x1C w v = syncCtlSet s w := rfl
  refine ⟨rwMerge 0x1C (s.regWord m 0x1C) (withBit 0x1C s.time.syncCtl b), ?_⟩
  rw [writeCycle_store_now h (by rfl) (withBit_acts _ (by omega) hn)]
  refine congrArg (fun t : State => t.ack m true) ?_
  unfold stored
  rw [hst]
  have hs (t : State) (v : Word) : t.regNow m 0x1C v = (fun t : State => if fld v 0 1 = 1 then t.syncNow else t)
      ((fun t : State => if fld v 1 1 = 1 then t.syncArm else t) (if fld v 2 1 = 1 then t.syncCancel else t)) := rfl
  rw [hs]
  dsimp only
  rw [hv 0 (by decide), hv 1 (by decide), hv 2 (by decide)]
  have : b = 0 ∨ b = 1 ∨ b = 2 := by omega
  rcases this with rfl | rfl | rfl <;> simp [syncAct]

theorem requestSync_unset (y src : Nat) (h : s.unset = true) : s.requestSync y src = s := if_pos h

theorem requestSync_set (y src : Nat) (h : s.unset = false) :
    s.requestSync y src = { s with time := { s.time with syncReq := s.time.syncReq ++ [(y, src)] } } := if_neg (by simp [h])

theorem armSync_set (y src : Nat) (h : s.unset = false) : (s.armSync y src).time.armed = some y ∧
    (y, src) ∈ (s.armSync y src).time.syncReq ∧ s.armSync y src = { s with time := (s.armSync y src).time } := by
  have hr := requestSync_set (s := { s.clearArmed with time := { s.clearArmed.time with armed := some y } }) y src h
  have he : s.armSync y src = _ := hr
  rw [he]
  exact ⟨rfl, List.mem_append_right _ (List.mem_singleton.mpr rfl), rfl⟩

theorem syncArm_unset (h : s.unset = true) : s.syncArm = s := if_pos h

theorem syncArm_set {y : Nat} (h : s.unset = false) (hy : nearest 32 s.time.syncAt s.tick = some y) :
    s.syncArm = if y < s.tick + 8 then { s with time := { s.time with syncLate := true } } else s.armSync y 1 := by
  unfold State.syncArm
  rw [if_neg (by simp [h]), hy]

theorem syncArm_none (h : s.unset = false) (hy : nearest 32 s.time.syncAt s.tick = none) :
    s.syncArm = { s with time := { s.time with syncLate := true } } := by
  unfold State.syncArm
  rw [if_neg (by simp [h]), hy]

/-- A request changes the timebase alone. -/
theorem syncArm_only (s : State) : s.syncArm = { s with time := s.syncArm.time } := by
  cases hu : s.unset with
  | true => rw [syncArm_unset hu]
  | false =>
    cases hy : nearest 32 s.time.syncAt s.tick with
    | none => rw [syncArm_none hu hy]
    | some y =>
      rw [syncArm_set hu hy]
      split
      · rfl
      · exact (armSync_set y 1 hu).2.2

theorem syncNow_only (s : State) : s.syncNow = { s with time := s.syncNow.time } := by
  unfold State.syncNow State.requestSync
  split <;> rfl

theorem syncAct_only (b : Nat) (s : State) : syncAct b s = { s with time := (syncAct b s).time } := by
  unfold syncAct
  split
  · exact syncNow_only s
  · split
    · exact syncArm_only s
    · rfl

/-- A request's cycle: the timebase alone changes. -/
theorem sync_next (h : s.directs m 0x1C) {b : Nat} (hb : b < 3) : ∃ w t,
    ok s (s.writeCycle m 0x1C (withBit 0x1C s.time.syncCtl b)) = .next t ∧ t.time = (syncAct b (syncCtlSet s w)).time ∧
      t = { s with time := t.time, ctl := { s.ctl with acked := t.ctl.acked } } := by
  obtain ⟨w, hw⟩ := writeCycle_sync h hb
  have he := syncAct_only b (syncCtlSet s w)
  refine ⟨w, (syncAct b (syncCtlSet s w)).ack m true, ?_, ack_time .., ?_⟩
  · rw [hw]
    exact ok_next s _ (by rw [ack_pending, he]; rfl) (by rw [ack_life, he]; rfl)
  · refine (ack_eq ..).trans ?_
    rw [ack_time]
    exact congrArg (fun v : State => { v with ctl := { v.ctl with acked := ((syncAct b (syncCtlSet s w)).ack m true).ctl.acked } }) he

/-! ## The effect of a synchronising reset leaves the timebase (R185) -/

/-- The timebase stands. -/
def TimeKept (s u : State) : Prop := u.time = s.time

theorem TimeKept.refl (s : State) : TimeKept s s := rfl

theorem TimeKept.trans (h1 : TimeKept s t) (h2 : TimeKept t u) : TimeKept s u := Eq.trans h2 h1

theorem TimeKept.ite {c : Prop} [Decidable c] (h1 : TimeKept s t) (h2 : TimeKept s u) : TimeKept s (if c then t else u) := by
  split
  · exact h1
  · exact h2

theorem SparesOnly.kept (h : SparesOnly s u) : TimeKept s u := by
  unfold TimeKept
  rw [h.eq]

theorem EndsOnly.timeKept (h : EndsOnly s u) : TimeKept s u := by
  unfold TimeKept
  rw [h.eq]

theorem setActive_time (s : State) (n : Nat) (ws : List (Nat × Word)) : TimeKept s (s.setActive n ws) := by
  unfold State.setActive
  extract_lets old s1
  have h1 : TimeKept s s1 := foldl_rel TimeKept.refl TimeKept.trans (fun _ ⟨_, _⟩ => rfl) ws s
  exact h1

theorem calLetGo_time (s : State) (r : CalRun) : TimeKept s (s.calLetGo r) := by
  unfold State.calLetGo
  split
  · extract_lets s1
    have h1 : TimeKept s s1 := .ite rfl rfl
    exact h1.trans (returnSpare_spares ..).kept
  · rfl

theorem calConfig_time (s : State) (n : Nat) (d : Bool) : TimeKept s (s.calConfig n d) := by
  unfold State.calConfig
  split
  · next r _ =>
    refine .ite rfl (.ite ((calLetGo_time s r).trans (calEndTarget_ends ..).timeKept) (.ite (calEndTarget_ends ..).timeKept ?_))
    exact .ite rfl rfl
  · rfl

theorem rangeSync_time (s : State) (n : Nat) : TimeKept s (s.rangeSync n) := by
  unfold State.rangeSync
  split
  · next r _ =>
    extract_lets old new s1
    have h1 : TimeKept s s1 := .ite (setActive_time ..) rfl
    have h2 : TimeKept s1 (s1.returnSpare (pathKind n) r.spare) := (returnSpare_spares ..).kept
    refine ((h1.trans h2).trans ?_).trans (calConfig_time ..)
    rfl
  · rfl

theorem syncFacet_time (s : State) (n : Nat) : TimeKept s (s.syncFacet n) := (rangeSync_time s n).trans rfl

theorem chainSync_time (s : State) : TimeKept s s.chainSync := by
  unfold State.chainSync
  extract_lets _ s1 c q bank queue ok cause s2 _
  have h1 : TimeKept s s1 := by
    unfold s1
    split <;> rfl
  have h2 : TimeKept s1 s2 := .ite rfl (.ite rfl (logE_time ..))
  exact h1.trans h2

theorem calSync_time (s : State) (y : Nat) : TimeKept s (s.calSync y) := by
  unfold State.calSync
  split
  · rfl
  · exact .ite rfl (.ite rfl rfl)

theorem forFacets_time {f : Nat → State → State} (h : ∀ n t, TimeKept t (f n t)) (ns : List Nat) (s : State) :
    TimeKept s (s.forFacets ns f) := foldl_rel TimeKept.refl TimeKept.trans (fun t n => h n t) ns s

theorem checksSync_time (s : State) (y : Nat) : TimeKept s (s.checksSync y) := rfl

theorem syncEffect_time (s : State) : TimeKept s s.syncEffect := by
  unfold State.syncEffect
  extract_lets s1 s2
  have h1 : TimeKept s s1 := chainSync_time s
  have h2 : TimeKept s1 s2 := forFacets_time (f := fun n t => t.syncFacet n) (fun n t => syncFacet_time t n) allFacets s1
  exact (h1.trans h2).trans ((checksSync_time ..).trans (calSync_time ..))

theorem irq0_set (s : State) {b : Nat} (hb : b < 16) : fld (s.irq0 b).ctl.irq0 b 1 = 1 := fld_or_bit _ b hb

/-- The timebase after the reset that is due. -/
def syncTaken (s : State) (src : Nat) (more : List (Nat × Nat)) : State :=
  { s with time := { s.time with
    syncReq := s.time.syncReq.filter fun r => !decide (r.1 ≤ s.tick), syncSrc := src
    syncCount := (s.time.syncCount + 1) % 256, syncMulti := s.time.syncMulti || !more.isEmpty } }

theorem syncReset_due {y src : Nat} {more : List (Nat × Nat)} (hr : s.ready = true)
    (h : s.time.syncReq.filter (fun r => decide (r.1 ≤ s.tick)) = (y, src) :: more) :
    s.syncReset = ((syncTaken s src more).syncEffect.irq0 4).logE 7 noMaster src 0 := by
  unfold State.syncReset
  rw [if_neg (by simp [hr]), List.partition_eq_filter_filter]
  dsimp only
  rw [h]
  rfl

theorem syncAct_arm (s : State) : syncAct 1 s = s.syncArm := (if_neg (by decide)).trans (if_pos rfl)

theorem syncArm_at {y k : Nat} {a : Nat} (hu : s.unset = false) (ha : s.time.syncAt = a) (hk : s.tick = k)
    (hy : nearest 32 a k = some y) :
    (y < k + 8 → s.syncArm.time.syncLate = true ∧ s.syncArm.time.armed = s.time.armed ∧ s.syncArm.time.syncReq = s.time.syncReq) ∧
    (k + 8 ≤ y → s.syncArm.time.armed = some y ∧ (y, 1) ∈ s.syncArm.time.syncReq) := by
  subst ha hk
  rw [syncArm_set hu hy]
  refine ⟨fun h => ?_, fun h => ?_⟩
  · rw [if_pos h]
    exact ⟨rfl, rfl, rfl⟩
  · rw [if_neg (Nat.not_lt.mpr h)]
    obtain ⟨h1, h2, -⟩ := armSync_set y 1 hu
    exact ⟨h1, h2⟩

theorem syncArm_written {y k : Nat} {a : Nat} (w : Word) (hu : s.unset = false) (ha : s.time.syncAt = a) (hk : s.tick = k)
    (hy : nearest 32 a k = some y) :
    (y < k + 8 → (syncAct 1 (syncCtlSet s w)).time.syncLate = true ∧
      (syncAct 1 (syncCtlSet s w)).time.armed = s.time.armed ∧ (syncAct 1 (syncCtlSet s w)).time.syncReq = s.time.syncReq) ∧
    (k + 8 ≤ y → (syncAct 1 (syncCtlSet s w)).time.armed = some y ∧ (y, 1) ∈ (syncAct 1 (syncCtlSet s w)).time.syncReq) :=
  (syncAct_arm (syncCtlSet s w)).symm ▸ syncArm_at (s := syncCtlSet s w) hu ha hk hy

/-! ## An edge of the SYNC land (R181) -/

/-- The state in which the edge stands. -/
def edgeTaken (s : State) (ns : Nat) : State := { s with time := { s.time with syncEdge := some (s.nowNs ns) } }

theorem syncLandEdge_takes {fall : Bool} {width ns : Nat} (h3 : fld s.time.syncCtl 3 1 = 1)
    (h4 : (fld s.time.syncCtl 4 1 == 1) = fall) (hw : 1000 ≤ width) (he : s.time.syncEdge = none) (hu : s.unset = false) :
    s.syncLandEdge fall width ns = { s with time := { s.time with
      syncEdge := some (s.nowNs ns)
      syncReq := s.time.syncReq ++ [((s.nowNs ns + 250000 + 249999) / 250000, 2)] } } := by
  have hr := requestSync_set (s := edgeTaken s ns) ((s.nowNs ns + 250000 + 249999) / 250000) 2 hu
  unfold State.syncLandEdge
  extract_lets t now early
  have hearly : early = false := by
    unfold early t
    rw [he]
  have hno : ¬ (fld t.syncCtl 3 1 = 0 ∨ (fld t.syncCtl 4 1 == 1) ≠ fall ∨ width < 1000 ∨ early = true ∨ s.unset = true) := by
    rw [hearly, hu]
    rintro (h | h | h | h | h)
    · rw [show fld t.syncCtl 3 1 = 1 from h3] at h
      cases h
    · exact h h4
    · exact Nat.not_lt.mpr hw h
    · cases h
    · cases h
  rw [if_neg hno]
  exact hr

theorem syncLandEdge_ignores {fall : Bool} {width ns : Nat}
    (h : fld s.time.syncCtl 3 1 = 0 ∨ (fld s.time.syncCtl 4 1 == 1) ≠ fall ∨ width < 1000) :
    s.syncLandEdge fall width ns = s := by
  unfold State.syncLandEdge
  extract_lets t now early
  refine if_pos ?_
  rcases h with h | h | h
  · exact .inl h
  · exact .inr (.inl h)
  · exact .inr (.inr (.inl h))

theorem syncReset_next {y src : Nat} {more : List (Nat × Nat)} (hr : s.ready = true)
    (h : s.time.syncReq.filter (fun r => decide (r.1 ≤ s.tick)) = (y, src) :: more) :
    ∃ t, exec .syncReset s = .next t ∧ t.time.syncSrc = src ∧ t.time.syncCount = (s.time.syncCount + 1) % 256 ∧
      t.time.syncReq = s.time.syncReq.filter (fun r => !decide (r.1 ≤ s.tick)) ∧
      (more ≠ [] → t.time.syncMulti = true) ∧ fld t.ctl.irq0 4 1 = 1 ∧ t.time.tick = s.time.tick := by
  have he := syncReset_due hr h
  have hT : s.syncReset.time = (syncTaken s src more).time := by
    rw [he]
    exact (logE_time ..).trans ((irq0_time ..).trans (syncEffect_time _))
  have hI : fld s.syncReset.ctl.irq0 4 1 = 1 := by
    rw [he]
    exact (congrArg (fun c : CtlSt => fld c.irq0 4 1) (logE_ctl ..)).trans (irq0_set _ (by decide))
  have hx : exec .syncReset s = .next { s.syncReset with pending := s.pending, life := s.life } := ok_eq ..
  generalize s.syncReset = v at hT hI hx
  refine ⟨_, hx, ?_, ?_, ?_, fun hm => ?_, hI, ?_⟩
  · exact (congrArg TimeSt.syncSrc hT :)
  · exact (congrArg TimeSt.syncCount hT :)
  · exact (congrArg TimeSt.syncReq hT :)
  · refine (congrArg TimeSt.syncMulti hT :).trans ?_
    cases more with
    | nil => exact absurd rfl hm
    | cons => simp [syncTaken]
  · exact (congrArg TimeSt.tick hT :)

/-- Settles O29: the requests, the edge, and the reset that is due. -/
theorem synchronisingResets : Obligations.SynchronisingResets := by
  refine ⟨fun m s hd => ⟨?_, ?_, ?_⟩, fun fall width ns s hx hr hu => ⟨fun h3 h4 hw he => ?_, fun h => ?_⟩,
    fun s y src more hr h => ?_⟩
  · obtain ⟨w, t, hx, ht, heq⟩ := sync_next hd (b := 0) (by decide)
    refine ⟨t, hx, ?_, heq⟩
    have hn : syncAct 0 (syncCtlSet s w) = (syncCtlSet s w).requestSync (s.tick + 1) 0 := rfl
    rw [ht, hn]
    cases hu : s.unset with
    | true =>
      rw [requestSync_unset (s := syncCtlSet s w) _ _ hu]
      rfl
    | false =>
      rw [requestSync_set (s := syncCtlSet s w) _ _ hu]
      rfl
  · obtain ⟨w, t, hx, ht, heq⟩ := sync_next hd (b := 1) (by decide)
    refine ⟨t, hx, fun hu => ?_, fun hu y hy => ⟨fun hlt => ?_, fun hle => ?_⟩, heq⟩
    · rw [ht, syncAct_arm, syncArm_unset (s := syncCtlSet s w) hu]
      rfl
    · rw [ht]
      exact (syncArm_written w hu rfl rfl hy).1 hlt
    · rw [ht]
      exact (syncArm_written w hu rfl rfl hy).2 hle
  · obtain ⟨w, t, hx, ht, heq⟩ := sync_next hd (b := 2) (by decide)
    refine ⟨t, hx, ?_, ?_, heq⟩
    · rw [ht]
      rfl
    · rw [ht]
      rfl
  · have he := syncLandEdge_takes (ns := ns) h3 h4 hw he hu
    exact (congrArg (ok s) ((landed_live (f := fun t => t.syncLandEdge fall width ns) hx hr).trans he)).trans (ok_next s _ rfl rfl)
  · have he := syncLandEdge_ignores (ns := ns) h
    exact (congrArg (ok s) ((landed_live (f := fun t => t.syncLandEdge fall width ns) hx hr).trans he)).trans (ok_next s _ rfl rfl)
  · exact syncReset_next hr h

/-! ## Counting (R187 to R189, R192, R204) -/

/-- Every port but `p` is as it was. -/
def OnlyPort (p : Nat) (s u : State) : Prop := ∀ k, k ≠ p → u.port k = s.port k

theorem OnlyPort.refl (p : Nat) (s : State) : OnlyPort p s s := fun _ _ => rfl

theorem OnlyPort.trans {p : Nat} (h1 : OnlyPort p s t) (h2 : OnlyPort p t u) : OnlyPort p s u :=
  fun k hk => (h2 k hk).trans (h1 k hk)

theorem setPort_onlyPort (s : State) (p : Nat) (v : PosPort) : OnlyPort p s (s.setPort p v) :=
  fun _ hk => port_setPort_other s v hk

theorem port_of_ports (h : u.ports = s.ports) (k : Nat) : u.port k = s.port k := by rw [State.port, State.port, h]

theorem OnlyPort.of_ports {p : Nat} (h : u.ports = s.ports) : OnlyPort p s u := fun k _ => port_of_ports h k

theorem flagBeads_ports (s : State) (p : Nat) (w : Word) : (s.flagBeads p w).ports = s.ports := by
  unfold State.flagBeads
  extract_lets hit _ s1
  exact foldl_keeps (f := fun t b => t.touchEntry b.entry) (P := fun t => t.ports = s.ports) (fun _ _ h => h) hit s1 rfl

theorem EndsOnly.ports (h : EndsOnly s u) : u.ports = s.ports := by rw [h.eq]

theorem reverseTravel_ports (s : State) (p : Nat) : (s.reverseTravel p).ports = s.ports := by
  unfold State.reverseTravel
  extract_lets s1 _ s2
  have h1 : s1.ports = s.ports := flagBeads_ports ..
  have h2 : s2.ports = s.ports := by
    refine Eq.trans ?_ h1
    unfold s2
    split <;> rfl
  split
  · exact (ite_keeps State.ports (calEndTarget_ends s2 10).ports rfl).trans h2
  · exact h2

theorem decode_close {q : PosPort} {e : QuadEdge} {now : Nat} (h : q.tooClose e now = true) : q.decode e now = none := by
  unfold PosPort.tooClose at h
  unfold PosPort.decode
  cases e with
  | both => rfl
  | edge b l => cases b <;> exact if_pos h

theorem decode_apart {q : PosPort} {b level : Bool} {now : Nat} (h : q.tooClose (.edge b level) now = false) :
    q.decode (.edge b level) now = some (if b then level == q.pa else level != q.pb) := by
  unfold PosPort.tooClose at h
  unfold PosPort.decode
  cases b <;> exact if_neg (ne_true_of_eq_false h)

theorem quadrature_short {p width ns : Nat} {e : QuadEdge} (h : width < (s.port p).filterNs ∨ (s.port p).change e = none) :
    s.quadrature p e width ns = s := by
  unfold State.quadrature
  extract_lets q
  by_cases hw : width < q.filterNs
  · exact if_pos hw
  · rw [if_neg hw, h.resolve_left hw]

section
variable {p width ns : Nat} {e c : QuadEdge} (hw : (s.port p).filterNs ≤ width) (hc : (s.port p).change e = some c)
include hw hc

theorem quadrature_disabled (h0 : fld (s.port p).cfgAct 0 1 = 0) :
    s.quadrature p e width ns = s.setPort p ((s.port p).takeEdge c (s.nowNs ns)) := by
  unfold State.quadrature
  extract_lets q now
  rw [if_neg (Nat.not_lt.mpr hw), hc]
  exact if_pos h0

theorem quadrature_taken (h1 : fld (s.port p).cfgAct 0 1 = 1) : s.quadrature p e width ns =
    match (s.port p).decode c (s.nowNs ns) with
    | none => (s.setPort p ((s.port p).takeEdge c (s.nowNs ns))).quadError p
    | some lead => (s.setPort p ((s.port p).takeEdge c (s.nowNs ns))).quadCount p lead := by
  have h0 : ¬ fld (s.port p).cfgAct 0 1 = 0 := by omega
  unfold State.quadrature
  extract_lets q now
  rw [if_neg (Nat.not_lt.mpr hw), hc]
  exact if_neg h0

end

/-- The levels and instants of the channels alone differ. -/
def SameButEdge (q r : PosPort) : Prop := r = { q with pa := r.pa, pb := r.pb, edgeA := r.edgeA, edgeB := r.edgeB }

theorem takeEdge_same (q : PosPort) (e : QuadEdge) (now : Nat) : SameButEdge q (q.takeEdge e now) := by
  unfold PosPort.takeEdge
  split <;> rfl

theorem SameButEdge.cfgA {q r : PosPort} (h : SameButEdge q r) : r.cfgA = q.cfgA := by
  rw [show r = _ from h]
  rfl

theorem quadCount_port (s : State) (p : Nat) (lead : Bool) : ((s.quadCount p lead).port p) = (s.port p).travel
      (if (lead != (s.port p).cfgA.dir) = true then ((s.port p).cfgA.res : Rat) / 1000000
        else -(((s.port p).cfgA.res : Rat) / 1000000)) ∧ OnlyPort p s (s.quadCount p lead) := by
  unfold State.quadCount
  extract_lets q up d s1
  have h1 : s1.port p = q.travel (if up then d else -d) := port_setPort ..
  have h2 : OnlyPort p s s1 := setPort_onlyPort s p _
  by_cases hu : up = true
  · rw [if_pos hu]
    exact ⟨h1, h2⟩
  · rw [if_neg hu]
    exact ⟨(port_of_ports (reverseTravel_ports s1 p) p).trans h1, h2.trans (.of_ports (reverseTravel_ports s1 p))⟩

theorem travel_odo (q : PosPort) (d : Rat) : (q.travel d).odo = q.odo + d ∧ (q.travel d).qerrCnt = q.qerrCnt := ⟨rfl, rfl⟩

theorem posLost_port (s : State) (p : Nat) : (s.posLost p).port p =
    (if (s.port p).st = .valid then { s.port p with next := some .seeking } else s.port p) ∧ OnlyPort p s (s.posLost p) :=
  ⟨port_setPort .., setPort_onlyPort s p _⟩

theorem quadError_port (s : State) (p : Nat) : ((s.quadError p).port p).qerr = true ∧
    ((s.quadError p).port p).qerrCnt = satInc (s.port p).qerrCnt ∧ ((s.quadError p).port p).odo = (s.port p).odo ∧
    ((s.port p).st = .valid → (s.port p).cfgA.qerrLim ≤ (s.port p).qerrs + 1 →
      ((s.quadError p).port p).next = some .seeking) ∧ OnlyPort p s (s.quadError p) := by
  unfold State.quadError
  extract_lets q0 q s1
  have h1 : s1.port p = q := port_setPort ..
  have h2 : OnlyPort p s s1 := setPort_onlyPort s p _
  obtain ⟨h3, h4⟩ := posLost_port s1 p
  by_cases hl : q.st = .valid ∧ q.cfgA.qerrLim ≤ q.qerrs
  · rw [if_pos hl, h3, h1, if_pos hl.1]
    exact ⟨rfl, rfl, rfl, fun _ _ => rfl, h2.trans h4⟩
  · rw [if_neg hl, h1]
    exact ⟨rfl, rfl, rfl, fun hv hq => absurd ⟨hv, hq⟩ hl, h2⟩

/-! ## Markers (R199 to R203) -/

theorem matchSig_congr {q r : PosPort} (h : q.cfgA = r.cfgA) : q.matchSig = r.matchSig := by
  funext iv j
  unfold PosPort.matchSig
  rw [h]

/-- The revolution count and its source alone differ. -/
def SameMark (q r : PosPort) : Prop :=
  r = { q with rev := r.rev, revOk := r.revOk, revAdj := r.revAdj, srcMarks := r.srcMarks }

theorem adoptRev_port (s : State) (p j : Nat) : SameMark (s.port p) ((s.adoptRev p j).port p) ∧ OnlyPort p s (s.adoptRev p j) := by
  unfold State.adoptRev
  extract_lets q q1
  split
  · exact ⟨rfl, .refl p s⟩
  · split
    · exact ⟨rfl, .refl p s⟩
    · split
      · rw [port_setPort]
        exact ⟨rfl, setPort_onlyPort s p _⟩
      · have hp : ((s.setPort p { q1 with rev := Store.get 65536 q.srcMarks j, revAdj := true }).logE 0x0B noMaster p
            (BitVec.ofNat 32 (Store.get 65536 q.srcMarks j))).ports =
          (s.setPort p { q1 with rev := Store.get 65536 q.srcMarks j, revAdj := true }).ports := logE_ports ..
        rw [port_of_ports hp p, port_setPort]
        exact ⟨rfl, OnlyPort.trans (setPort_onlyPort s p _) (.of_ports hp)⟩

theorem mark_ports (s : State) (p e k : Nat) (x : Int) : (s.mark p e k x).ports = s.ports := rfl

/-- A marker pulse of the port in VALID or SEEKING that the filter lets through, of its polarity and not too near the last. -/
structure Pulse (s : State) (p : Nat) (fall : Bool) (width : Nat) : Prop where
  long : (s.port p).filterNs ≤ width
  enabled : fld (s.port p).cfgAct 0 1 = 1
  on : (s.port p).st ≠ .off
  polarity : (fld (s.port p).cfgAct 2 1 == 1) = fall
  apart : (s.port p).dead = none
  edge : (s.port p).pzGlitch ≠ some (!fall)

theorem Pulse.back {p width : Nat} {fall : Bool} (h : Pulse s p fall width) : ((s.port p).pzGlitch == some (!fall)) = false := by
  simpa using h.edge

/-- The port once a pulse has come through the filter. -/
def pulseHeld (q : PosPort) : PosPort := { q with pzGlitch := none, dead := some q.odo }

/-- What a marker identified in SEEKING leaves. -/
theorem markerPulse_identifies {p width j : Nat} {fall : Bool} (h : Pulse s p fall width) (hs : (s.port p).st = .seeking)
    (hn : (s.port p).next = none) (hm : (List.range (min (s.port p).cfgA.nmark 64)).filter
      ((s.port p).matchSig ((s.port p).withPulse (s.port p).odo)) = [j]) :
    ∃ v q, s.markerPulse p fall width = ((v.setPort p q).adoptRev p j).mark p 0 j 0 ∧ OnlyPort p s v ∧
      q.next = some .valid ∧ q.lastMark = j ∧ q.u = ((s.port p).cfgA.mark j : Rat) := by
  unfold State.markerPulse
  extract_lets q0 back s1 q1 q2 iv q3 ms rev j' m e q4 big _ q5 s2 s3 q6 s4
  have hq1 : q1 = { q0 with pzGlitch := none } := port_setPort ..
  have hs1 : OnlyPort p s s1 := setPort_onlyPort s p _
  have hq2 : q2 = pulseHeld q0 := by
    show { q1 with dead := some q1.odo } = _
    rw [hq1]
    rfl
  have hback : back = false := h.back
  have hc2 : q2.cfgA = q0.cfgA := (congrArg PosPort.cfgA hq2).trans rfl
  have hc : q3.cfgA = q0.cfgA := (show q3.cfgA = q2.cfgA from rfl).trans hc2
  have hms : ms = [j] := by
    have hiv : iv = q0.withPulse q0.odo := by
      show q2.withPulse q2.odo = _
      rw [hq2]
      rfl
    unfold ms
    rw [hc, matchSig_congr hc, hiv]
    exact hm
  have h1 : fld q1.cfgAct 0 1 = 1 := by rw [hq1]; exact h.enabled
  have h2 : (fld q1.cfgAct 2 1 == 1) = fall := by rw [hq1]; exact h.polarity
  have h3 : q1.dead = none := by rw [hq1]; exact h.apart
  have h4 : q1.st = .seeking := by rw [hq1]; exact hs
  have h5 : q1.next = none := by rw [hq1]; exact hn
  have h6 : ¬ q3.next.isSome = true := by
    show ¬ q1.next.isSome = true
    rw [h5]
    exact Bool.false_ne_true
  rw [if_neg (Nat.not_lt.mpr h.long), if_neg (by simp [hback, h1, h2, h3, h4]), if_pos (Or.inl h4), hms]
  dsimp only
  rw [if_neg h6]
  exact ⟨s1, _, rfl, hs1, rfl, rfl, congrArg (fun c : PortCfg => (c.mark j : Rat)) hc⟩

/-- The stretch and its rejections alone differ. -/
theorem stretchUpdate_same (q : PosPort) (j : Nat) :
    q.stretchUpdate j = { q with s := (q.stretchUpdate j).s, stretchRej := (q.stretchUpdate j).stretchRej } := by
  unfold PosPort.stretchUpdate
  split
  · rfl
  · split
    · rfl
    · extract_lets sr
      split <;> rfl

/-- What an identification in VALID leaves of the port. -/
structure Slipped (q r : PosPort) (e : Rat) : Prop where
  lastMark : r.lastMark = q.want
  events : r.events = 0
  qerrs : r.qerrs = 0
  slipLast : r.slipLast = roundHalf (e * 10)
  spurCnt : r.spurCnt = q.spurCnt
  st : r.st = q.st
  want : r.want = q.nextMark q.want

theorem Slipped.same {q r x : PosPort} {e : Rat} (h : Slipped q r e) (hs : SameMark r x) : Slipped q x e := by
  rw [show x = _ from hs]
  exact ⟨h.lastMark, h.events, h.qerrs, h.slipLast, h.spurCnt, h.st, h.want⟩

theorem nextMark_congr {q r : PosPort} (h : r.cfgA = q.cfgA) (j : Nat) : r.nextMark j = q.nextMark j := by
  unfold PosPort.nextMark
  rw [h]

/-- What a marker identified in VALID leaves. -/
theorem markerPulse_slips {p width : Nat} {fall : Bool} {e : Rat} (h : Pulse s p fall width) (hs : (s.port p).st = .valid)
    (hn : (s.port p).next = none)
    (he : e = circ (s.port p).len ((s.port p).u - ((s.port p).cfgA.mark (s.port p).want : Rat)))
    (hw : rabs e * 200 ≤ ((s.port p).cfgA.ival (s.port p).want : Rat))
    (hm : (s.port p).matchSig ((s.port p).withPulse (s.port p).odo) (s.port p).want = true) :
    Slipped (s.port p) ((s.markerPulse p fall width).port p) e ∧ OnlyPort p s (s.markerPulse p fall width) := by
  unfold State.markerPulse
  extract_lets q0 back s1 q1 q2 iv q3 ms rev j m e1 q4 big _ q5 s2 s3 q6 s4
  have hq1 : q1 = { q0 with pzGlitch := none } := port_setPort ..
  have hs1 : OnlyPort p s s1 := setPort_onlyPort s p _
  have hq2 : q2 = pulseHeld q0 := by
    show { q1 with dead := some q1.odo } = _
    rw [hq1]
    rfl
  have hback : back = false := h.back
  have hc2 : q2.cfgA = q0.cfgA := (congrArg PosPort.cfgA hq2).trans rfl
  have hj : j = q0.want := (congrArg PosPort.want hq2 :)
  have he1 : e1 = e := by
    show circ q2.len (q2.u - (q2.cfgA.mark j : Rat)) = e
    rw [hc2, hj, hq2, he]
    rfl
  have hiv : iv = q0.withPulse q0.odo := by
    show q2.withPulse q2.odo = _
    rw [hq2]
    rfl
  have h1 : fld q1.cfgAct 0 1 = 1 := by rw [hq1]; exact h.enabled
  have h2 : (fld q1.cfgAct 2 1 == 1) = fall := by rw [hq1]; exact h.polarity
  have h3 : q1.dead = none := by rw [hq1]; exact h.apart
  have h4 : q1.st = .valid := by rw [hq1]; exact hs
  have h5 : q1.next = none := by rw [hq1]; exact hn
  have h6 : ¬ (q2.st = .seeking ∨ q2.next = some .seeking) := by
    show ¬ (q1.st = .seeking ∨ q1.next = some .seeking)
    rw [h4, h5]
    simp
  have h7 : rabs e1 * 200 ≤ (q2.cfgA.ival j : Rat) ∧ q2.matchSig iv j = true := by
    rw [he1, hc2, hj, hiv, matchSig_congr hc2]
    exact ⟨hw, hm⟩
  have h4' : q4 = { q2 with s := q4.s, stretchRej := q4.stretchRej } := stretchUpdate_same q2 j
  have hc4 : q4.cfgA = q0.cfgA := (congrArg PosPort.cfgA h4').trans hc2
  have h5' : Slipped q0 q5 e := by
    refine ⟨hj, rfl, rfl, ?_, ?_, ?_, ?_⟩
    · show roundHalf (e1 * 10) = _
      rw [he1]
    · exact (congrArg PosPort.spurCnt h4' :).trans (congrArg PosPort.spurCnt hq2 :)
    · exact (congrArg PosPort.st h4' :).trans (congrArg PosPort.st hq2 :)
    · show q4.nextMark j = _
      rw [hj, nextMark_congr hc4]
  obtain ⟨k1, k2⟩ := adoptRev_port (s1.setPort p q5) p j
  rw [port_setPort] at k1
  have hs2 : Slipped q0 (s2.port p) e ∧ OnlyPort p s s2 :=
    ⟨h5'.same k1, (hs1.trans (setPort_onlyPort s1 p q5)).trans k2⟩
  rw [if_neg (Nat.not_lt.mpr h.long), if_neg (by simp [hback, h1, h2, h3, h4]), if_neg h6, if_pos h7]
  have hp (v : State) (hv : v.ports = s2.ports) : Slipped q0 (v.port p) e ∧ OnlyPort p s v :=
    ⟨by rw [port_of_ports hv]; exact hs2.1, hs2.2.trans (.of_ports hv)⟩
  clear_value s2
  split
  · exact hp _ ((mark_ports ..).trans (logE_ports ..))
  · exact hp _ (mark_ports ..)

theorem posLost_only (v : State) (p : Nat) : v.posLost p = { v with ports := (v.posLost p).ports } := rfl

/-- An event counted at the limit takes a port in VALID out of it. -/
theorem posLost_atLimit (v : State) (p : Nat) (q : PosPort) (hs : q.st = .valid) (c : Prop) [Decidable c] :
    (State.port (if c then (v.setPort p q).posLost p else v.setPort p q) p).spurCnt = q.spurCnt ∧
      (State.port (if c then (v.setPort p q).posLost p else v.setPort p q) p).events = q.events ∧
      (State.port (if c then (v.setPort p q).posLost p else v.setPort p q) p).lastMark = q.lastMark ∧
      (c → (State.port (if c then (v.setPort p q).posLost p else v.setPort p q) p).next = some .seeking) ∧
      (if c then (v.setPort p q).posLost p else v.setPort p q) =
        { v with ports := (if c then (v.setPort p q).posLost p else v.setPort p q).ports } := by
  by_cases hc : c
  · obtain ⟨k, -⟩ := posLost_port (v.setPort p q) p
    rw [port_setPort, if_pos hs] at k
    rw [if_pos hc, k]
    exact ⟨rfl, rfl, rfl, fun _ => rfl, posLost_only (v.setPort p q) p⟩
  · rw [if_neg hc, port_setPort]
    exact ⟨rfl, rfl, rfl, fun h => absurd h hc, rfl⟩

/-- A marker pulse off the window in VALID. -/
theorem markerPulse_spurious {p width : Nat} {fall : Bool} (h : Pulse s p fall width) (hs : (s.port p).st = .valid)
    (hn : (s.port p).next = none) (hw : ((s.port p).cfgA.ival (s.port p).want : Rat) <
      rabs (circ (s.port p).len ((s.port p).u - ((s.port p).cfgA.mark (s.port p).want : Rat))) * 200) :
    ((s.markerPulse p fall width).port p).spurCnt = satInc (s.port p).spurCnt ∧
      ((s.markerPulse p fall width).port p).events = (s.port p).events + 1 ∧
      ((s.markerPulse p fall width).port p).lastMark = (s.port p).lastMark ∧
      ((s.port p).cfgA.missLim ≤ (s.port p).events + 1 → ((s.markerPulse p fall width).port p).next = some .seeking) ∧
      s.markerPulse p fall width = { s with ports := (s.markerPulse p fall width).ports } := by
  unfold State.markerPulse
  extract_lets q0 back s1 q1 q2 iv q3 ms rev j m e1 q4 big _ q5 s2 s3 q6 s4
  have hq1 : q1 = { q0 with pzGlitch := none } := port_setPort ..
  have hq2 : q2 = pulseHeld q0 := by
    show { q1 with dead := some q1.odo } = _
    rw [hq1]
    rfl
  have hback : back = false := h.back
  have hc2 : q2.cfgA = q0.cfgA := (congrArg PosPort.cfgA hq2).trans rfl
  have hj : j = q0.want := (congrArg PosPort.want hq2 :)
  have h1 : fld q1.cfgAct 0 1 = 1 := by rw [hq1]; exact h.enabled
  have h2 : (fld q1.cfgAct 2 1 == 1) = fall := by rw [hq1]; exact h.polarity
  have h3 : q1.dead = none := by rw [hq1]; exact h.apart
  have h4 : q1.st = .valid := by rw [hq1]; exact hs
  have h5 : q1.next = none := by rw [hq1]; exact hn
  have h6 : ¬ (q2.st = .seeking ∨ q2.next = some .seeking) := by
    show ¬ (q1.st = .seeking ∨ q1.next = some .seeking)
    rw [h4, h5]
    simp
  have h7 : ¬ (rabs e1 * 200 ≤ (q2.cfgA.ival j : Rat) ∧ q2.matchSig iv j = true) := by
    have he : e1 = circ q0.len (q0.u - (q0.cfgA.mark q0.want : Rat)) := by
      show circ q2.len (q2.u - (q2.cfgA.mark j : Rat)) = _
      rw [hc2, hj, hq2]
      rfl
    rw [he, hc2, hj]
    exact fun h => absurd h.1 (not_le.mpr hw)
  have h6' : q6 = { pulseHeld q0 with spurCnt := satInc q0.spurCnt, events := q0.events + 1 } := by
    show { q2 with spurCnt := satInc q2.spurCnt, events := q2.events + 1 } = _
    rw [hq2]
    rfl
  rw [if_neg (Nat.not_lt.mpr h.long), if_neg (by simp [hback, h1, h2, h3, h4]), if_neg h6, if_neg h7]
  obtain ⟨k2, k3, k4, k5, k6⟩ := posLost_atLimit s1 p q6 ((congrArg PosPort.st h6' :).trans hs) (q6.cfgA.missLim ≤ q6.events)
  have hl : (q6.cfgA.missLim ≤ q6.events) = (q0.cfgA.missLim ≤ q0.events + 1) := by
    rw [show q6.cfgA = q0.cfgA from (congrArg PosPort.cfgA h6' :),
      show q6.events = q0.events + 1 from (congrArg PosPort.events h6' :)]
  exact ⟨k2.trans (congrArg PosPort.spurCnt h6' :), k3.trans (congrArg PosPort.events h6' :),
    k4.trans (congrArg PosPort.lastMark h6' :), fun h => k5 (hl ▸ h), k6⟩

/-- A marker pulse that is disabled, of the wrong polarity, of a port that is OFF, too near the last, or the return from one
that the filter took away. -/
theorem markerPulse_ignored {p width : Nat} {fall : Bool} (hw : (s.port p).filterNs ≤ width)
    (h : (s.port p).pzGlitch = some (!fall) ∨ fld (s.port p).cfgAct 0 1 = 0 ∨ (s.port p).st = .off ∨
      (fld (s.port p).cfgAct 2 1 == 1) ≠ fall ∨ (s.port p).dead.isSome = true) :
    s.markerPulse p fall width = s.setPort p { s.port p with pzGlitch := none } := by
  unfold State.markerPulse
  extract_lets q0 back s1 q1
  have hq1 : q1 = { q0 with pzGlitch := none } := port_setPort ..
  have hb : (s.port p).pzGlitch = some (!fall) → back = true := fun h => by
    show (q0.pzGlitch == some (!fall)) = true
    rw [show q0.pzGlitch = some (!fall) from h]
    exact beq_self_eq_true _
  rw [if_neg (Nat.not_lt.mpr hw), if_pos]
  rw [hq1]
  rcases h with h | h | h | h | h
  · exact .inl (hb h)
  · exact .inr (.inl h)
  · exact .inr (.inr (.inr (.inr h)))
  · exact .inr (.inr (.inl (by simpa using h)))
  · exact .inr (.inr (.inr (.inl h)))

theorem markerPulse_short {p width : Nat} {fall : Bool} (hw : width < (s.port p).filterNs) :
    s.markerPulse p fall width = s.setPort p { s.port p with pzGlitch := some fall } := if_pos hw

/-- A marker that does not come. -/
theorem markerMissed_counts {p : Nat} (hs : (s.port p).st = .valid) (hn : (s.port p).next = none)
    (hb : ((s.port p).cfgA.ival (s.port p).want : Rat) / 200 < (s.port p).beyond) :
    ((s.markerMissed p).port p).missCnt = satInc (s.port p).missCnt ∧
      ((s.markerMissed p).port p).events = (s.port p).events + 1 ∧
      ((s.port p).cfgA.missLim ≤ (s.port p).events + 1 → ((s.markerMissed p).port p).next = some .seeking) ∧
      s.markerMissed p = { s with ports := (s.markerMissed p).ports, msg := (s.markerMissed p).msg } := by
  unfold State.markerMissed
  extract_lets q0 j d o q s1
  have hc : q.cfgA = q0.cfgA := rfl
  have hs' : q.st = .valid := hs
  have hno : ¬ (q0.st ≠ .valid ∨ q0.next.isSome = true) := by
    rw [show q0.st = .valid from hs, show q0.next = none from hn]
    simp
  have h1 : s1.port p = q := port_setPort ..
  have hm : s1 = { s with ports := s1.ports, msg := s1.msg } := rfl
  obtain ⟨k1, -⟩ := posLost_port s1 p
  have hk : q.missCnt = satInc q0.missCnt ∧ q.events = q0.events + 1 := ⟨rfl, rfl⟩
  rw [if_neg hno, if_pos hb]
  by_cases hl : q.cfgA.missLim ≤ q.events
  · have hpl : s1.posLost p = { s with ports := (s1.posLost p).ports, msg := (s1.posLost p).msg } := rfl
    rw [if_pos hl, k1, h1, if_pos hs']
    exact ⟨hk.1, hk.2, fun _ => rfl, hpl⟩
  · rw [if_neg hl, h1]
    rw [hc, hk.2] at hl
    exact ⟨hk.1, hk.2, fun h => absurd h hl, hm⟩

/-- Settles O33: what an edge, a marker pulse and a marker that does not come leave of their port. -/
theorem positionPortsCountAndIdentify : Obligations.PositionPortsCountAndIdentify := by
  refine ⟨fun p s hx hr => ⟨fun e b level width ns hen hw hc ht => ?_, fun e c width ns hen hw hc ht => ?_,
      fun e c width ns hw hc h0 => ?_, fun e width ns h => ?_⟩,
    fun p fall width s hx hr => ⟨fun hw => ?_, fun hw h => ?_⟩,
    fun p fall width j s hx hr hw hen hs hn hp hd hg hm => ?_,
    fun p fall width s e hx hr hw hen hs hn hp hd hg he hwin hm => ?_,
    fun p fall width s hw hx hr hen hs hn hp hd hg hwin => ?_, fun p s hr hs hn hb => ?_⟩
  · have hq := takeEdge_same (s.port p.val) (.edge b level) (s.nowNs ns)
    have he := quadrature_taken (ns := ns) hw hc hen
    rw [decode_apart ht] at he
    obtain ⟨k1, k2⟩ := quadCount_port (s.setPort p.val ((s.port p.val).takeEdge (.edge b level) (s.nowNs ns))) p.val
      (if b then level == (s.port p.val).pa else level != (s.port p.val).pb)
    rw [port_setPort, hq.cfgA] at k1
    dsimp only at he
    rw [← he] at k1 k2
    refine ⟨_, (congrArg (ok s) (landed_live (f := fun t => t.quadrature p.val e width ns) hx hr)).trans (ok_eq ..), ?_, ?_,
      OnlyPort.trans (setPort_onlyPort s p.val _) k2⟩
    · refine (congrArg PosPort.odo k1).trans ((travel_odo ..).1.trans ?_)
      rw [show ((s.port p.val).takeEdge (.edge b level) (s.nowNs ns)).odo = (s.port p.val).odo from
        (congrArg PosPort.odo (show _ = _ from hq) :)]
    · exact (congrArg PosPort.qerrCnt k1).trans ((travel_odo ..).2.trans (congrArg PosPort.qerrCnt (show _ = _ from hq) :))
  · have hq := takeEdge_same (s.port p.val) c (s.nowNs ns)
    have he := quadrature_taken (ns := ns) hw hc hen
    rw [decode_close ht] at he
    obtain ⟨k1, k2, k3, k4, k5⟩ := quadError_port (s.setPort p.val ((s.port p.val).takeEdge c (s.nowNs ns))) p.val
    rw [port_setPort] at k2 k3 k4
    rw [hq.cfgA] at k4
    dsimp only at he
    rw [← he] at k1 k2 k3 k4 k5
    refine ⟨_, (congrArg (ok s) (landed_live (f := fun t => t.quadrature p.val e width ns) hx hr)).trans (ok_eq ..), k1,
      k2.trans (congrArg (fun r : PosPort => satInc r.qerrCnt) (show _ = _ from hq) :),
      k3.trans (congrArg PosPort.odo (show _ = _ from hq) :), fun hv hl => ?_,
      OnlyPort.trans (setPort_onlyPort s p.val _) k5⟩
    refine k4 ((congrArg PosPort.st (show _ = _ from hq) :).trans hv) ?_
    rw [show ((s.port p.val).takeEdge c (s.nowNs ns)).qerrs = (s.port p.val).qerrs from
      (congrArg PosPort.qerrs (show _ = _ from hq) :)]
    exact hl
  · exact (congrArg (ok s) ((landed_live (f := fun t => t.quadrature p.val e width ns) hx hr).trans
      (quadrature_disabled hw hc h0))).trans (ok_next s _ rfl rfl)
  · exact (congrArg (ok s) ((landed_live (f := fun t => t.quadrature p.val e width ns) hx hr).trans
      (quadrature_short h))).trans (ok_next s _ rfl rfl)
  · exact (congrArg (ok s) ((landed_live (f := fun t => t.markerPulse p.val fall width) hx hr).trans
      (markerPulse_short hw))).trans (ok_next s _ rfl rfl)
  · exact (congrArg (ok s) ((landed_live (f := fun t => t.markerPulse p.val fall width) hx hr).trans
      (markerPulse_ignored hw h))).trans (ok_next s _ rfl rfl)
  · have hon : (s.port p.val).st ≠ .off := by rw [hs]; decide
    obtain ⟨v, q, he, hv, h1, h2, h3⟩ := markerPulse_identifies (j := j) ⟨hw, hen, hon, hp, hd, hg⟩ hs hn hm
    obtain ⟨k1, k2⟩ := adoptRev_port (v.setPort p.val q) p.val j
    rw [port_setPort] at k1
    have hP (k : Nat) : (s.markerPulse p.val fall width).port k = ((v.setPort p.val q).adoptRev p.val j).port k := by
      rw [he]
      exact port_of_ports (mark_ports ..) k
    refine ⟨_, (congrArg (ok s) (landed_live (f := fun t => t.markerPulse p.val fall width) hx hr)).trans (ok_eq ..), ?_, ?_, ?_,
      fun k hk => (hP k).trans (((hv.trans (setPort_onlyPort v p.val q)).trans k2) k hk)⟩
    · exact (congrArg PosPort.next ((hP p.val).trans k1)).trans h1
    · exact (congrArg PosPort.lastMark ((hP p.val).trans k1)).trans h2
    · exact (congrArg PosPort.u ((hP p.val).trans k1)).trans h3
  · have hon : (s.port p.val).st ≠ .off := by rw [hs]; decide
    obtain ⟨h, ho⟩ := markerPulse_slips ⟨hw, hen, hon, hp, hd, hg⟩ hs hn he hwin hm
    exact ⟨_, (congrArg (ok s) (landed_live (f := fun t => t.markerPulse p.val fall width) hx hr)).trans (ok_eq ..), h.lastMark,
      h.events, h.qerrs, h.slipLast, h.spurCnt, h.st.trans hs, h.want, ho⟩
  · have hon : (s.port p.val).st ≠ .off := by rw [hs]; decide
    obtain ⟨h1, h2, h3, h4, h5⟩ := markerPulse_spurious ⟨hw, hen, hon, hp, hd, hg⟩ hs hn hwin
    have hx' := congrArg (ok s) (landed_live (f := fun t => t.markerPulse p.val fall width) hx hr)
    exact ⟨_, hx'.trans (ok_next s _ (by rw [h5]) (by rw [h5])), h1, h2, h3, h4, h5⟩
  · obtain ⟨h1, h2, h3, h4⟩ := markerMissed_counts hs hn hb
    exact ⟨_, live_next hr (f := fun t => t.markerMissed p.val) (by rw [h4]) (by rw [h4]), h1, h2, h3, h4⟩

end Sys2Proof.Proofs
end

section
/-! PROPERTY. Beads, the records of losses, and the way of a record to the bus (O35, O37, O41). -/

namespace Sys2Proof.Proofs

open Sys2Proof Sys2Proof.Machine Sys2Proof.Laws

-- one proof at a time: the text is compiled as a whole, and the proofs side by side would need too much memory
set_option Elab.async false

variable {s t u : State} {m : Master}

/-! ## BEAD_CTL (R223) -/

/-- The word of a write of BEAD_CTL. -/
theorem beadWord (ports : BitVec 4) (pub : Bool) :
    w16 (ports.toNat + 16 * b2n pub) &&& 0x1F = w16 (ports.toNat + 16 * b2n pub) ∧
      fld (w16 (ports.toNat + 16 * b2n pub)) 0 4 = ports.toNat ∧
      (fld (w16 (ports.toNat + 16 * b2n pub)) 4 1 == 1) = pub := by
  revert ports pub
  decide

theorem writeCycle_beadPorts (h : s.directs m 0x49) (ports : BitVec 4) (pub : Bool) :
    s.writeCycle m 0x49 (w16 (ports.toNat + 16 * b2n pub)) = (s.beadPortsWrite m ports.toNat pub).ack m true := by
  obtain ⟨hw, h0, h4⟩ := beadWord ports pub
  rw [writeCycle_store h rfl (by simp [nowMask])]
  refine congrArg (fun t : State => t.ack m true) ?_
  have hs (w v : Word) : s.regStore m 0x49 w v = s.beadPortsWrite m (fld w 0 4) (fld w 4 1 == 1) := rfl
  unfold stored
  rw [hs, rwMerge_and _ 0x1F rfl (by decide), hw, h0, h4]

/-- The ports written take effect unless the beads would need more than 48 places. -/
theorem beadPortsWrite_taken {p : Nat} (pub : Bool) (h : ({ s.cand with mask := p } : Cand).needSum ≤ 48) :
    s.beadPortsWrite m p pub = { s with bead := { s.bead with ctl := w16 (p + 16 * b2n pub) } } :=
  if_neg fun ⟨_, _, h'⟩ => absurd h' (Nat.not_lt.mpr h)

/-- The state in which a write of BEAD_CTL is refused. -/
def portsRefused (s : State) (pub : Bool) : State :=
  { s with bead := { s.bead with ctl := setFld s.bead.ctl 4 1 (b2n pub), rej := true } }

theorem beadPortsWrite_refused {p : Nat} (pub : Bool) (h : 48 < ({ s.cand with mask := p } : Cand).needSum)
    (hc : fld s.bead.ctl 0 4 ≠ p) : s.beadPortsWrite m p pub = (portsRefused s pub).logE 0x12 (masterCode m) 0 0 :=
  if_pos ⟨rfl, hc, h⟩

/-- PORTS keeps its value where PUB is written. -/
theorem fld_setPub (w : Word) (pub : Bool) : fld (setFld w 4 1 (b2n pub)) 0 4 = fld w 0 4 := by
  refine fld_congr fun i hi => ?_
  rw [getLsbD_setFld _ _ (by omega)]
  simp only [show ¬ (4 ≤ 0 + i ∧ 0 + i < 4 + 1) by omega]
  simp

/-! ## A bead closes (R245) -/

/-- A bead that is to close closes with its cause, first as it stands in the list. -/
theorem beadClose_head {b : Bead} {bs : List Bead} {c k : Nat} (hf : s.ctl.frameAt = some s.tick) (hb : s.bead.beads = b :: bs)
    (hc : (b.forced = some (c, k) ∧ k ≤ s.tick) ∨ (b.forced = none ∧ s.beadDone b = true ∧ c = 0)) :
    s.beadClose b.port b.rev b.idx = s.closeBead 0 c := by
  unfold State.beadClose
  rw [if_neg (not_not_intro hf), hb, List.findIdx?_cons]
  rcases hc with ⟨h, hk⟩ | ⟨h, hd, rfl⟩
  · simp [h, hk]
  · simp [h, hd]

/-- The state in which a bead has left the table and its span is kept. -/
def beadTaken (s : State) (b : Bead) (bs : List Bead) : State :=
  ({ s with bead := { s.bead with beads := bs } }.touchEntry b.entry).modBeadPort b.port fun w => { w with
    closed := (b.start, b.stop) :: w.closed.filter fun c =>
      decide (rabs (diffX (s.port b.port).len (b.start - c.1)) < 16384 * ((s.port b.port).len : Rat)) }

theorem closeBead_head {b : Bead} {bs : List Bead} (hb : s.bead.beads = b :: bs) (c : Nat) :
    s.closeBead 0 c = match if s.bead.closing = [] then s.spend actBead 8 else none with
      | some v => ({ beadTaken s b bs with budget := v.budget } : State).formRecord b c s.tick
      | none => { (beadTaken s b bs).stall actBead with
          bead := { ((beadTaken s b bs).stall actBead).bead with closing := s.bead.closing ++ [(b, c, s.tick)] } } := by
  unfold State.closeBead
  rw [hb]
  show State.beadRecord ({ s with bead := { s.bead with beads := bs } }.touchEntry b.entry) b c = _
  have hsp := spend_congr (t := beadTaken s b bs) (s := s) rfl actBead 8
  have hr : State.beadRecord ({ s with bead := { s.bead with beads := bs } }.touchEntry b.entry) b c =
      match if s.bead.closing = [] then (beadTaken s b bs).spend actBead 8 else none with
      | some v => v.formRecord b c s.tick
      | none => { (beadTaken s b bs).stall actBead with
          bead := { ((beadTaken s b bs).stall actBead).bead with
            closing := ((beadTaken s b bs).stall actBead).bead.closing ++ [(b, c, s.tick)] } } := rfl
  rw [hr, hsp]
  by_cases hc : s.bead.closing = []
  · rw [if_pos hc, if_pos hc]
    cases s.spend actBead 8 with
    | none => simp only [Option.map_none, stall_bead]; rfl
    | some v => rfl
  · rw [if_neg hc, if_neg hc]
    simp only [stall_bead]
    rfl

/-- A record takes the next sequence number, and with PUB its message goes to egress. -/
theorem formRecord_facts (v : State) (b : Bead) (c : Nat) :
    (v.formRecord b c v.tick).bead.beads = v.bead.beads ∧
      (v.formRecord b c v.tick).bead.seq = (v.bead.seq + 1) % 65536 ∧
      fld (v.formRecord b c v.tick).ctl.irq1 0 1 = 1 ∧
      (fld v.bead.ctl 4 1 = 1 → ∃ r : Rec, r.ty = .bead ∧ (v.formRecord b c v.tick).msg.out = v.msg.out ++ [(2, r)] ∧
        r.data = b.bytes b.emptyQ c ((v.bead.seq + 1) % 65536) (v.tick % 2 ^ 48)) := by
  unfold State.formRecord
  extract_lets seq bytes slot n s1 s2 flags _ _ s3
  have hc : s3.bead.ctl = v.bead.ctl := rfl
  have hi : fld s3.ctl.irq1 0 1 = 1 := fld_or_bit _ 0 (by decide)
  rw [hc]
  split
  next h => exact ⟨rfl, rfl, hi, fun _ => ⟨_, rfl, rfl, rfl⟩⟩
  next h => exact ⟨rfl, rfl, hi, fun h' => absurd h' h⟩

theorem formRecord_frame (v : State) (b : Bead) (c k : Nat) :
    v.formRecord b c k = { v with
      bead := (v.formRecord b c k).bead, ctl := (v.formRecord b c k).ctl, trg := (v.formRecord b c k).trg,
      msg := (v.formRecord b c k).msg } := by
  unfold State.formRecord
  extract_lets seq bytes slot n s1 s2 flags _ _ s3
  split <;> rfl

/-- A close within BEAD's budget forms the record. -/
theorem closeBead_records {b : Bead} {bs : List Bead} (hb : s.bead.beads = b :: bs) (c : Nat) (h : s.bead.closing = [])
    (hu : s.spend actBead 8 = some u) :
    s.closeBead 0 c = ({ beadTaken s b bs with budget := u.budget } : State).formRecord b c s.tick := by
  rw [closeBead_head hb, if_pos h, hu]

/-- A close with BEAD's budget spent, or behind another that waits, lets the record wait. -/
theorem closeBead_waits {b : Bead} {bs : List Bead} (hb : s.bead.beads = b :: bs) (c : Nat)
    (h : s.bead.closing ≠ [] ∨ s.spend actBead 8 = none) :
    s.closeBead 0 c = { (beadTaken s b bs).stall actBead with
      bead := { ((beadTaken s b bs).stall actBead).bead with closing := s.bead.closing ++ [(b, c, s.tick)] } } := by
  have hn : (if s.bead.closing = [] then s.spend actBead 8 else none) = none := by
    rcases h with h | h
    · exact if_neg h
    · rw [h]; exact ite_self _
  rw [closeBead_head hb, hn]

/-! ## A bead opens late (R230) -/

/-- The bead that opens late for `w`. -/
def lateBead (v : State) (p : Nat) (w : WaitBead) : Bead :=
  { v.newBead p w.rev w.idx 1 with
    nGap := min 65535 w.nGap, nMoistX := min 65535 w.nMoistX
    bins := w.obs.map fun (i, d) => (i, { obs := d : Bin }) }

/-- A bead that opens late is INCOMPLETE. -/
theorem newBead_incomplete (v : State) (p rev idx : Nat) : fld (v.newBead p rev idx 1).flags 0 1 = 1 := by
  have h (a b c : Word) : fld (1 ||| a ||| b ||| c) 0 1 = 1 :=
    (fld_congr (w := 1) fun i hi => by simp [show i = 0 by omega]).trans (by decide)
  exact h _ _ _

/-- A bead that waited opens at the end of the table. -/
theorem beadLateOpen_opens {p : Nat} {w : WaitBead} {ws : List WaitBead} (hl : s.bead.beads.length < 48)
    (hw : (s.beadPort p).wait = w :: ws) :
    ∃ b, (s.beadLateOpen p).bead.beads = s.bead.beads ++ [b] ∧ b.port = p ∧ b.rev = w.rev ∧ b.idx = w.idx ∧
      b.openTick = s.tick ∧ fld b.flags 0 1 = 1 ∧ (s.beadLateOpen p).bead.late = true ∧
      ((s.beadLateOpen p).beadPort p).wait = ws ∧
      s.beadLateOpen p = { s with bead := (s.beadLateOpen p).bead, msg := (s.beadLateOpen p).msg } := by
  unfold State.beadLateOpen
  rw [if_neg (Nat.not_le.mpr hl), hw]
  dsimp -zeta only
  extract_lets q late apart s1 _ b _ s2 ds
  have hw1 : (s1.beadPort p).wait = ws := by rw [beadPort_modBeadPort]
  have h2 : (s2.beadPort p).wait = ws := hw1
  have hf : fld b.flags 0 1 = 1 := newBead_incomplete ..
  have hs : s2 = { s with bead := s2.bead } := rfl
  have hb : s2.bead.beads = s.bead.beads ++ [b] := rfl
  have hlate : s2.bead.late = true := rfl
  rw [lose_eq]
  refine ⟨b, hb, rfl, rfl, rfl, rfl, hf, hlate, h2, ?_⟩
  generalize (s2.lose _ _ _ _ _ _).msg = g
  exact congrArg (fun v : State => { v with msg := g }) hs

/-- Settles O35: what BEAD_CTL, a close and a late open do to the beads. -/
theorem beadsOpenAndClose : Obligations.BeadsOpenAndClose := by
  refine ⟨fun m ports pub s hd => ⟨fun h => ?_, fun h hc => ?_⟩,
    fun p rev idx s b bs c k hr hf hb hp hrev hidx hc => ⟨fun u h0 hu => ?_, fun h => ?_⟩, fun p s w ws hr hl hw => ?_⟩
  · have hw := congrArg (ok s) ((writeCycle_beadPorts hd ports pub).trans
      (congrArg (fun t : State => t.ack m true) (beadPortsWrite_taken pub h)))
    exact hw.trans (ok_next s _ (by simp) (by simp))
  · have hw := congrArg (ok s) ((writeCycle_beadPorts hd ports pub).trans
      (congrArg (fun t : State => t.ack m true) (beadPortsWrite_refused pub h hc)))
    refine ⟨_, hw.trans (ok_next s _ (by simp [portsRefused]) (by simp [portsRefused])), ?_, ?_, ?_⟩
    · rw [ack_bead, logE_bead]; rfl
    · rw [ack_bead, logE_bead]; exact fld_setPub _ pub
    · rw [ack_bead, logE_bead]; rfl
  · have hx := beadClose_head hf hb hc
    rw [hp, hrev, hidx, closeBead_records hb c h0 hu] at hx
    have hfr := hx.trans (formRecord_frame ..)
    obtain ⟨h1, h2, h3, h4⟩ := formRecord_facts { beadTaken s b bs with budget := u.budget } b c
    have hn : exec (.beadClose p rev idx) s = .next (s.beadClose p.val rev idx) :=
      live_next hr (by rw [hfr]; rfl) (by rw [hfr]; rfl)
    rw [hx] at hn
    exact ⟨_, hn, h1, h2, h3, by rw [formRecord_frame]; rfl, by rw [formRecord_frame]; rfl, by rw [formRecord_frame]; rfl, h4⟩
  · have hx := beadClose_head hf hb hc
    rw [hp, hrev, hidx, closeBead_waits hb c h] at hx
    have hn : exec (.beadClose p rev idx) s = .next (s.beadClose p.val rev idx) :=
      live_next hr (by rw [hx]; exact stall_pending ..) (by rw [hx]; exact stall_life ..)
    refine ⟨_, hn.trans (congrArg _ hx), ?_, ?_, rfl, stall_msg .., stall_facets ..⟩
    · exact (congrArg BeadSt.beads (stall_bead (beadTaken s b bs) actBead) :)
    · exact (congrArg BeadSt.seq (stall_bead (beadTaken s b bs) actBead) :)
  · obtain ⟨b, h1, h2, h3, h4, h5, h6, h7, h8, h9⟩ := beadLateOpen_opens hl hw
    exact ⟨_, b, live_next hr (by rw [h9]) (by rw [h9]), h1, h2, h3, h4, h5, h6, h7, h8, h9⟩

/-! ## The loss that is recorded (R277) -/

/-- The first loss that is over is the one that is recorded. -/
theorem findIdx?_over {pre post : List Loss} {g : Loss} {p : Loss → Bool} (hpre : ∀ l ∈ pre, p l = false) (hg : p g = true) :
    (pre ++ g :: post).findIdx? p = some pre.length := by
  rw [List.findIdx?_append, List.findIdx?_eq_none_iff.mpr hpre, List.findIdx?_cons, if_pos hg]
  simp

theorem loss_over {g : Loss} {k : Nat} (h : g.until_ < k ∨ 4000 ≤ g.len ∨ g.cause ∈ [2, 6, 7]) : g.over k = true := by
  unfold Loss.over
  by_cases ho : ownRecord g.cause = true
  · rw [ho, Bool.or_true]
  · have hl : g.limit = 4000 := if_neg ho
    have hc : g.cause ∉ [2, 6, 7] := by simpa [ownRecord, or_assoc] using ho
    rw [hl]
    simp only [Bool.or_eq_true, decide_eq_true_eq]
    exact .inl (by tauto)

/-- What is left of the losses once the loss after `pre` has been recorded. -/
def lossesLeft (pre post : List Loss) (g : Loss) : List Loss :=
  if g.limit < g.len then pre ++ { g with start := g.start + g.limit, len := g.len - g.limit } :: post else pre ++ post

theorem gapRecord_forms {pre post : List Loss} {g : Loss} (h : s.msg.losses = pre ++ g :: post)
    (hpre : ∀ l ∈ pre, l.over s.tick = false) (hg : g.over s.tick = true) :
    s.gapRecord = { s with msg := { s.msg with losses := lossesLeft pre post g } }.formGap { g with len := min g.len g.limit } := by
  unfold State.gapRecord
  rw [h, findIdx?_over hpre hg]
  dsimp only
  rw [show (pre ++ g :: post)[pre.length]? = some g by simp]
  have hs (x : Loss) : (pre ++ g :: post).set pre.length x = pre ++ x :: post := by
    rw [List.set_append_right _ _ (le_refl _)]; simp
  have he : (pre ++ g :: post).eraseIdx pre.length = pre ++ post := by
    rw [List.eraseIdx_append_of_length_le (le_refl _)]; simp
  dsimp only
  rw [hs, he]
  rfl

theorem lossesLeft_divided {pre post : List Loss} {g : Loss} (hl : 4000 < g.len) (hc : g.cause ∉ [2, 6, 7]) :
    lossesLeft pre post g = pre ++ { g with start := g.start + 4000, len := g.len - 4000 } :: post := by
  have h : g.limit = 4000 := if_neg (by simpa [ownRecord, or_assoc] using hc)
  unfold lossesLeft
  rw [h, if_pos hl]

theorem lossesLeft_whole {pre post : List Loss} {g : Loss} (h : g.len ≤ 4000 ∨ (g.cause ∈ [2, 6, 7] ∧ g.len < 2 ^ 32)) :
    lossesLeft pre post g = pre ++ post := by
  refine if_neg (Nat.not_lt.mpr ?_)
  unfold Loss.limit
  rcases h with h | ⟨hc, hl⟩
  · split <;> omega
  · rw [if_pos (by simpa [ownRecord, or_assoc] using hc)]
    omega

/-! ## The record of a loss (R276, R277) -/

/-- The state in which the loss stands in the log, where its cause is one that is logged. -/
def gapLogged (s : State) (g : Loss) : State :=
  if g.cause = 1 ∨ g.cause = 2 ∨ g.cause = 6 then
    s.logE 8 noMaster g.first (BitVec.ofNat 32 (g.cause * 2 ^ 24 + min g.len (2 ^ 24 - 1)))
  else s

theorem gapLogged_eq (s : State) (g : Loss) :
    gapLogged s g = { s with log := (gapLogged s g).log, logSeq := (gapLogged s g).logSeq } := by
  unfold gapLogged
  split
  · exact logE_eq ..
  · rfl

/-- The state in which the next gap number is taken. -/
def gapNumbered (v : State) : State :=
  State.irq0 { v with msg := { v.msg with seq := { v.msg.seq with gap := (v.msg.seq.gap + 1) % 65536 } } } 5

/-- Form the record on the state in which the loss is logged. -/
def gapFormed (v : State) (p made : Nat) (g : Loss) : State :=
  match (v.canPort p).held with
  | some h => (v.modCanPort p fun c => { c with held := some (h.merge g made) }).irq0 5
  | none =>
    if gapReserve ≤ (gapNumbered v).gapsStaged p + (v.msg.out.filter fun x => x.2.ty == .gap).length then
      (gapNumbered v).modCanPort p fun c => { c with held := some { gap := g, seq := (v.msg.seq.gap + 1) % 65536, made } }
    else
      let w := (gapNumbered v).streamGap ((v.msg.seq.gap + 1) % 65536) g made
      { w with msg := { w.msg with out := w.msg.out ++ [(2, w.gapRec ((v.msg.seq.gap + 1) % 65536) g made)] } }

theorem formGap_eq (s : State) (g : Loss) : s.formGap g = gapFormed (gapLogged s g) (s.routeOf .gap 2) s.tick g := rfl

/-- Only the queue of the host stream takes the record too. -/
theorem streamGap_only (s : State) (k : Nat) (g : Loss) (n : Nat) :
    s.streamGap k g n = { s with cap := (s.streamGap k g n).cap } := by
  unfold State.streamGap
  split
  · exact (flushGaps_grows _ s).2
  · rfl

theorem streamGap_off (h : s.cap.hsRun = false) (hs : s.cap.st ≠ .stream) (k : Nat) (g : Loss) (n : Nat) :
    s.streamGap k g n = s := if_neg (by simp [h, hs])

/-- A record changes the messages, the ports, the stream queue and the interrupt alone. -/
theorem gapFormed_frame (v : State) (p made : Nat) (g : Loss) :
    gapFormed v p made g = { v with
      msg := (gapFormed v p made g).msg, can := (gapFormed v p made g).can, cap := (gapFormed v p made g).cap,
      ctl := { v.ctl with irq0 := v.ctl.irq0 ||| w16 (2 ^ 5) } } ∧
    (gapFormed v p made g).msg.losses = v.msg.losses := by
  unfold gapFormed
  cases (v.canPort p).held with
  | some h => exact ⟨rfl, rfl⟩
  | none =>
    dsimp only
    split
    · exact ⟨rfl, rfl⟩
    · rw [streamGap_only]
      exact ⟨rfl, rfl⟩

theorem gapFormed_merged {v : State} {p : Nat} {h : HeldGap} (hh : (v.canPort p).held = some h) (made : Nat) (g : Loss) :
    gapFormed v p made g = (v.modCanPort p fun c => { c with held := some (h.merge g made) }).irq0 5 := by
  unfold gapFormed
  rw [hh]

theorem gapFormed_new {v : State} {p : Nat} (hh : (v.canPort p).held = none) (made : Nat) (g : Loss) :
    (gapFormed v p made g).msg.seq.gap = (v.msg.seq.gap + 1) % 65536 ∧
      ((∃ r : Rec, r.ty = .gap ∧ (gapFormed v p made g).msg.out = v.msg.out ++ [(2, r)] ∧
          r.data = gapBody ((v.msg.seq.gap + 1) % 65536) g made) ∨
        ((gapFormed v p made g).canPort p).held = some { gap := g, seq := (v.msg.seq.gap + 1) % 65536, made }) := by
  unfold gapFormed
  rw [hh]
  dsimp only
  split
  · exact ⟨rfl, .inr (by rw [canPort_modCanPort])⟩
  · rw [streamGap_only]
    exact ⟨rfl, .inl ⟨_, rfl, rfl, rfl⟩⟩

/-! ## A held record is staged (R277) -/

theorem irq0_canPort (s : State) (b p : Nat) : (s.irq0 b).canPort p = s.canPort p := rfl

/-- The state in which the held record is in the staging of its port. -/
def gapStaged (u : State) (p : Nat) (h : HeldGap) : State :=
  (u.modCanPort p fun c => { c with held := none }).stageRec p (u.gapRec h.seq h.gap h.made)

theorem gapStaged_canPort (u : State) (p : Nat) (h : HeldGap) : (gapStaged u p h).canPort p =
    { u.canPort p with held := none, staging := (u.canPort p).staging ++ [u.gapRec h.seq h.gap h.made] } := by
  unfold gapStaged State.stageRec
  rw [canPort_modCanPort, canPort_modCanPort]

theorem gapHeldQueue_staged {p : Nat} {h : HeldGap} (hh : (s.canPort p).held = some h) (hroom : s.hasRoom p .gap = true)
    (hu : s.spend actEgr 3 = some u) :
    s.gapHeldQueue p = (gapStaged u p h).streamGap h.seq h.gap h.made := by
  unfold State.gapHeldQueue
  rw [hh, hroom, hu]
  rfl

theorem gapHeldQueue_full {p : Nat} {h : HeldGap} (hh : (s.canPort p).held = some h) (hroom : s.hasRoom p .gap = false) :
    s.gapHeldQueue p = s := by
  unfold State.gapHeldQueue
  rw [hh, hroom]
  rfl

theorem gapHeldQueue_spent {p : Nat} {h : HeldGap} (hh : (s.canPort p).held = some h) (hroom : s.hasRoom p .gap = true)
    (hu : s.spend actEgr 3 = none) : s.gapHeldQueue p = s.stall actEgr := by
  unfold State.gapHeldQueue
  rw [hh, hroom, hu]
  rfl

/-- What the record of a loss leaves, the loss logged first. -/
theorem formGap_logged (s : State) (g : Loss) :
    s.formGap g = { s with
      log := (gapLogged s g).log, logSeq := (gapLogged s g).logSeq, msg := (s.formGap g).msg, can := (s.formGap g).can,
      cap := (s.formGap g).cap, ctl := { s.ctl with irq0 := s.ctl.irq0 ||| w16 (2 ^ 5) } } ∧
    (s.formGap g).msg.losses = s.msg.losses := by
  obtain ⟨h1, h2⟩ := gapFormed_frame (gapLogged s g) (s.routeOf .gap 2) s.tick g
  rw [formGap_eq]
  have h := gapLogged_eq s g
  generalize gapLogged s g = v at h h1 h2 ⊢
  exact ⟨by rw [h1, h], by rw [h2, h]⟩

theorem gapLogged_canPort (s : State) (g : Loss) (p : Nat) : (gapLogged s g).canPort p = s.canPort p := by
  rw [gapLogged_eq]; rfl

theorem gapLogged_msg (s : State) (g : Loss) : (gapLogged s g).msg = s.msg := by
  rw [gapLogged_eq]

/-- With no record held the loss takes the next gap number, with one held it merges into that one. -/
theorem formGap_held (s : State) (g : Loss) :
    ((s.canPort (s.routeOf .gap 2)).held = none → (s.formGap g).msg.seq.gap = (s.msg.seq.gap + 1) % 65536 ∧
      ((∃ r : Rec, r.ty = .gap ∧ (s.formGap g).msg.out = s.msg.out ++ [(2, r)] ∧
          r.data = gapBody ((s.msg.seq.gap + 1) % 65536) g s.tick) ∨
        ((s.formGap g).canPort (s.routeOf .gap 2)).held =
          some { gap := g, seq := (s.msg.seq.gap + 1) % 65536, made := s.tick })) ∧
    ∀ h, (s.canPort (s.routeOf .gap 2)).held = some h → (s.formGap g).msg = s.msg ∧
      ((s.formGap g).canPort (s.routeOf .gap 2)).held = some (h.merge g s.tick) := by
  rw [formGap_eq]
  refine ⟨fun hh => ?_, fun h hh => ?_⟩
  · have := gapFormed_new ((congrArg CanPort.held (gapLogged_canPort s g _)).trans hh) s.tick g
    rwa [gapLogged_msg] at this
  · rw [gapFormed_merged ((congrArg CanPort.held (gapLogged_canPort s g _)).trans hh)]
    exact ⟨gapLogged_msg s g, by
      rw [irq0_canPort, canPort_modCanPort]⟩

/-- A loss of acquisition, of a step or of a calibration is entered in the log, another is not. -/
theorem gapLogged_log (s : State) (g : Loss) :
    (g.cause ∈ [1, 2, 6] → ∃ e, Store.get none (gapLogged s g).log (((gapLogged s g).logSeq + 65535) % 65536 % 256) = some e ∧
      e.code = 8) ∧ (g.cause ∉ [1, 2, 6] → (gapLogged s g).log = s.log) := by
  unfold gapLogged
  refine ⟨fun h => ?_, fun h => ?_⟩
  · rw [if_pos (by simpa using h)]
    exact logE_newest ..
  · rw [if_neg (by simpa using h)]

/-- Settles O37: the oldest loss that is over is recorded, and a held record is staged once there is room and budget. -/
theorem gapsAreRecorded : Obligations.GapsAreRecorded := by
  refine ⟨fun s pre post g hr hl hpre hg => ?_, fun p s h hh => ⟨fun u hroom hu => ?_, fun hroom => ?_, fun hroom hu => ?_⟩⟩
  · have hx := gapRecord_forms hl hpre (loss_over hg)
    obtain ⟨h1, h2⟩ := formGap_logged { s with msg := { s.msg with losses := lossesLeft pre post g } }
      { g with len := min g.len g.limit }
    obtain ⟨h3, h4⟩ := formGap_held { s with msg := { s.msg with losses := lossesLeft pre post g } }
      { g with len := min g.len g.limit }
    obtain ⟨h5, h6⟩ := gapLogged_log { s with msg := { s.msg with losses := lossesLeft pre post g } }
      { g with len := min g.len g.limit }
    rw [← hx] at h1 h2 h3 h4
    have hn : exec .gapRecord s = .next s.gapRecord := live_next hr (by rw [h1]) (by rw [h1])
    refine ⟨_, hn, ?_, by rw [h1], by rw [h1], by rw [h1], fun h h' => h2.trans (lossesLeft_divided h h'),
      fun h => h2.trans (lossesLeft_whole h), fun h => ?_, fun h => ?_, fun h => ?_, fun h hh => ?_⟩
    · rw [h1]
      exact fld_or_bit _ 5 (by decide)
    · rw [h1]
      exact h5 h
    · rw [h1]
      exact h6 h
    · obtain ⟨k1, k2⟩ := h3 h
      exact ⟨k1, k2.imp id fun k => ⟨_, k, rfl, rfl, rfl⟩⟩
    · obtain ⟨k1, k2⟩ := h4 h hh
      rw [k1]
      exact ⟨rfl, rfl, _, k2, rfl, rfl, rfl, rfl, rfl⟩
  · have hx := gapHeldQueue_staged hh hroom hu
    have hf := streamGap_only (gapStaged u p h) h.seq h.gap h.made
    rw [← hx] at hf
    have hsu := spend_some hu
    have hs : gapStaged u p h = { s with budget := u.budget, can := (gapStaged u p h).can } :=
      congrArg (fun v : State => { v with can := (gapStaged u p h).can }) hsu
    have hc : (s.gapHeldQueue p).canPort p = (gapStaged u p h).canPort p := by rw [hf]; rfl
    have hu' : u.canPort p = s.canPort p := by rw [hsu]; rfl
    rw [gapStaged_canPort, hu'] at hc
    have ht : s.gapHeldQueue p = { s with budget := u.budget, can := (gapStaged u p h).can, cap := (s.gapHeldQueue p).cap } :=
      hf.trans (congrArg (fun v : State => { v with cap := (s.gapHeldQueue p).cap }) hs)
    have hn : exec (.gapHeldRecordQueue p) s = .next (s.gapHeldQueue p) := ok_next s _ (by rw [ht]) (by rw [ht])
    refine ⟨_, hn, by rw [hc], by rw [hc], ht.trans (by rw [show (s.gapHeldQueue p).can = (gapStaged u p h).can by rw [ht]]),
      fun h1 h2 => ?_⟩
    have hcap : (gapStaged u p h).cap = s.cap := by rw [hs]
    rw [hx, streamGap_off (by rw [hcap]; exact h1) (by rw [hcap]; exact h2), hcap]
  · exact (congrArg (ok s) (gapHeldQueue_full hh hroom)).trans (ok_next s s rfl rfl)
  · have hx := gapHeldQueue_spent hh hroom hu
    refine ⟨_, (congrArg (ok s) hx).trans (ok_next s _ (by simp) (by simp)), ?_, stall_eq ..⟩
    rw [stall_eq]
    exact hh

/-! ## A record goes to staging (R311, R434) -/

theorem spend_msg (s : State) (x : MsgSt) (a n : Nat) :
    State.spend { s with msg := x } a n = (s.spend a n).map fun u => { s with msg := x, budget := u.budget } :=
  spend_congr (t := { s with msg := x }) (s := s) rfl a n

theorem setCanPort_spent {a n : Nat} (hu : s.spend a n = some u) (p : Nat) (c : CanPort) :
    u.setCanPort p c = { s with can := (u.setCanPort p c).can, budget := u.budget } :=
  congrArg (fun v : State => { v with can := (u.setCanPort p c).can }) (spend_some hu)

theorem captSent_still (h : s.cap.sending = false) : s.captSent = s := if_neg (by simp [h])

/-- The oldest record formed, an alarm, is staged while there is budget and room. -/
theorem egressStaging_stages {q : Nat} {r : Rec} {rest : List (Nat × Rec)} (h : s.msg.out = (q, r) :: rest) (hr : r.ty = .alarm)
    (hf : s.tick / 4 ≤ r.frame + 1) (hu : s.spend actEgr ((r.data.length + 7) / 8) = some u)
    (hroom : s.hasRoom (s.routeOf .alarm q) .alarm = true) (hc : s.cap.sending = false) :
    s.egressStaging = State.stageRec { s with msg := { s.msg with out := rest }, budget := u.budget } (s.routeOf .alarm q) r := by
  have hsp : State.spend { s with msg := { s.msg with out := rest } } actEgr ((r.data.length + 7) / 8) =
      some { s with msg := { s.msg with out := rest }, budget := u.budget } :=
    (spend_msg ..).trans (by rw [hu]; rfl)
  unfold State.egressStaging
  rw [h]
  dsimp -zeta only
  extract_lets _ _ p cost
  have hp : p = s.routeOf .alarm q := congrArg (fun y => s.routeOf y q) hr
  have hcost : cost = (r.data.length + 7) / 8 := if_neg (by rw [hr]; decide)
  have hroom' : State.hasRoom { s with msg := { s.msg with out := rest }, budget := u.budget } p r.ty = true := by
    rw [hp, hr]; exact hroom
  rw [if_neg (by omega), hcost, hsp]
  dsimp only
  rw [if_pos hroom', captSent_still (by exact hc), hp]

/-- With EGR's budget spent the record waits. -/
theorem egressStaging_waits {q : Nat} {r : Rec} {rest : List (Nat × Rec)} (h : s.msg.out = (q, r) :: rest) (hr : r.ty = .alarm)
    (hf : s.tick / 4 ≤ r.frame + 1) (hu : s.spend actEgr ((r.data.length + 7) / 8) = none) :
    s.egressStaging = s.stall actEgr := by
  have hsp : State.spend { s with msg := { s.msg with out := rest } } actEgr ((r.data.length + 7) / 8) = none :=
    (spend_msg ..).trans (by rw [hu]; rfl)
  unfold State.egressStaging
  rw [h]
  dsimp -zeta only
  extract_lets _ _ p cost
  have hcost : cost = (r.data.length + 7) / 8 := if_neg (by rw [hr]; decide)
  rw [if_neg (by omega), hcost, hsp]

/-! ## A staged record is loaded (R336) -/

/-- The mailbox that a record is loaded into. -/
def recordBox (b : Mailbox) (r : Rec) : Mailbox :=
  { b with frame := deviceFrame r.ident r.data, record := some r, full := true, released := true }

theorem mailboxLoad_loads {p : Nat} {r : Rec} {rest : List Rec} (ha : s.available p = true) (hc : s.candev.active = none)
    (hs : (s.canPort p).staging = r :: rest) (h0 : ((s.canPort p).mbox (pairOf r.ty)).full = false)
    (h1 : ((s.canPort p).mbox (pairOf r.ty + 1)).full = false) (hu : s.spend actEgr 9 = some u) :
    s.mailboxLoad p = u.setCanPort p { (s.canPort p).setMbox (pairOf r.ty)
      (recordBox ((s.canPort p).mbox (pairOf r.ty)) r) with staging := rest } := by
  have hi : (r :: rest).findIdx? (fun r => !(s.candev.active == some p && isMoved r.ty) &&
      (!((s.canPort p).mbox (pairOf r.ty)).full || !((s.canPort p).mbox (pairOf r.ty + 1)).full)) = some 0 := by
    rw [List.findIdx?_cons, hc, h0]
    rfl
  have hcu : u.candev.active = none := by rw [spend_some hu]; exact hc
  unfold State.mailboxLoad
  extract_lets c _ v _
  have hv : v = u.setCanPort p { (s.canPort p).setMbox (pairOf r.ty)
      (recordBox ((s.canPort p).mbox (pairOf r.ty)) r) with staging := rest } := by
    show (if (!s.available p) = true then _ else _) = _
    rw [if_neg (by rw [ha]; simp), show c.staging = r :: rest from hs, hi]
    dsimp only [List.getElem?_cons_zero]
    rw [hu]
    dsimp only
    rw [if_neg (by rw [h0]; simp), if_pos rfl, h1]
    rfl
  rw [hv, setCanPort_candev, hcu]

/-! ## HBEAT (R336) -/

/-- HBEAT of one port takes the port's next number. -/
theorem hbeatOn_facts (v : State) (p k : Nat) : ∃ r : Rec, r.ty = .hbeat ∧ (v.hbeatOn p k).msg.out = v.msg.out ++ [(p, r)] ∧
    ((v.hbeatOn p k).canPort p).hSeq = ((v.canPort p).hSeq + 1) % 65536 ∧
    (∀ q, q ≠ p → (v.hbeatOn p k).canPort q = v.canPort q) ∧
    v.hbeatOn p k = { v with can := (v.hbeatOn p k).can, msg := (v.hbeatOn p k).msg } := by
  unfold State.hbeatOn
  generalize v.hbeatBody p k = body
  refine ⟨_, rfl, rfl, ?_, fun q hq => ?_, rfl⟩
  · exact congrArg CanPort.hSeq (canPort_modCanPort v p fun c => { c with hSeq := (c.hSeq + 1) % 65536 })
  · exact canPort_setCanPort_other v _ hq

/-- Settles O41: records go to staging, into mailboxes, and HBEAT is formed for both ports. -/
theorem recordsReachTheBus : Obligations.RecordsReachTheBus := by
  refine ⟨fun s q r rest h hr hf => ⟨fun u hu hroom hc => ?_, fun hu => ?_⟩, fun p s u r rest ha hc hs h0 h1 hu => ?_,
    fun s hr hb hd => ?_⟩
  · refine ⟨_, (congrArg (ok s) (egressStaging_stages h hr hf hu hroom hc)).trans (ok_next s _ rfl rfl), rfl, ?_, rfl⟩
    exact congrArg CanPort.staging (canPort_modCanPort ..)
  · refine ⟨_, (congrArg (ok s) (egressStaging_waits h hr hf hu)).trans (ok_next s _ (by simp) (by simp)), ?_, ?_⟩
    · exact stall_msg ..
    · exact stall_can ..
  · have hx := mailboxLoad_loads ha hc hs h0 h1 hu
    have hb : (({ (s.canPort p.val).setMbox (pairOf r.ty) (recordBox ((s.canPort p.val).mbox (pairOf r.ty)) r) with
        staging := rest } : CanPort).mbox (pairOf r.ty)) = recordBox ((s.canPort p.val).mbox (pairOf r.ty)) r :=
      mbox_setMbox ..
    have hf : s.mailboxLoad p.val = { s with can := (s.mailboxLoad p.val).can, budget := u.budget } := by
      rw [hx]
      exact setCanPort_spent hu ..
    refine ⟨_, ok_next s _ (by rw [hf]) (by rw [hf]), ?_, ?_, ?_, ?_, ?_, hf⟩ <;> rw [hx, canPort_setCanPort]
    all_goals rw [hb]; rfl
  · change ∃ t, ok s s.hbeatSend = .next t ∧ _
    have hx : s.hbeatSend = State.hbeatOn (State.hbeatOn { s with ctl := { s.ctl with hbeatAt := some s.tick } } 0
        (s.msgTick s.tick)) 1 (s.msgTick s.tick) := by
      refine if_neg ?_
      have hd' : (if s.unset = true then decide (s.life.lTick < s.tick) && (s.tick - s.life.lTick) % 4000 == 0
          else s.tick % 4000 == 0) = true := by
        split at hd
        next h => rw [if_pos h]; simpa using hd
        next h => rw [if_neg h]; simpa using hd
      rw [hr, hd']
      simpa using hb
    obtain ⟨a, a1, a2, a3, a4, a5⟩ := hbeatOn_facts { s with ctl := { s.ctl with hbeatAt := some s.tick } } 0 (s.msgTick s.tick)
    rw [hx]
    generalize State.hbeatOn { s with ctl := { s.ctl with hbeatAt := some s.tick } } 0 (s.msgTick s.tick) = v at a2 a3 a4 a5 ⊢
    obtain ⟨b, b1, b2, b3, b4, b5⟩ := hbeatOn_facts v 1 (s.msgTick s.tick)
    generalize v.hbeatOn 1 (s.msgTick s.tick) = w at b2 b3 b4 b5 ⊢
    have hw : w = { s with can := w.can, msg := w.msg, ctl := { s.ctl with hbeatAt := some s.tick } } :=
      b5.trans (congrArg (fun v : State => { v with can := w.can, msg := w.msg }) a5)
    have h0 (k : Nat) : State.canPort { s with ctl := { s.ctl with hbeatAt := some s.tick } } k = s.canPort k := rfl
    refine ⟨w, ok_next s w (by rw [hw]) (by rw [hw]), by rw [hw], fun k hk => ?_, ⟨a, b, a1, b1, ?_⟩, hw⟩
    · interval_cases k
      · rw [b4 0 (by decide), a3, h0]
      · rw [b3, a4 1 (by decide), h0]
    · rw [b2, a2]
      simp

end Sys2Proof.Proofs
end

section
/-! PROPERTY. The states of a CAN port, and its frames (O42, O43). -/

namespace Sys2Proof.Proofs

open Sys2Proof Sys2Proof.Machine Sys2Proof.Laws

-- one proof at a time: the text is compiled as a whole, and the proofs side by side would need too much memory
set_option Elab.async false

variable {s t u : State} {m : Master}

/-! ## Writes of CAN_CTL (R285, R286, R307) -/

/-- The mode that a write of CAN_CTL asks for, or the one that stands where it asks for none. -/
def askedMode (old v : Word) : Nat := if fld v 1 3 ≤ 4 then fld v 1 3 else fld old 1 3

theorem rwMerge_canCtl (old v : Word) : rwMerge 0x61 old v =
    setFld (setFld (setFld 0 0 1 (fld v 0 1)) 1 3 (askedMode old v)) 4 4 (fld v 4 4) := by
  have h : rwMerge 0x61 old v = setFld (if decide (fld v 1 3 ≤ 4) = true then setFld (setFld 0 0 1 (fld v 0 1)) 1 3 (fld v 1 3)
      else setFld (setFld 0 0 1 (fld v 0 1)) 1 3 (fld old 1 3)) 4 4 (fld v 4 4) := rfl
  rw [h]
  unfold askedMode
  by_cases hv : fld v 1 3 ≤ 4 <;> simp only [hv, decide_true, decide_false, if_true, if_false, Bool.false_eq_true]

/-- The fields of the word that a write of CAN_CTL stores. -/
theorem fld_rwMerge_canCtl (old v : Word) : fld (rwMerge 0x61 old v) 0 1 = fld v 0 1 ∧
    fld (rwMerge 0x61 old v) 1 3 = askedMode old v ∧ fld (rwMerge 0x61 old v) 8 1 = 0 := by
  have hl (w : Word) (a n : Nat) (hn : n ≤ 16) : fld w a n % 2 ^ n = fld w a n := Nat.mod_eq_of_lt (fld_lt w a n)
  have ha : askedMode old v % 2 ^ 3 = askedMode old v := by
    unfold askedMode
    split <;> exact hl _ _ _ (by decide)
  rw [rwMerge_canCtl]
  refine ⟨?_, ?_, ?_⟩
  · rw [fld_setFld_other _ _ (by decide) (by decide), fld_setFld_other _ _ (by decide) (by decide), fld_setFld_self _ _ (by decide)]
    exact hl _ _ _ (by decide)
  · rw [fld_setFld_other _ _ (by decide) (by decide), fld_setFld_self _ _ (by decide), ha]
  · rw [fld_setFld_other _ _ (by decide) (by decide), fld_setFld_other _ _ (by decide) (by decide),
      fld_setFld_other _ _ (by decide) (by decide)]
    rfl

/-- The state that a write of CAN_CTL comes to, and the word that it stores there. -/
def canCtlStored (s : State) (m : Master) (v : Word) : State :=
  (valuesChecked s m 0x61 v).canCtlWrite m (s.master m).canSel (rwMerge 0x61 (s.canPort (s.master m).canSel).ctl v)

theorem valuesChecked_canPort (s : State) (m : Master) (v : Word) (p : Nat) :
    (valuesChecked s m 0x61 v).canPort p = s.canPort p := by
  rw [(valuesChecked_ends s m 0x61 v).eq]
  rfl

theorem stored_canCtl (s : State) (m : Master) (v : Word) :
    stored (valuesChecked s m 0x61 v) m 0x61 v = canCtlStored s m v := by
  have hs (t : State) (w : Word) : t.regStore m 0x61 w v = t.canCtlWrite m (t.master m).canSel w := rfl
  have hw (t : State) : t.regWord m 0x61 = (t.canPort (t.master m).canSel).ctl := rfl
  unfold stored canCtlStored
  rw [hs, hw, (valuesChecked_ends s m 0x61 v).master, valuesChecked_canPort]

/-- A write of CAN_CTL without RECOVER. -/
theorem writeCycle_canCtl {v : Word} (h : s.directs m 0x61) (hd : s.canDead (s.master m).canSel = false)
    (hv : v &&& 0x0100 = 0) : s.writeCycle m 0x61 v = (canCtlStored s m v).ack m true := by
  rw [writeCycle_direct s v h (by decide) rfl, ← stored_canCtl]
  refine congrArg (fun t : State => t.ack m true) ?_
  have hn : ¬ (v &&& nowMask 0x61 ≠ 0 ∨ (0x61 : Nat) = 0x0B) := by
    rw [show nowMask 0x61 = 0x0100 from rfl, hv]
    decide
  have hp : s.portIgnores m 0x61 = false := by simp [State.portIgnores, hd]
  have h54 : ¬ (0x61 : Nat) = 0x54 := by decide
  have hf : rwFields 0x61 ≠ [] := by simp [rwFields]
  have hc : ((0x61 : Nat) != 0x0C) = true := by decide
  simp only [State.regDirect, hp, hn, hf, hc, State.afterAccess, h54, valuesChecked, stored, if_false, Bool.and_true, and_false,
    Bool.false_eq_true]

/-! ## What INIT, modes and states change at their port -/

/-- Port `p` alone has changed of the ports; the queue, the life, the masters, CANCLK and the clock stand. -/
structure AtPort (p : Nat) (s u : State) : Prop where
  others : ∀ q, q ≠ p → u.canPort q = s.canPort q
  pending : u.pending = s.pending
  life : u.life = s.life
  candev : u.candev = s.candev
  master : ∀ n, u.master n = s.master n

namespace AtPort

variable {p : Nat}

theorem refl (s : State) : AtPort p s s := ⟨fun _ _ => rfl, rfl, rfl, rfl, fun _ => rfl⟩

theorem trans (h1 : AtPort p s t) (h2 : AtPort p t u) : AtPort p s u :=
  ⟨fun q hq => (h2.others q hq).trans (h1.others q hq), h2.pending.trans h1.pending, h2.life.trans h1.life,
    h2.candev.trans h1.candev, fun n => (h2.master n).trans (h1.master n)⟩

theorem ite {c : Prop} [Decidable c] (h1 : AtPort p s t) (h2 : AtPort p s u) : AtPort p s (if c then t else u) := by
  split
  · exact h1
  · exact h2

/-- An event that leaves the ports changes none of them. -/
theorem received (h : Received s u) (hp : ∀ q, q ≠ p → u.canPort q = s.canPort q) : AtPort p s u := by
  refine ⟨hp, ?_, ?_, ?_, fun n => ?_⟩
  · rw [h.eq]
  · rw [h.eq]
  · rw [h.eq]
  · rw [h.eq]; cases n <;> rfl

end AtPort

section
variable (s : State) (p : Nat)

theorem setCanPort_at (c : CanPort) : AtPort p s (s.setCanPort p c) :=
  .received (setCanPort_received ..) fun _ hq => canPort_setCanPort_other s c hq

theorem modCanPort_at (f : CanPort → CanPort) : AtPort p s (s.modCanPort p f) := setCanPort_at ..

theorem logE_at (c k o : Nat) (d : BitVec 32) : AtPort p s (s.logE c k o d) :=
  .received (logE_received ..) fun q _ => by rw [logE_eq]; rfl

theorem canEvent_canPort (f : Bool) (d q : Nat) : (s.canEvent p f d).canPort q = s.canPort q := by
  unfold State.canEvent
  rw [logE_eq]
  rfl

theorem setCanState_port (st : CanState) : (s.setCanState p st).canPort p =
    { s.canPort p with st := st, activeFrom := ((s.setCanState p st).canPort p).activeFrom } := by
  unfold State.setCanState
  extract_lets c v
  by_cases h : c.st = st
  · rw [if_pos h, ← h]
  · rw [if_neg h]
    have hv : v.canPort p = { c with st, activeFrom := if st = .errorActive then s.tick else c.activeFrom } :=
      canPort_setCanPort ..
    split
    · rw [canEvent_canPort, hv]
    · rw [hv]

theorem setCanState_at (st : CanState) : AtPort p s (s.setCanState p st) := by
  refine .received (setCanState_received ..) fun q hq => ?_
  unfold State.setCanState
  extract_lets c v
  have hv : v.canPort q = s.canPort q := canPort_setCanPort_other s _ hq
  split
  · rfl
  · split
    · rw [canEvent_canPort, hv]
    · exact hv

theorem takeMode_port (k : Nat) : (s.takeMode p k).canPort p = (s.canPort p).takeMode k := by
  unfold State.takeMode
  extract_lets sent v
  have hv : v.canPort p = (s.canPort p).takeMode k := canPort_modCanPort ..
  split
  · exact hv
  · exact hv

theorem takeMode_frame (k : Nat) : s.takeMode p k = { s with
    can := (s.takeMode p k).can, time := { s.time with tx := (s.takeMode p k).time.tx } } := by
  unfold State.takeMode
  extract_lets sent v
  split <;> rfl

theorem takeMode_at (k : Nat) : AtPort p s (s.takeMode p k) := by
  have h := takeMode_frame s p k
  refine ⟨fun q hq => ?_, by rw [h], by rw [h], by rw [h], fun n => by rw [h]; cases n <;> rfl⟩
  unfold State.takeMode
  extract_lets sent v
  have hv : v.canPort q = s.canPort q := canPort_setCanPort_other s _ hq
  split
  · exact hv
  · exact hv

/-- A port that leaves the bus keeps its settings, its state and its counters. -/
def OffBus (c d : CanPort) : Prop :=
  d = { c with onBus := none, kept := d.kept, mb := d.mb, done := d.done, res := d.res }

theorem freeDevice_eq (c : CanPort) (i : Nat) : c.freeDevice i = { c with mb := (c.freeDevice i).mb, kept := (c.freeDevice i).kept } := by
  unfold CanPort.freeDevice
  extract_lets _ c1 j b c2
  have h : c2 = { c1 with mb := c2.mb } := by
    by_cases hb : b.full = true
    · show (if b.full = true then c1.setMbox j _ else c1) = _
      simp only [c2, hb]
      rfl
    · simp only [c2, hb]
      rfl
  exact congrArg (fun d : CanPort => { d with kept := if c2.kept = some i then none else c2.kept }) h

theorem attemptFailed_port (i : Nat) (h : (s.canPort p).onBus = none) :
    OffBus (s.canPort p) ((s.attemptFailed p i).canPort p) := by
  have h0 : OffBus (s.canPort p) (s.canPort p) := by
    unfold OffBus
    rw [← h]
  unfold State.attemptFailed
  split
  · exact h0
  · split
    · unfold State.hostDone
      extract_lets c b _ c'
      have hc : ((s.setCanPort p c').irq1 8).canPort p = c' := canPort_setCanPort ..
      rw [hc]
      exact Eq.trans (b := { s.canPort p with kept := c'.kept, mb := c'.mb, done := c'.done, res := c'.res }) rfl (by rw [← h])
    · rw [canPort_modCanPort, freeDevice_eq]
      exact Eq.trans (b := { s.canPort p with
        mb := ((s.canPort p).freeDevice i).mb, kept := ((s.canPort p).freeDevice i).kept }) rfl (by rw [← h])

theorem leaveBus_port : OffBus (s.canPort p) ((s.leaveBus p).canPort p) := by
  unfold State.leaveBus
  extract_lets c
  cases hb : c.onBus with
  | none =>
    show OffBus c c
    unfold OffBus
    rw [← hb]
  | some x =>
    dsimp only
    have h := attemptFailed_port (s.setCanPort p { c with onBus := none, kept := if c.kept = some x.1 then none else c.kept }) p x.1
      (by rw [canPort_setCanPort])
    rw [canPort_setCanPort] at h
    exact h

theorem attemptFailed_at (i : Nat) : AtPort p s (s.attemptFailed p i) :=
  .ite (.refl s) (.ite (.trans (setCanPort_at s p _) (.received rfl fun _ _ => rfl)) (modCanPort_at ..))

theorem leaveBus_at : AtPort p s (s.leaveBus p) := by
  unfold State.leaveBus
  extract_lets c
  split
  · exact .refl s
  · exact (setCanPort_at ..).trans (attemptFailed_at ..)

/-! ## INIT set and cleared (R285) -/

theorem shadowRestart_at : AtPort p s s.shadowRestart := ⟨fun _ _ => rfl, rfl, rfl, rfl, fun n => by cases n <;> rfl⟩

theorem initSet_at : AtPort p s (s.initSet p) := by
  unfold State.initSet
  extract_lets s1 c _ c1 s2
  have h2 : AtPort p s s2 :=
    (leaveBus_at s p).trans ((setCanPort_at ..).trans ((takeMode_at ..).trans (setCanState_at ..)))
  exact .ite (.refl s) (.ite (h2.trans (shadowRestart_at ..)) h2)

/-- INIT, once set, takes the port off the bus. -/
theorem initSet_port (h : fld (s.canPort p).ctl 0 1 = 0) : ((s.initSet p).canPort p).st = .init ∧
    ((s.initSet p).canPort p).onBus = none ∧ fld ((s.initSet p).canPort p).ctl 0 1 = 1 := by
  unfold State.initSet
  extract_lets s1 c _ c1 s2
  have hc : OffBus (s.canPort p) c := leaveBus_port ..
  have h0 : c.onBus = none := by rw [hc]
  have h1 : fld c1.ctl 0 1 = 1 := fld_or_bit _ 0 (by decide)
  have h2 : s2.canPort p = { (c1.takeMode (c1.modePend.getD c1.mode)) with
      st := .init, activeFrom := (s2.canPort p).activeFrom } := by
    refine (setCanState_port ..).trans ?_
    rw [takeMode_port, canPort_setCanPort]
  have h3 : (s2.canPort p).st = .init ∧ (s2.canPort p).onBus = none ∧ fld (s2.canPort p).ctl 0 1 = 1 := by
    have ht (k : Nat) : (c1.takeMode k).onBus = c1.onBus ∧ (c1.takeMode k).ctl = c1.ctl := by
      unfold CanPort.takeMode
      split <;> exact ⟨rfl, rfl⟩
    rw [h2]
    exact ⟨rfl, (ht _).1.trans h0, (congrArg (fun w => fld w 0 1) (ht _).2).trans h1⟩
  rw [if_neg (by omega)]
  split
  · exact h3
  · exact h3

theorem initClear_at : AtPort p s (s.initClear p) := by
  unfold State.initClear
  extract_lets c cause
  exact .ite (.refl s) (.ite (setCanPort_at ..) ((setCanPort_at ..).trans (setCanState_at ..)))

/-- INIT clears where the timing passes its check, and stands with the cause otherwise. -/
theorem initClear_port (h : fld (s.canPort p).ctl 0 1 = 1) :
    (((s.initClear p).canPort p).cause = 0 → fld ((s.initClear p).canPort p).ctl 0 1 = 0 ∧
        ((s.initClear p).canPort p).st = (if (s.canPort p).wasOff then .recovering else .integrating)) ∧
      (((s.initClear p).canPort p).cause ≠ 0 → fld ((s.initClear p).canPort p).ctl 0 1 = 1 ∧
        ((s.initClear p).canPort p).st = (s.canPort p).st) := by
  unfold State.initClear
  extract_lets c cause
  rw [if_neg (by rw [h]; decide)]
  by_cases hc : cause = 0
  · rw [if_neg (not_not_intro hc), setCanState_port, canPort_setCanPort]
    refine ⟨fun _ => ⟨?_, rfl⟩, fun h' => absurd rfl h'⟩
    exact fld_setFld_self _ _ (by decide)
  · rw [if_pos hc, canPort_setCanPort]
    exact ⟨fun h' => absurd h' hc, fun _ => ⟨h, rfl⟩⟩

/-! ## Writes of CAN_CTL (R285, R286) -/

theorem recover_at : AtPort p s (s.recover p) := .ite (setCanState_at ..) (.refl s)

theorem canCtlWrite_at (m : Master) (v : Word) : AtPort p s (s.canCtlWrite m p v) := by
  unfold State.canCtlWrite
  extract_lets c old asked s1 md wasInit toInit base s2 s3 s4 s5
  have h1 : AtPort p s s1 := .ite (logE_at ..) (.refl s)
  have h3 : AtPort p s s3 := .ite ((h1.trans (setCanPort_at ..)).trans (recover_at ..)) (h1.trans (setCanPort_at ..))
  have h4 : AtPort p s s4 := .ite (h3.trans (initSet_at ..)) h3
  have h5 : AtPort p s s5 := .ite (h4.trans (takeMode_at ..)) (h4.trans (modCanPort_at ..))
  exact .ite (.refl s) (.ite (h1.trans (logE_at ..)) (.ite h5 (h5.trans (initClear_at ..))))

end

section
variable {p : Nat} {v : Word}

theorem canCtlStored_at (s : State) (m : Master) (v : Word) : AtPort (s.master m).canSel s (canCtlStored s m v) := by
  refine AtPort.trans (t := valuesChecked s m 0x61 v) ?_ (canCtlWrite_at ..)
  unfold valuesChecked
  exact .ite (logE_at ..) (.refl s)

/-- RECOVER acts after the fields have been stored, unless the mode asked for lets the write be ignored. -/
theorem writeCycle_canRecover {v : Word} (h : s.directs m 0x61) (hd : s.canDead (s.master m).canSel = false)
    (hv : fld v 8 1 = 1) (hb : s.canModeBad (s.master m).canSel v = false) :
    s.writeCycle m 0x61 v = ((canCtlStored s m v).recover (s.master m).canSel).ack m true := by
  rw [writeCycle_direct s v h (by decide) rfl]
  refine congrArg (fun t : State => t.ack m true) ?_
  have hn : v &&& nowMask 0x61 ≠ 0 := and_ne_zero_of_fld hv (by decide)
  have hi : s.canIgnores m 0x61 v = false := by simp [State.canIgnores, hb]
  have hp : s.portIgnores m 0x61 = false := by simp [State.portIgnores, hd]
  have h54 : ¬ (0x61 : Nat) = 0x54 := by decide
  have hf : rwFields 0x61 ≠ [] := by simp [rwFields]
  have hc : ((0x61 : Nat) != 0x0C) = true := by decide
  have hr (t : State) : t.regNow m 0x61 v = t.recover (t.master m).canSel := (steps_one _ _).trans (if_pos hv)
  rw [← stored_canCtl]
  have hm : (stored (valuesChecked s m 0x61 v) m 0x61 v).master m = s.master m := by
    rw [stored_canCtl]
    exact (canCtlStored_at s m v).master m
  simp only [State.regDirect, hp, hn, hf, hc, hi, State.afterAccess, h54, if_false, Bool.and_true, Bool.not_false, true_and,
    ne_eq, not_false_eq_true, true_or, if_true, Bool.false_eq_true]
  exact (hr _).trans (congrArg (fun n : MasterSt => (stored (valuesChecked s m 0x61 v) m 0x61 v).recover n.canSel) hm)

/-- The word that a write of CAN_CTL leaves before it acts, INIT as it stands. -/
def ctlBase (v : Word) (k : Nat) (c : CanPort) : Word := setFld (setFld (v &&& 0x00F0) 1 3 k) 0 1 (fld c.ctl 0 1)

theorem fld_ctlBase (v : Word) (k : Nat) (c : CanPort) : fld (ctlBase v k c) 0 1 = fld c.ctl 0 1 :=
  (fld_setFld_self _ _ (by decide)).trans (Nat.mod_eq_of_lt (fld_lt ..))

/-- The mode that a stored word asks for. -/
def modeOf (c : CanPort) (v : Word) : Nat := if 4 < fld v 1 3 then fld c.ctl 1 3 else fld v 1 3

/-- The state with the word stored, the mode that is out of the list logged. -/
def ctlPut (s : State) (m : Master) (p : Nat) (v : Word) : State :=
  (if 4 < fld v 1 3 then s.logIgnored m 0x61 0 else s).setCanPort p
    { s.canPort p with ctl := ctlBase v (modeOf (s.canPort p) v) (s.canPort p) }

theorem ctlPut_port (s : State) (m : Master) (p : Nat) (v : Word) : (ctlPut s m p v).canPort p =
    { s.canPort p with ctl := ctlBase v (modeOf (s.canPort p) v) (s.canPort p) } := canPort_setCanPort ..

theorem canModeBad_logged (s : State) (m : Master) (p : Nat) (v : Word) (c : Prop) [Decidable c] :
    (if c then s.logIgnored m 0x61 0 else s).canModeBad p v = s.canModeBad p v := by
  split
  · unfold State.logIgnored
    rw [logE_eq]
    rfl
  · rfl

theorem inInit_logged (s : State) (m : Master) (p : Nat) (c : Prop) [Decidable c] :
    (if c then s.logIgnored m 0x61 0 else s).inInit p = s.inInit p := by
  split
  · unfold State.logIgnored
    rw [logE_eq]
    rfl
  · rfl

/-- A write of CAN_CTL that is not ignored and sets INIT. -/
theorem canCtlWrite_set (hd : s.canDead p = false) (hb : s.canModeBad p v = false) (h8 : fld v 8 1 = 0) (h0 : fld v 0 1 = 1) :
    s.canCtlWrite m p v = ((ctlPut s m p v).initSet p).takeMode p (modeOf (s.canPort p) v) := by
  have hdead : ¬ (p = 2 ∧ s.cSubst = true) := by simpa [State.canDead] using hd
  unfold State.canCtlWrite
  rw [if_neg hdead]
  extract_lets c old asked s1 md wasInit toInit base s2 s3 s4 s5
  have hb1 : ¬ s1.canModeBad p v = true := by
    rw [canModeBad_logged, hb]
    exact Bool.false_ne_true
  have ht : toInit := h0
  have h3 : s3 = s2 := if_neg (by rw [h8]; decide)
  have h4 : s4 = s3.initSet p := if_pos ht
  have h5 : s5 = s4.takeMode p md := if_pos (.inr ht)
  rw [if_neg hb1, if_pos ht, h5, h4, h3]
  rfl

/-- A write of CAN_CTL that is not ignored and leaves INIT clear, or clears it. -/
theorem canCtlWrite_clear (hd : s.canDead p = false) (hb : s.canModeBad p v = false) (h8 : fld v 8 1 = 0) (h0 : fld v 0 1 = 0) :
    s.canCtlWrite m p v = State.initClear (if s.inInit p = true then (ctlPut s m p v).takeMode p (modeOf (s.canPort p) v)
      else (ctlPut s m p v).modCanPort p fun c =>
        if modeOf (s.canPort p) v = c.mode then { c with modePend := none }
        else { c with modePend := some (modeOf (s.canPort p) v) }) p := by
  have hdead : ¬ (p = 2 ∧ s.cSubst = true) := by simpa [State.canDead] using hd
  unfold State.canCtlWrite
  rw [if_neg hdead]
  extract_lets c old asked s1 md wasInit toInit base s2 s3 s4 s5
  have hb1 : ¬ s1.canModeBad p v = true := by
    rw [canModeBad_logged, hb]
    exact Bool.false_ne_true
  have ht : ¬ toInit := by
    show ¬ fld v 0 1 = 1
    omega
  have h3 : s3 = s2 := if_neg (by rw [h8]; decide)
  have h4 : s4 = s3 := if_neg ht
  rw [if_neg hb1, if_neg ht]
  refine congrArg (fun t : State => t.initClear p) ?_
  have hwas : wasInit = (s.inInit p = true) := congrArg (· = true) (inInit_logged ..)
  by_cases hw : s.inInit p = true
  · rw [if_pos hw]
    refine (if_pos (.inl (hwas ▸ hw))).trans ?_
    rw [h4, h3]
    rfl
  · rw [if_neg hw]
    refine (if_neg (not_or.mpr ⟨hwas ▸ hw, ht⟩)).trans ?_
    rw [h4, h3]
    rfl

end

/-! ## The commands -/

theorem and_recover_zero {w : Word} (h : fld w 8 1 = 0) : w &&& 0x0100 = 0 := by
  have hb : w.getLsbD 8 = false := by
    have := testBit_fld w 8 1 0
    rw [h] at this
    simpa using this.symm
  refine BitVec.eq_of_getLsbD_eq fun i hi => ?_
  rw [BitVec.getLsbD_and]
  by_cases h8 : i = 8
  · rw [h8, hb]
    rfl
  · rw [show (0x0100 : Word).getLsbD i = false by interval_cases i <;> simp_all]
    simp

theorem fld_heldCtl (w : Word) : fld (heldWord 0x61 w) 8 1 = 0 ∧ fld (heldWord 0x61 w) 0 1 = fld w 0 1 ∧
    fld (heldWord 0x61 w) 1 3 = fld w 1 3 := by
  have hk : ∀ i < 16, (~~~(nowMask 0x61) : Word).getLsbD i = decide (i ≠ 8) := by decide
  have hg (i : Nat) (hi : i < 16) : (heldWord 0x61 w).getLsbD i = (w.getLsbD i && decide (i ≠ 8)) := by
    unfold heldWord
    rw [BitVec.getLsbD_and, hk i hi]
  refine ⟨?_, fld_congr fun i hi => ?_, fld_congr fun i hi => ?_⟩
  · refine (fld_congr (w := 0) fun i hi => ?_).trans (by decide)
    rw [hg _ (by omega), show i = 0 by omega]
    simp
  · rw [hg _ (by omega), show i = 0 by omega]
    simp
  · rw [hg _ (by omega), decide_eq_true (by omega), Bool.and_true]

/-- A mode put in force leaves the state, the bus, INIT, the cause and the mark of bus-off. -/
theorem takeMode_same (c : CanPort) (k : Nat) : (c.takeMode k).st = c.st ∧ (c.takeMode k).onBus = c.onBus ∧
    (c.takeMode k).ctl = c.ctl ∧ (c.takeMode k).wasOff = c.wasOff ∧ (c.takeMode k).mode = k ∧ (c.takeMode k).modePend = none := by
  unfold CanPort.takeMode
  split <;> exact ⟨rfl, rfl, rfl, rfl, rfl, rfl⟩

section
variable {p : Nat} {v : Word}

theorem canPort_ack (t : State) (m : Master) (b : Bool) (p : Nat) : (t.ack m b).canPort p = t.canPort p := by
  unfold State.canPort
  rw [ack_can]

/-- A write of CAN_CTL without RECOVER leaves the state in which its word is stored. -/
theorem canCtl_next (h : s.directs m 0x61) (hd : s.canDead (s.master m).canSel = false) (hv : fld v 8 1 = 0) :
    ok s (s.writeCycle m 0x61 v) = .next ((canCtlStored s m v).ack m true) := by
  have ha := canCtlStored_at s m v
  rw [writeCycle_canCtl h hd (and_recover_zero hv)]
  exact ok_next s _ (by rw [ack_pending]; exact ha.pending) (by rw [ack_life]; exact ha.life)

theorem valuesChecked_dead (s : State) (m : Master) (v : Word) (p : Nat) :
    (valuesChecked s m 0x61 v).canDead p = s.canDead p := by
  rw [(valuesChecked_ends s m 0x61 v).eq]
  rfl

theorem valuesChecked_inInit (s : State) (m : Master) (v : Word) (p : Nat) :
    (valuesChecked s m 0x61 v).inInit p = s.inInit p := by
  rw [(valuesChecked_ends s m 0x61 v).eq]
  rfl

theorem canModeBad_init (s : State) (p : Nat) (h : fld v 0 1 = 1) : s.canModeBad p v = false := by
  simp [State.canModeBad, h]

theorem canModeBad_inInit (h : s.inInit p = true) : s.canModeBad p v = false := by
  simp [State.canModeBad, h]

/-- A write that sets INIT takes the port off the bus. -/
theorem canCtlStored_set (hd : s.canDead (s.master m).canSel = false) (h1 : fld v 0 1 = 1)
    (h0 : fld (s.canPort (s.master m).canSel).ctl 0 1 = 0) :
    ((canCtlStored s m v).canPort (s.master m).canSel).st = .init ∧
      ((canCtlStored s m v).canPort (s.master m).canSel).onBus = none ∧
      fld ((canCtlStored s m v).canPort (s.master m).canSel).ctl 0 1 = 1 := by
  unfold canCtlStored
  obtain ⟨w0, -, w8⟩ := fld_rwMerge_canCtl (s.canPort (s.master m).canSel).ctl v
  generalize rwMerge 0x61 (s.canPort (s.master m).canSel).ctl v = w at w0 w8 ⊢
  have hp := valuesChecked_canPort s m v (s.master m).canSel
  have hd' := (valuesChecked_dead s m v (s.master m).canSel).trans hd
  generalize valuesChecked s m 0x61 v = u at hp hd' ⊢
  rw [canCtlWrite_set hd' (canModeBad_init _ _ (w0.trans h1)) w8 (w0.trans h1), takeMode_port]
  obtain ⟨k1, k2, k3⟩ := initSet_port (ctlPut u m (s.master m).canSel w) (s.master m).canSel
    (by rw [ctlPut_port, fld_ctlBase, hp]; exact h0)
  obtain ⟨j1, j2, j3, -⟩ := takeMode_same (((ctlPut u m (s.master m).canSel w).initSet (s.master m).canSel).canPort
    (s.master m).canSel) (modeOf (u.canPort (s.master m).canSel) w)
  exact ⟨j1.trans k1, j2.trans k2, by rw [j3]; exact k3⟩

/-- A write that clears INIT returns the port, unless its timing fails the check. -/
theorem canCtlStored_clear (hd : s.canDead (s.master m).canSel = false) (h1 : fld v 0 1 = 0)
    (h0 : fld (s.canPort (s.master m).canSel).ctl 0 1 = 1) :
    (((canCtlStored s m v).canPort (s.master m).canSel).cause = 0 →
        fld ((canCtlStored s m v).canPort (s.master m).canSel).ctl 0 1 = 0 ∧
        ((canCtlStored s m v).canPort (s.master m).canSel).st =
          (if (s.canPort (s.master m).canSel).wasOff then .recovering else .integrating)) ∧
      (((canCtlStored s m v).canPort (s.master m).canSel).cause ≠ 0 →
        fld ((canCtlStored s m v).canPort (s.master m).canSel).ctl 0 1 = 1 ∧
        ((canCtlStored s m v).canPort (s.master m).canSel).st = (s.canPort (s.master m).canSel).st) := by
  unfold canCtlStored
  obtain ⟨w0, -, w8⟩ := fld_rwMerge_canCtl (s.canPort (s.master m).canSel).ctl v
  generalize rwMerge 0x61 (s.canPort (s.master m).canSel).ctl v = w at w0 w8 ⊢
  have hi : s.inInit (s.master m).canSel = true := by simp [State.inInit, h0]
  have hp := valuesChecked_canPort s m v (s.master m).canSel
  have hd' := (valuesChecked_dead s m v (s.master m).canSel).trans hd
  have hi' := (valuesChecked_inInit s m v (s.master m).canSel).trans hi
  generalize valuesChecked s m 0x61 v = u at hp hd' hi' ⊢
  rw [canCtlWrite_clear hd' (canModeBad_inInit hi') w8 (w0.trans h1), if_pos hi']
  generalize modeOf (u.canPort (s.master m).canSel) w = k
  obtain ⟨j1, -, j3, j4, -⟩ := takeMode_same ((ctlPut u m (s.master m).canSel w).canPort (s.master m).canSel)
    k
  obtain ⟨k1, k2⟩ := initClear_port ((ctlPut u m (s.master m).canSel w).takeMode (s.master m).canSel k) (s.master m).canSel
    (by rw [takeMode_port, j3, ctlPut_port, fld_ctlBase, hp]; exact h0)
  rw [takeMode_port, j4, ctlPut_port, hp] at k1
  rw [takeMode_port, j1, ctlPut_port, hp] at k2
  exact ⟨k1, k2⟩

/-- A write of a mode in INIT puts the mode in force at once and leaves the state. -/
theorem canCtlStored_modeInit (hd : s.canDead (s.master m).canSel = false) (hi : s.inInit (s.master m).canSel = true)
    (h0 : fld v 0 1 = fld (s.canPort (s.master m).canSel).ctl 0 1) (h1 : fld v 1 3 ≤ 4) :
    ((canCtlStored s m v).canPort (s.master m).canSel).mode = fld v 1 3 ∧
      ((canCtlStored s m v).canPort (s.master m).canSel).modePend = none ∧
      ((canCtlStored s m v).canPort (s.master m).canSel).st = (s.canPort (s.master m).canSel).st := by
  unfold canCtlStored
  obtain ⟨w0, w1, w8⟩ := fld_rwMerge_canCtl (s.canPort (s.master m).canSel).ctl v
  generalize rwMerge 0x61 (s.canPort (s.master m).canSel).ctl v = w at w0 w1 w8 ⊢
  rw [askedMode, if_pos h1] at w1
  have hp := valuesChecked_canPort s m v (s.master m).canSel
  have hd' := (valuesChecked_dead s m v (s.master m).canSel).trans hd
  have hi' := (valuesChecked_inInit s m v (s.master m).canSel).trans hi
  generalize valuesChecked s m 0x61 v = u at hp hd' hi' ⊢
  have hm : modeOf (u.canPort (s.master m).canSel) w = fld v 1 3 := by
    unfold modeOf
    rw [w1, if_neg (by omega)]
  have hput : ((ctlPut u m (s.master m).canSel w).canPort (s.master m).canSel).st = (s.canPort (s.master m).canSel).st := by
    rw [ctlPut_port, hp]
  have hctl : fld ((ctlPut u m (s.master m).canSel w).canPort (s.master m).canSel).ctl 0 1 =
      fld (s.canPort (s.master m).canSel).ctl 0 1 := by
    rw [ctlPut_port, fld_ctlBase, hp]
  obtain ⟨j1, -, j3, -, j5, j6⟩ := takeMode_same ((ctlPut u m (s.master m).canSel w).canPort (s.master m).canSel) (fld v 1 3)
  have hx : u.canCtlWrite m (s.master m).canSel w =
      (ctlPut u m (s.master m).canSel w).takeMode (s.master m).canSel (fld v 1 3) := by
    have hlt := fld_lt v 0 1
    rcases (by omega : fld v 0 1 = 1 ∨ fld v 0 1 = 0) with hv | hv
    · rw [canCtlWrite_set hd' (canModeBad_inInit hi') w8 (w0.trans hv), hm]
      exact congrArg (fun t : State => t.takeMode (s.master m).canSel (fld v 1 3)) (if_pos (hctl.trans (h0.symm.trans hv)))
    · rw [canCtlWrite_clear hd' (canModeBad_inInit hi') w8 (w0.trans hv), if_pos hi', hm]
      refine if_pos ?_
      rw [takeMode_port, j3, hctl, ← h0, hv]
  rw [hx, takeMode_port]
  exact ⟨j5, j6, j1.trans hput⟩

/-- A write of a mode out of INIT lets the mode wait, unless it is the one in force. -/
theorem canCtlStored_mode (hd : s.canDead (s.master m).canSel = false) (hi : s.inInit (s.master m).canSel = false)
    (h0 : fld v 0 1 = fld (s.canPort (s.master m).canSel).ctl 0 1) (h1 : fld v 1 3 ≤ 4)
    (hb : s.canModeBad (s.master m).canSel v = false) :
    ((canCtlStored s m v).canPort (s.master m).canSel).mode = (s.canPort (s.master m).canSel).mode ∧
      ((canCtlStored s m v).canPort (s.master m).canSel).modePend =
        (if fld v 1 3 = (s.canPort (s.master m).canSel).mode then none else some (fld v 1 3)) ∧
      ((canCtlStored s m v).canPort (s.master m).canSel).st = (s.canPort (s.master m).canSel).st := by
  unfold canCtlStored
  obtain ⟨w0, w1, w8⟩ := fld_rwMerge_canCtl (s.canPort (s.master m).canSel).ctl v
  generalize rwMerge 0x61 (s.canPort (s.master m).canSel).ctl v = w at w0 w1 w8 ⊢
  rw [askedMode, if_pos h1] at w1
  have hp := valuesChecked_canPort s m v (s.master m).canSel
  have hd' := (valuesChecked_dead s m v (s.master m).canSel).trans hd
  have hi' := (valuesChecked_inInit s m v (s.master m).canSel).trans hi
  generalize valuesChecked s m 0x61 v = u at hp hd' hi' ⊢
  have hm : modeOf (u.canPort (s.master m).canSel) w = fld v 1 3 := by
    unfold modeOf
    rw [w1, if_neg (by omega)]
  have hb' : u.canModeBad (s.master m).canSel w = false := by
    unfold State.canModeBad at hb ⊢
    rw [hp, hi', w0, w1]
    rwa [hi] at hb
  have hc : fld (s.canPort (s.master m).canSel).ctl 0 1 = 0 := by
    have hlt := fld_lt (s.canPort (s.master m).canSel).ctl 0 1
    have : fld (s.canPort (s.master m).canSel).ctl 0 1 ≠ 1 := by
      intro h
      simp [State.inInit, h] at hi
    omega
  have hx : u.canCtlWrite m (s.master m).canSel w = (ctlPut u m (s.master m).canSel w).modCanPort (s.master m).canSel fun c =>
      if fld v 1 3 = c.mode then { c with modePend := none } else { c with modePend := some (fld v 1 3) } := by
    rw [canCtlWrite_clear hd' hb' w8 (w0.trans (h0.trans hc)), if_neg (by rw [hi']; exact Bool.false_ne_true), hm]
    refine if_pos ?_
    rw [canPort_modCanPort, ctlPut_port]
    split
    · exact (fld_ctlBase ..).trans (by rw [hp]; exact hc)
    · exact (fld_ctlBase ..).trans (by rw [hp]; exact hc)
  rw [hx, canPort_modCanPort, ctlPut_port, hp]
  dsimp only
  split
  · exact ⟨rfl, rfl, rfl⟩
  · exact ⟨rfl, rfl, rfl⟩

end

/-- The word of a write of a mode. -/
theorem fld_modeWord (w : Word) (mode : BitVec 3) : fld (setFld (heldWord 0x61 w) 1 3 mode.toNat) 8 1 = 0 ∧
    fld (setFld (heldWord 0x61 w) 1 3 mode.toNat) 0 1 = fld w 0 1 ∧
    fld (setFld (heldWord 0x61 w) 1 3 mode.toNat) 1 3 = mode.toNat := by
  obtain ⟨v8, v0, -⟩ := fld_heldCtl w
  exact ⟨(fld_setFld_other _ _ (by decide) (by decide)).trans v8, (fld_setFld_other _ _ (by decide) (by decide)).trans v0,
    (fld_setFld_self _ _ (by decide)).trans (Nat.mod_eq_of_lt mode.isLt)⟩

/-- The end of recovery, with the port's counters cleared. -/
theorem recoveryDone_facts {p : Nat} (hst : (s.canPort p).st = .recovering) (hc : s.candev.clkOk = true)
    (hf : (s.canPort p).failed = false) {v : State}
    (hv : v = (s.setCanPort p { s.canPort p with tec := 0, recCnt := 0 }).setCanState p .errorActive) :
    (s.recoveryDone p).canPort p = v.canPort p ∧ (s.recoveryDone p).pending = v.pending ∧ (s.recoveryDone p).life = v.life ∧
      (s.recoveryDone p).candev.waiting = v.candev.waiting.filter (· != p) := by
  unfold State.recoveryDone
  extract_lets c s1 _ s2
  rw [if_pos ⟨hst, hc, by simp [c, hf]⟩]
  have h1 : s1 = v := hv.symm
  have h2 : s2 = { s1 with time := s2.time } := by
    by_cases hp : p < 2
    · simp only [s2, hp]
      rfl
    · simp only [s2, hp]
      rfl
  rw [← h1]
  generalize s1 = w at h2 ⊢
  rw [h2]
  exact ⟨rfl, rfl, rfl, rfl⟩

/-- Settles O42: what the writes of CAN_CTL, a pause of sending, and the ends of integration and recovery do to a port. -/
theorem portsStartStopAndRecover : Obligations.PortsStartStopAndRecover := by
  refine ⟨⟨fun m s h hd h0 => ?_, fun m s h hd h0 => ?_⟩, fun m mode s h hd hi hm => ?_, fun m mode s h hd hi hk hm => ?_,
    fun p s k hk hb => ?_, fun m s h hd hst h0 hk => ?_, fun p s hx hc hf hst => ?_, fun p s hx hc hf hst => ?_⟩
  · obtain ⟨v8, v0, -⟩ := fld_heldCtl (s.canPort (s.master m).canSel).ctl
    have h8 : fld (withBit 0x61 (s.canPort (s.master m).canSel).ctl 0) 8 1 = 0 :=
      (fld_setFld_other _ _ (by decide) (by decide)).trans v8
    have h1 : fld (withBit 0x61 (s.canPort (s.master m).canSel).ctl 0) 0 1 = 1 := fld_setFld_self _ _ (by decide)
    obtain ⟨k1, k2, k3⟩ := canCtlStored_set hd h1 h0
    exact ⟨_, canCtl_next h hd h8, by rw [canPort_ack]; exact k1, by rw [canPort_ack]; exact k2, by rw [canPort_ack]; exact k3,
      fun p hp => (canPort_ack ..).trans ((canCtlStored_at s m _).others p hp)⟩
  · obtain ⟨v8, v0, -⟩ := fld_heldCtl (s.canPort (s.master m).canSel).ctl
    have h8 : fld (setFld (heldWord 0x61 (s.canPort (s.master m).canSel).ctl) 0 1 0) 8 1 = 0 :=
      (fld_setFld_other _ _ (by decide) (by decide)).trans v8
    have h1 : fld (setFld (heldWord 0x61 (s.canPort (s.master m).canSel).ctl) 0 1 0) 0 1 = 0 := fld_setFld_self _ _ (by decide)
    refine ⟨_, canCtl_next h hd h8, ?_⟩
    obtain ⟨k1, k2⟩ := canCtlStored_clear hd h1 h0
    rw [canPort_ack]
    exact ⟨k1, k2, fun p hp => (canPort_ack ..).trans ((canCtlStored_at s m _).others p hp)⟩
  · obtain ⟨h8, h0, h1⟩ := fld_modeWord (s.canPort (s.master m).canSel).ctl mode
    obtain ⟨k1, k2, k3⟩ := canCtlStored_modeInit hd hi h0 (by rw [h1]; exact hm)
    refine ⟨_, canCtl_next h hd h8, ?_⟩
    rw [canPort_ack]
    exact ⟨k1.trans h1, k2, k3⟩
  · obtain ⟨h8, h0, h1⟩ := fld_modeWord (s.canPort (s.master m).canSel).ctl mode
    have hb : s.canModeBad (s.master m).canSel (setFld (heldWord 0x61 (s.canPort (s.master m).canSel).ctl) 1 3 mode.toNat) =
        false := by
      unfold State.canModeBad
      rw [h1]
      extract_lets c old md
      have hmd : md = mode.toNat := if_neg (by omega)
      rw [hmd, decide_eq_false (show ¬ 3 ≤ mode.toNat by omega),
        decide_eq_false (show ¬ 3 ≤ old from Nat.not_le.mpr (Nat.lt_of_le_of_lt hk (by decide)))]
      simp
    obtain ⟨k1, k2, k3⟩ := canCtlStored_mode hd hi h0 (by rw [h1]; omega) hb
    refine ⟨_, canCtl_next h hd h8, ?_⟩
    rw [canPort_ack]
    rw [h1] at k2
    exact ⟨k1, k2, k3⟩
  · have hx : s.modeEffect p.val = s.takeMode p.val k := by
      unfold State.modeEffect
      extract_lets c
      rw [show c.modePend = some k from hk, show c.onBus = none from hb]
      rfl
    have hf := takeMode_frame s p.val k
    refine ⟨_, (congrArg (ok s) hx).trans (ok_next s _ (by rw [hf]) (by rw [hf])), ?_, ?_, hf⟩
    · rw [takeMode_port]; rfl
    · rw [takeMode_port]; rfl
  · obtain ⟨v8, v0, v1⟩ := fld_heldCtl (s.canPort (s.master m).canSel).ctl
    have h8 : fld (withBit 0x61 (s.canPort (s.master m).canSel).ctl 8) 8 1 = 1 := fld_setFld_self _ _ (by decide)
    have h0' : fld (withBit 0x61 (s.canPort (s.master m).canSel).ctl 8) 0 1 = fld (s.canPort (s.master m).canSel).ctl 0 1 :=
      (fld_setFld_other _ _ (by decide) (by decide)).trans v0
    have h1 : fld (withBit 0x61 (s.canPort (s.master m).canSel).ctl 8) 1 3 = fld (s.canPort (s.master m).canSel).ctl 1 3 :=
      (fld_setFld_other _ _ (by decide) (by decide)).trans v1
    have hb : s.canModeBad (s.master m).canSel (withBit 0x61 (s.canPort (s.master m).canSel).ctl 8) = false := by
      unfold State.canModeBad
      rw [h1]
      extract_lets c old md
      rw [show md = old from ite_self _]
      simp
    have hs : ((canCtlStored s m (withBit 0x61 (s.canPort (s.master m).canSel).ctl 8)).canPort (s.master m).canSel).st =
        .busOff := by
      cases hi : s.inInit (s.master m).canSel with
      | true => exact (canCtlStored_modeInit hd hi h0' (by omega)).2.2.trans hst
      | false => exact (canCtlStored_mode hd hi h0' (by omega) hb).2.2.trans hst
    have ha := (canCtlStored_at s m (withBit 0x61 (s.canPort (s.master m).canSel).ctl 8)).trans (recover_at _ (s.master m).canSel)
    have hw := congrArg (ok s) (writeCycle_canRecover h hd h8 hb)
    refine ⟨_, hw.trans (ok_next s _ (by rw [ack_pending]; exact ha.pending) (by rw [ack_life]; exact ha.life)), ?_⟩
    rw [canPort_ack, State.recover, if_pos hs, setCanState_port]
  · have he : s.integrationDone p.val = s.setCanState p.val (s.canPort p.val).counted := if_pos ⟨hst, hc, by simp [hf]⟩
    have ha := setCanState_at s p.val (s.canPort p.val).counted
    refine ⟨_, (congrArg (ok s) ((landed_open s hx).trans he)).trans (ok_next s _ ha.pending ha.life), ?_⟩
    rw [setCanState_port]
    rfl
  · have ha : AtPort p.val s (State.setCanState (s.setCanPort p.val { s.canPort p.val with tec := 0, recCnt := 0 }) p.val
        .errorActive) := (setCanPort_at ..).trans (setCanState_at ..)
    have hq := setCanState_port (s.setCanPort p.val { s.canPort p.val with tec := 0, recCnt := 0 }) p.val .errorActive
    rw [canPort_setCanPort] at hq
    obtain ⟨k1, k2, k3, k4⟩ := recoveryDone_facts hst hc hf rfl
    have hl := landed_open s (f := fun t => t.recoveryDone p.val) hx
    refine ⟨_, (congrArg (ok s) hl).trans (ok_next s _ (k2.trans ha.pending) (k3.trans ha.life)), ?_, ?_, ?_, ?_⟩
    · rw [k1, hq]
    · rw [k1, hq]
    · rw [k1, hq]
    · exact k4.trans (congrArg (fun d : CanDev => d.waiting.filter (· != p.val)) ha.candev)

/-! ## Frames on a device in reset (R302, R470) -/

/-- A device in reset whose drives are marked as running, with port A on the bus: no run reaches it, and the invariant of the
device's life rules it out. -/
def drivenInReset : State :=
  { State.reset with
    life := { drivesOn := true }, candev := { clkOk := true }, can := [(0, { ctl := 0, st := .errorActive })] }

/-- A base frame that no filter and no internal consumer of that state takes. -/
def plainFrame : Frame := { ident := 5, ide := false, fdf := false }

/-- A command that may reset the device leaves the drives off in a device in reset. -/
theorem okWrite_reset (hu : u.life.phase = .reset) (h : okWrite s u = .next t) : t.life.drivesOn = false := by
  unfold okWrite at h
  rw [if_pos hu] at h
  cases h
  rfl

/-- Refutes O43: the frame clause of an unmatched reception names states in which the life's invariant fails; in one of a device
in reset with its drives on, the reception turns them off, so that the life changes too. -/
theorem not_framesAreSentAndReceived : ¬ Obligations.FramesAreSentAndReceived := by
  unfold Obligations.FramesAreSentAndReceived
  rintro ⟨-, hreceived, -⟩
  obtain ⟨hunmatched, -⟩ := hreceived 0 plainFrame 0 drivenInReset rfl (by decide) rfl (.inr (by decide))
  obtain ⟨t, ht, -, -, -, hframe⟩ := hunmatched (by decide)
  have hlife : t.life = drivenInReset.life := by rw [hframe (by decide) (by decide)]
  have hon : t.life.drivesOn = true := by rw [hlife]; rfl
  have hoff : t.life.drivesOn = false :=
    okWrite_reset (s := drivenInReset) (u := drivenInReset.landed fun v => v.frameIn 0 plainFrame 0) (by decide) ht
  rw [hon] at hoff
  exact absurd hoff (by decide)

end Sys2Proof.Proofs
end

section
/-! PROPERTY. Commands of SPARE_CTL, and the checks of paths and drivers (O51, O52). -/

namespace Sys2Proof.Proofs

open Sys2Proof Sys2Proof.Machine Sys2Proof.Laws

-- one proof at a time: the text is compiled as a whole, and the proofs side by side would need too much memory
set_option Elab.async false

variable {s t u : State} {m : Master}

/-! ## What a spare-map entry and a SPAREV change (R340, R406, R408) -/

/-- Of the spares, the number of the next entry and the exhausted kinds alone have changed; besides them the NVM and the
messages. -/
def SpareNoted (s u : State) : Prop :=
  u = { s with spare := { s.spare with logSeq := u.spare.logSeq, exhausted := u.spare.exhausted }, nvm := u.nvm, msg := u.msg }

theorem SpareNoted.refl (s : State) : SpareNoted s s := rfl

theorem SpareNoted.eq (h : SpareNoted s u) : u = { s with
    spare := { s.spare with logSeq := u.spare.logSeq, exhausted := u.spare.exhausted }, nvm := u.nvm, msg := u.msg } := h

theorem SpareNoted.trans (h1 : SpareNoted s t) (h2 : SpareNoted t u) : SpareNoted s u :=
  h2.eq.trans (congrArg (fun v : State => { v with
    spare := { v.spare with logSeq := u.spare.logSeq, exhausted := u.spare.exhausted }, nvm := u.nvm, msg := u.msg }) h1.eq)

theorem SpareNoted.ite {c : Prop} [Decidable c] {a b : State} (ha : SpareNoted s a) (hb : SpareNoted s b) :
    SpareNoted s (if c then a else b) := by split <;> assumption

theorem SpareNoted.spareAt (h : SpareNoted s u) (k i : Nat) : u.spareAt k i = s.spareAt k i := by
  rw [h.eq]
  unfold State.spareAt SpareUnit.table
  rfl

theorem SpareNoted.facet (h : SpareNoted s u) (n : Nat) : u.facet n = s.facet n := by
  rw [h.eq]
  rfl

section
variable (s : State)

theorem slPut_noted (a b c d e f : Nat) : SpareNoted s (s.slPut a b c d e f) := rfl

theorem slAppendAt_noted (a b c d e f : Nat) : SpareNoted s (s.slAppendAt a b c d e f) := by
  unfold State.slAppendAt
  extract_lets base _ s1 s2
  have h1 : SpareNoted s s1 := rfl
  have h2 : SpareNoted s s2 :=
    .ite (h1.trans (foldl_rel SpareNoted.refl SpareNoted.trans (fun t ⟨_, _, _, _⟩ => slPut_noted t ..) _ s1)) (.refl s)
  exact h2.trans (slPut_noted ..)

theorem sparev_noted (a b c d e : Nat) (x y : Bool) : SpareNoted s (s.sparev a b c d e x y) := by
  unfold State.sparev
  extract_lets s1 e1 sp s2
  have h1 : SpareNoted s s1 := .ite (slAppendAt_noted ..) (.refl s)
  exact h1.trans rfl

theorem checkExhausted_noted (k : Nat) : SpareNoted s (s.checkExhausted k) := by
  unfold State.checkExhausted
  extract_lets left any _ s1
  have h1 : SpareNoted s s1 := rfl
  exact .ite rfl (.ite (.refl s) (h1.trans (sparev_noted ..)))

/-- The spare that is set reads as set. -/
theorem spareAt_setSpare (k i : Nat) (x : SpareSt) : (s.setSpare k i x).spareAt k i = x := by
  unfold State.setSpare State.spareAt
  dsimp only
  match k with
  | 0 => exact get_set_self ..
  | 1 => exact get_set_self ..
  | 2 => exact get_set_self ..
  | _ + 3 => exact get_set_self ..

/-- Of the spares, the tables alone change where one is set. -/
theorem setSpare_tables (k i : Nat) (x : SpareSt) : s.setSpare k i x = { s with spare := { s.spare with
    sb := (s.setSpare k i x).spare.sb, sz := (s.setSpare k i x).spare.sz
    eb := (s.setSpare k i x).spare.eb, ez := (s.setSpare k i x).spare.ez } } := by
  unfold State.setSpare
  dsimp only
  split <;> rfl

end

/-! ## The command that waits (R390) -/

/-- The state in which the command that waited is taken. -/
def cmdTaken (s : State) : State := { s with spare := { s.spare with cmd := none } }

/-- The state in which a command has left its cause. -/
def cmdDone (r : Nat × State) : State := { r.2 with spare := { r.2.spare with cause := r.1 } }

/-- What a command with a code answers. -/
def cmdResult (s : State) (c k i n p : Nat) : Nat × State :=
  match c with
  | 1 => s.pinCmd k i n p
  | 2 => s.unpinCmd k i
  | 3 => s.substCmd k i n
  | 4 => s.releaseCmd k i
  | 5 => s.checkCmd k i n
  | 6 => s.refCmd k i
  | 7 => s.forbidCmd k i p true
  | 8 => s.forbidCmd k i p false
  | _ => (0, s)

theorem spareCommand_acts {c k i n p : Nat} (h : s.spare.cmd = some (c, k, i, n, p)) (hd : s.due s.spare.cmdStamp = true)
    (h5 : c = 5 → s.commitStamps.any s.due = false ∧ s.calDue = false) :
    s.spareCommand c = cmdDone (cmdResult (cmdTaken s) c k i n p) := by
  unfold State.spareCommand
  rw [h]
  dsimp only
  rw [if_neg]
  · rfl
  · rintro (hc | hc | ⟨hc, h'⟩)
    · exact hc rfl
    · simp [hd] at hc
    · obtain ⟨h1, h2⟩ := h5 hc
      simp [h1, h2] at h'

/-- In a running device a command at its turn answers what it leaves. -/
theorem spareCommand_next {c : Nat} (hr : s.ready = true) : ok s (s.live fun t => t.spareCommand c) =
    .next { s.spareCommand c with pending := s.pending, life := s.life } :=
  (congrArg (ok s) (live_ready s hr)).trans (ok_eq ..)

/-! ## The word of SPARE_CTL -/

theorem spareCtl_only (s : State) (w : Word) : s.spareCtl w = { s with spare := (s.spareCtl w).spare } ∧
    (s.spareCtl w).spare.ctl = w ∧ (s.spareCtl w).spare.sb = s.spare.sb ∧ (s.spareCtl w).spare.eb = s.spare.eb := by
  unfold State.spareCtl
  extract_lets was s1
  split
  · exact ⟨rfl, rfl, rfl, rfl⟩
  · exact ⟨rfl, rfl, rfl, rfl⟩

/-- A word with GO and a code of a command lets the command wait. -/
theorem spareGo_waits {v : Word} {f c : Nat} (h15 : fld v 15 1 = 1) (h1 : 1 ≤ fld v 10 4) (h8 : fld v 10 4 ≤ 8) :
    (s.spareGo v f c).spare.cmd = some (fld v 10 4, fld v 4 3, fld v 7 3, f, c) ∧
      (s.spareGo v f c).facets = s.facets ∧ (s.spareGo v f c).spare.sb = s.spare.sb ∧
      (s.spareGo v f c).spare.eb = s.spare.eb := by
  unfold State.spareGo
  extract_lets s1 s2
  obtain ⟨k1, -, k3, k4⟩ := spareCtl_only s (v &&& 0x3FFF)
  rw [if_neg (by omega)]
  exact ⟨rfl, (congrArg State.facets k1 :), k3, k4⟩

theorem fld_and_mask {v k : Word} {lo n : Nat} (h : ∀ i < n, k.getLsbD (lo + i) = true) : fld (v &&& k) lo n = fld v lo n :=
  fld_congr fun i hi => by rw [BitVec.getLsbD_and, h i hi, Bool.and_true]

theorem fld_or_go {v : Word} {lo n : Nat} (h : ∀ i < n, (0x8000 : Word).getLsbD (lo + i) = false) :
    fld (v ||| 0x8000) lo n = fld v lo n :=
  fld_congr fun i hi => by rw [BitVec.getLsbD_or, h i hi, Bool.or_false]

/-- A write of SPARE_CTL with GO lets its command wait for its frame boundary. -/
theorem writeCycle_spareGo (h : s.directs m 0x2D) {v : Word} (hb : encBad 0x2D v = false) (h15 : fld v 15 1 = 1) :
    s.writeCycle m 0x2D v = ((s.spareCtl (v &&& 0x3FFF)).spareGo (v &&& 0x3FFF ||| 0x8000)
      (s.master m).fctSel (s.master m).canSel).ack m true := by
  rw [writeCycle_store_now h hb (and_ne_zero_of_fld h15 (by decide))]
  refine congrArg (fun t : State => t.ack m true) ?_
  have hs (w : Word) : s.regStore m 0x2D w v = s.spareCtl w := rfl
  have hst : stored s m 0x2D v = s.spareCtl (v &&& 0x3FFF) := by
    unfold stored
    rw [hs, rwMerge_and _ 0x3FFF hb (by decide)]
  obtain ⟨k1, k2, -⟩ := spareCtl_only s (v &&& 0x3FFF)
  have hm : (s.spareCtl (v &&& 0x3FFF)).master m = s.master m := by
    rw [k1]
    cases m <;> rfl
  rw [hst]
  refine ((steps_one (v := v) (b := 15) (fun t => t.spareGo (t.spare.ctl ||| 0x8000)
    ((s.spareCtl (v &&& 0x3FFF)).master m).fctSel ((s.spareCtl (v &&& 0x3FFF)).master m).canSel) _).trans (if_pos h15)).trans ?_
  rw [k2, hm]

/-! ## The commands -/

/-- What a spare that is pinned or freed of its pin comes to. -/
theorem setPin_pin (s : State) {k : Nat} (i : Nat) (pin : Option Nat) (hk : k ≠ 5) :
    ((s.setPin k i pin).spareAt k i).pin = pin ∧ (s.setPin k i pin).spare.cmd = s.spare.cmd := by
  unfold State.setPin
  extract_lets upd
  rw [if_neg hk, spareAt_setSpare, setSpare_tables]
  exact ⟨rfl, rfl⟩

/-- The pin of a spare, or why it is not set. -/
theorem pinCmd_facts (s : State) {k : Nat} (i n p : Nat) (hk : k < 4) :
    (s.pinCmd k i n p).1 = s.spareNeed k i n false false ∧ (s.pinCmd k i n p).2.spare.cmd = s.spare.cmd ∧
      ((s.pinCmd k i n p).1 = 0 → ((s.pinCmd k i n p).2.spareAt k i).pin = some n) ∧
      ((s.pinCmd k i n p).1 ≠ 0 → (s.pinCmd k i n p).2.spareAt k i = s.spareAt k i) := by
  unfold State.pinCmd
  extract_lets x c
  rw [if_neg (by omega)]
  by_cases hc : c = 0
  · rw [if_neg (not_not_intro hc)]
    obtain ⟨h1, h2⟩ := setPin_pin s (k := k) i (some n) (by omega)
    have hs := sparev_noted (s.setPin k i (some n)) 3 k i n 0 true false
    refine ⟨hc.symm, ?_, fun _ => ?_, fun h => absurd rfl h⟩
    · dsimp only
      rw [hs.eq]
      exact h2
    · dsimp only
      rw [hs.spareAt]
      exact h1
  · rw [if_pos hc]
    exact ⟨rfl, rfl, fun h => absurd h hc, fun _ => rfl⟩

theorem unpinCmd_facts (s : State) {k i : Nat} (hk : k < 4) (hm : memberOk k i = true) :
    (s.unpinCmd k i).1 = 0 ∧ (s.unpinCmd k i).2.spare.cmd = s.spare.cmd ∧ ((s.unpinCmd k i).2.spareAt k i).pin = none := by
  unfold State.unpinCmd
  rw [if_neg (by simp [hm]; omega)]
  extract_lets x
  have hx : x = s.spareAt k i := if_neg (by omega)
  rw [hx]
  cases hp : (s.spareAt k i).pin with
  | none => exact ⟨rfl, rfl, hp⟩
  | some n =>
    dsimp only
    obtain ⟨h1, h2⟩ := setPin_pin s (k := k) i none (by omega)
    have hs := (sparev_noted (s.setPin k i none) 4 k i n 0 true false).trans (checkExhausted_noted _ k)
    refine ⟨rfl, ?_, ?_⟩
    · rw [hs.eq]
      exact h2
    · rw [hs.spareAt]
      exact h1

/-- A spare that is taken serves the facet in its new state. -/
theorem takeSpare_facts (s : State) (k i n st : Nat) : ((s.takeSpare k i n st).spareAt k i).state = st ∧
    ((s.takeSpare k i n st).spareAt k i).target = n ∧ (s.takeSpare k i n st).spare.cmd = s.spare.cmd := by
  unfold State.takeSpare
  extract_lets s1
  have h1 : s1.spare.cmd = s.spare.cmd := by
    by_cases h : (s.spareAt k i).state = spChecking
    · exact (congrArg (fun v : State => v.spare.cmd) (if_pos h : s1 = s.endCheckOn k i) :)
    · exact (congrArg (fun v : State => v.spare.cmd) (if_neg h : s1 = s) :)
  have hs := checkExhausted_noted (s1.setSpare k i { s1.spareAt k i with state := st, target := n }) k
  have hb := hs.spareAt k i
  rw [spareAt_setSpare] at hb
  refine ⟨by rw [hb], by rw [hb], ?_⟩
  rw [hs.eq, setSpare_tables]
  exact h1

theorem modFacet_spareAt (s : State) (n : Nat) (f : FacetRT → FacetRT) (k i : Nat) : (s.modFacet n f).spareAt k i = s.spareAt k i :=
  rfl

/-- A substitution lends the spare and begins its settling, or tells why not. -/
theorem substCmd_facts (s : State) (k i n : Nat) :
    (s.substCmd k i n).1 = s.spareNeed k i n (s.facetBusy n) ((s.blkA n).policy == 2) ∧
      (s.substCmd k i n).2.spare.cmd = s.spare.cmd ∧
      ((s.substCmd k i n).1 = 0 → ((s.substCmd k i n).2.spareAt k i).state = spLent ∧
        ((s.substCmd k i n).2.spareAt k i).target = n ∧
        ∃ w, ((s.substCmd k i n).2.facet n).swap = some w ∧ w.kind = k ∧ w.spare = i ∧ w.back = false ∧ w.cause = 0) ∧
      ((s.substCmd k i n).1 ≠ 0 → (s.substCmd k i n).2 = s) := by
  unfold State.substCmd
  extract_lets c
  by_cases hc : c = 0
  · rw [if_neg (not_not_intro hc)]
    obtain ⟨h1, h2, h3⟩ := takeSpare_facts s k i n spLent
    refine ⟨hc.symm, h3, fun _ => ⟨h1, h2, ?_⟩, fun h => absurd rfl h⟩
    refine ⟨_, congrArg FacetRT.swap (facet_modFacet ..), rfl, rfl, rfl, rfl⟩
  · rw [if_pos hc]
    exact ⟨rfl, rfl, fun h => absurd h hc, fun _ => rfl⟩

theorem releaseCmd_facts (s : State) {k i : Nat} (hk : k < 4) (hm : memberOk k i = true) :
    ((s.spareAt k i).state ≠ spSubst → s.releaseCmd k i = (7, s)) ∧
      ((s.spareAt k i).state = spSubst → s.facetBusy (s.spareAt k i).target = true → s.releaseCmd k i = (4, s)) ∧
      ((s.spareAt k i).state = spSubst → s.facetBusy (s.spareAt k i).target = false →
        s.releaseCmd k i = (0, s.startReturn (s.spareAt k i).target k i false false)) := by
  unfold State.releaseCmd
  extract_lets x
  rw [if_neg (by omega), if_neg (by simp [hm]; omega)]
  refine ⟨fun h => if_pos h, fun h hb => ?_, fun h hb => ?_⟩
  · rw [if_neg (not_not_intro h), if_pos hb]
  · rw [if_neg (not_not_intro h), if_neg (by rw [hb]; exact Bool.false_ne_true)]

/-- The own part begins its return, and no spare changes. -/
theorem startReturn_facts (s : State) (n k i : Nat) : (s.startReturn n k i false false).spare = s.spare ∧
    ∃ w, ((s.startReturn n k i false false).facet n).swap = some w ∧ w.spare = i ∧ w.back = true :=
  ⟨rfl, _, congrArg FacetRT.swap (facet_modFacet ..), rfl, rfl⟩

/-- A spare that a facet may have is of the kind of the facet's path. -/
theorem pathKind_of_need {k i n : Nat} {a b : Bool} (hk : k < 2) (h : s.spareNeed k i n a b = 0) : pathKind n = k := by
  have hc : classOk k n = true := by
    by_contra hn
    rw [Bool.not_eq_true] at hn
    unfold State.spareNeed at h
    rw [if_pos (by simp [hn])] at h
    exact absurd h (by decide)
  unfold classOk at hc
  unfold pathKind
  interval_cases k <;> simp_all

/-- A check that starts shadows the facet with the spare; no stand-in changes. -/
theorem startCheck_facts (s : State) (n i : Nat) (b : Bool) :
    ((s.startCheck n i b).spareAt (pathKind n) i).state = spChecking ∧ (s.startCheck n i b).spare.cmd = s.spare.cmd ∧
      (∃ c ∈ (s.startCheck n i b).spare.chks, c.facet = n ∧ c.spare = i ∧ c.phase = 1 ∧ c.triggered = b) ∧
      ∀ j, ((s.startCheck n i b).facet j).standin = (s.facet j).standin := by
  obtain ⟨h1, -, h3⟩ := takeSpare_facts s (pathKind n) i n spChecking
  have hf := (takeSpare_spares s (pathKind n) i n spChecking).facet
  unfold State.startCheck
  generalize s.takeSpare (pathKind n) i n spChecking = v at h1 h3 hf ⊢
  refine ⟨h1, h3, ⟨_, List.mem_append_right _ (List.mem_singleton_self _), rfl, rfl, rfl, rfl⟩, fun j => ?_⟩
  have hm (w : State) (f : FacetRT → FacetRT) (hw : w.facets = (v.modFacet n f).facets)
      (hs : ∀ x, (f x).standin = x.standin) : (w.facet j).standin = (v.facet j).standin := by
    unfold State.facet
    rw [hw]
    by_cases hj : j = n
    · subst hj
      exact (congrArg FacetRT.standin (facet_modFacet v j f)).trans (hs _)
    · exact congrArg FacetRT.standin (facet_setFacet_other v _ hj)
  exact (hm _ (fun f => f.clearPath (some i) s.tick) rfl fun _ => rfl).trans (congrArg FacetRT.standin (hf j))

/-- A triggered check shadows the facet with the spare, or tells why not; no stand-in changes. -/
theorem checkCmd_facts (s : State) {k : Nat} (i n : Nat) (hk : k < 2) :
    (s.checkCmd k i n).1 = s.spareNeed k i n (s.facetBusy n) ((s.blkA n).policy == 2) ∧
      (s.checkCmd k i n).2.spare.cmd = s.spare.cmd ∧
      ((s.checkCmd k i n).1 = 0 → ((s.checkCmd k i n).2.spareAt k i).state = spChecking ∧
        ∃ c ∈ (s.checkCmd k i n).2.spare.chks, c.facet = n ∧ c.spare = i ∧ c.phase = 1 ∧ c.triggered = true) ∧
      ∀ j, ((s.checkCmd k i n).2.facet j).standin = (s.facet j).standin := by
  unfold State.checkCmd
  extract_lets c
  have hcv : c = s.spareNeed k i n (s.facetBusy n) ((s.blkA n).policy == 2) := if_neg (by omega)
  by_cases hc : c = 0
  · rw [if_neg (not_not_intro hc)]
    have hkind : pathKind n = k := pathKind_of_need hk (hcv.symm.trans hc)
    obtain ⟨h1, h2, h3, h4⟩ := startCheck_facts s n i true
    rw [hkind] at h1
    exact ⟨hc.symm.trans hcv, h2, fun _ => ⟨h1, h3⟩, h4⟩
  · rw [if_pos hc]
    exact ⟨hcv, rfl, fun h => absurd h hc, fun _ => rfl⟩

theorem refCmd_facts (s : State) {i : Nat} (hi : i < 2) : (s.refCmd 4 i).1 = (if s.stbyOk then 0 else 6) ∧
    (s.refCmd 4 i).2.spare.cmd = s.spare.cmd ∧
    (s.refCmd 4 i).2.spare.refActive = (if s.stbyOk then 1 - s.spare.refActive else s.spare.refActive) := by
  unfold State.refCmd
  rw [if_neg (by simp [memberOk, hi])]
  cases hs : s.stbyOk with
  | false => exact ⟨rfl, rfl, rfl⟩
  | true =>
    have h1 : SpareNoted _ (s.switchRef 0) := sparev_noted ..
    have h2 := vrefExhausted_spare (s.switchRef 0)
    rw [if_neg (by decide)]
    refine ⟨rfl, ?_, ?_⟩
    · exact (congrArg SpareUnit.cmd h2).trans (congrArg (fun v : State => v.spare.cmd) h1.eq :)
    · exact (congrArg SpareUnit.refActive h2).trans (congrArg (fun v : State => v.spare.refActive) h1.eq :)

/-- FORBID and ALLOW set the bit of port A or B, and no other command of theirs is taken. -/
theorem forbidCmd_done (s : State) (k i p : Nat) (on : Bool) : cmdDone (s.forbidCmd k i p on) = { s with spare := { s.spare with
    cause := if k ≠ 5 ∨ i ≠ 2 ∨ 2 ≤ p then 1 else 0
    forbid := if k ≠ 5 ∨ i ≠ 2 ∨ 2 ≤ p then s.spare.forbid else s.spare.forbid.set p on } } := by
  unfold State.forbidCmd
  by_cases h : k ≠ 5 ∨ i ≠ 2 ∨ 2 ≤ p
  · rw [if_pos h, if_pos h, if_pos h]
    rfl
  · rw [if_neg h, if_neg h, if_neg h]
    rfl

/-- Settles O51: a command of SPARE_CTL waits for its frame boundary and then acts. -/
theorem spareCommandsAct : Obligations.SpareCommandsAct := by
  refine ⟨fun m v s h hb h15 h1 h8 => ?_, fun s kind i n p hr hd => ⟨fun h hk => ?_, fun h hk hm => ?_, fun h => ?_,
    fun h hk hm => ?_, fun h hk h1 h2 => ?_, fun h hk hi => ?_, fun h => ?_, fun h => ?_⟩⟩
  · have hw := congrArg (okWrite s) (writeCycle_spareGo h hb h15)
    have f15 : fld (v &&& 0x3FFF ||| 0x8000) 15 1 = 1 := fld_or_bit _ 15 (by decide)
    have f10 : fld (v &&& 0x3FFF ||| 0x8000) 10 4 = fld v 10 4 := (fld_or_go (by decide)).trans (fld_and_mask (by decide))
    have f4 : fld (v &&& 0x3FFF ||| 0x8000) 4 3 = fld v 4 3 := (fld_or_go (by decide)).trans (fld_and_mask (by decide))
    have f7 : fld (v &&& 0x3FFF ||| 0x8000) 7 3 = fld v 7 3 := (fld_or_go (by decide)).trans (fld_and_mask (by decide))
    obtain ⟨k1, k2, k3, k4⟩ := spareGo_waits (s := s.spareCtl (v &&& 0x3FFF)) (f := (s.master m).fctSel) (c := (s.master m).canSel)
      f15 (by omega) (by omega)
    obtain ⟨j1, -, j3, j4⟩ := spareCtl_only s (v &&& 0x3FFF)
    refine ⟨_, hw, ?_, ?_, ?_, ?_⟩
    · refine (congrArg SpareUnit.cmd (ack_spare ..)).trans (k1.trans ?_)
      rw [f10, f4, f7]
    · exact (ack_facets ..).trans (k2.trans (congrArg State.facets j1 :))
    · exact (congrArg SpareUnit.sb (ack_spare ..)).trans (k3.trans j3)
    · exact (congrArg SpareUnit.eb (ack_spare ..)).trans (k4.trans j4)
  · obtain ⟨k1, k2, k3, k4⟩ := pinCmd_facts (cmdTaken s) i n p hk
    have hx : exec .sparePin s = _ := (spareCommand_next hr).trans (by rw [spareCommand_acts h hd (by omega)])
    exact ⟨_, hx, k2, k1, k3, k4⟩
  · obtain ⟨k1, k2, k3⟩ := unpinCmd_facts (cmdTaken s) hk hm
    have hx : exec .spareUnpin s = _ := (spareCommand_next hr).trans (by rw [spareCommand_acts h hd (by omega)])
    exact ⟨_, hx, k2, k1, k3⟩
  · obtain ⟨k1, k2, k3, k4⟩ := substCmd_facts (cmdTaken s) kind i n
    have hx : exec .spareSubstitute s = _ := (spareCommand_next hr).trans (by rw [spareCommand_acts h hd (by omega)])
    refine ⟨_, hx, k2, k1, k3, fun hc => ?_⟩
    have hs := k4 hc
    exact ⟨(congrArg State.facets hs :), (congrArg (fun v : State => v.spareAt kind i) hs :)⟩
  · obtain ⟨k1, k2, k3⟩ := releaseCmd_facts (cmdTaken s) hk hm
    have hx : exec .spareRelease s = _ := (spareCommand_next hr).trans (by rw [spareCommand_acts h hd (by omega)])
    refine ⟨_, hx, ?_, fun hs => ?_, fun hs hb => ?_, fun hs hb => ?_⟩
    · by_cases hs : (s.spareAt kind i).state = spSubst
      · cases hb : s.facetBusy (s.spareAt kind i).target with
        | true => exact (congrArg (fun r : Nat × State => r.2.spare.cmd) (k2 hs hb) :)
        | false => exact (congrArg (fun r : Nat × State => r.2.spare.cmd) (k3 hs hb) :)
      · exact (congrArg (fun r : Nat × State => r.2.spare.cmd) (k1 hs) :)
    · exact ⟨(congrArg Prod.fst (k1 hs) :), (congrArg (fun r : Nat × State => r.2.facets) (k1 hs) :)⟩
    · exact (congrArg Prod.fst (k2 hs hb) :)
    · obtain ⟨-, w, hw, h1, h2⟩ := startReturn_facts (cmdTaken s) (s.spareAt kind i).target kind i
      refine ⟨(congrArg Prod.fst (k3 hs hb) :), w, ?_, h1, h2⟩
      exact (congrArg (fun r : Nat × State => (r.2.facet (s.spareAt kind i).target).swap) (k3 hs hb) :).trans hw
  · obtain ⟨k1, k2, k3, k4⟩ := checkCmd_facts (cmdTaken s) i n hk
    have hx : exec .spareCheck s = _ := (spareCommand_next hr).trans (by rw [spareCommand_acts h hd (fun _ => ⟨h1, h2⟩)])
    exact ⟨_, hx, k2, k1, k3, k4⟩
  · subst hk
    obtain ⟨k1, k2, k3⟩ := refCmd_facts (cmdTaken s) hi
    have hx : exec .spareRefSwitch s = _ := (spareCommand_next hr).trans (by rw [spareCommand_acts h hd (by omega)])
    exact ⟨_, hx, k2, k1, k3⟩
  · have hx := (spareCommand_acts h hd (by omega)).trans (forbidCmd_done (cmdTaken s) kind i p true)
    have hl := (live_ready s (f := fun t => t.spareCommand 7) hr).trans hx
    exact ⟨_, (congrArg (ok s) hl).trans (ok_next s _ rfl rfl), rfl⟩
  · have hx := (spareCommand_acts h hd (by omega)).trans (forbidCmd_done (cmdTaken s) kind i p false)
    have hl := (live_ready s (f := fun t => t.spareCommand 8) hr).trans hx
    exact ⟨_, (congrArg (ok s) hl).trans (ok_next s _ rfl rfl), rfl⟩

/-! ## What causes of fault and substitutions change in a facet -/

/-- The words of the causes, the bar of a check and the window of alarms alone may differ. -/
def FaultMarked (f g : FacetRT) : Prop := g = { f with
  faultNow := g.faultNow, faultSeen := g.faultSeen, faultSpans := g.faultSpans, checkBarred := g.checkBarred
  alarmFrom := g.alarmFrom, alarmSent := g.alarmSent, alarmHeld := g.alarmHeld }

theorem FaultMarked.refl (f : FacetRT) : FaultMarked f f := rfl

theorem FaultMarked.trans {f g h : FacetRT} (h1 : FaultMarked f g) (h2 : FaultMarked g h) : FaultMarked f h :=
  Eq.trans h2 (congrArg (fun x : FacetRT => { x with
    faultNow := h.faultNow, faultSeen := h.faultSeen, faultSpans := h.faultSpans, checkBarred := h.checkBarred
    alarmFrom := h.alarmFrom, alarmSent := h.alarmSent, alarmHeld := h.alarmHeld }) h1)

theorem sameButAlarm.marked {f g : FacetRT} (h : sameButAlarm f g) : FaultMarked f g := by
  unfold sameButAlarm at h
  rw [h]
  rfl

theorem enterCause_marked (s : State) (n k : Nat) : FaultMarked (s.facet n) ((s.enterCause n k).facet n) := by
  unfold State.enterCause
  extract_lets f b was f' s1 s2
  split
  · exact .refl _
  · have h2 : s2.facet n = f' := ite_keeps (fun t : State => t.facet n) (facet_setFacet s n f') (facet_setFacet s n f')
    have ha := (facetAlarm_facet s2 n 1 f'.faultNow.toNat).marked
    rw [h2] at ha
    exact FaultMarked.trans (g := f') rfl ha

theorem leaveCauses_marked (s : State) (n k : Nat) : FaultMarked (s.facet n) ((s.leaveCauses n k).facet n) := by
  unfold State.leaveCauses
  extract_lets f now spans s1
  have h1 : s1.facet n = { f with faultNow := now, faultSpans := spans, checkBarred := f.checkBarred && now != 0 } :=
    facet_setFacet s n _
  have h2 : FaultMarked f (s1.facet n) := by rw [h1]; rfl
  split
  · exact .refl _
  · split
    · exact h2.trans (facetAlarm_facet s1 n 2 0).marked
    · exact h2

/-- The facet of a part that has failed waits for a spare. -/
def partMarked (k : Nat) (f : FacetRT) : FacetRT :=
  if k < 2 then { f with pathFailed := true, needPath := true } else { f with excFailed := true, needExc := true }

theorem partFailed_facet (s : State) (n k : Nat) : FaultMarked (partMarked k (s.facet n)) ((s.partFailed n k).facet n) := by
  unfold State.partFailed
  extract_lets s1
  have h1 : s1.facet n = partMarked k (s.facet n) := facet_modFacet ..
  rw [← h1]
  split
  · exact .refl _
  · exact enterCause_marked ..

/-- Of the spares a failed part changes nothing. -/
theorem partFailed_spare (s : State) (n k : Nat) : (s.partFailed n k).spare = s.spare := by
  unfold State.partFailed
  extract_lets s1
  split
  · rfl
  · rw [enterCause_eq]
    rfl

/-- The facet that a spare serves from now on. -/
def servedBy (k i : Nat) (f : FacetRT) : FacetRT :=
  if k < 2 then { f with subst := some i, standin := none, pathFailed := true, needPath := false, swap := none }
  else { f with excSubst := some i, excStandin := none, excFailed := true, needExc := false, swap := none }

/-- The tables of the spares alone have changed. -/
def TablesOnly (s u : State) : Prop := u = { s with spare := { s.spare with
  sb := u.spare.sb, sz := u.spare.sz, eb := u.spare.eb, ez := u.spare.ez } }

theorem TablesOnly.refl (s : State) : TablesOnly s s := rfl

theorem TablesOnly.trans (h1 : TablesOnly s t) (h2 : TablesOnly t u) : TablesOnly s u :=
  Eq.trans h2 (congrArg (fun v : State => { v with spare := { v.spare with
    sb := u.spare.sb, sz := u.spare.sz, eb := u.spare.eb, ez := u.spare.ez } }) h1)

theorem TablesOnly.spared (h : TablesOnly s u) : u.spare.chks = s.spare.chks ∧ u.spare.drv = s.spare.drv ∧ u.facets = s.facets := by
  unfold TablesOnly at h
  rw [h]
  exact ⟨rfl, rfl, rfl⟩

theorem setSpare_tablesOnly (s : State) (k i : Nat) (x : SpareSt) : TablesOnly s (s.setSpare k i x) := setSpare_tables ..

theorem facet_congr (h : t.facets = s.facets) (n : Nat) : t.facet n = s.facet n := by
  unfold State.facet
  rw [h]

/-- What a substitution that is complete leaves: the facet served by the spare, the spare in its service, and the lists of
checks. -/
theorem completeSubst_facts (s : State) (n k i c : Nat) :
    FaultMarked (servedBy k i (s.facet n)) ((s.completeSubst n k i c).facet n) ∧
      ((s.completeSubst n k i c).spareAt k i).state = spSubst ∧
      (s.completeSubst n k i c).spare.chks = s.spare.chks ∧ (s.completeSubst n k i c).spare.drv = s.spare.drv ∧
      fld (s.completeSubst n k i c).ctl.irq0 7 1 = 1 := by
  unfold State.completeSubst
  extract_lets f old f' s1 s2 s3 s4 s5 s6
  have h2 : TablesOnly s1 s2 := by
    show TablesOnly s1 (match old with | some j => if j = i then s1 else s1.failSpare k j | none => s1)
    cases old with
    | none => exact .refl s1
    | some j =>
      dsimp only
      split
      · exact .refl s1
      · exact setSpare_tablesOnly ..
  obtain ⟨c4, d4, f4⟩ := (h2.trans (setSpare_tablesOnly s2 k i { state := spSubst, target := n, pin := s3.pin })).spared
  have a4 : s4.spareAt k i = { state := spSubst, target := n, pin := s3.pin } := spareAt_setSpare ..
  have h5 : SpareNoted s4 (s4.sparev 0 k i n c true false) := sparev_noted ..
  have hf1 : s1.facet n = servedBy k i f := facet_setFacet ..
  have hf5 : s5.facet n = servedBy k i f := (h5.facet n).trans ((facet_congr f4 n).trans hf1)
  have a5 : s5.spareAt k i = s4.spareAt k i := h5.spareAt k i
  have c5 : s5.spare.chks = s4.spare.chks := (congrArg (fun v : State => v.spare.chks) h5.eq :)
  have d5 : s5.spare.drv = s4.spare.drv := (congrArg (fun v : State => v.spare.drv) h5.eq :)
  have i5 : fld s5.ctl.irq0 7 1 = 1 := fld_or_bit _ 7 (by decide)
  obtain ⟨k1, k2, k3⟩ : FaultMarked (servedBy k i f) (s6.facet n) ∧ s6.spare = s5.spare ∧ s6.ctl = s5.ctl := by
    by_cases hn : f'.needPath = true ∨ f'.needExc = true
    · have h6 : s6 = s5 := if_pos hn
      rw [h6]
      exact ⟨hf5 ▸ .refl _, rfl, rfl⟩
    · have h6 : s6 = s5.leaveCauses n 1024 := if_neg hn
      have hm := leaveCauses_marked s5 n 1024
      have he := leaveCauses_eq s5 n 1024
      rw [h6]
      rw [hf5] at hm
      exact ⟨hm, (congrArg State.spare he :), (congrArg State.ctl he :)⟩
  generalize s6 = w at k1 k2 k3 ⊢
  have h6 := checkExhausted_noted w k
  have a6 : w.spareAt k i = s5.spareAt k i := by unfold State.spareAt; rw [k2]
  refine ⟨(h6.facet n).symm ▸ k1, ?_, ?_, ?_, ?_⟩
  · rw [h6.spareAt, a6, a5, a4]
  · rw [h6.eq]
    exact (congrArg SpareUnit.chks k2).trans (c5.trans c4)
  · rw [h6.eq]
    exact (congrArg SpareUnit.drv k2).trans (d5.trans d4)
  · rw [h6.eq]
    exact (congrArg (fun x : CtlSt => fld x.irq0 7 1) k3).trans i5

/-! ## Path checks (R392 to R395) -/

theorem sweepNext_kind {z : Bool} {n : Nat} (h : s.sweepNext z = some n) : pathKind n = b2n z := by
  unfold State.sweepNext at h
  extract_lets lo hi from' all ok at h
  have hm := List.mem_of_find?_eq_some h
  have hn : n ∈ all := by
    rcases List.mem_append.1 hm with h | h
    · exact (List.mem_filter.1 h).1
    · exact (List.mem_filter.1 h).1
  obtain ⟨a, ha, rfl⟩ := List.mem_map.1 hn
  have ha := List.mem_range.1 ha
  unfold pathKind isZ b2n
  cases z with
  | false =>
    have : a + lo < 448 := by
      simp only [hi, lo] at ha ⊢
      simpa using ha
    rw [if_neg (by simpa using this)]
    rfl
  | true =>
    rw [if_pos (by simp [lo])]
    rfl

theorem backgroundCheck_starts {z : Bool} {n i : Nat} (hr : s.ready = true) (hx : s.xcEn = true) (hf : s.isFrame = true)
    (h0 : s.ctl.shed = 0) (hl : 2 ≤ (s.freeList (b2n z) n).length) (hw : s.spare.wanted = [])
    (h1 : s.commitStamps.any s.due = false) (h2 : s.calDue = false) (h3 : s.spareDue [3, 5] = false)
    (hc : s.spare.chks.all (fun c => isZ c.facet != z || c.triggered) = true) (hn : s.sweepNext z = some n)
    (hi : s.pickSpare (b2n z) n = some i) :
    ∃ a b, s.backgroundCheck z = { s.startCheck n i false with
      spare := { (s.startCheck n i false).spare with sweepZ := a, sweepB := b } } := by
  have hrun : (s.spare.chks.any fun c => isZ c.facet == z && !c.triggered) = false := by
    rw [List.any_eq_false]
    intro c hm
    have h := List.all_eq_true.1 hc c hm
    revert h
    cases isZ c.facet <;> cases z <;> cases c.triggered <;> decide
  have hk : (if z then 1 else 0) = b2n z := rfl
  unfold State.backgroundCheck
  rw [hk, hrun, h1, h2, h3, hw, hx, hr, hf, h0, hn]
  dsimp only
  rw [if_neg (by simp), if_neg (by omega), hi]
  dsimp only
  cases z with
  | false => exact ⟨_, _, rfl⟩
  | true => exact ⟨_, _, rfl⟩

theorem backgroundCheck_shed {z : Bool} (h : 1 ≤ s.ctl.shed) : s.backgroundCheck z = s :=
  if_pos (.inr (.inr (.inr (.inl h))))

theorem shadowAgrees_iff (z : Bool) (own sp rms : IQ) (s : State) : s.shadowAgrees z own sp rms = true ↔
    (rabs (own.i - sp.i) ≤ s.xcTol ∧ rms.i ≤ 2 * s.xcTol) ∧
      (z = true → rabs (own.q - sp.q) ≤ s.xcTol ∧ rms.q ≤ 2 * s.xcTol) := by
  unfold State.shadowAgrees
  cases z <;> simp

/-- Means that part send the referee: the spare is lent, and the check waits in its second phase. -/
theorem shadowDecision_parts {z : Bool} {own sp rms : IQ} {c : Check} (hc : s.dueCheck z 1 1 2080 = some c)
    (h : s.shadowAgrees z own sp rms = false) :
    ((s.shadowDecision z own sp rms).spareAt (pathKind c.facet) c.spare).state = spLent ∧
      (s.shadowDecision z own sp rms).spare.chks = s.spare.chks.map (fun (d : Check) =>
        if d.facet = c.facet then { d with phase := 2, waiting := true } else d) ∧
      (s.shadowDecision z own sp rms).facets = s.facets := by
  unfold State.shadowDecision
  rw [hc, h]
  dsimp only
  rw [if_neg Bool.false_ne_true]
  have ht := setSpare_tablesOnly s (pathKind c.facet) c.spare { s.spareAt (pathKind c.facet) c.spare with state := spLent }
  have ha := spareAt_setSpare s (pathKind c.facet) c.spare { s.spareAt (pathKind c.facet) c.spare with state := spLent }
  obtain ⟨h1, -, h3⟩ := ht.spared
  generalize s.setSpare (pathKind c.facet) c.spare { s.spareAt (pathKind c.facet) c.spare with state := spLent } = v at ha h1 h3 ⊢
  have hn := checkExhausted_noted v (pathKind c.facet)
  have hb := hn.spareAt (pathKind c.facet) c.spare
  rw [ha] at hb
  have h4 : (v.checkExhausted (pathKind c.facet)).spare.chks = s.spare.chks := by rw [hn.eq]; exact h1
  have h5 : (v.checkExhausted (pathKind c.facet)).facets = s.facets := by rw [hn.eq]; exact h3
  generalize v.checkExhausted (pathKind c.facet) = w at hb h4 h5 ⊢
  refine ⟨?_, congrArg (List.map _) h4, h5⟩
  exact (congrArg SpareSt.state hb :)

/-- A check of which a facet is rid. -/
theorem dropCheck_chks (s : State) (n : Nat) : ∀ d ∈ (s.dropCheck n).spare.chks, d.facet ≠ n := by
  intro d hd
  have := (List.mem_filter.1 hd).2
  simpa using this

/-- The measurement of a referee's phase is out of its limits. -/
def refereeBad (s : State) (z : Bool) (offs gain : IQ) : Bool :=
  (decide (limOfs s.cal.limits < rabs offs.i) || decide (limGain s.cal.limits < rabs (gain.i - 1))) ||
    (z && (decide (limOfs s.cal.limits < rabs offs.q) || decide (limGain s.cal.limits < rabs (gain.q - 1))))

theorem refereeBad_iff {z : Bool} {offs gain : IQ} : refereeBad s z offs gain = true ↔
    (limOfs s.cal.limits < rabs offs.i ∨ limGain s.cal.limits < rabs (gain.i - 1)) ∨
      (z = true ∧ (limOfs s.cal.limits < rabs offs.q ∨ limGain s.cal.limits < rabs (gain.q - 1))) := by
  simp [refereeBad]

theorem refereeDecision_eq {z : Bool} {offs gain : IQ} {c : Check} (hf : s.isFrame = true) (hc : s.dueCheck z 2 3 4160 = some c) :
    s.refereeDecision z offs gain =
      if c.phase = 2 then
        if refereeBad s z offs gain then s.ownPathFailed c
        else (s.modCheck c.facet fun c => { c with phase := 3, waiting := true }).startReturn c.facet (pathKind c.facet) c.spare
          true true
      else if refereeBad s z offs gain then
        (((s.dropCheck c.facet).failSpare (pathKind c.facet) c.spare).sparev 2 (pathKind c.facet) c.spare c.facet
          (if c.triggered then 2 else 1) true false).checkExhausted (pathKind c.facet)
      else ((s.dropCheck c.facet).logE 0x0F noMaster c.facet 0xFF).returnSpare (pathKind c.facet) c.spare := by
  unfold State.refereeDecision
  rw [hc, if_neg (by simp [hf])]
  rfl

theorem pathKind_lt (n : Nat) : pathKind n < 2 := by
  unfold pathKind
  split <;> decide

/-- A path that fails its check is replaced, or marked as needing a spare. -/
theorem ownPathFailed_facts (s : State) (c : Check) :
    (∀ d ∈ (s.ownPathFailed c).spare.chks, d.facet ≠ c.facet) ∧
      ((s.blkA c.facet).policy = 0 → s.autoSub = true →
        ((s.ownPathFailed c).facet c.facet).subst = some c.spare ∧ ((s.ownPathFailed c).facet c.facet).needPath = false ∧
        ((s.ownPathFailed c).spareAt (pathKind c.facet) c.spare).state = spSubst ∧
        fld (s.ownPathFailed c).ctl.irq0 7 1 = 1) ∧
      ((s.blkA c.facet).policy ≠ 0 ∨ s.autoSub = false → ((s.ownPathFailed c).facet c.facet).needPath = true) := by
  have hk := pathKind_lt c.facet
  have hd := dropCheck_chks s c.facet
  unfold State.ownPathFailed
  extract_lets n kind cause v y
  have hb : (v.blkA n).policy = (s.blkA c.facet).policy := rfl
  have ha : v.autoSub = s.autoSub := rfl
  have hv : ∀ d ∈ v.spare.chks, d.facet ≠ c.facet := hd
  rw [hb, ha]
  by_cases h : (s.blkA c.facet).policy = 0 ∧ s.autoSub = true
  · rw [if_pos h]
    obtain ⟨h1, h2, h3, -, h5⟩ := completeSubst_facts v n kind c.spare cause
    have hs : servedBy kind c.spare (v.facet n) = { v.facet n with
      subst := some c.spare, standin := none, pathFailed := true, needPath := false, swap := none } := if_pos hk
    rw [hs] at h1
    unfold FaultMarked at h1
    rw [h3]
    refine ⟨hv, fun _ _ => ⟨(congrArg FacetRT.subst h1 :), (congrArg FacetRT.needPath h1 :), h2, h5⟩, fun h' => ?_⟩
    rcases h' with h' | h'
    · exact absurd h.1 h'
    · exact absurd h.2 (by rw [h']; decide)
  · rw [if_neg h]
    have hn := sparev_noted v 2 kind c.spare n cause true false
    have hc := (congrArg (fun w : State => w.spare.chks) hn.eq :)
    have hp : FaultMarked (partMarked kind ((v.sparev 2 kind c.spare n cause true false).facet n)) (y.facet n) :=
      partFailed_facet ..
    have hps : y.spare = (v.sparev 2 kind c.spare n cause true false).spare := partFailed_spare ..
    generalize y = x at hp hps ⊢
    generalize v.sparev 2 kind c.spare n cause true false = w at hn hc hp hps
    have hm : partMarked kind (w.facet n) = { w.facet n with pathFailed := true, needPath := true } := if_pos hk
    rw [hm] at hp
    unfold FaultMarked at hp
    refine ⟨?_, fun h1 h2 => absurd ⟨h1, h2⟩ h, fun _ => ?_⟩
    · intro d hd'
      refine hv d ?_
      have hx : x.spare.chks = v.spare.chks := (congrArg SpareUnit.chks hps).trans hc
      exact hx ▸ hd'
    · have hf : ((x.startReturn n kind c.spare true false).facet n).needPath = (x.facet n).needPath := by
        unfold State.startReturn
        rw [facet_modFacet]
        dsimp only
        rw [if_pos hk]
        rfl
      exact hf.trans (congrArg FacetRT.needPath hp :)

/-- The path returns temporarily, kept by its check, and no spare's table changes. -/
theorem startReturn_keep (s : State) (n k i : Nat) : (s.startReturn n k i true true).spare = s.spare ∧
    ∃ w, ((s.startReturn n k i true true).facet n).swap = some w ∧ w.back = true ∧ w.keep = true :=
  ⟨rfl, _, congrArg FacetRT.swap (facet_modFacet ..), rfl, rfl⟩

/-- A spare that fails its check is out of service. -/
theorem spareFailed_facts (s : State) (k i n c : Nat) :
    ((((s.failSpare k i).sparev 2 k i n c true false).checkExhausted k).spareAt k i).state = spFailed ∧
      (((s.failSpare k i).sparev 2 k i n c true false).checkExhausted k).spare.chks = s.spare.chks ∧
      (((s.failSpare k i).sparev 2 k i n c true false).checkExhausted k).facets = s.facets := by
  have hn := (sparev_noted (s.failSpare k i) 2 k i n c true false).trans (checkExhausted_noted _ k)
  obtain ⟨h1, -, h3⟩ := (setSpare_tablesOnly s k i { s.spareAt k i with state := spFailed, target := 0 }).spared
  have ha : (s.failSpare k i).spareAt k i = { s.spareAt k i with state := spFailed, target := 0 } := spareAt_setSpare ..
  refine ⟨?_, ?_, ?_⟩
  · rw [hn.spareAt, ha]
  · rw [hn.eq]
    exact h1
  · rw [hn.eq]
    exact h3

/-- A spare that is freed: the lists of checks and the facets stay. -/
theorem returnSpare_facts (s : State) (k i : Nat) : (s.returnSpare k i).spare.chks = s.spare.chks ∧
    (s.returnSpare k i).spare.drv = s.spare.drv ∧ (s.returnSpare k i).facets = s.facets := by
  have hn : SpareNoted (s.freeSpare k i) (s.returnSpare k i) := checkExhausted_noted _ k
  obtain ⟨h1, h2, h3⟩ := (setSpare_tablesOnly s k i (s.spareAt k i).freed).spared
  refine ⟨?_, ?_, ?_⟩
  · rw [hn.eq]
    exact h1
  · rw [hn.eq]
    exact h2
  · rw [hn.eq]
    exact h3

/-! ## Driver checks (R396) -/

theorem drvKind_ge (n : Nat) : ¬ drvKind n < 2 := by
  unfold drvKind
  split <;> decide

/-- The state without the driver check of a facet. -/
def drvDropped (s : State) (n : Nat) : State :=
  { s with spare := { s.spare with drv := s.spare.drv.filter fun d => d.facet != n } }

theorem drvDropped_drv (s : State) (n : Nat) : ∀ e ∈ (drvDropped s n).spare.drv, e.facet ≠ n := by
  intro d hd
  have := (List.mem_filter.1 hd).2
  simpa using this

theorem driverCheckResult_eq {n i : Nat} {d : DrvCheck} (hf : s.isFrame = true)
    (hd : s.spare.drv.find? (fun d => d.facet == n) = some d) (hi : d.spare = i) :
    s.driverCheckResult n i = if d.ok = false ∧ s.tick < d.from_ + 2080 then s else
      if d.ok then
        if (s.blkA n).policy = 0 ∧ s.autoSub = true then (drvDropped s n).completeSubst n (drvKind n) d.spare 3
        else State.returnSpare ((((drvDropped s n).sparev 2 (drvKind n) d.spare n 3 true false).partFailed n (drvKind n)).modFacet n
          fun f => { f with excStandin := none }) (drvKind n) d.spare
      else State.returnSpare (((drvDropped s n).modFacet n fun f => { f with excStandin := none, checkBarred := true }).logE 0x0F
        noMaster n 0xFF) (drvKind n) d.spare := by
  unfold State.driverCheckResult
  rw [hd]
  dsimp only
  by_cases h : d.ok = false ∧ s.tick < d.from_ + 2080
  · rw [if_pos h, if_pos (.inr (.inr h))]
  · rw [if_neg h, if_neg (by simp [hi, hf]; simpa using h)]
    rfl

/-- A driver that its check has found failed waits for a spare where none takes its place. -/
theorem driverFailed_facts (s : State) (n i : Nat) (v : State)
    (hv : v = State.returnSpare ((((drvDropped s n).sparev 2 (drvKind n) i n 3 true false).partFailed n (drvKind n)).modFacet n
      fun f => { f with excStandin := none }) (drvKind n) i) :
    (v.facet n).excSubst = (s.facet n).excSubst ∧ (v.facet n).excFailed = true ∧ (v.facet n).needExc = true ∧
      (v.facet n).excStandin = none ∧ ∀ e ∈ v.spare.drv, e.facet ≠ n := by
  have hn := sparev_noted (drvDropped s n) 2 (drvKind n) i n 3 true false
  have h0 := hn.facet n
  have hd := (congrArg (fun w : State => w.spare.drv) hn.eq :)
  generalize (drvDropped s n).sparev 2 (drvKind n) i n 3 true false = w at hn hd h0 hv
  have hp := partFailed_facet w n (drvKind n)
  have hps := partFailed_spare w n (drvKind n)
  generalize w.partFailed n (drvKind n) = x at hp hps hv
  have hm : partMarked (drvKind n) (w.facet n) = { w.facet n with excFailed := true, needExc := true } := if_neg (drvKind_ge n)
  rw [hm] at hp
  unfold FaultMarked at hp
  obtain ⟨-, hr, hf⟩ := returnSpare_facts (x.modFacet n fun f => { f with excStandin := none }) (drvKind n) i
  rw [← hv] at hr hf
  have hvf : v.facet n = { x.facet n with excStandin := none } := (facet_congr hf n).trans (facet_modFacet ..)
  have h0' : (w.facet n).excSubst = (s.facet n).excSubst := (congrArg FacetRT.excSubst h0 :)
  rw [hvf]
  refine ⟨(congrArg FacetRT.excSubst hp :).trans h0', (congrArg FacetRT.excFailed hp :), (congrArg FacetRT.needExc hp :), rfl, ?_⟩
  intro e he
  rw [hr] at he
  refine drvDropped_drv s n e ?_
  have hx : x.spare.drv = (drvDropped s n).spare.drv := (congrArg SpareUnit.drv hps).trans hd
  exact hx ▸ he

/-- A driver whose check has not been stable keeps its substitute, and no other check begins on it. -/
theorem driverBarred_facts (s : State) (n i : Nat) (v : State)
    (hv : v = State.returnSpare (((drvDropped s n).modFacet n fun f => { f with excStandin := none, checkBarred := true }).logE 0x0F
        noMaster n 0xFF) (drvKind n) i) :
    (v.facet n).checkBarred = true ∧ (v.facet n).excStandin = none ∧ (v.facet n).excSubst = (s.facet n).excSubst ∧
      ∀ e ∈ v.spare.drv, e.facet ≠ n := by
  obtain ⟨-, hr, hf⟩ := returnSpare_facts (((drvDropped s n).modFacet n fun f =>
    { f with excStandin := none, checkBarred := true }).logE 0x0F noMaster n 0xFF) (drvKind n) i
  rw [← hv, logE_spare] at hr
  rw [← hv, logE_facets] at hf
  have hvf : v.facet n = { s.facet n with excStandin := none, checkBarred := true } := (facet_congr hf n).trans (facet_modFacet ..)
  rw [hvf]
  exact ⟨rfl, rfl, rfl, fun e he => drvDropped_drv s n e (hr ▸ he)⟩

/-- Settles O52: path checks and driver checks start, decide and end. -/
theorem sparesAreCheckedAndReplace : Obligations.SparesAreCheckedAndReplace := by
  refine ⟨⟨fun z s n i hr hx hf h0 hl hw h1 h2 h3 hc hn hi => ?_, fun z s h => ?_,
      fun z own sp rms s c hr hc => ⟨fun h => ?_, fun h => ?_⟩, shadowAgrees_iff,
      fun z offs gain s c hr hf hc => ⟨fun h => ?_, fun h1 h2 h3 => ?_⟩⟩,
    fun f i s d hr hf hd hi => ⟨fun hok hp ha => ?_, fun hok hp => ?_, fun hok ht => ?_, fun hok ht => ?_⟩⟩
  · obtain ⟨a, b, he⟩ := backgroundCheck_starts hr hx hf h0 hl hw h1 h2 h3 hc hn hi
    obtain ⟨k1, -, k3, k4⟩ := startCheck_facts s n i false
    rw [sweepNext_kind hn] at k1
    have hx : exec (.backgroundCheckStart z) s = _ :=
      ((congrArg (ok s) (live_ready s hr)).trans (ok_eq s (s.backgroundCheck z))).trans (by rw [he])
    exact ⟨_, hx, k1, k3, k4⟩
  · have he : s.live (fun t => t.backgroundCheck z) = s := by
      unfold State.live
      split
      · exact backgroundCheck_shed h
      · rfl
    exact (congrArg (ok s) he).trans (ok_next s s rfl rfl)
  · have he : s.shadowDecision z own sp rms = s.modCheck c.facet fun c => { c with phase := 4 } := by
      unfold State.shadowDecision
      rw [hc, h]
      rfl
    exact (congrArg (ok s) ((live_ready s hr).trans he)).trans (ok_next s _ rfl rfl)
  · obtain ⟨k1, k2, k3⟩ := shadowDecision_parts hc h
    exact ⟨_, (congrArg (ok s) (live_ready s hr)).trans (ok_eq ..), k1, k2, k3⟩
  · have he := refereeDecision_eq (offs := offs) (gain := gain) hf hc
    rw [if_pos (refereeBad_iff.2 h)] at he
    have hx : exec (.refereeDecision z offs gain) s = .next { s.refereeDecision z offs gain with pending := s.pending, life := s.life } :=
      (congrArg (ok s) (live_ready s hr)).trans (ok_eq ..)
    by_cases hp : c.phase = 2
    · obtain ⟨k1, k2, k3⟩ := ownPathFailed_facts s c
      rw [if_pos hp] at he
      rw [he] at hx
      exact ⟨_, hx, k1, fun _ => k2, fun _ => k3, fun h' => absurd hp h'⟩
    · obtain ⟨k1, k2, k3⟩ := spareFailed_facts (s.dropCheck c.facet) (pathKind c.facet) c.spare c.facet (if c.triggered then 2 else 1)
      rw [if_neg hp, if_pos (refereeBad_iff.2 h)] at he
      rw [he] at hx
      exact ⟨_, hx, fun d hd => dropCheck_chks s c.facet d (k2 ▸ hd), fun h' => absurd h' hp, fun h' => absurd h' hp,
        fun _ => ⟨k1, k3⟩⟩
  · have hb : refereeBad s z offs gain ≠ true := by
      rw [Ne, refereeBad_iff]
      rintro ((h | h) | ⟨hz, h | h⟩)
      · exact absurd h (not_lt.mpr h1)
      · exact absurd h (not_lt.mpr h2)
      · exact absurd h (not_lt.mpr (h3 hz).1)
      · exact absurd h (not_lt.mpr (h3 hz).2)
    have he := refereeDecision_eq (offs := offs) (gain := gain) hf hc
    rw [if_neg hb, if_neg hb] at he
    have hx : exec (.refereeDecision z offs gain) s = .next { s.refereeDecision z offs gain with pending := s.pending, life := s.life } :=
      (congrArg (ok s) (live_ready s hr)).trans (ok_eq ..)
    by_cases hp : c.phase = 2
    · obtain ⟨k1, w, k2, k3, k4⟩ := startReturn_keep (s.modCheck c.facet fun c => { c with phase := 3, waiting := true }) c.facet
        (pathKind c.facet) c.spare
      rw [if_pos hp] at he
      rw [he] at hx
      exact ⟨_, hx, fun _ => ⟨w, k2, k3, k4, (congrArg SpareUnit.sb k1 :), (congrArg SpareUnit.sz k1 :)⟩, fun h' => absurd hp h'⟩
    · obtain ⟨k1, -, k3⟩ := returnSpare_facts ((s.dropCheck c.facet).logE 0x0F noMaster c.facet 0xFF) (pathKind c.facet) c.spare
      rw [logE_spare] at k1
      rw [logE_facets] at k3
      rw [if_neg hp] at he
      rw [he] at hx
      exact ⟨_, hx, fun h' => absurd h' hp, fun _ => ⟨fun d hd => dropCheck_chks s c.facet d (k1 ▸ hd), k3⟩⟩
  · have he := driverCheckResult_eq hf hd hi
    rw [if_neg (by simp [hok]), if_pos hok, if_pos ⟨hp, ha⟩] at he
    obtain ⟨h1, h2, -, h4, -⟩ := completeSubst_facts (drvDropped s f.val) f.val (drvKind f.val) d.spare 3
    have hs : servedBy (drvKind f.val) d.spare ((drvDropped s f.val).facet f.val) = { (drvDropped s f.val).facet f.val with
      excSubst := some d.spare, excStandin := none, excFailed := true, needExc := false, swap := none } := if_neg (drvKind_ge _)
    rw [hs] at h1
    unfold FaultMarked at h1
    have hx : exec (.driverCheckResult f i) s = .next { s.driverCheckResult f.val i.val with pending := s.pending, life := s.life } :=
      (congrArg (ok s) (live_ready s hr)).trans (ok_eq ..)
    rw [he] at hx
    exact ⟨_, hx, (congrArg FacetRT.excSubst h1 :), (congrArg FacetRT.needExc h1 :), h2,
      fun e he => drvDropped_drv s f.val e (h4 ▸ he)⟩
  · have he := driverCheckResult_eq hf hd hi
    have hno : ¬ ((s.blkA f.val).policy = 0 ∧ s.autoSub = true) := by
      rintro ⟨h1, h2⟩
      rcases hp with hp | hp
      · exact hp h1
      · rw [h2] at hp
        exact absurd hp (by decide)
    rw [if_neg (by simp [hok]), if_pos hok, if_neg hno] at he
    obtain ⟨k1, k2, k3, k4, k5⟩ := driverFailed_facts s f.val d.spare _ he
    exact ⟨_, (congrArg (ok s) (live_ready s hr)).trans (ok_eq ..), k1, k2, k3, k4, k5⟩
  · have he := driverCheckResult_eq hf hd hi
    rw [if_neg (by omega), if_neg (by simp [hok])] at he
    obtain ⟨k1, k2, k3, k4⟩ := driverBarred_facts s f.val d.spare _ he
    exact ⟨_, (congrArg (ok s) (live_ready s hr)).trans (ok_eq ..), k1, k2, k3, k4⟩
  · have he := driverCheckResult_eq hf hd hi
    rw [if_pos ⟨hok, ht⟩] at he
    exact (congrArg (ok s) ((live_ready s hr).trans he)).trans (ok_next s _ rfl rfl)

end Sys2Proof.Proofs
end

section
/-! PROPERTY. Failover, CANCLK and port C (O45). -/

namespace Sys2Proof.Proofs

open Sys2Proof Sys2Proof.Machine Sys2Proof.Laws

-- one proof at a time: the text is compiled as a whole, and the proofs side by side would need too much memory
set_option Elab.async false

variable {s t u : State} {m : Master}

/-! ## Writes of the failover register (R314, R521) -/

/-- The word that a write of the failover register stores. -/
theorem rwMerge_failover (old v : Word) : rwMerge 0x6F old v = v &&& 7 :=
  rwMerge_and old 7 rfl (by decide)

/-- The state in which the word of the failover register is stored. -/
def failoverPut (s : State) (v : Word) : State := { s with candev := { s.candev with
  ctl := v &&& 7, waiting := if fld v 0 1 = 0 then [] else s.candev.waiting } }

theorem failoverWrite_masked (s : State) (v : Word) : s.failoverWrite (v &&& 7) = failoverPut s v := by
  have h0 : fld (v &&& 7) 0 1 = fld v 0 1 := fld_and_mask (by decide)
  have h3 : ¬ fld (v &&& 7) 3 1 = 1 := by
    rw [fld_congr (v := v &&& 7) (w := 0) (lo := 3) (n := 1) fun i hi => by
      obtain rfl : i = 0 := by omega
      simp]
    decide
  unfold State.failoverWrite failoverPut
  rw [if_neg h3, h0, BitVec.and_assoc, BitVec.and_self]

theorem stored_failover (s : State) (m : Master) (v : Word) : stored s m 0x6F v = failoverPut s v :=
  (congrArg s.failoverWrite (rwMerge_failover ..)).trans (failoverWrite_masked s v)

theorem writeCycle_home (h : s.directs m 0x6F) {v : Word} (hv : fld v 3 1 = 1) :
    s.writeCycle m 0x6F v = (failoverPut s v).failoverEnd.ack m true := by
  rw [writeCycle_store_now h rfl (and_ne_zero_of_fld hv (by decide)), stored_failover]
  exact congrArg (fun t : State => t.ack m true) ((steps_one ..).trans (if_pos hv))

theorem writeCycle_failover (h : s.directs m 0x6F) {v : Word} (hv : v &&& 8 = 0) :
    s.writeCycle m 0x6F v = (failoverPut s v).ack m true := by
  rw [writeCycle_store h rfl hv, stored_failover]

theorem failoverHome_ends (h : s.directs m 0x6F) : ∃ t, exec (.failoverHome m) s = .next t ∧ t.candev.active = none ∧
    t = { s with candev := t.candev, ctl := { s.ctl with acked := t.ctl.acked } } := by
  have hv : fld (withBit 0x6F s.candev.ctl 3) 3 1 = 1 := (withBit_fld _ _ (by decide) (by decide)).trans (if_pos rfl)
  have hw := congrArg (ok s) (writeCycle_home h hv)
  refine ⟨_, hw.trans (ok_next s _ (by rw [ack_pending]; rfl) (by rw [ack_life]; rfl)), ?_, ?_⟩
  · rw [ack_candev]
    rfl
  · obtain ⟨c, hc⟩ := ack_ex (failoverPut s (withBit 0x6F s.candev.ctl 3)).failoverEnd m true
    rw [hc]
    rfl

theorem failoverDisable_drops (h : s.directs m 0x6F) : ∃ t, exec (.failoverDisable m) s = .next t ∧
    fld t.candev.ctl 0 1 = 0 ∧ t.candev.waiting = [] ∧ t.candev.active = s.candev.active ∧
    t = { s with candev := t.candev, ctl := { s.ctl with acked := t.ctl.acked } } := by
  generalize hv : setFld (heldWord 0x6F s.candev.ctl) 0 1 0 = v
  have h0 : fld v 0 1 = 0 := by
    rw [← hv, fld_setFld_self _ _ (by decide)]
    rfl
  have h8 : v &&& 8 = 0 := by
    rw [← hv]
    refine BitVec.eq_of_getLsbD_eq fun i hi => ?_
    rw [BitVec.getLsbD_and, getLsbD_setFld _ _ hi]
    by_cases h3 : i = 3
    · subst h3
      simp [heldWord, nowMask]
    · rw [show (8 : Word).getLsbD i = false by revert h3; revert i; decide]
      simp
  have hw := congrArg (ok s) (writeCycle_failover h h8)
  have he : exec (.failoverDisable m) s = ok s (s.writeCycle m 0x6F v) := by rw [← hv]; rfl
  refine ⟨_, (he.trans hw).trans (ok_next s _ (by rw [ack_pending]; rfl) (by rw [ack_life]; rfl)), ?_, ?_, ?_, ?_⟩
  · rw [ack_candev]
    exact (fld_and_mask (k := 7) (by decide)).trans h0
  · rw [ack_candev]
    exact if_pos h0
  · rw [ack_candev]
    rfl
  · obtain ⟨c, hc⟩ := ack_ex (failoverPut s v) m true
    rw [hc]
    rfl

/-! ## What the events and the moves of the ports leave (R294, R312) -/

/-- The ports and what the device keeps of them stand, with corridor time and the spares. -/
structure PortsKept (s u : State) : Prop where
  can : u.can = s.can
  candev : u.candev = s.candev
  time : u.time = s.time
  spare : u.spare = s.spare

theorem PortsKept.refl (s : State) : PortsKept s s := ⟨rfl, rfl, rfl, rfl⟩

theorem PortsKept.trans (h1 : PortsKept s t) (h2 : PortsKept t u) : PortsKept s u :=
  ⟨h2.can.trans h1.can, h2.candev.trans h1.candev, h2.time.trans h1.time, h2.spare.trans h1.spare⟩

theorem canEvent_ported (s : State) (p : Nat) (f : Bool) (d : Nat) : PortsKept s (s.canEvent p f d) := by
  unfold State.canEvent
  rw [logE_eq]
  exact ⟨rfl, rfl, rfl, rfl⟩

theorem canAlarm_ported (s : State) (p : Nat) : PortsKept s (s.canAlarm p) := ⟨rfl, rfl, rfl, rfl⟩

theorem canEvent_irq0 (s : State) (p : Nat) (f : Bool) (d : Nat) : fld (s.canEvent p f d).ctl.irq0 6 1 = 1 := by
  unfold State.canEvent
  rw [logE_eq]
  exact fld_or_bit _ _ (by decide)

theorem PortsKept.canPort (h : PortsKept s u) (p : Nat) : u.canPort p = s.canPort p :=
  congrArg (fun c : Store CanPort => Store.get ({} : CanPort) c p) h.can

/-- A port keeps its settings, its state and what it has on the bus; its mailboxes and its staging may change. -/
def MailOnly (c d : CanPort) : Prop := d = { c with mb := d.mb, staging := d.staging }

theorem MailOnly.refl (c : CanPort) : MailOnly c c := rfl

theorem MailOnly.eq {c d : CanPort} (h : MailOnly c d) : d = { c with mb := d.mb, staging := d.staging } := h

theorem MailOnly.trans {a b c : CanPort} (h1 : MailOnly a b) (h2 : MailOnly b c) : MailOnly a c :=
  h2.eq.trans (congrArg (fun d : CanPort => { d with mb := c.mb, staging := c.staging }) h1.eq)

/-- Nothing but the mailboxes and the staging of the ports has changed. -/
structure MailMoved (s u : State) : Prop where
  only : u = { s with can := u.can }
  ports : ∀ q, MailOnly (s.canPort q) (u.canPort q)

theorem MailMoved.refl (s : State) : MailMoved s s := ⟨rfl, fun _ => rfl⟩

theorem MailMoved.trans (h1 : MailMoved s t) (h2 : MailMoved t u) : MailMoved s u :=
  ⟨h2.only.trans (congrArg (fun v : State => { v with can := u.can }) h1.only), fun q => (h1.ports q).trans (h2.ports q)⟩

theorem MailMoved.ite {c : Prop} [Decidable c] (h1 : MailMoved s t) (h2 : MailMoved s u) : MailMoved s (if c then t else u) := by
  split
  · exact h1
  · exact h2

theorem MailMoved.rest (h : MailMoved s u) : u.candev = s.candev ∧ u.time = s.time ∧ u.spare = s.spare := by
  rw [h.only]
  exact ⟨rfl, rfl, rfl⟩

theorem modCanPort_mail (s : State) (p : Nat) {f : CanPort → CanPort} (hf : ∀ c, MailOnly c (f c)) :
    MailMoved s (s.modCanPort p f) := by
  refine ⟨rfl, fun q => ?_⟩
  by_cases hq : q = p
  · subst hq
    rw [canPort_modCanPort]
    exact hf _
  · rw [show (s.modCanPort p f).canPort q = s.canPort q from canPort_setCanPort_other s _ hq]
    exact .refl _

theorem takeMailboxes_mail (s : State) (p : Nat) : MailMoved s (s.takeMailboxes p) := by
  unfold State.takeMailboxes
  extract_lets c ready order is recs
  refine modCanPort_mail s p fun d => ?_
  have hd : MailOnly d (is.foldl (fun c i => c.setMbox i { c.mbox i with full := false, released := false, record := none }) d) :=
    foldl_rel MailOnly.refl MailOnly.trans (by intro c i; rfl) is d
  exact hd.trans rfl

theorem stageRec_mail (s : State) (p : Nat) (r : Rec) : MailMoved s (s.stageRec p r) :=
  modCanPort_mail s p (f := fun c => { c with staging := c.staging ++ [r] }) fun _ => rfl

theorem moveStaged_mail (s : State) (p : Nat) : MailMoved s (s.moveStaged p) := by
  have hf : MailMoved s ((s.canPort p).staging.foldl (fun (acc : State × List Rec) r =>
      if isMoved r.ty ∧ acc.2.all (fun k => k.ty != r.ty) ∧ acc.1.hasRoom (1 - p) r.ty = true
      then (acc.1.stageRec (1 - p) r, acc.2) else (acc.1, acc.2 ++ [r])) (s, [])).1 := by
    refine foldl_rel (R := fun a b : State × List Rec => MailMoved a.1 b.1) (fun a => .refl a.1) (fun h1 h2 => h1.trans h2)
      (fun a r => ?_) _ (s, [])
    split
    · exact stageRec_mail ..
    · exact .refl _
  exact hf.trans (modCanPort_mail _ _ (f := fun c => { c with staging := _ }) fun _ => rfl)

/-- What a failover of port `p` does: it is in progress, waits no longer, and shows in IRQ_STAT0. -/
structure FailedOver (p : Nat) (s u : State) : Prop where
  candev : u.candev = { s.candev with active := some p, waiting := s.candev.waiting.filter (· != p) }
  irq : fld u.ctl.irq0 6 1 = 1
  time : u.time = s.time
  spare : u.spare = s.spare
  ports : ∀ q, MailOnly (s.canPort q) (u.canPort q)

theorem failover_facts (s : State) (p : Nat) : FailedOver p s (s.failover p) := by
  unfold State.failover
  extract_lets _ s1 s2
  have h2 : MailMoved s1 s2 := (takeMailboxes_mail s1 p).trans (moveStaged_mail _ p)
  have h3 := canEvent_ported s2 p true 0
  obtain ⟨hc, ht, hu⟩ := h2.rest
  clear_value s2
  exact ⟨h3.candev.trans hc, canEvent_irq0 .., h3.time.trans ht, h3.spare.trans hu, fun q => by
    rw [h3.canPort]
    exact h2.ports q⟩

/-! ## Failovers that wait and that end (R313, R314) -/

/-- A port whose failover waits and can go on. -/
def ripe (s : State) (p : Nat) : Bool := s.available (1 - p) && ((s.canPort p).st.off || (s.canPort p).failed)

theorem ripe_iff {p : Nat} (ha : s.available (1 - p) = true) :
    ripe s p = true ↔ (s.canPort p).st.off = true ∨ (s.canPort p).failed = true := by
  simp [ripe, ha]

/-- A port that can serve is neither off the bus nor failed. -/
theorem available_serves {p : Nat} (h : s.available p = true) : (s.canPort p).st.off = false ∧ (s.canPort p).failed = false := by
  simp only [State.available, Bool.and_eq_true, Bool.not_eq_true'] at h
  exact ⟨h.1.1.2, h.1.2⟩

theorem deferredFailover_moves {p : Nat} (hp : p ∈ s.candev.waiting) (h2 : ∀ q ∈ s.candev.waiting, q < 2)
    (ha : s.available (1 - p) = true) (hf : (s.canPort p).st.off = true ∨ (s.canPort p).failed = true) :
    s.deferredFailover = s.failover p := by
  have honly : ∀ q ∈ s.candev.waiting, ripe s q = true → q = p := by
    intro q hq hr
    by_contra hne
    have h1 : q = 1 - p := by
      have := h2 q hq
      have := h2 p hp
      omega
    obtain ⟨h3, h4⟩ := available_serves ha
    rw [ripe, h1, h3, h4] at hr
    simp at hr
  have hfind : s.candev.waiting.find? (ripe s) = some p := by
    cases hc : s.candev.waiting.find? (ripe s) with
    | none => exact absurd ((ripe_iff ha).mpr hf) (List.find?_eq_none.1 hc p hp)
    | some q => exact congrArg some (honly q (List.mem_of_find?_eq_some hc) (List.find?_some hc))
  have he : s.deferredFailover = (match s.candev.waiting.find? (ripe s) with | none => s | some p => s.failover p) := rfl
  rw [he, hfind]

theorem failoverReturn_ends {p : Nat} (h : s.candev.active = some p)
    (hw : fld s.candev.ctl 2 1 = 1 ∧ (s.canPort p).st = .errorActive ∧ (!(s.canPort p).failed) = true ∧ s.candev.clkOk = true ∧
      (s.canPort p).activeFrom + 4000 ≤ s.tick) : s.failoverReturn = s.failoverEnd := by
  unfold State.failoverReturn
  rw [h]
  exact if_pos hw

/-! ## CANCLK (R283) -/

/-- One port leaves the bus with CANCLK. -/
def clockOff (s : State) (p : Nat) : State := (s.leaveBus p).modCanPort p CanPort.endLone

theorem clockOff_at (s : State) (p : Nat) : AtPort p s (clockOff s p) := (leaveBus_at s p).trans (modCanPort_at ..)

theorem clockOff_port (s : State) (p : Nat) : ((clockOff s p).canPort p).onBus = none ∧
    ((clockOff s p).canPort p).lone = false ∧ ((clockOff s p).canPort p).st = (s.canPort p).st := by
  have h : (clockOff s p).canPort p = ((s.leaveBus p).canPort p).endLone := canPort_modCanPort ..
  have hb : OffBus (s.canPort p) ((s.leaveBus p).canPort p) := leaveBus_port s p
  rw [h]
  unfold OffBus at hb
  rw [hb]
  exact ⟨rfl, rfl, rfl⟩

/-- What a step does to its own port, and leaves of the others, holds for every port of the list. -/
theorem foldl_ports {R : CanPort → CanPort → Prop} {f : State → Nat → State} (hat : ∀ s p, AtPort p s (f s p))
    (hown : ∀ s p, R (s.canPort p) ((f s p).canPort p)) (l : List Nat) : ∀ s : State, l.Nodup → ∀ p,
    (p ∈ l → R (s.canPort p) ((l.foldl f s).canPort p)) ∧ (p ∉ l → (l.foldl f s).canPort p = s.canPort p) := by
  induction l with
  | nil => exact fun s _ p => ⟨fun h => (List.not_mem_nil h).elim, fun _ => rfl⟩
  | cons a l ih =>
    intro s hd p
    obtain ⟨ha, hd⟩ := List.nodup_cons.1 hd
    obtain ⟨hin, hout⟩ := ih (f s a) hd p
    by_cases hp : p = a
    · subst hp
      refine ⟨fun _ => ?_, fun h => absurd List.mem_cons_self h⟩
      rw [List.foldl_cons, hout ha]
      exact hown s p
    · rw [(hat s a).others p hp] at hin hout
      exact ⟨fun h => hin ((List.mem_cons.1 h).resolve_left hp), fun h => hout fun h' => h (List.mem_cons_of_mem _ h')⟩

theorem foldl_candev {f : State → Nat → State} (hat : ∀ s p, AtPort p s (f s p)) (l : List Nat) (s : State) :
    (l.foldl f s).candev = s.candev :=
  Laws.foldl_keeps State.candev f (fun t p => (hat t p).candev) l s

theorem foldl_ported (l : List Nat) (s : State) : PortsKept s (l.foldl (fun t p => t.canEvent p false 0) s) :=
  foldl_rel PortsKept.refl PortsKept.trans (fun t p => canEvent_ported t p false 0) l s

/-- CANCLK's loss takes each port off the bus and keeps its state. -/
theorem canclkLoss_facts (h : s.candev.clkOk = true) : s.canclkLoss.candev = { s.candev with clkOk := false } ∧
    ∀ p < 3, (s.canclkLoss.canPort p).onBus = none ∧ (s.canclkLoss.canPort p).lone = false ∧
      (s.canclkLoss.canPort p).st = (s.canPort p).st := by
  have hn : ¬ (!s.candev.clkOk) = true := by simp [h]
  unfold State.canclkLoss
  rw [if_neg hn]
  extract_lets _ s1 s2
  have hk := foldl_ported s2.runningPorts s2
  have hc : s2.candev = s1.candev := foldl_candev clockOff_at [0, 1, 2] s1
  have hp := foldl_ports (R := fun c d => d.onBus = none ∧ d.lone = false ∧ d.st = c.st) clockOff_at clockOff_port [0, 1, 2] s1
    (by decide)
  refine ⟨hk.candev.trans hc, fun p h3 => ?_⟩
  rw [hk.canPort p]
  have hm : p ∈ [0, 1, 2] := by
    have : p = 0 ∨ p = 1 ∨ p = 2 := by omega
    simpa using this
  exact (hp p).1 hm

/-- The state that a port comes to with CANCLK. -/
def clockedSt (st : CanState) : CanState := if st.off then st else .integrating

/-- One port goes back to the bus with CANCLK. -/
def clockOn (s : State) (p : Nat) : State :=
  (s.modCanPort p fun c => { c with st := clockedSt c.st }).canEvent p false 0

theorem clockOn_at (s : State) (p : Nat) : AtPort p s (clockOn s p) :=
  (modCanPort_at ..).trans (.received (canEvent_received ..) fun _ _ => canEvent_canPort ..)

theorem clockOn_port (s : State) (p : Nat) : ((clockOn s p).canPort p).st = clockedSt (s.canPort p).st := by
  unfold clockOn
  rw [canEvent_canPort, canPort_modCanPort]

theorem canclkReturn_facts {khz : Nat} (h : s.candev.clkOk = false) (hl : 20000 ≤ khz) (hu : khz ≤ 80000) :
    (s.canclkReturn khz).candev = { s.candev with clkOk := true, clkKhz := khz } ∧
    ∀ p < 3, ((s.canclkReturn khz).canPort p).st =
      if (s.canPort p).st = .init ∨ (s.canPort p).st.off = true then (s.canPort p).st else .integrating := by
  have hn : ¬ (s.candev.clkOk = true ∨ khz < 20000 ∨ 80000 < khz) := by
    rw [h]
    simp only [Bool.false_eq_true, false_or]
    omega
  unfold State.canclkReturn
  rw [if_neg hn]
  extract_lets _ s1
  have hd : s1.runningPorts.Nodup := List.Nodup.filter _ (by decide)
  have hp := foldl_ports (R := fun c d => d.st = clockedSt c.st) clockOn_at clockOn_port s1.runningPorts s1 hd
  refine ⟨foldl_candev clockOn_at s1.runningPorts s1, fun p h3 => ?_⟩
  have hm : p ∈ s1.runningPorts ↔ (s.canPort p).st ≠ .init := by
    have h012 : p ∈ [0, 1, 2] := by
      have : p = 0 ∨ p = 1 ∨ p = 2 := by omega
      simpa using this
    unfold State.runningPorts
    rw [List.mem_filter, bne_iff_ne]
    exact and_iff_right h012
  by_cases hi : (s.canPort p).st = .init
  · rw [if_pos (Or.inl hi)]
    exact congrArg CanPort.st ((hp p).2 fun hq => hm.mp hq hi)
  · refine ((hp p).1 (hm.mpr hi)).trans ?_
    exact if_congr (or_iff_right hi).symm rfl rfl

/-! ## Port C (R402, R403) -/

theorem irq0_keeps (w : Word) (b : Nat) {k : Nat} (h : fld w k 1 = 1) : fld (w ||| w16 (2 ^ b)) k 1 = 1 := by
  by_cases hb : (w16 (2 ^ b)).getLsbD k = true
  · refine Nat.eq_of_testBit_eq fun i => ?_
    rw [testBit_fld]
    by_cases hi : i < 1
    · obtain rfl : i = 0 := by omega
      simp [hb]
    · have h1 : Nat.testBit 1 i = false := by
        rw [Nat.testBit_eq_false_of_lt]
        exact Nat.one_lt_two_pow (by omega)
      simp [hi, h1]
  · refine (fld_congr (v := w ||| w16 (2 ^ b)) (w := w) fun i hi => ?_).trans h
    obtain rfl : i = 0 := by omega
    rw [BitVec.getLsbD_or]
    simp [hb]

/-- The ports and the use of port C stand, and IRQ_STAT0.SPARE where it is set. -/
structure StoodIn (s u : State) : Prop where
  can : u.can = s.can
  portC : u.spare.portC = s.spare.portC
  irq : fld s.ctl.irq0 7 1 = 1 → fld u.ctl.irq0 7 1 = 1

theorem StoodIn.refl (s : State) : StoodIn s s := ⟨rfl, rfl, id⟩

theorem StoodIn.trans (h1 : StoodIn s t) (h2 : StoodIn t u) : StoodIn s u :=
  ⟨h2.can.trans h1.can, h2.portC.trans h1.portC, h2.irq ∘ h1.irq⟩

theorem SpareNoted.stoodIn (h : SpareNoted s u) : StoodIn s u := by
  rw [h.eq]
  exact ⟨rfl, rfl, id⟩

theorem setTb_stoodIn (s : State) (st : TbState) (k : Nat) : StoodIn s (s.setTb st k) := by
  unfold State.setTb
  extract_lets _ s1 _ s2
  split
  · exact ⟨rfl, rfl, id⟩
  · exact ⟨rfl, rfl, irq0_keeps _ 2⟩

theorem leaveRef_stoodIn (s : State) : StoodIn s s.leaveRef := by
  unfold State.leaveRef
  split
  · exact .refl s
  · split
    · exact ⟨rfl, rfl, id⟩
    · exact StoodIn.trans (t := { s with time := { s.time with holdFrom := s.tick, holdE0 := _ } }) ⟨rfl, rfl, id⟩
        (setTb_stoodIn ..)

/-- What port C's use by a device port does. -/
structure Substituted (p : Nat) (s u : State) : Prop where
  subst : (u.canPort p).subst = true
  st : (u.canPort p).st = if (s.canPort p).st.off then .recovering else .integrating
  state : u.spare.portC.state = spSubst
  target : u.spare.portC.target = p
  irq : fld u.ctl.irq0 7 1 = 1

theorem substCan_facts (s : State) (p : Nat) : Substituted p s (s.substCan p) := by
  unfold State.substCan
  extract_lets off _ _ _ s2 s3 s4 s5
  have h45 : PortsKept s4 s5 := (canEvent_ported s4 p false 0).trans (canAlarm_ported ..)
  have h5 : s5.can = s4.can := h45.can
  have hc : s5.spare.portC = s2.spare.portC := congrArg SpareUnit.portC h45.spare
  have h3 : (s3.canPort p).subst = true := congrArg CanPort.subst (canPort_modCanPort s2 p _)
  have h4 : s4.canPort p = { s3.canPort p with st := if off then .recovering else .integrating } := canPort_modCanPort ..
  have hp : (s4.canPort p).subst = true ∧ (s4.canPort p).st = if off then .recovering else .integrating := by
    rw [h4]
    exact ⟨h3, rfl⟩
  clear_value s5
  have h6 := sparev_noted s5 0 5 2 p 3 true false
  have h7 : StoodIn (((s5.sparev 0 5 2 p 3 true false).irq0 7)) _ :=
    ((checkExhausted_noted _ 5).stoodIn).trans (leaveRef_stoodIn _)
  have hcan := h7.can.trans h6.stoodIn.can
  have hport := h7.portC.trans h6.stoodIn.portC
  have hq (q : Nat) : Store.get ({} : CanPort) s5.can q = s4.canPort q :=
    congrArg (fun c : Store CanPort => Store.get ({} : CanPort) c q) h5
  refine ⟨?_, ?_, ?_, ?_, h7.irq (fld_or_bit _ _ (by decide))⟩
  · unfold State.canPort
    rw [hcan]
    exact (congrArg CanPort.subst (hq p)).trans hp.1
  · unfold State.canPort
    rw [hcan]
    exact (congrArg CanPort.st (hq p)).trans hp.2
  · rw [hport, hc]
  · rw [hport, hc]

/-- A port that is marked failed keeps its substitution; the spares stand. -/
structure MarkedFailed (p : Nat) (s u : State) : Prop where
  failed : (u.canPort p).failed = true
  onBus : (u.canPort p).onBus = none
  subst : (u.canPort p).subst = (s.canPort p).subst
  spare : u.spare = s.spare

theorem failoverCheck_marked {p : Nat} (hf : (t.canPort p).failed = true) (hb : (t.canPort p).onBus = none) :
    MarkedFailed p t (t.failoverCheck p) := by
  unfold State.failoverCheck
  split
  · exact ⟨hf, hb, rfl, rfl⟩
  · split
    · have h := failover_facts t p
      have hm := h.ports p
      unfold MailOnly at hm
      refine ⟨?_, ?_, ?_, h.spare⟩
      · rw [hm]; exact hf
      · rw [hm]; exact hb
      · rw [hm]
    · exact ⟨hf, hb, rfl, rfl⟩

/-- The state in which a controller is marked failed. -/
def ctrlFailed (s : State) (p : Nat) : State := s.setCanPort p { s.canPort p with failed := true, onBus := none }

theorem controllerFails_marks {p : Nat} (h : s.autoSub = false) : MarkedFailed p s (s.controllerFails p) := by
  have he : s.controllerFails p = (ctrlFailed s p).failoverCheck p :=
    if_neg (fun hc => by rw [h] at hc; exact absurd hc.1 (by decide))
  have hp : (ctrlFailed s p).canPort p = { s.canPort p with failed := true, onBus := none } := canPort_setCanPort ..
  obtain ⟨h1, h2, h3, h4⟩ := failoverCheck_marked (t := ctrlFailed s p) (p := p) (by rw [hp]) (by rw [hp])
  rw [he]
  exact ⟨h1, h2, h3.trans (by rw [hp]), h4⟩

theorem controllerFails_substitutes {p : Nat} (h : s.autoSub = true) (hf : s.spare.forbid.getD p false = false)
    (hc : s.spare.portC.state = spFree) : s.controllerFails p = s.substCan p :=
  if_pos ⟨h, by rw [hf]; rfl, by rw [hc]; rfl⟩

/-! ## Failover, CANCLK and port C (R283, R312 to R318, R402, R403) -/

theorem shadowSwitch_turns (hi : (s.canPort 2).st = .init) (hx : s.xcEn = true) (hc : s.cSubst = false)
    (ht : s.spare.shadowFrom + 240000 ≤ s.tick) : s.shadowSwitch = { s with spare := { s.spare with
      shadow := 1 - s.spare.shadow, shadowFrom := s.tick, shadowErrs := 0 } } :=
  if_pos ⟨hi, hx, by rw [hc]; rfl, ht⟩

/-- The state in which a false error of the shadowed port is counted. -/
def shadowErred (s : State) : State := { s with spare := { s.spare with shadowErrs := s.spare.shadowErrs + 1 } }

theorem controllerFailure_errs {p : Nat} (hi : (s.canPort p).st ≠ .init) (hf : (s.canPort p).failed = false)
    (h : s.shadows p) : s.controllerFailure p .falseError =
      if 3 ≤ (shadowErred s).spare.shadowErrs then (shadowErred s).controllerFails p else shadowErred s := by
  obtain ⟨hsub, hx, h2, hsh, hc, ht⟩ := h
  have hn : ¬ ((s.canPort p).st = .init ∨ (s.canPort p).failed = true) := by
    rw [hf]
    exact not_or.mpr ⟨hi, Bool.false_ne_true⟩
  refine (if_neg hn).trans (if_neg ?_)
  rw [hsub, hx, h2, hsh, hc]
  simpa using ht

theorem controllerFailure_short {p us : Nat} (h : us < 10000) : s.controllerFailure p (.stall us) = s := by
  have hn : ¬ (s.candev.clkOk = true ∧ 10000 ≤ us) := by omega
  have he : s.controllerFailure p (.stall us) = if (s.canPort p).st = .init ∨ (s.canPort p).failed = true then s
      else if s.candev.clkOk = true ∧ 10000 ≤ us then s.controllerFails p else s := rfl
  rw [he, if_neg hn, ite_self]

theorem controllerFailure_stalls {p us : Nat} (hi : (s.canPort p).st ≠ .init) (hf : (s.canPort p).failed = false)
    (hc : s.candev.clkOk = true) (h : 10000 ≤ us) : s.controllerFailure p (.stall us) = s.controllerFails p := by
  have hn : ¬ ((s.canPort p).st = .init ∨ (s.canPort p).failed = true) := by
    rw [hf]
    exact not_or.mpr ⟨hi, Bool.false_ne_true⟩
  exact (if_neg hn).trans (if_pos ⟨hc, h⟩)

/-- A controller fails in a state that differs from the one before in the count of false errors alone. -/
theorem controllerFailure_fails {p : Nat} {x : CtrlFail} (hi : (s.canPort p).st ≠ .init) (hf : (s.canPort p).failed = false)
    (h : match x with
      | .stall us => s.candev.clkOk = true ∧ 10000 ≤ us
      | .falseError => s.shadows p ∧ 2 ≤ s.spare.shadowErrs) :
    ∃ n, s.controllerFailure p x = State.controllerFails { s with spare := { s.spare with shadowErrs := n } } p := by
  cases x with
  | stall us =>
    obtain ⟨hc, hu⟩ := h
    exact ⟨s.spare.shadowErrs, controllerFailure_stalls hi hf hc hu⟩
  | falseError =>
    obtain ⟨hs, hn⟩ := h
    have h3 : 3 ≤ (shadowErred s).spare.shadowErrs := Nat.succ_le_succ hn
    exact ⟨s.spare.shadowErrs + 1, (controllerFailure_errs hi hf hs).trans (if_pos h3)⟩

/-- Settles O45: a failover that waits is found among the ports that wait; the ports leave and enter the bus with CANCLK one by
one; a controller's failure substitutes port C, or marks the port. -/
theorem portsFailOverAndStandIn : Obligations.PortsFailOverAndStandIn := by
  unfold Obligations.PortsFailOverAndStandIn
  refine ⟨⟨fun s p hp h2 ha hf => ?_, fun s p hact hre hst hc ht hf => ?_, fun m s h => ⟨failoverHome_ends h, failoverDisable_drops h⟩⟩,
    ⟨fun s hc => ?_, fun khz s hc hl hu => ?_⟩, fun s hr hi hx hc ht => ?_, fun p s hr hi hf hs hn => ?_, fun p us s hr hu => ?_,
    fun p x s hr hi hf hx => ⟨fun ha hfb hfree => ?_, fun ha => ?_⟩⟩
  · obtain ⟨hcan, hirq, ht, -, -⟩ := failover_facts s p
    rw [← deferredFailover_moves hp h2 ha hf] at hcan hirq ht
    exact ⟨_, ok_eq .., by rw [hcan], by rw [hcan], hirq, ht⟩
  · have he := failoverReturn_ends hact ⟨hre, hst, by rw [hf]; rfl, hc, ht⟩
    exact (congrArg (ok s) he).trans (ok_next s _ rfl rfl)
  · obtain ⟨hd, hp⟩ := canclkLoss_facts hc
    have hk : s.canclkLoss.candev.clkOk = false := by rw [hd]
    refine ⟨_, ok_eq .., hd, fun p => if_neg ?_, hp, fun p => ?_⟩
    · rw [hk]
      decide
    · unfold State.onBusOk
      rw [hk]
      rfl
  · obtain ⟨hd, hp⟩ := canclkReturn_facts hc hl hu
    exact ⟨_, ok_eq .., by rw [hd], by rw [hd], hp⟩
  · exact (live_next hr (by rw [shadowSwitch_turns hi hx hc ht]) (by rw [shadowSwitch_turns hi hx hc ht])).trans
      (congrArg _ (shadowSwitch_turns hi hx hc ht))
  · have he : s.controllerFailure p.val .falseError = shadowErred s := by
      refine (controllerFailure_errs hi hf hs).trans (if_neg ?_)
      have h3 : (shadowErred s).spare.shadowErrs = s.spare.shadowErrs + 1 := rfl
      omega
    exact (congrArg (ok s) ((live_ready s hr).trans he)).trans (ok_next s _ rfl rfl)
  · exact (congrArg (ok s) ((live_ready s hr).trans (controllerFailure_short hu))).trans (ok_next s _ rfl rfl)
  · obtain ⟨n, hn⟩ := controllerFailure_fails hi hf hx
    obtain ⟨h1, h2, h3, h4, h5⟩ := substCan_facts { s with spare := { s.spare with shadowErrs := n } } p.val
    have hs := controllerFails_substitutes (s := { s with spare := { s.spare with shadowErrs := n } }) ha hfb hfree
    rw [← hs, ← hn] at h1 h2 h3 h4 h5
    exact ⟨_, (congrArg (ok s) (live_ready s hr)).trans (ok_eq ..), h1, h3, h4, h2, h5⟩
  · obtain ⟨n, hn⟩ := controllerFailure_fails hi hf hx
    obtain ⟨h1, h2, h3, h4⟩ := controllerFails_marks (s := { s with spare := { s.spare with shadowErrs := n } }) (p := p.val) ha
    rw [← hn] at h1 h2 h3 h4
    exact ⟨_, (congrArg (ok s) (live_ready s hr)).trans (ok_eq ..), h1, h2, h3, h4.trans (by rw [h4])⟩

end Sys2Proof.Proofs
end

section
/-! PROPERTY. Remote requests: sessions, reads, writes and clasps (O46, O47). -/

namespace Sys2Proof.Proofs

open Sys2Proof Sys2Proof.Machine Sys2Proof.Laws

-- one proof at a time: the text is compiled as a whole, and the proofs side by side would need too much memory
set_option Elab.async false

variable {s t u : State} {m : Master}

/-! ## What a served request does (R341, R342, R345) -/

/-- The state in which a request is carried out: the session of its holder has been heard. -/
def heard (s : State) (p : Nat) (r : Req) : State :=
  if s.holds p r then s.modSession p fun x => { x with lastTick := s.tick } else s

/-- Nothing but the sessions and the messages has changed. -/
def SessOnly (s u : State) : Prop := u = { s with sess := u.sess, msg := u.msg }

theorem SessOnly.eq (h : SessOnly s u) : u = { s with sess := u.sess, msg := u.msg } := h

theorem SessOnly.refl (s : State) : SessOnly s s := rfl

theorem SessOnly.trans (h1 : SessOnly s t) (h2 : SessOnly t u) : SessOnly s u :=
  h2.eq.trans (congrArg (fun v : State => { v with sess := u.sess, msg := u.msg }) h1.eq)

section
variable (s : State) (p : Nat) (r : Req)

theorem heard_only : SessOnly s (heard s p r) := by
  unfold heard
  split <;> rfl

/-- Of a session, the last tick alone changes where its holder is heard. -/
theorem heard_session : (heard s p r).session p =
    if s.holds p r then { s.session p with lastTick := s.tick } else s.session p := by
  unfold heard
  split
  · exact session_modSession ..
  · rfl

theorem heard_holds : (heard s p r).holds p r = s.holds p r := by
  unfold State.holds
  rw [heard_session]
  split <;> rfl

theorem heard_entry (m : Master) (k : Nat) : (heard s p r).entry m k = s.entry m k := by
  rw [(heard_only s p r).eq]
  rfl

theorem heard_master (m : Master) : (heard s p r).master m = s.master m := by
  rw [(heard_only s p r).eq]
  cases m <;> rfl

theorem heard_ready : (heard s p r).ready = s.ready := by
  rw [(heard_only s p r).eq]
  rfl

theorem leBytes_length (n v : Nat) : (leBytes n v).length = n := by simp [leBytes]

/-- The content of a response. -/
def respData (op : Nat) (r : Req) (a : Answer) : List Byte :=
  leBytes 1 op ++ leBytes 1 a.status ++ leBytes 2 a.done ++ leBytes 4 r.addr.toNat ++ a.data

theorem respData_head (op : Nat) (a : Answer) : (respData op r a).take 2 = leBytes 1 op ++ leBytes 1 a.status := by
  have h : (leBytes 1 op ++ leBytes 1 a.status).length = 2 := by simp [leBytes_length]
  unfold respData
  rw [List.append_assoc, List.append_assoc, List.take_append_of_le_length (by omega), List.take_of_length_le (by omega)]

theorem respData_tail (op : Nat) (a : Answer) : (respData op r a).drop 8 = a.data := by
  have h : (leBytes 1 op ++ leBytes 1 a.status ++ leBytes 2 a.done ++ leBytes 4 r.addr.toNat).length = 8 := by
    simp [leBytes_length]
  exact List.drop_left' h

/-- A response is the last record formed. -/
theorem respond_out (op : Nat) (a : Answer) : ∃ x : Rec, (s.respond p op r a).msg = { s.msg with out := s.msg.out ++ [(p, x)] } ∧
    x.ty = .rrsp ∧ x.data = respData op r a := ⟨_, rfl, rfl, rfl⟩

theorem respond_answers (op : Nat) (a : Answer) : (s.respond p op r a).answers p op a.status := by
  obtain ⟨x, hm, ht, hd⟩ := respond_out s p r op a
  refine ⟨x, ?_, ht, ?_⟩
  · rw [hm]
    exact List.getLast?_concat ..
  · rw [hd, respData_head]

theorem respond_only (op : Nat) (a : Answer) : SessOnly s (s.respond p op r a) := rfl

/-- Of a session a response changes the kept responses alone. -/
theorem respond_session (op : Nat) (a : Answer) : (s.respond p op r a).session p =
    { s.session p with recent := ((s.respond p op r a).session p).recent } := by
  have h (u : State) (ty : MsgType) (port sub : Nat) (d : List Byte) (i j k l : Nat) :
      (u.emit ty port sub d i j k l).session p = u.session p := rfl
  unfold State.respond
  dsimp only
  rw [h, session_modSession]

end

/-- A request that the MP serves now is answered by its effect. -/
theorem serving_answer {p op : Nat} {r : Req} (h : s.serving p op r) (f : State → Option Answer × State) :
    s.serve p op r f = (heard s p r).answer p op r f := by
  obtain ⟨hs, ha, hk, hc, hw, hf, -⟩ := h
  have hk' : (heard s p r).kept p op r = none := by
    unfold State.kept at hk ⊢
    rw [heard_session, show (heard s p r).tick = s.tick by rw [(heard_only s p r).eq]; rfl]
    split <;> exact hk
  have hc' : ((heard s p r).session p).commitReq = none := by
    rw [heard_session]
    split <;> exact hc
  have hw' : ((heard s p r).session p).waiting = [] := by
    rw [heard_session]
    split <;> exact hw
  have hf' : (heard s p r).mpFree op r = true := by
    rw [← hf, (heard_only s p r).eq]
    rfl
  have hfree : (((heard s p r).session p).commitReq.isNone && ((heard s p r).session p).waiting.isEmpty) = true := by
    rw [hc', hw']
    rfl
  have hn : ¬ ((!s.serves p) = true ∨ (!s.addressed r) = true) := by simp [hs, ha]
  unfold State.serve
  rw [if_neg hn]
  show (match (heard s p r).kept p op r with | some y => _ | none => _) = _
  rw [hk']
  exact if_pos ⟨hfree, hf'⟩

/-- The state that an operation and its answer leave. -/
def delivered (p op : Nat) (r : Req) (x : Option Answer × State) : State :=
  match x.1 with
  | some a => if x.2.ready then x.2.respond p op r a else x.2
  | none => x.2

theorem delivered_none (p op : Nat) (r : Req) (t : State) : delivered p op r (none, t) = t := rfl

theorem serving_effect {p op : Nat} {r : Req} (h : s.serving p op r) (f : State → Option Answer × State) :
    s.serve p op r f = delivered p op r (f (heard s p r)) := by
  have hs : ¬ 3 ≤ (heard s p r).ctl.shed := by
    have h3 : s.ctl.shed < 3 := h.2.2.2.2.2.2
    rw [(heard_only s p r).eq]
    exact Nat.not_le.mpr h3
  rw [serving_answer h]
  unfold State.answer
  rw [if_neg hs]
  rfl

/-- A request with an answer, in a device that stays in operation. -/
theorem serving_responds {p op : Nat} {r : Req} (h : s.serving p op r) {f : State → Option Answer × State} {a : Answer}
    {t : State} (hf : f (heard s p r) = (some a, t)) (hr : t.ready = true) : s.serve p op r f = t.respond p op r a := by
  rw [serving_effect h, hf]
  exact if_pos hr

theorem serving_ready {p op : Nat} {r : Req} (h : s.serving p op r) : s.ready = true := by
  have hs : s.serves p = true := h.1
  simp only [State.serves, Bool.and_eq_true] at hs
  exact hs.1.1

/-- The operation that needs the session, by its holder and by another. -/
theorem needsSession_held {p : Nat} {r : Req} (f : State → Option Answer × State) (h : s.holds p r = true) :
    needsSession p r f (heard s p r) = f (heard s p r) := if_pos ((heard_holds s p r).trans h)

theorem needsSession_refused {p : Nat} {r : Req} (f : State → Option Answer × State) (h : s.holds p r = false) :
    needsSession p r f (heard s p r) = (some { status := 1 }, heard s p r) :=
  if_neg (by rw [heard_holds, h]; exact Bool.false_ne_true)

/-- A request whose effect is in the sessions and the messages alone. -/
theorem serving_only {p op : Nat} {r : Req} (h : s.serving p op r) {f : State → Option Answer × State} {a : Answer}
    {t : State} (hf : f (heard s p r) = (some a, t)) (ht : SessOnly (heard s p r) t) :
    SessOnly s (s.serve p op r f) ∧ (s.serve p op r f).answers p op a.status ∧
      (s.serve p op r f).session p = { t.session p with recent := ((s.serve p op r f).session p).recent } := by
  have hto := (heard_only s p r).trans ht
  have hr : t.ready = true := by
    rw [hto.eq]
    show s.ready = true
    exact serving_ready h
  rw [serving_responds h hf hr]
  exact ⟨hto.trans (respond_only ..), respond_answers .., respond_session ..⟩

/-! ## OPEN, its key and its lock (R345) -/

/-- The key that an OPEN holds is not the station key. -/
def keyBad (s : State) (r : Req) : Prop :=
  r.data.length < 4 ∨ BitVec.ofNat 32 (leNat (r.data.take 4)) ≠ s.nvm.key ∨ s.nvm.key = 0

theorem SessOnly.next (h : SessOnly s u) : ok s u = .next u :=
  ok_next s u (by rw [h.eq]) (by rw [h.eq])

theorem heard_kept (s : State) (p : Nat) (r : Req) :
    ∃ n, (heard s p r).session p = { s.session p with lastTick := n } := by
  rw [heard_session]
  split
  · exact ⟨s.tick, rfl⟩
  · exact ⟨(s.session p).lastTick, rfl⟩

theorem doOpen_takes {p : Nat} {r : Req} (h : ¬ keyBad s r) (hl : (s.session p).lockFrom = none)
    (hh : (s.session p).holder = none ∨ (s.session p).holder = some r.node.toNat) : s.doOpen p r = (some { status := 0 },
      s.setSession p { s.session p with holder := some r.node.toNat, lastTick := s.tick, badKeys := 0 }) := by
  have h2 : ¬ (s.session p).lockFrom.isSome = true := by rw [hl]; decide
  have h3 : ¬ ((s.session p).holder.isSome = true ∧ (s.session p).holder ≠ some r.node.toNat) := by
    rcases hh with hh | hh
    · rw [hh]
      exact fun hc => absurd hc.1 (by decide)
    · exact fun hc => hc.2 hh
  unfold State.doOpen
  exact (if_neg h).trans ((if_neg h2).trans (if_neg h3))

theorem doOpen_locked {p : Nat} {r : Req} (h : ¬ keyBad s r) (hl : (s.session p).lockFrom ≠ none) :
    s.doOpen p r = (some { status := 3 }, s.keyRun p) := by
  unfold State.doOpen
  exact (if_neg h).trans (if_pos (Option.isSome_iff_ne_none.mpr hl))

theorem doOpen_busy {p : Nat} {r : Req} (h : ¬ keyBad s r) (hl : (s.session p).lockFrom = none)
    (hn : (s.session p).holder ≠ none) (hh : (s.session p).holder ≠ some r.node.toNat) :
    s.doOpen p r = (some { status := 8 }, s.keyRun p) := by
  have h2 : ¬ (s.session p).lockFrom.isSome = true := by rw [hl]; decide
  unfold State.doOpen
  exact (if_neg h).trans ((if_neg h2).trans (if_pos ⟨Option.isSome_iff_ne_none.mpr hn, hh⟩))

theorem doOpen_third {p : Nat} {r : Req} (h : keyBad s r) (hb : (s.session p).badKeys = 2) : s.doOpen p r =
    (some { status := 2 }, (s.setSession p { s.session p with badKeys := 0, lockFrom := some s.tick }).alarm 10 r.node.toNat p) := by
  unfold State.doOpen
  exact (if_pos h).trans (if_pos hb)

theorem doOpen_wrong {p : Nat} {r : Req} (h : keyBad s r) (hb : (s.session p).badKeys ≠ 2) : s.doOpen p r =
    (some { status := 2 }, s.setSession p { s.session p with badKeys := (s.session p).badKeys + 1 }) := by
  unfold State.doOpen
  exact (if_pos h).trans (if_neg hb)

theorem heard_keyBad (s : State) (p : Nat) (r q : Req) : keyBad (heard s p r) q ↔ keyBad s q := by
  rw [(heard_only s p r).eq]
  rfl

theorem heard_tick (s : State) (p : Nat) (r : Req) : (heard s p r).tick = s.tick := by
  rw [(heard_only s p r).eq]
  rfl

/-- An OPEN that takes the session. -/
theorem open_takes {p : Nat} {r : Req} (hs : s.serving p opOpen r) (hk : ¬ keyBad s r) (hl : (s.session p).lockFrom = none)
    (hh : (s.session p).holder = none ∨ (s.session p).holder = some r.node.toNat) :
    ∃ t, ok s (s.serve p opOpen r (fun t => t.doOpen p r)) = .next t ∧ t.answers p opOpen 0 ∧
      (t.session p).holder = some r.node.toNat ∧ (t.session p).lastTick = s.tick ∧ t = { s with sess := t.sess, msg := t.msg } := by
  obtain ⟨n, hn⟩ := heard_kept s p r
  have hf := doOpen_takes (s := heard s p r) (p := p) (mt (heard_keyBad s p r r).mp hk) (by rw [hn]; exact hl)
    (by rw [hn]; exact hh)
  obtain ⟨ho, ha, hx⟩ := serving_only hs (f := fun t => t.doOpen p r) hf rfl
  rw [session_setSession] at hx
  exact ⟨_, ho.next, ha, by rw [hx], by rw [hx]; exact heard_tick s p r, ho⟩

/-- An OPEN that the lock or another holder refuses ends a run of wrong keys. -/
theorem open_refused {p : Nat} {r : Req} {k : Nat} (hs : s.serving p opOpen r)
    (hf : (heard s p r).doOpen p r = (some { status := k }, (heard s p r).keyRun p)) :
    ∃ t, ok s (s.serve p opOpen r (fun t => t.doOpen p r)) = .next t ∧ t.answers p opOpen k ∧
      (t.session p).holder = (s.session p).holder ∧ (t.session p).badKeys = 0 := by
  obtain ⟨n, hn⟩ := heard_kept s p r
  obtain ⟨ho, ha, hx⟩ := serving_only hs (f := fun t => t.doOpen p r) hf rfl
  rw [State.keyRun, session_modSession, hn] at hx
  exact ⟨_, ho.next, ha, by rw [hx], by rw [hx]⟩

/-- An OPEN with a wrong key is answered, and the third in a row locks the port. -/
theorem open_wrong {p : Nat} {r : Req} (hs : s.serving p opOpen r) (hk : keyBad s r) :
    ∃ t, ok s (s.serve p opOpen r (fun t => t.doOpen p r)) = .next t ∧ t.answers p opOpen 2 ∧
      (t.session p).holder = (s.session p).holder ∧
      ((s.session p).badKeys = 2 → (t.session p).lockFrom = some s.tick ∧ (t.session p).badKeys = 0 ∧
        t.msg.seq.a = (s.msg.seq.a + 1) % 65536) ∧
      ((s.session p).badKeys ≠ 2 → (t.session p).badKeys = (s.session p).badKeys + 1) := by
  obtain ⟨n, hn⟩ := heard_kept s p r
  have hk' := (heard_keyBad s p r r).mpr hk
  have hm : (heard s p r).msg = s.msg := by unfold heard; split <;> rfl
  by_cases hb : (s.session p).badKeys = 2
  · have hf := doOpen_third hk' (p := p) (by rw [hn]; exact hb)
    have hr : State.ready (((heard s p r).setSession p { (heard s p r).session p with
        badKeys := 0, lockFrom := some (heard s p r).tick }).alarm 10 r.node.toNat p) = true :=
      (heard_ready s p r).trans (serving_ready hs)
    obtain ⟨ho, ha, hx⟩ := serving_only hs (f := fun t => t.doOpen p r) hf rfl
    have hv : State.session (((heard s p r).setSession p { (heard s p r).session p with
        badKeys := 0, lockFrom := some (heard s p r).tick }).alarm 10 r.node.toNat p) p =
        { s.session p with lastTick := n, badKeys := 0, lockFrom := some s.tick } := by
      refine (session_setSession ..).trans ?_
      rw [hn, heard_tick]
    have hq : (s.serve p opOpen r (fun t => t.doOpen p r)).msg.seq.a = (s.msg.seq.a + 1) % 65536 := by
      rw [serving_responds hs (f := fun t => t.doOpen p r) hf hr, ← hm]
      rfl
    rw [hv] at hx
    exact ⟨_, ho.next, ha, by rw [hx], fun _ => ⟨by rw [hx], by rw [hx], hq⟩, fun h => absurd hb h⟩
  · have hf := doOpen_wrong hk' (p := p) (by rw [hn]; exact hb)
    obtain ⟨ho, ha, hx⟩ := serving_only hs (f := fun t => t.doOpen p r) hf rfl
    rw [session_setSession, hn] at hx
    exact ⟨_, ho.next, ha, by rw [hx], fun h => absurd h hb, fun _ => by rw [hx]⟩

/-! ## The other operations of a session (R343, R345) -/

/-- What a charge of an activity changes: its budget, and IRQ_STAT0. -/
theorem spendAll_eq (s : State) (a n : Nat) : s.spendAll a n = { s with
    budget := (s.spendAll a n).budget, ctl := { s.ctl with irq0 := (s.spendAll a n).ctl.irq0 } } := by
  unfold State.spendAll
  cases h : s.spend a n with
  | some t =>
    dsimp only
    rw [spend_some h]
  | none =>
    dsimp only
    unfold State.stall
    split <;> rfl

/-- What a charge of an operation leaves. -/
theorem payOp_keeps (s : State) (op : Nat) (r : Req) : (s.payOp op r).life = s.life ∧ (s.payOp op r).log = s.log ∧
    (s.payOp op r).fpActive = s.fpActive ∧ (s.payOp op r).fpStaged = s.fpStaged ∧ (s.payOp op r).nvm = s.nvm ∧
    ∀ m, (s.payOp op r).master m = s.master m := by
  have h := spendAll_eq s actMp (min (opCost op r) (s.budget.limit actMp))
  have hm (m : Master) : (s.payOp op r).master m = s.master m := by
    unfold State.payOp
    rw [h]
    cases m <;> rfl
  exact ⟨(congrArg State.life h :), (congrArg State.log h :), (congrArg State.fpActive h :), (congrArg State.fpStaged h :),
    (congrArg State.nvm h :), hm⟩

theorem endSession_idle {p : Nat} (h : (s.master (portMaster p)).clasp.isOpen = false) :
    s.endSession p = s.modSession p fun x => { x with holder := none } := by
  have hm : ((s.modSession p fun x => { x with holder := none }).master (portMaster p)).clasp = (s.master (portMaster p)).clasp := by
    cases portMaster p <;> rfl
  unfold State.endSession
  refine if_neg ?_
  rw [hm, h]
  decide

theorem endSession_open {p : Nat} (h : (s.master (portMaster p)).clasp.isOpen = true) :
    s.endSession p = (s.modSession p fun x => { x with holder := none }).claspDrop (portMaster p) 3 0xFE := by
  have hm : ((s.modSession p fun x => { x with holder := none }).master (portMaster p)).clasp = (s.master (portMaster p)).clasp := by
    cases portMaster p <;> rfl
  unfold State.endSession
  refine if_pos ?_
  rw [hm, h]

theorem claspDrop_session (s : State) (m : Master) (k : Nat) (c : BitVec 32) (p : Nat) :
    (s.claspDrop m k c).session p = s.session p :=
  congrArg (fun x : Store Session => Store.get ({} : Session) x p) (claspDrop_sess s m k c)

theorem close_ends {p : Nat} {r : Req} (hs : s.serving p opClose r) (hh : s.holds p r = true)
    (hc : (s.master (portMaster p)).clasp.isOpen = false) :
    ∃ t, ok s (s.serve p opClose r (needsSession p r fun t => t.doClose p)) = .next t ∧ t.answers p opClose 0 ∧
      (t.session p).holder = none ∧ t = { s with sess := t.sess, msg := t.msg } := by
  have hf := needsSession_held (fun t => t.doClose p) hh
  rw [State.doClose, endSession_idle ((congrArg (fun x : MasterSt => x.clasp.isOpen) (heard_master s p r _)).trans hc)] at hf
  obtain ⟨ho, ha, hx⟩ := serving_only hs hf rfl
  rw [session_modSession] at hx
  exact ⟨_, ho.next, ha, by rw [hx], ho⟩

theorem keep_held {p : Nat} {r : Req} (hs : s.serving p opKeep r) (hh : s.holds p r = true) :
    ∃ t, ok s (s.serve p opKeep r (needsSession p r fun t => refuse 0 t)) = .next t ∧ t.answers p opKeep 0 ∧
      (t.session p).lastTick = s.tick ∧ (t.session p).holder = (s.session p).holder ∧
      t = { s with sess := t.sess, msg := t.msg } := by
  obtain ⟨ho, ha, hx⟩ := serving_only hs (needsSession_held (fun t => refuse 0 t) hh) (.refl _)
  rw [heard_session, if_pos hh] at hx
  exact ⟨_, ho.next, ha, by rw [hx], by rw [hx], ho⟩

theorem keep_refused {p : Nat} {r : Req} (hs : s.serving p opKeep r) (hh : s.holds p r = false) :
    ∃ t, ok s (s.serve p opKeep r (needsSession p r fun t => refuse 0 t)) = .next t ∧ t.answers p opKeep 1 ∧
      (t.session p).lastTick = (s.session p).lastTick ∧ t = { s with sess := t.sess, msg := t.msg } := by
  obtain ⟨ho, ha, hx⟩ := serving_only hs (needsSession_refused (fun t => refuse 0 t) hh) (.refl _)
  rw [heard_session, if_neg (by rw [hh]; exact Bool.false_ne_true)] at hx
  exact ⟨_, ho.next, ha, by rw [hx], ho⟩

theorem doSetKey_sets {p : Nat} {r : Req} (he : s.entry (portMaster p) 22 = 3) (hl : 4 ≤ r.data.length) : s.doSetKey p r =
    (some { status := 0 }, { s.payOp opSetKey r with
      nvm := { (s.payOp opSetKey r).nvm with key := BitVec.ofNat 32 (leNat (r.data.take 4)) } }) :=
  (if_neg (not_not_intro he)).trans (if_neg (Nat.not_lt.mpr hl))

theorem setKey_sets {p : Nat} {r : Req} (hs : s.serving p opSetKey r) (hh : s.holds p r = true) (hl : 4 ≤ r.data.length)
    (he : s.entry (portMaster p) 22 = 3) :
    ∃ t, ok s (s.serve p opSetKey r (needsSession p r fun t => t.doSetKey p r)) = .next t ∧ t.answers p opSetKey 0 ∧
      t.nvm = { s.nvm with key := BitVec.ofNat 32 (leNat (r.data.take 4)) } := by
  have hf := (needsSession_held (fun t => t.doSetKey p r) hh).trans (doSetKey_sets ((heard_entry s p r _ _).trans he) hl)
  obtain ⟨pl, -, -, -, pv, -⟩ := payOp_keeps (heard s p r) opSetKey r
  have hv : (heard s p r).nvm = s.nvm := by rw [(heard_only s p r).eq]
  have hl : (heard s p r).life = s.life := by rw [(heard_only s p r).eq]
  generalize (heard s p r).payOp opSetKey r = v at hf pl pv
  have hr := serving_responds hs hf ((congrArg (fun l : LifeSt => l.phase == .ready || l.phase == .settled) (pl.trans hl)).trans
    (serving_ready hs))
  have hn := (congrArg (ok s) hr).trans (ok_eq ..)
  exact ⟨_, hn, respond_answers .., congrArg (fun x : NvmSt => { x with key := BitVec.ofNat 32 (leNat (r.data.take 4)) }) (pv.trans hv)⟩

/-- Settles O46: the request is served by its operation, whose effect lies in the session of the port. -/
theorem sessionsOpenAndEnd : Obligations.SessionsOpenAndEnd := by
  unfold Obligations.SessionsOpenAndEnd
  refine ⟨⟨fun p r s hs => ⟨fun hl hk h0 hlk hh => ?_, fun hl hk h0 hlk => ?_, fun hl hk h0 hlk hno hh => ?_, fun hk => ?_⟩,
    fun p s k hr hk hkt => ?_⟩, fun p r s hs hh hc => close_ends hs hh hc, fun p r s hs => ⟨keep_held hs, keep_refused hs⟩,
    fun p r s hs hh hl he => setKey_sets hs hh hl he, fun p op r s hs => ?_, fun p s hr hh ht hc => ?_⟩
  · exact open_takes hs (by rintro (h | h | h) <;> [omega; exact h hk; exact h0 h]) hlk hh
  · obtain ⟨n, hn⟩ := heard_kept s p.val r
    have hb : ¬ keyBad (heard s p.val r) r :=
      mt (heard_keyBad s p.val r r).mp (by rintro (h | h | h) <;> [omega; exact h hk; exact h0 h])
    exact open_refused hs (doOpen_locked hb (by rw [hn]; exact hlk))
  · obtain ⟨n, hn⟩ := heard_kept s p.val r
    have hb : ¬ keyBad (heard s p.val r) r :=
      mt (heard_keyBad s p.val r r).mp (by rintro (h | h | h) <;> [omega; exact h hk; exact h0 h])
    exact open_refused hs (doOpen_busy hb (by rw [hn]; exact hlk) (by rw [hn]; exact hno) (by rw [hn]; exact hh))
  · exact open_wrong hs hk
  · have he : s.lockExpiry p.val = s.modSession p.val fun x => { x with lockFrom := none } := by
      unfold State.lockExpiry
      rw [hk]
      exact if_pos hkt
    have hl := congrArg (ok s) ((live_ready (f := fun t => t.lockExpiry p.val) s hr).trans he)
    exact ⟨_, hl.trans (ok_next s _ rfl rfl), by rw [session_modSession], rfl⟩
  · obtain ⟨ho, ha, -⟩ := serving_only hs (f := refuse 5) rfl (.refl _)
    exact ⟨_, ho.next, ha, ho⟩
  · have he : s.sessionTimeout p.val = s.endSession p.val := if_pos ⟨hh, ht⟩
    have hd := he.trans (endSession_open hc)
    generalize hv : s.modSession p.val (fun x => { x with holder := none }) = v at hd
    have hp : (v.claspDrop (portMaster p.val) 3 0xFE).pending = s.pending := (claspDrop_pending ..).trans (by rw [← hv]; rfl)
    have hf : (v.claspDrop (portMaster p.val) 3 0xFE).life = s.life := (claspDrop_life ..).trans (by rw [← hv]; rfl)
    have hl := (congrArg (ok s) ((live_ready (f := fun t => t.sessionTimeout p.val) s hr).trans hd)).trans (ok_next s _ hp hf)
    refine ⟨_, hl, ?_, ?_, ?_, ?_, claspDrop_irq ..⟩
    · rw [claspDrop_session, ← hv, session_modSession]
    · rw [claspDrop_master]
    · rw [claspDrop_master]
    · rw [claspDrop_master]

/-! ## Remote reads (R59, R343, R346) -/

/-- What a remote read leaves as it is. -/
structure ReadKept (s u : State) : Prop where
  budget : u.budget = s.budget
  trg : u.trg = s.trg
  can : u.can = s.can
  log : u.log = s.log
  fpActive : u.fpActive = s.fpActive
  life : u.life = s.life

theorem ReadKept.refl (s : State) : ReadKept s s := ⟨rfl, rfl, rfl, rfl, rfl, rfl⟩

theorem ReadKept.trans (h1 : ReadKept s t) (h2 : ReadKept t u) : ReadKept s u :=
  ⟨h2.budget.trans h1.budget, h2.trg.trans h1.trg, h2.can.trans h1.can, h2.log.trans h1.log, h2.fpActive.trans h1.fpActive,
    h2.life.trans h1.life⟩

theorem modMaster_readKept (s : State) (m : Master) (f : MasterSt → MasterSt) : ReadKept s (s.modMaster m f) := by
  cases m <;> exact ⟨rfl, rfl, rfl, rfl, rfl, rfl⟩

theorem SessOnly.readKept (h : SessOnly s u) : ReadKept s u := by
  rw [h.eq]
  exact ⟨rfl, rfl, rfl, rfl, rfl, rfl⟩

theorem SessOnly.rest (h : SessOnly s u) : u.fpStaged = s.fpStaged ∧ u.nvm = s.nvm := by
  rw [h.eq]
  exact ⟨rfl, rfl⟩

theorem portMaster_remote (p : Nat) : isRemote (portMaster p) = true := by
  unfold portMaster
  split <;> rfl

/-- A remote read captures and advances for its master alone. -/
theorem regRead_remote (s : State) {m : Master} (h : isRemote m = true) (off ns : Nat) : ReadKept s (s.regRead m off ns).2 := by
  have hl : ReadKept s (s.latchGroup m off ns) := by
    unfold State.latchGroup
    split
    iterate 3 exact modMaster_readKept ..
    exact .refl s
  have ha (u : State) : ReadKept u (u.advance m off) := by
    unfold State.advance
    split
    iterate 2 exact modMaster_readKept ..
    exact .refl u
  show ReadKept s (((s.latchGroup m off ns).clearRc m off).advance m off)
  rw [clearRc_remote _ off h]
  exact hl.trans (ha _)

/-- The words that a remote read returns, and the state that it leaves. -/
def remoteWords (s : State) (m : Master) (ns : Nat) (offs : List Nat) : List Word × State :=
  offs.foldl (fun acc o => (acc.1 ++ [(acc.2.regRead m o ns).1], (acc.2.regRead m o ns).2)) (([] : List Word), s)

theorem remoteWords_kept (s : State) {m : Master} (h : isRemote m = true) (ns : Nat) (offs : List Nat) :
    ReadKept s (remoteWords s m ns offs).2 :=
  foldl_rel (R := fun a b : List Word × State => ReadKept a.2 b.2) (fun a => .refl a.2) (fun h1 h2 => h1.trans h2)
    (fun a o => regRead_remote a.2 h o ns) offs (([] : List Word), s)

/-- The offsets of a request that lie in the register map. -/
def mapOffs (r : Req) : List Nat := (reqOffs r).filter fun o => decide (o < 128)

theorem doRegRead_words {p : Nat} {r : Req} (hb : reqArgBad r = false) (he : ∀ o ∈ reqOffs r, s.entry (portMaster p) (regTarget o) ≠ 0) :
    s.doRegRead p r = (some { status := 0, done := r.count, data := bytesOfWords (remoteWords s (portMaster p) r.ns (mapOffs r)).fst },
      (remoteWords s (portMaster p) r.ns (mapOffs r)).snd) := by
  have hn : (mapOffs r).find? (fun o => !openReg o && s.entry (portMaster p) (regTarget o) == 0) = none :=
    List.find?_eq_none.mpr fun o ho => by
      have h := he o (List.mem_filter.mp ho).1
      simp [h]
  unfold State.doRegRead
  show (match (mapOffs r).find? (fun o => !openReg o && s.entry (portMaster p) (regTarget o) == 0) with
    | some o => _ | none => _) = _
  rw [hn]
  exact if_neg (by rw [hb]; exact Bool.false_ne_true)

theorem doRegRead_denied {p : Nat} {r : Req} {o : Nat} (hb : reqArgBad r = false) (ho : o ∈ reqOffs r) (hr : openReg o = false)
    (he : s.entry (portMaster p) (regTarget o) = 0) :
    ∃ k, s.doRegRead p r = (some { status := 4 }, s.deny (portMaster p) k false) := by
  have hlt : o < 128 := by
    have hb' : ¬ 128 < r.addr.toNat + r.count := by
      intro hc
      simp [reqArgBad, hc] at hb
    obtain ⟨i, hi, rfl⟩ := List.mem_map.mp ho
    have := List.mem_range.mp hi
    omega
  have hm : o ∈ mapOffs r := List.mem_filter.mpr ⟨ho, by simpa using hlt⟩
  cases hf : (mapOffs r).find? (fun o => !openReg o && s.entry (portMaster p) (regTarget o) == 0) with
  | none => exact absurd (by simp [hr, he]) (List.find?_eq_none.mp hf o hm)
  | some x =>
    refine ⟨regTarget x, ?_⟩
    unfold State.doRegRead
    show (match (mapOffs r).find? (fun o => !openReg o && s.entry (portMaster p) (regTarget o) == 0) with
      | some o => _ | none => _) = _
    rw [hf]
    rfl

/-- What is in a denial besides its entry in the log. -/
theorem deny_life (s : State) (m : Master) (k : Nat) (w : Bool) : (s.deny m k w).life = s.life := by rw [deny_eq]

theorem ready_of_life (h : u.life = s.life) : u.ready = s.ready := congrArg (fun l : LifeSt => l.phase == .ready || l.phase == .settled) h

/-- A request that is denied is answered so, which IRQ_STAT0.BEZEL shows. -/
theorem serving_denied {p op : Nat} {r : Req} (h : s.serving p op r) {f : State → Option Answer × State} {k : Nat} {m : Master}
    {w : Bool} (hf : f (heard s p r) = (some { status := 4 }, (heard s p r).deny m k w)) :
    (s.serve p op r f).answers p op 4 ∧ fld (s.serve p op r f).ctl.irq0 9 1 = 1 ∧
      (s.serve p op r f).ctl.mask0 = s.ctl.mask0 := by
  have hr : ((heard s p r).deny m k w).ready = true :=
    (ready_of_life (deny_life ..)).trans ((heard_ready s p r).trans (serving_ready h))
  rw [serving_responds h hf hr]
  refine ⟨respond_answers .., deny_irq0 (heard s p r) m k w, ?_⟩
  rw [(respond_only ..).eq, deny_eq, (heard_only s p r).eq]


/-- An answered request whose effect keeps the life of the device, as a command's meaning. -/
theorem served {p op : Nat} {r : Req} (h : s.serving p op r) {f : State → Option Answer × State} {a : Answer} {t : State}
    (hf : f (heard s p r) = (some a, t)) (hl : t.life = s.life) : s.serve p op r f = t.respond p op r a :=
  serving_responds h hf ((ready_of_life hl).trans (serving_ready h))

theorem regRead_answered {p : Nat} {r : Req} (hs : s.serving p opRegRead r) (hb : reqArgBad r = false)
    (he : ∀ o ∈ reqOffs r, s.entry (portMaster p) (regTarget o) ≠ 0) :
    (s.serve p opRegRead r (fun t => t.doRegRead p r)).answers p opRegRead 0 ∧
      ReadKept s (s.serve p opRegRead r (fun t => t.doRegRead p r)) := by
  have hf := doRegRead_words (s := heard s p r) (p := p) hb fun o ho => by rw [heard_entry]; exact he o ho
  have hk := (heard_only s p r).readKept.trans (remoteWords_kept _ (portMaster_remote p) r.ns (mapOffs r))
  rw [served hs (f := fun t => t.doRegRead p r) hf hk.life]
  exact ⟨respond_answers .., hk.trans (respond_only ..).readKept⟩

/-- The words of a window read. -/
def remoteWin (s : State) (p : Nat) (r : Req) : List Byte :=
  bytesOfWords ((reqAddrs r).map fun a => s.winWord (s.master (portMaster p)).canSel r.space.toNat a)

theorem doWinRead_words {p : Nat} {r : Req} (hb : s.winArgBad r = false) (hn : s.nvmBusy r.space.toNat = false)
    (he : s.entry (portMaster p) (winTarget r.space.toNat) ≠ 0) :
    s.doWinRead p r = (some { status := 0, done := r.count, data := remoteWin s p r }, s.payOp opWinRead r) := by
  unfold State.doWinRead
  refine (if_neg fun h => he h.2).trans ((if_neg ?_).trans (if_neg ?_))
  · rw [hb]; exact Bool.false_ne_true
  · rw [hn]; exact Bool.false_ne_true

theorem heard_window (s : State) (p : Nat) (r : Req) : (heard s p r).winArgBad r = s.winArgBad r ∧
    (heard s p r).nvmBusy r.space.toNat = s.nvmBusy r.space.toNat := by
  rw [(heard_only s p r).eq]
  exact ⟨rfl, rfl⟩

theorem winRead_answered {p : Nat} {r : Req} (hs : s.serving p opWinRead r) (hb : s.winArgBad r = false)
    (hn : s.nvmBusy r.space.toNat = false) (he : s.entry (portMaster p) (winTarget r.space.toNat) ≠ 0)
    (hu : u = s.serve p opWinRead r (fun t => t.doWinRead p r)) :
    u.answers p opWinRead 0 ∧ u.log = s.log ∧ u.fpActive = s.fpActive ∧ u.fpStaged = s.fpStaged ∧ u.nvm = s.nvm := by
  have ho := heard_only s p r
  have hf := doWinRead_words ((heard_window s p r).1.trans hb) ((heard_window s p r).2.trans hn) ((heard_entry s p r _ _).symm ▸ he)
  obtain ⟨hl, hg, ha, hst, hv, -⟩ := payOp_keeps (heard s p r) opWinRead r
  obtain ⟨ost, onv⟩ := ho.rest
  have hk := ho.readKept
  have hr := hu.trans (served hs (f := fun t => t.doWinRead p r) hf (hl.trans hk.life))
  have hw : SessOnly ((heard s p r).payOp opWinRead r) u := by rw [hr]; exact respond_only ..
  obtain ⟨wst, wnv⟩ := hw.rest
  refine ⟨?_, hw.readKept.log.trans (hg.trans hk.log), hw.readKept.fpActive.trans (ha.trans hk.fpActive), wst.trans (hst.trans ost),
    wnv.trans (hv.trans onv)⟩
  rw [hr]
  exact respond_answers ..

/-- The answer to a FACET_READ. -/
def facetAnswer (s : State) (n kind : Nat) : Answer :=
  { status := 0, data := leBytes 4 (s.facetRead n kind).1.toNat ++ leBytes 2 (min 1023 (s.facetRead n kind).2) }

theorem doFacetRead_value {p n kind : Nat} {r : Req} (hn : n < 512) (hk : kind ≤ 4) (ha : r.addr.toNat = n + 65536 * kind)
    (he : s.entry (portMaster p) (regTarget 0x24) ≠ 0) : s.doFacetRead p r = (some (facetAnswer s n kind), s) := by
  have h1 : bits r.addr.toNat 16 3 = kind := by
    unfold bits
    omega
  have h2 : r.addr.toNat % 512 = n := by omega
  have h3 : ¬ (4 < kind ∨ r.addr.toNat ≠ r.addr.toNat % 512 + 65536 * kind) := by omega
  unfold State.doFacetRead
  dsimp only
  rw [h1]
  refine (if_neg he).trans ((if_neg h3).trans ?_)
  rw [h2]
  rfl

theorem facetRead_answered {p n kind : Nat} {r : Req} (hs : s.serving p opFacetRead r) (hn : n < 512) (hk : kind ≤ 4)
    (ha : r.addr.toNat = n + 65536 * kind) (he : s.entry (portMaster p) (regTarget 0x24) ≠ 0) :
    ∃ t x, ok s (s.serve p opFacetRead r (fun t => t.doFacetRead p r)) = .next t ∧ t.answers p opFacetRead 0 ∧
      t.msg.out = s.msg.out ++ [(p, x)] ∧
      x.data.drop 8 = leBytes 4 (s.facetRead n kind).1.toNat ++ leBytes 2 (min 1023 (s.facetRead n kind).2) ∧
      t.fctRead = s.fctRead := by
  have ho := heard_only s p r
  have hm : (heard s p r).msg = s.msg := by unfold heard; split <;> rfl
  have hv : (heard s p r).facetRead n kind = s.facetRead n kind := by rw [ho.eq]; rfl
  have hf := doFacetRead_value (s := heard s p r) hn hk ha ((heard_entry s p r _ _).symm ▸ he)
  have hfa : facetAnswer (heard s p r) n kind = facetAnswer s n kind := by unfold facetAnswer; rw [hv]
  rw [hfa] at hf
  have hr := served hs (f := fun t => t.doFacetRead p r) hf (by rw [ho.eq])
  obtain ⟨x, hx, -, hd⟩ := respond_out (heard s p r) p r opFacetRead (facetAnswer s n kind)
  refine ⟨_, x, ok_eq .., ?_, ?_, by rw [hd, respData_tail]; rfl, ?_⟩
  · rw [hr]
    exact respond_answers ..
  · rw [hr, hx, hm]
  · rw [hr, (respond_only ..).eq, ho.eq]

/-! ## Remote writes (R343, R344, R427) -/

/-- The word of two bytes, the low one first. -/
def wordOf2 (b0 b1 : Byte) : Word := b1 ++ b0

theorem wordOf2_toNat (b0 b1 : Byte) : (wordOf2 b0 b1).toNat = b0.toNat + 256 * b1.toNat := by
  have h : (b1 ++ b0 : Word).toNat = b1.toNat * 2 ^ 8 + b0.toNat := by
    rw [BitVec.toNat_append, ← Nat.shiftLeft_add_eq_or_of_lt b0.isLt, Nat.shiftLeft_eq]
  unfold wordOf2
  omega

theorem wordOf2_eq (b0 b1 : Byte) : wordOf2 b0 b1 = BitVec.ofNat 16 (b0.toNat + 256 * b1.toNat) := by
  rw [← wordOf2_toNat, BitVec.ofNat_toNat, BitVec.setWidth_eq]

/-- The one word of a request. -/
theorem reqWords_one {r : Req} {b0 b1 : Byte} (hc : r.count = 1) (hd : r.data = [b0, b1]) : reqWords r = [wordOf2 b0 b1] := by
  unfold reqWords
  rw [hc, hd]
  rfl

theorem reqOffs_one {r : Req} {o : Nat} (ha : r.addr.toNat = o) (hc : r.count = 1) : reqOffs r = [o] := by
  unfold reqOffs
  rw [hc, ha]
  rfl

theorem entry_remote (s : State) (p k : Nat) : s.entry (portMaster p) k ≤ 3 := by
  have h (w : Word) (a : Nat) : fld w a 2 ≤ 3 := Nat.le_of_lt_succ (fld_lt w a 2)
  unfold portMaster
  split <;> exact h _ _

/-- The write of one word of IRQ_MASK0, as a request asks for it. -/
structure MaskReq (r : Req) (b0 b1 : Byte) : Prop where
  addr : r.addr.toNat = 0x79
  count : r.count = 1
  data : r.data = [b0, b1]

section
variable {p : Nat} {r : Req} {b0 b1 : Byte}

theorem MaskReq.argOk (h : MaskReq r b0 b1) : ¬ (reqArgBad r = true ∨ r.data.length < 2 * r.count) := by
  unfold reqArgBad
  rw [reqOffs_one h.addr h.count, h.addr, h.count, h.data]
  rw [show [b0, b1].length = 2 from rfl]
  decide

theorem MaskReq.ops (h : MaskReq r b0 b1) :
    (((reqOffs r).zip (reqWords r)).filter fun x => decide (x.1 < 128)) = [(0x79, wordOf2 b0 b1)] := by
  rw [reqOffs_one h.addr h.count, reqWords_one h.count h.data]
  rfl

theorem regWrite_mask {v : Word} (hr : s.ready = true) (he : s.entry (portMaster p) 7 = 3)
    (hc : (s.master (portMaster p)).clasp.isOpen = false) :
    s.regWrite (portMaster p) 0x79 v = { s with ctl := { s.ctl with mask0 := v } } := by
  have hh : ¬ (portMaster p = .host ∧ s.ctl.svc = true ∧ (!svcReg 0x79) = true) := by
    unfold portMaster
    split <;> exact fun h => nomatch h.1
  have ho : ¬ ownReg 0x79 = true := by decide
  have hs : stored s (portMaster p) 0x79 v = { s with ctl := { s.ctl with mask0 := v } } :=
    (congrArg (fun w : Word => ({ s with ctl := { s.ctl with mask0 := w } } : State)) (rwMerge_mask (by decide) _ v))
  unfold State.regWrite
  rw [if_neg (ready_not_fatal s hr), if_neg hh, if_neg ho]
  dsimp only
  rw [show regTarget 0x79 = 7 from rfl, he, if_neg (by decide), hc, if_neg Bool.false_ne_true, if_neg (by decide),
    regDirect_store rfl rfl (by simp [nowMask]) (by decide) (by simp [rwFields]), hs]

theorem doRegWrite_mask (h : MaskReq r b0 b1) (hr : s.ready = true) (he : s.entry (portMaster p) 7 = 3)
    (hc : (s.master (portMaster p)).clasp.isOpen = false) : ∃ k, s.doRegWrite p r =
      (some { status := 0, done := k }, { s with ctl := { s.ctl with mask0 := wordOf2 b0 b1 } }) := by
  have hd : s.regDenied (portMaster p) 0x79 (wordOf2 b0 b1) = false := by
    unfold State.regDenied
    rw [show regTarget 0x79 = 7 from rfl, he]
    rfl
  have hf : [(0x79, wordOf2 b0 b1)].find? (fun x => s.regDenied (portMaster p) x.1 x.2) = none := by
    rw [List.find?_cons_of_neg (by rw [hd]; exact Bool.false_ne_true), List.find?_nil]
  have hv : encBad 0x79 (wordOf2 b0 b1) = false := rfl
  have hb : ([(0x79, wordOf2 b0 b1)].filter fun x =>
      selBad x.1 x.2 || (!(s.master (portMaster p)).clasp.isOpen && encBad x.1 x.2)) = [] := by
    rw [List.filter_cons_of_neg, List.filter_nil]
    dsimp only
    rw [hv, Bool.and_false]
    exact Bool.false_ne_true
  unfold State.doRegWrite
  dsimp only
  rw [h.ops, hf]
  dsimp only
  rw [if_neg h.argOk, hb, List.foldl_cons, List.foldl_nil, if_pos hr, regWrite_mask hr he hc]
  exact ⟨_, rfl⟩

theorem doRegWrite_maskDenied (h : MaskReq r b0 b1) (he : s.entry (portMaster p) 7 ≠ 3)
    (hc : (s.master (portMaster p)).clasp.isOpen = false) :
    s.doRegWrite p r = (some { status := 4 }, s.deny (portMaster p) 7 true) := by
  have hd : s.regDenied (portMaster p) 0x79 (wordOf2 b0 b1) = true := by
    have he2 := entry_remote s p 7
    have hx : s.entry (portMaster p) 7 < 2 ∨ s.entry (portMaster p) 7 = 2 := by omega
    unfold State.regDenied
    rw [show regTarget 0x79 = 7 from rfl, hc]
    rcases hx with hx | hx <;> simp [hx, ownReg, selReg]
  have hf : [(0x79, wordOf2 b0 b1)].find? (fun x => s.regDenied (portMaster p) x.1 x.2) = some (0x79, wordOf2 b0 b1) :=
    List.find?_cons_of_pos hd
  unfold State.doRegWrite
  dsimp only
  rw [h.ops, hf]
  show refuse 4 (s.deny (portMaster p) (regTarget 0x79) true) = _
  rw [show regTarget 0x79 = 7 from rfl]
  rfl

end

/-- The write of the first word of a facet's block, as a request asks for it. -/
structure ParamReq (r : Req) (n : Nat) (b0 b1 : Byte) : Prop where
  facet : n < 448
  space : r.space = 0
  addr : r.addr.toNat = n * 32
  count : r.count = 1
  data : r.data = [b0, b1]

section
variable {p n : Nat} {r : Req} {b0 b1 : Byte}

theorem ParamReq.addrs (h : ParamReq r n b0 b1) : reqAddrs r = [n * 32] := by
  have ha : r.addr.toNat < 2 ^ 32 := r.addr.isLt
  unfold reqAddrs
  rw [h.count, List.range_one, List.map_singleton, Nat.add_zero, Nat.mod_eq_of_lt ha, h.addr]

theorem first_param (hn : n < 448) : fpIsParam n 0 = true ∧ winValue 0 (n * 32) = (0, 1) := by
  have hz : isZ n = false := by simp [isZ, hn]
  constructor
  · unfold fpIsParam fpMask
    rw [hz]
    rfl
  · unfold winValue
    dsimp only
    rw [show n * 32 / 32 = n by omega, hz, show n * 32 % 32 = 0 by omega]
    rfl

theorem first_open (s : State) (hn : n < 448) : s.winInside 0 (n * 32) = true ∧ s.winRw 0 (n * 32) = true := by
  constructor
  · have h : n * 32 < winSize 0 := by
      rw [show winSize 0 = 0xC000 from rfl]
      omega
    simp [State.winInside, h]
  · unfold State.winRw
    dsimp only
    rw [show n * 32 / 32 = n by omega, show n * 32 % 32 = 0 by omega, (first_param hn).1, Bool.and_true]
    exact decide_eq_true (by omega)

theorem winTake_param (u : State) (hn : n < 448) (hc : (u.master (portMaster p)).clasp.isOpen = false) (q : Nat) (v : Word) :
    ∃ hold, u.winTake (portMaster p) 3 q 0 (n * 32) v = ({ u with winHold := hold } : State).setFpS n 0 (v &&& fpMask n 0) := by
  obtain ⟨hp, hv⟩ := first_param hn
  obtain ⟨hold, hd⟩ := winDirect_param (s := u) (m := portMaster p) (n := n) (w := 0) q v (by decide) hp hv
  refine ⟨hold, Eq.trans ?_ hd⟩
  unfold State.winTake
  dsimp only
  rw [(first_open u hn).2, if_pos rfl, hc, if_neg Bool.false_ne_true, if_neg (by decide), Nat.add_zero]

theorem doWinWrite_param (h : ParamReq r n b0 b1) (he : s.entry (portMaster p) 8 = 3)
    (hc : (s.master (portMaster p)).clasp.isOpen = false) : ∃ k hold, s.doWinWrite p r = (some { status := 0, done := k },
      ({ s.payOp opWinWrite r with winHold := hold } : State).setFpS n 0 (wordOf2 b0 b1 &&& fpMask n 0)) := by
  have hsp : r.space.toNat = 0 := by rw [h.space]; rfl
  have hpc : ((s.payOp opWinWrite r).master (portMaster p)).clasp.isOpen = false := by
    rw [(payOp_keeps s opWinWrite r).2.2.2.2.2 (portMaster p), hc]
  have hwe : s.winEntry (portMaster p) 0 = 3 := he
  obtain ⟨hin, hrw⟩ := first_open s h.facet
  have hno : s.winNoWrite 0 (n * 32) = false := by
    unfold State.winNoWrite
    rw [hin, hrw]
    rfl
  have hbad : s.winArgBad r = false := by
    unfold State.winArgBad
    dsimp only
    rw [hsp, h.count, h.addrs, List.any_cons, List.any_nil, hin]
    rfl
  have henc (u : State) (q : Nat) (v : Word) : u.winEnc q 0 (n * 32) v = false := by
    unfold State.winEnc
    rw [(first_param h.facet).2]
    rfl
  obtain ⟨hold, ht⟩ := winTake_param (s.payOp opWinWrite r) h.facet hpc (s.master (portMaster p)).canSel (wordOf2 b0 b1)
  have hz : (reqAddrs r).zip (reqWords r) = [(n * 32, wordOf2 b0 b1)] := by
    rw [h.addrs, reqWords_one h.count h.data]
    rfl
  have hg : ¬ (0 < 14 ∧ ((3 : Nat) < 2 ∨ ((3 : Nat) = 2 ∧ (false = false ∨ (reqAddrs r).any (winNow 0) = true)))) := by
    rintro ⟨-, h3 | ⟨h3, -⟩⟩ <;> exact absurd h3 (by decide)
  have hl : ¬ (s.winArgBad r = true ∨ r.data.length < 2 * r.count ∨ (reqAddrs r).any (s.winNoWrite 0) = true) := by
    rw [hbad, h.count, h.data, h.addrs, List.any_cons, List.any_nil, hno, show [b0, b1].length = 2 from rfl]
    decide
  refine ⟨1, hold, ?_⟩
  unfold State.doWinWrite
  dsimp only
  rw [hsp, hwe, hc, if_neg hg, if_neg hl, if_neg (by simp [State.nvmBusy]), hz, List.foldl_cons, List.foldl_nil, henc, ht, h.count]
  rfl

end

/-! ## Clasps of a remote master (R343, R346) -/

theorem doBegin_opens {p : Nat} (ho : (s.master (portMaster p)).clasp.isOpen = false)
    (hp : (s.master (portMaster p)).clasp.pend = false) :
    s.doBegin p = (some { status := 0 }, opened s (portMaster p)) := by
  have ht : s.timeoutClasp (portMaster p) = s := timeoutClasp_idle (.inl ho)
  have hb : s.beginClasp (portMaster p) = opened s (portMaster p) := by
    rw [beginClasp_opens (by rw [ht]; exact ho) (by rw [ht]; exact hp), ht]
  unfold State.doBegin
  dsimp only
  rw [ho, hp, hb]
  rfl

theorem doCommit_accepts {p : Nat} {r : Req} (ho : (s.master (portMaster p)).clasp.isOpen = true)
    (hl : s.tick < (s.master (portMaster p)).clasp.beginTick + 4000) : s.doCommit p r = (none,
      State.modSession (s.nextStamp.modClasp (portMaster p) fun c =>
        { c with isOpen := false, pend := true, acceptStamp := s.ctl.stamp + 1 }) p fun x => { x with commitReq := some r }) := by
  unfold State.doCommit
  rw [if_pos ho, commitClasp_open ho hl]

theorem doRollback_ends {p : Nat} (ho : (s.master (portMaster p)).clasp.isOpen = true)
    (hl : s.tick < (s.master (portMaster p)).clasp.beginTick + 4000) : s.doRollback p = (some { status := 0 },
      s.modClasp (portMaster p) fun c => { c with isOpen := false, full := false, writes := [], result := 3 }) := by
  unfold State.doRollback
  rw [if_pos ho, rollbackClasp_open ho hl]

theorem modClasp_apart (s : State) (m : Master) (f : Clasp → Clasp) : (s.modClasp m f).life = s.life ∧
    (s.modClasp m f).pending = s.pending ∧ (s.modClasp m f).log = s.log ∧ (s.modClasp m f).msg = s.msg ∧
    ∀ p, (s.modClasp m f).session p = s.session p := by
  cases m <;> exact ⟨rfl, rfl, rfl, rfl, fun _ => rfl⟩

theorem SessOnly.master (h : SessOnly s u) (m : Master) : u.master m = s.master m := by
  rw [h.eq]
  cases m <;> rfl

theorem SessOnly.stands (h : SessOnly s u) : u.life = s.life ∧ u.pending = s.pending ∧ u.log = s.log ∧ u.ctl = s.ctl ∧
    u.fpActive = s.fpActive := by
  rw [h.eq]
  exact ⟨rfl, rfl, rfl, rfl, rfl⟩

/-- The masters as the heard request finds them. -/
theorem heard_clasp (s : State) (p : Nat) (r : Req) (m : Master) : ((heard s p r).master m).clasp = (s.master m).clasp :=
  congrArg MasterSt.clasp (heard_master s p r m)

/-- A request that is answered, as a command: the answer to the effect `v` of the request. -/
theorem served_next {p op : Nat} {r : Req} (h : s.serving p op r) {f : State → Option Answer × State} {a : Answer} {v : State}
    (hf : f (heard s p r) = (some a, v)) (hl : v.life = s.life) (hp : v.pending = s.pending) :
    ok s (s.serve p op r f) = .next (v.respond p op r a) ∧ okWrite s (s.serve p op r f) = .next (v.respond p op r a) := by
  rw [served h hf hl]
  exact ⟨ok_next s _ hp hl, okWrite_next (serving_ready h) hp hl⟩

theorem begin_opens {p : Nat} {r : Req} (hs : s.serving p opBegin r) (hh : s.holds p r = true)
    (ho : (s.master (portMaster p)).clasp.isOpen = false) (hp : (s.master (portMaster p)).clasp.pend = false) :
    ∃ t, ok s (s.serve p opBegin r (needsSession p r fun t => t.doBegin p)) = .next t ∧ t.answers p opBegin 0 ∧
      (t.master (portMaster p)).clasp = { isOpen := true, beginTick := s.tick, beginStamp := s.ctl.stamp + 1 } := by
  obtain ⟨hlf, hpd, -, hct, -⟩ := (heard_only s p r).stands
  have hf := (needsSession_held (fun t => t.doBegin p) hh).trans
    (doBegin_opens (by rw [heard_clasp]; exact ho) (by rw [heard_clasp]; exact hp))
  obtain ⟨al, ap, -⟩ := modClasp_apart (heard s p r).nextStamp (portMaster p)
    fun _ => { isOpen := true, beginTick := (heard s p r).tick, beginStamp := (heard s p r).ctl.stamp + 1 }
  have hc : ((opened (heard s p r) (portMaster p)).master (portMaster p)).clasp =
      { isOpen := true, beginTick := s.tick, beginStamp := s.ctl.stamp + 1 } := by
    rw [opened_clasp, heard_tick, hct]
  have hl : (opened (heard s p r) (portMaster p)).life = s.life := al.trans hlf
  have hp : (opened (heard s p r) (portMaster p)).pending = s.pending := ap.trans hpd
  generalize opened (heard s p r) (portMaster p) = v at hf hc hl hp
  exact ⟨_, (served_next hs hf hl hp).1, respond_answers .., (congrArg MasterSt.clasp ((respond_only ..).master _)).trans hc⟩

theorem commit_accepts {p : Nat} {r : Req} (hs : s.serving p opCommit r) (hh : s.holds p r = true)
    (ho : (s.master (portMaster p)).clasp.isOpen = true) (hl : s.tick < (s.master (portMaster p)).clasp.beginTick + 4000) :
    ∃ t, ok s (s.serve p opCommit r (needsSession p r fun t => t.doCommit p r)) = .next t ∧
      (t.master (portMaster p)).clasp.isOpen = false ∧ (t.master (portMaster p)).clasp.pend = true ∧
      (t.session p).commitReq = some r ∧ t.msg = s.msg := by
  obtain ⟨hlf, hpd, -, -, -⟩ := (heard_only s p r).stands
  have hm : (heard s p r).msg = s.msg := by unfold heard; split <;> rfl
  have hf := (needsSession_held (fun t => t.doCommit p r) hh).trans
    (doCommit_accepts (r := r) (by rw [heard_clasp]; exact ho) (by rw [heard_clasp, heard_tick]; exact hl))
  have hr := serving_effect hs (needsSession p r fun t => t.doCommit p r)
  rw [hf, delivered_none] at hr
  generalize hf' : (fun c : Clasp => { c with isOpen := false, pend := true, acceptStamp := (heard s p r).ctl.stamp + 1 }) = f at hr
  obtain ⟨al, ap, -, am, -⟩ := modClasp_apart (heard s p r).nextStamp (portMaster p) f
  have hn := (congrArg (ok s) hr).trans (ok_next s _ (ap.trans hpd) (al.trans hlf))
  have hv : ((((heard s p r).nextStamp.modClasp (portMaster p) f).modSession p fun x => { x with commitReq := some r }).master
      (portMaster p)).clasp = f ((heard s p r).nextStamp.master (portMaster p)).clasp := by
    refine Eq.trans ?_ (modClasp_clasp (heard s p r).nextStamp (portMaster p) f)
    cases portMaster p <;> rfl
  refine ⟨_, hn, ?_, ?_, ?_, am.trans hm⟩
  · rw [hv, ← hf']
  · rw [hv, ← hf']
  · rw [session_modSession]

theorem rollback_ends {p : Nat} {r : Req} (hs : s.serving p opRollback r) (hh : s.holds p r = true)
    (ho : (s.master (portMaster p)).clasp.isOpen = true) (hl : s.tick < (s.master (portMaster p)).clasp.beginTick + 4000) :
    ∃ t, ok s (s.serve p opRollback r (needsSession p r fun t => t.doRollback p)) = .next t ∧ t.answers p opRollback 0 ∧
      (t.master (portMaster p)).clasp.isOpen = false ∧ (t.master (portMaster p)).clasp.writes = [] ∧ t.log = s.log := by
  obtain ⟨hlf, hpd, hlg, -, -⟩ := (heard_only s p r).stands
  have hf := (needsSession_held (fun t => t.doRollback p) hh).trans
    (doRollback_ends (by rw [heard_clasp]; exact ho) (by rw [heard_clasp, heard_tick]; exact hl))
  obtain ⟨al, ap, ag, -⟩ := modClasp_apart (heard s p r) (portMaster p)
    fun c => { c with isOpen := false, full := false, writes := [], result := 3 }
  have hv := modClasp_clasp (heard s p r) (portMaster p) fun c => { c with isOpen := false, full := false, writes := [], result := 3 }
  have hl := al.trans hlf
  have hp := ap.trans hpd
  have hg := ag.trans hlg
  generalize ((heard s p r).modClasp (portMaster p) fun c => { c with isOpen := false, full := false, writes := [], result := 3 }) = v
    at hf hv hl hp hg
  have hm : ((v.respond p opRollback r { status := 0 }).master (portMaster p)).clasp = _ :=
    (congrArg MasterSt.clasp ((respond_only ..).master _)).trans hv
  exact ⟨_, (served_next hs hf hl hp).1, respond_answers .., by rw [hm], by rw [hm], hg⟩

/-! ## The requests as commands -/

theorem write_refused {p : Nat} {r : Req} (hs : s.serving p opRegWrite r) (hh : s.holds p r = false) :
    ∃ t, okWrite s (s.serve p opRegWrite r (needsSession p r fun t => t.doRegWrite p r)) = .next t ∧
      t.answers p opRegWrite 1 ∧ t = { s with sess := t.sess, msg := t.msg } := by
  obtain ⟨ho, ha, -⟩ := serving_only hs (needsSession_refused (fun t => t.doRegWrite p r) hh) (.refl _)
  exact ⟨_, okWrite_next (serving_ready hs) ho.stands.2.1 ho.stands.1, ha, ho⟩

theorem maskWrite_acts {p : Nat} {r : Req} {b0 b1 : Byte} (hs : s.serving p opRegWrite r) (hh : s.holds p r = true)
    (hm : MaskReq r b0 b1) (hc : (s.master (portMaster p)).clasp.isOpen = false) (he : s.entry (portMaster p) 7 = 3) :
    ∃ t, okWrite s (s.serve p opRegWrite r (needsSession p r fun t => t.doRegWrite p r)) = .next t ∧
      t.answers p opRegWrite 0 ∧ t.ctl.mask0.toNat = b0.toNat + 256 * b1.toNat ∧ t.ctl.mask1 = s.ctl.mask1 ∧ t.log = s.log := by
  obtain ⟨hlf, hpd, hlg, hct, -⟩ := (heard_only s p r).stands
  obtain ⟨k, hk⟩ := doRegWrite_mask hm ((heard_ready s p r).trans (serving_ready hs)) ((heard_entry s p r _ _).trans he)
    (by rw [heard_clasp]; exact hc)
  have hf := (needsSession_held (fun t => t.doRegWrite p r) hh).trans hk
  have h1 : (heard s p r).ctl.mask1 = s.ctl.mask1 := congrArg CtlSt.mask1 hct
  exact ⟨_, (served_next hs hf hlf hpd).2, respond_answers .., wordOf2_toNat b0 b1, h1, hlg⟩

theorem maskWrite_denied {p : Nat} {r : Req} {b0 b1 : Byte} (hs : s.serving p opRegWrite r) (hh : s.holds p r = true)
    (hm : MaskReq r b0 b1) (hc : (s.master (portMaster p)).clasp.isOpen = false) (he : s.entry (portMaster p) 7 ≠ 3) :
    ∃ t, okWrite s (s.serve p opRegWrite r (needsSession p r fun t => t.doRegWrite p r)) = .next t ∧
      t.answers p opRegWrite 4 ∧ t.ctl.mask0 = s.ctl.mask0 ∧ fld t.ctl.irq0 9 1 = 1 := by
  obtain ⟨hlf, hpd, hlg, hct, -⟩ := (heard_only s p r).stands
  have hf := (needsSession_held (fun t => t.doRegWrite p r) hh).trans (doRegWrite_maskDenied hm
    (by rw [heard_entry]; exact he) (by rw [heard_clasp]; exact hc))
  obtain ⟨ha, hi, h0⟩ := serving_denied hs hf
  have hl : ((heard s p r).deny (portMaster p) 7 true).life = s.life := (deny_life ..).trans hlf
  have hp : ((heard s p r).deny (portMaster p) 7 true).pending = s.pending := by rw [deny_eq]; exact hpd
  have hr := served hs hf hl
  obtain ⟨-, hn⟩ := served_next hs hf hl hp
  generalize (heard s p r).deny (portMaster p) 7 true = v at hr hn
  rw [hr] at ha hi h0
  exact ⟨_, hn, ha, h0, hi⟩

theorem paramWrite_stages {p n : Nat} {r : Req} {b0 b1 : Byte} (hs : s.serving p opWinWrite r) (hh : s.holds p r = true)
    (hm : ParamReq r n b0 b1) (he : s.entry (portMaster p) 8 = 3) (hc : (s.master (portMaster p)).clasp.isOpen = false) :
    ∃ t, ok s (s.serve p opWinWrite r (needsSession p r fun t => t.doWinWrite p r)) = .next t ∧ t.answers p opWinWrite 0 ∧
      t.fpS n 0 = BitVec.ofNat 16 (b0.toNat + 256 * b1.toNat) &&& fpMask n 0 ∧ t.fpActive = s.fpActive ∧ t.log = s.log := by
  obtain ⟨hlf, -, hlg, -, hac⟩ := (heard_only s p r).stands
  obtain ⟨k, hold, hk⟩ := doWinWrite_param hm ((heard_entry s p r _ _).trans he) (by rw [heard_clasp]; exact hc)
  obtain ⟨pl, pg, pa, -⟩ := payOp_keeps (heard s p r) opWinWrite r
  have hf := (needsSession_held (fun t => t.doWinWrite p r) hh).trans hk
  have hl := pl.trans hlf
  have hg := pg.trans hlg
  have ha := pa.trans hac
  generalize (heard s p r).payOp opWinWrite r = v at hf hl hg ha
  have hr := served hs hf hl
  have hw := fpS_setFpS { v with winHold := hold } n 0 (wordOf2 b0 b1 &&& fpMask n 0)
  generalize hv : State.setFpS { v with winHold := hold } n 0 (wordOf2 b0 b1 &&& fpMask n 0) = w at hr hw
  have hn := (congrArg (ok s) hr).trans (ok_eq ..)
  have hwa : w.fpActive = s.fpActive := by rw [← hv]; exact ha
  have hwg : w.log = s.log := by rw [← hv]; exact hg
  exact ⟨_, hn, respond_answers .., hw.trans (congrArg (· &&& fpMask n 0) (wordOf2_eq b0 b1)), hwa, hwg⟩

/-- Settles O47: the request is served by its operation, in the state in which its holder has been heard. -/
theorem remoteReadsAndWrites : Obligations.RemoteReadsAndWrites := by
  unfold Obligations.RemoteReadsAndWrites
  refine ⟨⟨fun p r s hs hb => ⟨fun he => ?_, fun o ho hr he => ?_⟩, fun p r s hs hb hn he => ?_,
      fun p r s n kind hs hn hk ha he => facetRead_answered hs hn hk ha he⟩,
    ⟨fun p r s hs hh => write_refused hs hh, fun p r s b0 b1 hs hh ha hc hd hcl =>
      ⟨maskWrite_acts hs hh ⟨ha, hc, hd⟩ hcl, maskWrite_denied hs hh ⟨ha, hc, hd⟩ hcl⟩,
      fun p r s b0 b1 n hs hh hn hsp ha hc hd he hcl => paramWrite_stages hs hh ⟨hn, hsp, ha, hc, hd⟩ he hcl⟩,
    fun p r s hs hh ho hp => begin_opens hs hh ho hp, fun p r s hs hh ho hl => commit_accepts hs hh ho hl,
    fun p r s hs hh ho hl => rollback_ends hs hh ho hl⟩
  · obtain ⟨ha, hk⟩ := regRead_answered hs hb he
    exact ⟨_, ok_eq .., ha, hk.budget, hk.trg, hk.can, hk.log, hk.fpActive⟩
  · obtain ⟨k, hd⟩ := doRegRead_denied (s := heard s p.val r) hb ho hr ((heard_entry s p.val r _ _).trans he)
    obtain ⟨ha, hi, -⟩ := serving_denied hs (f := fun t => t.doRegRead p.val r) hd
    exact ⟨_, ok_eq .., ha, hi⟩
  · obtain ⟨ha, hg, hf, hst, hv⟩ := winRead_answered hs hb hn he rfl
    exact ⟨_, ok_eq .., ha, hg, hf, hst, hv⟩

end Sys2Proof.Proofs
end

section
/-! PROPERTY. Captures are held, drained and end (O39). -/

namespace Sys2Proof.Proofs

open Sys2Proof Sys2Proof.Machine Sys2Proof.Laws

-- one proof at a time: the text is compiled as a whole, and the proofs side by side would need too much memory
set_option Elab.async false

variable {s t u : State} {m : Master}

/-! ## CAPT frames of a capture (R334, R335) -/

/-- Of the capture, the tail that waits and what was sent of the header alone have changed; besides them the messages. -/
def FramesOnly (s u : State) : Prop :=
  u = { s with msg := u.msg, cap := { s.cap with tail := u.cap.tail, headSent := u.cap.headSent } }

theorem FramesOnly.refl (s : State) : FramesOnly s s := rfl

theorem FramesOnly.eq (h : FramesOnly s u) :
    u = { s with msg := u.msg, cap := { s.cap with tail := u.cap.tail, headSent := u.cap.headSent } } := h

theorem FramesOnly.trans (h1 : FramesOnly s t) (h2 : FramesOnly t u) : FramesOnly s u :=
  h2.eq.trans (congrArg (fun v : State => { v with
    msg := u.msg, cap := { v.cap with tail := u.cap.tail, headSent := u.cap.headSent } }) h1.eq)

section
variable (s : State)

theorem emitData_frames (k : Nat) (d : List Byte) : FramesOnly s (s.emitData k d) := rfl

theorem emitHeader_frames : FramesOnly s s.emitHeader := rfl

theorem flushTail_frames (b : Bool) : FramesOnly s (s.flushTail b) := by
  unfold State.flushTail
  split
  · rfl
  · rfl

theorem emitLine_frames (k : Nat) (ws : List DWord) : FramesOnly s (s.emitLine k ws) := by
  unfold State.emitLine
  extract_lets fs s1
  have h1 : FramesOnly s s1 :=
    (flushTail_frames s false).trans (foldl_rel FramesOnly.refl FramesOnly.trans (fun t d => emitData_frames t k d) _ _)
  split
  · exact h1.trans rfl
  · exact h1

end

/-! ## A capture is held, released and aborted (R267, R272) -/

/-- The state in which a capture is held, before its frames. -/
def heldCapture (s : State) : State :=
  State.irq1 (State.captureEnd { s with cap := { s.cap with st := .hold, mem := Store.keep s.capPlaces.contains s.cap.mem } }) 5

/-- A capture that is held is complete but for its frames. -/
theorem enterHold_facts (s : State) : s.enterHold.cap.st = .hold ∧ fld s.enterHold.ctl.irq1 5 1 = 1 ∧
    s.enterHold.cap.mem = Store.keep s.capPlaces.contains s.cap.mem ∧ s.enterHold.trg.logMiss = true := by
  have h0 : (heldCapture s).cap.st = .hold ∧ fld (heldCapture s).ctl.irq1 5 1 = 1 ∧
      (heldCapture s).cap.mem = Store.keep s.capPlaces.contains s.cap.mem ∧ (heldCapture s).trg.logMiss = true :=
    ⟨rfl, fld_or_bit _ _ (by decide), rfl, rfl⟩
  by_cases hc : fld (heldCapture s).cap.ctl 4 1 = 0
  · have he : s.enterHold = heldCapture s := if_pos hc
    rw [he]
    exact h0
  · have hf : ∃ v : State, v = { heldCapture s with cap := { (heldCapture s).cap with sending := true } } ∧ FramesOnly v s.enterHold := by
      unfold State.enterHold
      extract_lets ps _ s1 _ s2 from_
      have hc2 : ¬ fld s2.cap.ctl 4 1 = 0 := hc
      rw [if_neg hc2]
      refine ⟨_, rfl, (emitHeader_frames _).trans (.trans (foldl_rel FramesOnly.refl FramesOnly.trans (fun t k => ?_) _ _)
        (flushTail_frames ..))⟩
      split
      · exact emitLine_frames ..
      · exact .refl t
    obtain ⟨v, hv, hf⟩ := hf
    rw [hf.eq, hv]
    exact h0

/-- A capture that ends is idle, or arms again. -/
theorem endCapture_st (s : State) : s.endCapture.cap.st = if fld s.cap.ctl 3 1 = 1 then .rearm else .idle := by
  unfold State.endCapture
  split <;> rfl

theorem endCapture_keeps (s : State) : s.endCapture.cap.mem = s.cap.mem ∧ s.endCapture.cap.queue = s.cap.queue ∧
    s.endCapture.pending = s.pending ∧ s.endCapture.life = s.life := by
  unfold State.endCapture
  split <;> exact ⟨rfl, rfl, rfl, rfl⟩

theorem fld_capCtlHeld (s : State) : fld (capCtlHeld s).cap.ctl 3 1 = fld s.cap.ctl 3 1 := by
  have hw (a b c : Bool) : fld (w16 (8 * b2n a + 16 * b2n b + 32 * b2n c)) 3 1 = b2n a := by
    cases a <;> cases b <;> cases c <;> rfl
  have hb : b2n (fld s.cap.ctl 3 1 == 1) = fld s.cap.ctl 3 1 := by
    have h2 : fld s.cap.ctl 3 1 < 2 := fld_lt ..
    have h01 : fld s.cap.ctl 3 1 = 0 ∨ fld s.cap.ctl 3 1 = 1 := by omega
    rcases h01 with h | h <;> rw [h] <;> rfl
  exact (hw ..).trans hb

theorem capRelease_held (h : s.cap.st = .hold) : s.capRelease.cap.mem = s.cap.mem ∧
    s.capRelease.cap.st = if fld s.cap.ctl 3 1 = 1 then .rearm else .idle := by
  have he : s.capRelease = s.dropChunks.endCapture := if_pos h
  have hd : s.dropChunks.cap = s.cap := (congrArg State.cap (dropChunks_eq s) :)
  rw [he, endCapture_st, (endCapture_keeps _).1, hd]
  exact ⟨rfl, rfl⟩

theorem capAbort_facts (s : State) : s.capAbort.cap.st = s.cap.st ∧ s.capAbort.cap.abortPend =
    (s.cap.abortPend || decide (s.cap.st = .fill ∨ s.cap.st = .post ∨ s.cap.st = .stream)) := by
  unfold State.capAbort
  cases h : s.cap.st <;> exact ⟨h, by simp⟩

/-! ## A streamed capture drains its lines (R270, R273, R275) -/

/-- The frames of a line that leaves the ring, where the capture goes to the bus. -/
def lineFramed (s u : State) : State :=
  if fld s.cap.ctl 4 1 = 0 then u
  else (if u.cap.headSent then u else u.emitHeader).emitLine s.cap.drain (s.lineData s.cap.drain)

/-- The state in which a line has left the ring. -/
def lineSent (s u : State) : State := { lineFramed s u with cap := { (lineFramed s u).cap with
  lines := Store.set ([], 0) (lineFramed s u).cap.lines (s.cap.drain % s.cap.c) ([], 0) } }

theorem stageHeader_idle (h : s.cap.headPend = false) : s.stageHeader = s := if_pos (by rw [h]; rfl)

theorem lineDrain_waits (hs : s.cap.st = .stream) (hh : s.cap.headPend = true)
    (hn : s.stagePacket 3 0 s.headLoss (wordsOfBytes s.capHeader) = none) : s.lineDrain = s := by
  have h1 : s.stageHeader = s := by
    unfold State.stageHeader
    rw [if_neg (by rw [hh]; decide), hn]
  unfold State.lineDrain
  rw [if_neg (not_not_intro hs), h1]
  exact if_pos hh

/-- What the drain does with the line that it comes to. -/
def lineTaken (t : State) : State :=
  if !t.spanFormed t.capSpan t.cap.drain then t
  else if !t.hasLine t.cap.drain then t.drained t.cap.drain
  else match t.stagePacket 2 t.cap.drain (lineLoss t.csFirst t.csLast t.cap.drain 1) (sampleWords (t.lineData t.cap.drain)) with
    | none => t
    | some v => match v.spend actCapt (((t.lineData t.cap.drain).length + 1) / 2) with
      | none => ((t.stall actCapt).dropLine t.cap.drain 5).drained t.cap.drain
      | some u => State.drained (lineSent t u) t.cap.drain

/-- A streamed capture without a header that waits, as its drain finds it. -/
theorem lineDrain_eq (hs : s.cap.st = .stream) (ht : s.stageHeader = t) (hh : t.cap.headPend = false)
    (hd : ¬ t.cap.endTick < t.cap.drain) : s.lineDrain = lineTaken t := by
  unfold State.lineDrain
  rw [if_neg (not_not_intro hs), ht]
  dsimp only
  rw [if_neg (by rw [hh]; decide), if_neg hd]
  rfl

theorem lineTaken_unformed (hf : t.spanFormed t.capSpan t.cap.drain = false) : lineTaken t = t :=
  if_pos (by rw [hf]; rfl)

theorem stageHeader_staged {v : State} (hh : s.cap.headPend = true)
    (hv : s.stagePacket 3 0 s.headLoss (wordsOfBytes s.capHeader) = some v) :
    s.stageHeader = { v with cap := { v.cap with headPend := false } } := by
  unfold State.stageHeader
  rw [if_neg (by rw [hh]; decide), hv]

theorem stagePacket_queue {k n : Nat} {l : Loss} {b : List Word} {v : State} (h : s.stagePacket k n l b = some v) : QueueOnly s v :=
  (pushPacket_some (stagePacket_some h).2).1

/-- A header that finds room is staged; the lines behind it are not formed yet. -/
theorem lineDrain_heads {v : State} (hs : s.cap.st = .stream) (hh : s.cap.headPend = true)
    (hv : s.stagePacket 3 0 s.headLoss (wordsOfBytes s.capHeader) = some v) (hf : s.spanFormed s.capSpan s.cap.drain = false)
    (hd : s.cap.drain ≤ s.cap.endTick) : s.lineDrain = { v with cap := { v.cap with headPend := false } } := by
  have hq := stagePacket_queue hv
  have hfv : v.spanFormed v.capSpan v.cap.drain = false := by
    rw [hq.eq]
    exact hf
  have hdv : ¬ v.cap.endTick < v.cap.drain := by
    rw [hq.eq]
    exact Nat.not_lt.mpr hd
  exact (lineDrain_eq hs (stageHeader_staged hh hv) rfl hdv).trans (lineTaken_unformed hfv)

/-- A capture that ends leaves its queue. -/
theorem endStream_facts (s : State) : s.endStream.cap.queue = s.cap.queue ∧ s.endStream.pending = s.pending ∧
    s.endStream.life = s.life ∧ s.endStream.cap.st = if fld s.cap.ctl 3 1 = 1 then .rearm else .idle := by
  have hf := flushTail_frames s true
  have hc : (s.flushTail true).captureEnd.cap = (s.flushTail true).cap := rfl
  obtain ⟨-, hq, hp, hl⟩ := endCapture_keeps (s.flushTail true).captureEnd
  have hst := endCapture_st (s.flushTail true).captureEnd
  have hk : (s.flushTail true).cap.ctl = s.cap.ctl := by rw [hf.eq]
  rw [hc, hk] at hst
  have hq2 : (s.flushTail true).cap.queue = s.cap.queue := by rw [hf.eq]
  have hp2 : (s.flushTail true).pending = s.pending := by rw [hf.eq]
  have hl2 : (s.flushTail true).life = s.life := by rw [hf.eq]
  exact ⟨hq.trans hq2, hp.trans hp2, hl.trans hl2, hst⟩

theorem lineDrain_ends (hs : s.cap.st = .stream) (hh : s.cap.headPend = false) (hd : s.cap.endTick < s.cap.drain) :
    s.lineDrain = s.endStream := by
  unfold State.lineDrain
  rw [if_neg (not_not_intro hs), stageHeader_idle hh]
  dsimp only
  rw [if_neg (by rw [hh]; decide), if_pos hd]

/-- The drain goes on past a line that is not the last. -/
theorem drained_next {k : Nat} (h : k < s.cap.endTick) : s.drained k = { s with cap := { s.cap with drain := k + 1 } } :=
  if_neg (Nat.not_le.mpr h)

/-- A line that is dropped leaves the rest of the capture. -/
theorem dropLine_facts {k c : Nat} (h : s.cap.drops.contains k = false) :
    (s.dropLine k c).cap.queue = s.cap.queue ∧ (s.dropLine k c).cap.st = s.cap.st ∧
      (s.dropLine k c).cap.endTick = s.cap.endTick ∧ (s.dropLine k c).cap.drops.contains k = true := by
  have hn : ¬ s.cap.drops.contains k = true := by rw [h]; decide
  unfold State.dropLine
  rw [if_neg hn]
  dsimp only
  rw [(lose_staging ..).eq]
  refine ⟨rfl, rfl, rfl, ?_⟩
  exact List.contains_iff_mem.mpr List.mem_cons_self

theorem hasLine_undropped {k : Nat} (h : s.hasLine k = true) : s.cap.drops.contains k = false := by
  unfold State.hasLine at h
  rw [Bool.and_eq_true, Bool.not_eq_true'] at h
  exact h.2

theorem lineFramed_frames (s u : State) : FramesOnly u (lineFramed s u) := by
  unfold lineFramed
  split
  · exact .refl u
  · split
    · exact emitLine_frames ..
    · exact (emitHeader_frames u).trans (emitLine_frames ..)

section
variable (hs : s.cap.st = .stream) (hh : s.cap.headPend = false) (hd : s.cap.drain < s.cap.endTick)
  (hf : s.spanFormed s.capSpan s.cap.drain = true) (hl : s.hasLine s.cap.drain = true)
include hs hh hd hf hl

theorem lineDrain_line {x : Option State}
    (hx : s.stagePacket 2 s.cap.drain (lineLoss s.csFirst s.csLast s.cap.drain 1) (sampleWords (s.lineData s.cap.drain)) = x) :
    (x = none → s.lineDrain = s) ∧ ∀ v, x = some v →
      (v.spend actCapt (((s.lineData s.cap.drain).length + 1) / 2) = none →
        s.lineDrain = ((s.stall actCapt).dropLine s.cap.drain 5).drained s.cap.drain) ∧
      ∀ u, v.spend actCapt (((s.lineData s.cap.drain).length + 1) / 2) = some u →
        s.lineDrain = State.drained (lineSent s u) s.cap.drain := by
  have he : s.lineDrain = lineTaken s := lineDrain_eq hs (stageHeader_idle hh) hh (by omega)
  have h1 : ¬ (!s.spanFormed s.capSpan s.cap.drain) = true := by rw [hf]; decide
  have h2 : ¬ (!s.hasLine s.cap.drain) = true := by rw [hl]; decide
  rw [he]
  unfold lineTaken
  rw [if_neg h1, if_neg h2, hx]
  refine ⟨fun h => by rw [h], fun v h => ⟨fun hn => ?_, fun u hu => ?_⟩⟩
  · rw [h]
    dsimp only
    rw [hn]
  · rw [h]
    dsimp only
    rw [hu]

/-- A line that the budget cannot carry is dropped. -/
theorem lineDrain_drops {v : State}
    (hv : s.stagePacket 2 s.cap.drain (lineLoss s.csFirst s.csLast s.cap.drain 1) (sampleWords (s.lineData s.cap.drain)) = some v)
    (hn : v.spend actCapt (((s.lineData s.cap.drain).length + 1) / 2) = none) :
    s.lineDrain.cap.drain = s.cap.drain + 1 ∧ s.lineDrain.cap.queue = s.cap.queue ∧ s.lineDrain.cap.st = .stream ∧
      s.lineDrain.cap.drops.contains s.cap.drain = true := by
  have he := ((lineDrain_line hs hh hd hf hl hv).2 v rfl).1 hn
  have hc : (s.stall actCapt).cap = s.cap := stall_cap s actCapt
  obtain ⟨h1, h2, h3, h4⟩ := dropLine_facts (s := s.stall actCapt) (k := s.cap.drain) (c := 5) (by rw [hc]; exact hasLine_undropped hl)
  rw [hc] at h1 h2 h3
  rw [he, drained_next (by rw [h3]; exact hd)]
  exact ⟨rfl, h1, h2.trans hs, h4⟩

/-- A line that goes out leaves the ring for the queue. -/
theorem lineDrain_sends {u v : State}
    (hv : s.stagePacket 2 s.cap.drain (lineLoss s.csFirst s.csLast s.cap.drain 1) (sampleWords (s.lineData s.cap.drain)) = some v)
    (hu : v.spend actCapt (((s.lineData s.cap.drain).length + 1) / 2) = some u) :
    s.lineDrain.cap.drain = s.cap.drain + 1 ∧ s.lineDrain.cap.queue = v.cap.queue ∧ s.lineDrain.cap.st = .stream ∧
      s.lineDrain.budget = u.budget ∧
      s.lineDrain = { s with cap := s.lineDrain.cap, budget := s.lineDrain.budget, msg := s.lineDrain.msg } ∧
      (fld s.cap.ctl 4 1 = 0 → s.lineDrain.msg = s.msg) := by
  have he := ((lineDrain_line hs hh hd hf hl hv).2 v rfl).2 u hu
  have hq := stagePacket_queue hv
  have hb := spend_some hu
  have hfr := lineFramed_frames s u
  have hq1 : u.cap.queue = v.cap.queue := by rw [hb]
  have hst : u.cap.st = .stream := by rw [hb, hq.eq]; exact hs
  have hend : u.cap.endTick = s.cap.endTick := by rw [hb, hq.eq]
  have hmsg : u.msg = s.msg := by rw [hb, hq.eq]
  have honly : u = { s with cap := u.cap, budget := u.budget } := by
    rw [hb, hq.eq]
  have hfend : (lineSent s u).cap.endTick = u.cap.endTick := by
    show (lineFramed s u).cap.endTick = _
    rw [hfr.eq]
  rw [drained_next (by rw [hfend, hend]; exact hd)] at he
  rw [he]
  refine ⟨rfl, ?_, ?_, ?_, ?_, fun h0 => ?_⟩
  · show (lineFramed s u).cap.queue = _
    rw [hfr.eq]
    exact hq1
  · show (lineFramed s u).cap.st = _
    rw [hfr.eq]
    exact hst
  · show (lineFramed s u).budget = _
    rw [hfr.eq]
  · unfold lineSent
    rw [hfr.eq]
    dsimp only
    rw [honly]
  · show (lineFramed s u).msg = _
    rw [lineFramed, if_pos h0]
    exact hmsg

end

/-- Settles O39: what a capture ends with is kept by its frames; the drain takes one line, from the queue's room and the budget. -/
theorem capturesHoldDrainAndEnd : Obligations.CapturesHoldDrainAndEnd := by
  unfold Obligations.CapturesHoldDrainAndEnd
  refine ⟨⟨fun s hr hst hf => ?_, fun m s h => ⟨fun hst => ?_, fun hst => ?_⟩, fun m s h => ?_⟩,
    fun s hr hst hh => ⟨fun hn => ?_, fun v hv hf hd => ?_⟩,
    fun s hr hst hh => ⟨fun hd => ?_, fun hd hf => ?_, fun hd hf hl => ⟨fun hn => ?_, fun v hv => ⟨fun hn => ?_, fun u hu => ?_⟩⟩⟩⟩
  · have he : s.captureHold = s.enterHold := if_pos ⟨hst, hf⟩
    obtain ⟨h1, h2, h3, h4⟩ := enterHold_facts s
    rw [← he] at h1 h2 h3 h4
    exact ⟨_, (congrArg (ok s) (live_ready s hr)).trans (ok_eq ..), h1, h2, h3, h4⟩
  · obtain ⟨h1, h2⟩ := capRelease_held (s := capCtlHeld s) hst
    rw [fld_capCtlHeld] at h2
    have hw := congrArg (ok s) (writeCycle_capCtl h (b := 1) (by decide))
    exact ⟨_, hw.trans (ok_eq ..), by rw [ack_cap]; exact h1, by rw [ack_cap]; exact h2⟩
  · have he : (capCtlHeld s).capRelease = capCtlHeld s := if_neg hst
    have hw := congrArg (ok s) (writeCycle_capCtl h (b := 1) (by decide))
    refine ⟨_, hw.trans (ok_eq ..), ?_, ?_⟩
    · rw [ack_cap]
      show (capCtlHeld s).capRelease.cap.st = s.cap.st
      rw [he]
      rfl
    · rw [ack_cap]
      show (capCtlHeld s).capRelease.cap.mem = s.cap.mem
      rw [he]
      rfl
  · obtain ⟨h1, h2⟩ := capAbort_facts (capCtlHeld s)
    have hw := congrArg (ok s) (writeCycle_capCtl h (b := 2) (by decide))
    exact ⟨_, hw.trans (ok_eq ..), by rw [ack_cap]; exact h1, by rw [ack_cap]; exact h2⟩
  · exact (congrArg (ok s) ((live_ready s hr).trans (lineDrain_waits hst hh hn))).trans (ok_next s _ rfl rfl)
  · have he := (live_ready (f := State.lineDrain) s hr).trans (lineDrain_heads hst hh hv hf hd)
    have hq := stagePacket_queue hv
    have hp : v.pending = s.pending := by rw [hq.eq]
    have hl : v.life = s.life := by rw [hq.eq]
    exact (congrArg (ok s) he).trans (ok_next s _ hp hl)
  · obtain ⟨h1, h2, h3, h4⟩ := endStream_facts s
    have he := (live_ready (f := State.lineDrain) s hr).trans (lineDrain_ends hst hh hd)
    exact ⟨_, (congrArg (ok s) he).trans (ok_next s _ h2 h3), h1, h4⟩
  · have he := (lineDrain_eq hst (stageHeader_idle hh) hh (by omega)).trans (lineTaken_unformed hf)
    exact (congrArg (ok s) ((live_ready s hr).trans he)).trans (ok_next s _ rfl rfl)
  · have he := (lineDrain_line hst hh hd hf hl hn).1 rfl
    exact (congrArg (ok s) ((live_ready s hr).trans he)).trans (ok_next s _ rfl rfl)
  · exact ⟨_, (congrArg (ok s) (live_ready s hr)).trans (ok_eq ..), lineDrain_drops hst hh hd hf hl hv hn⟩
  · obtain ⟨h1, h2, h3, h4, h5, h6⟩ := lineDrain_sends hst hh hd hf hl hv hu
    have hn : ok s s.lineDrain = .next s.lineDrain := ok_next s _ (by rw [h5]) (by rw [h5])
    exact ⟨_, (congrArg (ok s) (live_ready s hr)).trans hn, h1, h2, h3, h4, h5, h6⟩

end Sys2Proof.Proofs
end

section
/-! PROPERTY. A calibration run rolls over a stand-in (O49). -/

namespace Sys2Proof.Proofs

open Sys2Proof Sys2Proof.Machine Sys2Proof.Laws

-- one proof at a time: the text is compiled as a whole, and the proofs side by side would need too much memory
set_option Elab.async false

variable {s t u : State} {m : Master}

/-! ## The start of a run and its stand-in (R359) -/

/-- The facet whose stand-in connects: a driver takes the sensor over, a path's chain is cleared. -/
def standinFacet (f : FacetRT) (k i t : Nat) : FacetRT :=
  if k = 2 then { f with excStandin := some i } else f.clearPath (some i) t

theorem standinFacet_keeps (f : FacetRT) (k i t : Nat) : (standinFacet f k i t).standin = f.standin ∧
    (standinFacet f k i t).excStandin = if k = 2 then some i else f.excStandin := by
  unfold standinFacet
  split <;> exact ⟨rfl, rfl⟩

theorem borrows_kind {r : CalRun} (h : r.borrows = true) : ¬ (r.proc = 7 ∨ r.proc = 8) := by
  simp only [CalRun.borrows, Bool.and_eq_true, Bool.or_eq_true, decide_eq_true_eq, beq_iff_eq] at h
  omega

theorem startRun_lends {r : CalRun} {i : Nat} (hb : r.borrows = true) (hp : s.pickSpare (calKind r.proc r.target) r.target = some i) :
    s.startRun r = State.setRun ((s.takeSpare (calKind r.proc r.target) i r.target spLent).modFacet r.target fun f =>
      standinFacet f (calKind r.proc r.target) i s.tick) { r with phase := 1, standin := some i, left := s.calLeft r } := by
  unfold State.startRun
  rw [if_neg (borrows_kind hb), if_pos hb]
  dsimp only
  rw [hp]
  rfl

theorem calRunStart_starts {r : CalRun} (hr : s.cal.run = some r) (hc : r.closed = false) (hp : r.phase = 0)
    (hk : r.checked = true) (hd : s.due r.stamp = true) (hw : r.waitFrom + s.calSlow ≤ s.tick)
    (hs : s.commitStamps.any s.due = false) (h3 : s.spareDue [3] = false) : s.calRunStart = s.startRun r := by
  have hdue : s.calDue = true := by
    unfold State.calDue
    rw [hr]
    simp [hp, hc, hd, hw]
  have hn : ¬ ((!s.calDue) = true ∨ s.commitStamps.any s.due = true ∨ s.spareDue [3] = true) := by
    rw [hdue, hs, h3]
    decide
  unfold State.calRunStart
  rw [hr]
  dsimp only
  rw [if_neg hn, if_pos hk, hr]
  exact if_pos ⟨hp, hk⟩

/-- A run's facet that changes leaves the others, the spares and the image. -/
theorem modRun_facet (s : State) (n : Nat) (f : FacetRT → FacetRT) (r : CalRun) :
    ((s.modFacet n f).setRun r).facet n = f (s.facet n) ∧
      (∀ k, k ≠ n → ((s.modFacet n f).setRun r).facet k = s.facet k) :=
  ⟨facet_modFacet s n f, fun _ hk => facet_setFacet_other s _ hk⟩

theorem startRun_facts {r : CalRun} {i : Nat} (hb : r.borrows = true) (hp : s.pickSpare (calKind r.proc r.target) r.target = some i)
    (hu : u = s.startRun r) : u.cal.run = some { r with phase := 1, standin := some i, left := s.calLeft r } ∧
      (u.spareAt (calKind r.proc r.target) i).state = spLent ∧ (u.spareAt (calKind r.proc r.target) i).target = r.target ∧
      (u.facet r.target).standin = (s.facet r.target).standin ∧
      (u.facet r.target).excStandin = (if calKind r.proc r.target = 2 then some i else (s.facet r.target).excStandin) ∧
      (∀ k, k ≠ r.target → u.facet k = s.facet k) ∧ u.cal.image = s.cal.image := by
  have ht := takeSpare_spares s (calKind r.proc r.target) i r.target spLent
  obtain ⟨h1, h2, -⟩ := takeSpare_facts s (calKind r.proc r.target) i r.target spLent
  have hcal : (s.takeSpare (calKind r.proc r.target) i r.target spLent).cal = s.cal := by rw [ht.eq]
  have hfac := ht.facet
  rw [startRun_lends hb hp] at hu
  generalize s.takeSpare (calKind r.proc r.target) i r.target spLent = v at hu h1 h2 hcal hfac
  obtain ⟨m1, m2⟩ := modRun_facet v r.target (fun f => standinFacet f (calKind r.proc r.target) i s.tick)
    { r with phase := 1, standin := some i, left := s.calLeft r }
  obtain ⟨k1, k2⟩ := standinFacet_keeps (v.facet r.target) (calKind r.proc r.target) i s.tick
  rw [← hu] at m1 m2
  refine ⟨by rw [hu]; rfl, by rw [hu]; exact h1, by rw [hu]; exact h2, ?_, ?_, fun k hk => (m2 k hk).trans (hfac k), ?_⟩
  · rw [m1, k1, hfac]
  · rw [m1, k2, hfac]
  · rw [hu]
    exact (congrArg CalSt.image hcal :)

/-! ## The stand-in serves, and the own path again (R359) -/

/-- The facet whose path is exchanged; a driver has been exchanged before. -/
def pathFacet (f : FacetRT) (k : Nat) (p : Option Nat) : FacetRT := if k = 2 then f else { f with standin := p }

theorem pathFacet_keeps (f : FacetRT) (k : Nat) (p : Option Nat) : (k ≠ 2 → (pathFacet f k p).standin = p) ∧
    (pathFacet f k p).excStandin = f.excStandin := by
  unfold pathFacet
  split
  · next h => exact ⟨fun h' => absurd h h', rfl⟩
  · exact ⟨fun _ => rfl, rfl⟩

theorem calStandinSwap_swaps {r : CalRun} (hr : s.cal.run = some r) (hc : r.closed = false) (hp : r.phase = 1) (hl : r.left = 0)
    (ha : s.aligned r.target = true) : s.calStandinSwap = State.setRun (s.modFacet r.target fun f =>
      pathFacet f (calKind r.proc r.target) r.standin) { r with phase := 2, measFrom := s.tick } := by
  have hn : ¬ (r.phase ≠ 1 ∨ r.left ≠ 0 ∨ r.closed = true ∨ (!s.aligned r.target) = true) := by
    rw [hp, hl, hc, ha]
    decide
  unfold State.calStandinSwap
  rw [hr]
  exact if_neg hn

theorem calSwapBack_swaps {r : CalRun} (hr : s.cal.run = some r) (hp : r.phase = 4) (hl : r.left = 0) (hf : r.freeAt = none)
    (ha : s.aligned r.target = true) : s.calSwapBack = State.setRun (s.modFacet r.target fun f =>
      pathFacet f (calKind r.proc r.target) none) { r with freeAt := some (s.tick + 1) } := by
  have hn : ¬ (r.phase ≠ 4 ∨ r.left ≠ 0 ∨ r.freeAt.isSome = true ∨ (!s.aligned r.target) = true) := by
    rw [hp, hl, hf, ha]
    decide
  unfold State.calSwapBack
  rw [hr]
  exact if_neg hn

/-! ## The measurement ends (R359, R363) -/

/-- The run whose result waits for its frame boundary. -/
def finishedRun (s : State) (r : CalRun) (o : CalOut) : CalRun := { r with
  phase := 3, fail := o.1, result := if o.1 = 0 then o.2 else [], stamp := s.ctl.stamp + 1, waitFrom := s.tick
  owed := (if o.1 = 0 then o.2 else []).length }

theorem calFinish_eq (s : State) (r : CalRun) (o : CalOut) : s.calFinish r o = s.nextStamp.setRun (finishedRun s r o) := rfl

/-- The measurement of a procedure that ends with its result. -/
def measResult (s : State) (r : CalRun) (x : MeasIn) : CalOut :=
  match r.proc with
  | 0 => s.calOffset r x
  | 1 => s.calGain r x
  | 2 => s.calRef r x
  | 3 => s.calExcV r x
  | 4 => s.calExcI r x
  | 5 => s.calSlot r x
  | _ => s.calSelf r x

theorem calMeasured_finishes {r : CalRun} (hr : s.cal.run = some r) (hc : r.closed = false) (hp : r.phase = 2)
    (hq : r.proc ≤ 5 ∨ r.proc = 9) (hs : s.calSlow = 0) (ht : r.measFrom + s.calTicks r ≤ s.tick) (x : MeasIn) :
    s.calMeasured x = s.calFinish r (measResult s r x) := by
  have hn (k : Nat) : ¬ (r.phase ≠ 2 ∨ r.closed = true ∨ s.tick < r.measFrom + s.calTicks r + s.calSlow * k) := by
    rw [hp, hc, hs, Nat.zero_mul]
    simp only [ne_eq, not_true_eq_false, Bool.false_eq_true, false_or]
    omega
  unfold State.calMeasured measResult
  rw [hr]
  dsimp only
  rw [if_neg (hn _)]
  have h10 : r.proc = 0 ∨ r.proc = 1 ∨ r.proc = 2 ∨ r.proc = 3 ∨ r.proc = 4 ∨ r.proc = 5 ∨ r.proc = 9 := by omega
  rcases h10 with h | h | h | h | h | h | h <;> rw [h] <;> rfl

/-- The result of EXC_V that passes its checks. -/
theorem calExcV_passes {r : CalRun} {x : MeasIn} (hx : x.noisy = false) (hf : r.faulted = false) (h0 : x.vals.getD 0 0 ≠ 0)
    (hw : within2 (x.vals.getD 0 0) r.vDecl = true)
    (hn : nearOne (limGain r.limits) (some (s.imgR (senseAddr (s.calDriver r.target).1 (s.calDriver r.target).2) * r.vDecl
      / x.vals.getD 0 0)) = true) :
    s.calExcV r x = (0, [(senseAddr (s.calDriver r.target).1 (s.calDriver r.target).2,
      f32OfRat (s.imgR (senseAddr (s.calDriver r.target).1 (s.calDriver r.target).2) * r.vDecl / x.vals.getD 0 0))]) := by
  unfold State.calExcV
  dsimp only
  rw [divR, if_neg h0, hn, hw]
  unfold calCode
  rw [hx, hf]
  rfl

/-! ## The end of a target, as the image sees it (R364, R376 to R378) -/

/-- The image, its count and its generation stand, and the position ports. -/
structure ImageKept (s u : State) : Prop where
  image : u.cal.image = s.cal.image
  count : u.cal.count = s.cal.count
  gen : u.cal.gen = s.cal.gen
  last : u.cal.last = s.cal.last
  ports : u.ports = s.ports

theorem ImageKept.refl (s : State) : ImageKept s s := ⟨rfl, rfl, rfl, rfl, rfl⟩

theorem ImageKept.trans (h1 : ImageKept s t) (h2 : ImageKept t u) : ImageKept s u :=
  ⟨h2.image.trans h1.image, h2.count.trans h1.count, h2.gen.trans h1.gen, h2.last.trans h1.last, h2.ports.trans h1.ports⟩

theorem ImageKept.ite {c : Prop} [Decidable c] {a b : State} (ha : ImageKept s a) (hb : ImageKept s b) :
    ImageKept s (if c then a else b) := by split <;> assumption

theorem SparesOnly.imageKept (h : SparesOnly s u) : ImageKept s u := by
  rw [h.eq]
  exact ⟨rfl, rfl, rfl, rfl, rfl⟩

theorem StagingOnly.imageKept (h : StagingOnly s u) : ImageKept s u := by
  rw [h.eq]
  exact ⟨rfl, rfl, rfl, rfl, rfl⟩

section
variable (s : State)

theorem calEndTarget_image (c : Nat) : ImageKept s (s.calEndTarget c) := by
  have hp : (s.calEndTarget c).ports = s.ports := by rw [(calEndTarget_ends s c).eq]
  cases hr : s.cal.run with
  | none =>
    have he : s.calEndTarget c = s := by unfold State.calEndTarget; rw [hr]
    rw [he]
    exact .refl s
  | some r =>
    by_cases h16 : r.todo = [] ∨ c = 16
    · have he := calEndTarget_over hr h16
      exact ⟨by rw [he]; rfl, by rw [he]; rfl, by rw [he]; rfl, by rw [he]; rfl, hp⟩
    · obtain ⟨h0, h16⟩ := not_or.1 h16
      obtain ⟨n, ns, hn⟩ := List.exists_cons_of_ne_nil h0
      have he := calEndTarget_next hr hn h16
      rw [calMoved, endSent_cal] at he
      exact ⟨by rw [he], by rw [he], by rw [he], by rw [he], hp⟩

theorem wantCheck_image (n : Nat) (d : Bool) : ImageKept s (s.wantCheck n d) :=
  .ite (.refl s) ⟨rfl, rfl, rfl, rfl, rfl⟩

theorem calClose_image (r : CalRun) : ImageKept s (s.calClose r) := by
  unfold State.calClose
  extract_lets _ s1
  have h1 : ImageKept s s1 := .ite ⟨rfl, rfl, rfl, rfl, rfl⟩ (calEndTarget_image s r.fail)
  exact .ite (h1.trans (wantCheck_image ..)) h1

theorem calReturn_image (r : CalRun) : ImageKept s (s.calReturn r) := by
  unfold State.calReturn
  split
  · exact ⟨rfl, rfl, rfl, rfl, rfl⟩
  · extract_lets n s1 s2
    have h1 : ImageKept s s1 := ⟨rfl, rfl, rfl, rfl, rfl⟩
    have h2 : ImageKept s s2 := h1.trans (lose_staging ..).imageKept
    have h3 : ImageKept s2 (s2.setRun { r with gapFrom := none }) := ⟨rfl, rfl, rfl, rfl, rfl⟩
    exact h2.trans (h3.trans (calClose_image ..))
  · exact (returnSpare_spares ..).imageKept.trans (calClose_image ..)
  · exact calClose_image ..

theorem mpConflict_image : ImageKept s s.mpConflict := by
  unfold State.mpConflict
  rw [logE_eq]
  exact ⟨rfl, rfl, rfl, rfl, rfl⟩

theorem mpConflict_shows : fld s.mpConflict.ctl.irq0 8 1 = 1 := by
  unfold State.mpConflict
  rw [logE_eq]
  exact fld_or_bit _ _ (by decide)

end

/-! ## The result takes effect at H (R359, R376, R378) -/

/-- The facet to which the own part returns. -/
def returnedFacet (f : FacetRT) (k t : Nat) : FacetRT := if k = 2 then { f with excStandin := none } else f.clearPath f.subst t

theorem calReturn_standin {r : CalRun} {i : Nat} (h : r.standin = some i) : s.calReturn r =
    State.setRun (s.modFacet r.target fun f => returnedFacet f (calKind r.proc r.target) s.tick)
      { r with phase := 4, left := State.calLeft (s.modFacet r.target fun f => returnedFacet f (calKind r.proc r.target) s.tick) r } := by
  unfold State.calReturn
  rw [h]
  rfl

/-- The return over a stand-in. -/
theorem calReturn_facts {r : CalRun} {i : Nat} (h : r.standin = some i) :
    (∃ r', (s.calReturn r).cal.run = some r' ∧ r'.phase = 4 ∧ r'.fail = r.fail ∧ r'.counted = r.counted) ∧
      (calKind r.proc r.target = 2 → ((s.calReturn r).facet r.target).excStandin = none) ∧
      (s.calReturn r).ctl = s.ctl ∧ (s.calReturn r).nvm = s.nvm := by
  rw [calReturn_standin h]
  refine ⟨⟨_, rfl, rfl, rfl, rfl⟩, fun hk => ?_, rfl, rfl⟩
  refine (congrArg FacetRT.excStandin (modRun_facet s r.target _ _).1).trans ?_
  rw [returnedFacet, if_pos hk]

/-- What a written value changes: the image and what it was. -/
theorem setImg_eq (s : State) (b : Nat) (v : DWord) : s.setImg b v = { s with
    cal := { s.cal with image := (s.setImg b v).cal.image, imgHist := (s.setImg b v).cal.imgHist } } := by
  unfold State.setImg
  dsimp only
  split <;> rfl

/-- The image and its history alone have changed. -/
def ImageOnly (s u : State) : Prop := u = { s with cal := { s.cal with image := u.cal.image, imgHist := u.cal.imgHist } }

theorem ImageOnly.eq (h : ImageOnly s u) : u = { s with cal := { s.cal with image := u.cal.image, imgHist := u.cal.imgHist } } := h

theorem ImageOnly.refl (s : State) : ImageOnly s s := rfl

theorem ImageOnly.trans (h1 : ImageOnly s t) (h2 : ImageOnly t u) : ImageOnly s u :=
  h2.eq.trans (congrArg (fun v : State => { v with
    cal := { v.cal with image := u.cal.image, imgHist := u.cal.imgHist } }) h1.eq)

/-- The state in which the values of a result are in the image. -/
def imagePut (s : State) (ws : List (Nat × DWord)) : State := ws.foldl (fun s e => s.setImg e.1 e.2) s

theorem setImg_only (s : State) (b : Nat) (v : DWord) : ImageOnly s (s.setImg b v) := setImg_eq s b v

theorem imagePut_only (s : State) (ws : List (Nat × DWord)) : ImageOnly s (imagePut s ws) :=
  foldl_rel (f := fun (u : State) (e : Nat × DWord) => u.setImg e.1 e.2) ImageOnly.refl ImageOnly.trans
    (fun _ _ => setImg_only ..) ws s

theorem writeImage_some {ws : List (Nat × DWord)} (h : ws.isEmpty = false) :
    s.writeImage ws = { (imagePut s ws).bumpGen with nvm := { (imagePut s ws).bumpGen.nvm with factoryImg := false } } :=
  if_neg (by rw [h]; exact Bool.false_ne_true)

/-- A result that is written counts for the image. -/
theorem writeImage_facts (s : State) (ws : List (Nat × DWord)) : (s.writeImage ws).cal.count = s.cal.count ∧
    (s.writeImage ws).cal.run = s.cal.run ∧ (s.writeImage ws).nvm.factoryImg = (s.nvm.factoryImg && ws.isEmpty) := by
  cases h : ws.isEmpty with
  | true =>
    have he : s.writeImage ws = s := if_pos h
    rw [he, Bool.and_true]
    exact ⟨rfl, rfl, rfl⟩
  | false =>
    have hi := imagePut_only s ws
    have hc : (imagePut s ws).cal.count = s.cal.count := by rw [hi.eq]
    have hr : (imagePut s ws).cal.run = s.cal.run := by rw [hi.eq]
    rw [writeImage_some h, Bool.and_false]
    exact ⟨hc, hr, rfl⟩

/-- The result of a run on a facet or a spare takes effect, and counts. -/
theorem calApply_facts {r : CalRun} (hp : calPort r.target = none) (h8 : r.proc ≤ 8) :
    (s.calApply r).cal.count = min 65535 (s.cal.count + 1) ∧ (s.calApply r).nvm.factoryImg = (s.nvm.factoryImg && r.result.isEmpty) := by
  obtain ⟨hc, -, hn⟩ := writeImage_facts s r.result
  have he : s.calApply r = ((s.writeImage r.result).calCount r).committed .mp (calUnit r.target) := by
    unfold State.calApply
    rw [hp]
  have h9 : ¬ 8 < r.proc := Nat.not_lt.mpr h8
  rw [he, State.calCount, if_neg h9]
  exact ⟨congrArg (fun k => min 65535 (k + 1)) hc, hn⟩

section
variable {r : CalRun} (hr : s.cal.run = some r) (hp : r.phase = 3) (hq : r.proc ≤ 9) (ht : s.turn r.stamp = true)
  (hw : r.waitFrom + s.calSlow ≤ s.tick) (ho : r.owed = 0)
include hr hp hq ht hw ho

/-- What CAL_RESULT_APPLY does with the result that is due. -/
theorem calResultApply_due (h2 : ¬ (r.proc = 2 ∧ r.fail = 0)) : s.calResultApply =
    let lost := decide (r.fail = 0) && s.conflicts .mp r.stamp (calUnit r.target)
    let fail := if lost then 15 else r.fail
    (if fail = 0 then s.calApply r else if lost then s.mpConflict else s).calReturn { r with fail, counted := fail == 0 } := by
  have hn : ¬ (r.phase ≠ 3 ∨ r.proc = 10 ∨ (r.proc = 2 ∧ r.fail = 0) ∨ (!s.turn r.stamp) = true ∨
      s.tick < r.waitFrom + s.calSlow ∨ r.owed ≠ 0) := by
    rw [ht]
    simp only [hp, ne_eq, not_true_eq_false, false_or, h2, Bool.not_true, Bool.false_eq_true, ho, or_false]
    omega
  unfold State.calResultApply
  rw [hr]
  exact if_neg hn

theorem result_fails (hf : r.fail ≠ 0) : ImageKept s s.calResultApply := by
  rw [calResultApply_due hr hp hq ht hw ho (fun h => hf h.2), decide_eq_false hf]
  dsimp only
  rw [Bool.false_and, if_neg Bool.false_ne_true, if_neg hf]
  exact calReturn_image ..

theorem result_lost {i : Nat} (hf : r.fail = 0) (h2 : r.proc ≠ 2) (hs : r.standin = some i)
    (hc : s.conflicts .mp r.stamp (calUnit r.target) = true) : ImageKept s s.calResultApply ∧
    (∃ r', s.calResultApply.cal.run = some r' ∧ r'.phase = 4 ∧ r'.fail = 15 ∧ r'.counted = false) ∧
    fld s.calResultApply.ctl.irq0 8 1 = 1 := by
  rw [calResultApply_due hr hp hq ht hw ho (fun h => h2 h.1), decide_eq_true hf, hc]
  dsimp only
  rw [Bool.true_and, if_pos rfl, if_neg (by decide)]
  obtain ⟨hx, -, hi, -⟩ := calReturn_facts (s := s.mpConflict) (r := { r with fail := 15, counted := (15 : Nat) == 0 }) hs
  refine ⟨(mpConflict_image s).trans (calReturn_image ..), hx, ?_⟩
  rw [if_pos rfl, hi]
  exact mpConflict_shows s

theorem result_applies {i : Nat} (hf : r.fail = 0) (h2 : r.proc ≠ 2) (h8 : r.proc ≤ 8) (hs : r.standin = some i)
    (hpt : calPort r.target = none) (hc : s.conflicts .mp r.stamp (calUnit r.target) = false) :
    (∃ r', s.calResultApply.cal.run = some r' ∧ r'.phase = 4 ∧ r'.counted = true) ∧
      (calKind r.proc r.target = 2 → (s.calResultApply.facet r.target).excStandin = none) ∧
      s.calResultApply.cal.count = min 65535 (s.cal.count + 1) ∧
      s.calResultApply.nvm.factoryImg = (s.nvm.factoryImg && r.result.isEmpty) := by
  rw [calResultApply_due hr hp hq ht hw ho (fun h => h2 h.1), hc]
  dsimp only
  rw [Bool.and_false, if_neg Bool.false_ne_true, if_pos hf, hf]
  obtain ⟨hcount, hnvm⟩ := calApply_facts (s := s) hpt h8
  have hk := calReturn_image (s.calApply r) { r with fail := 0, counted := (0 : Nat) == 0 }
  obtain ⟨⟨r', h1, h2, -, h4⟩, hx, -, hn⟩ := calReturn_facts (s := s.calApply r) (r := { r with fail := 0, counted := (0 : Nat) == 0 }) hs
  exact ⟨⟨r', h1, h2, h4⟩, hx, hk.count.trans hcount, (congrArg NvmSt.factoryImg hn).trans hnvm⟩

end

/-- Settles O49: each step of the run is the run's own facet and its spare changed, and the run put on. -/
theorem calibrationRollsOverAStandIn : Obligations.CalibrationRollsOverAStandIn := by
  unfold Obligations.CalibrationRollsOverAStandIn
  intro s r hrd hr hcl
  refine ⟨fun i hp hk hd hw hb hs h3 hpk => ?_, fun hp hl ha => ?_, fun x hp hq hs ht => ?_,
    fun x hp hq hs ht hx hf h0 hw hn => ?_, fun hp hq ht hw ho => ⟨fun hf => ?_, fun i hf h2 hs hc => ?_,
      fun i hf h2 h8 hs hpt hc => ?_⟩, fun hp hl hf ha => ?_⟩
  · have he := calRunStart_starts hr hcl hp hk hd hw hs h3
    obtain ⟨h1, h2, h4, h5, h6, h7, h8⟩ := startRun_facts hb hpk he
    exact ⟨_, (congrArg (ok s) (live_ready s hrd)).trans (ok_eq ..), h1, h2, h4, h5, h6, h7, h8⟩
  · have he := calStandinSwap_swaps hr hcl hp hl ha
    obtain ⟨m1, m2⟩ := modRun_facet s r.target (fun f => pathFacet f (calKind r.proc r.target) r.standin)
      { r with phase := 2, measFrom := s.tick }
    obtain ⟨k1, k2⟩ := pathFacet_keeps (s.facet r.target) (calKind r.proc r.target) r.standin
    exact ⟨_, (congrArg (ok s) ((live_ready s hrd).trans he)).trans (ok_eq ..), rfl, fun h => (congrArg _ m1).trans (k1 h),
      (congrArg _ m1).trans k2, m2, rfl, rfl⟩
  · have he := (calMeasured_finishes hr hcl hp hq hs ht x).trans (calFinish_eq ..)
    exact ⟨_, _, (congrArg (ok s) ((live_ready (f := fun t => t.calMeasured x) s hrd).trans he)).trans (ok_eq ..), rfl, rfl, rfl, rfl, rfl⟩
  · have hm : measResult s r x = s.calExcV r x := by
      unfold measResult
      rw [hq]
      rfl
    have he := (calMeasured_finishes hr hcl hp (by omega) hs ht x).trans (calFinish_eq ..)
    rw [hm, calExcV_passes hx hf h0 hw hn] at he
    exact ⟨_, _, (congrArg (ok s) ((live_ready (f := fun t => t.calMeasured x) s hrd).trans he)).trans (ok_eq ..), rfl, rfl, rfl, rfl⟩
  · have hk := result_fails hr hp hq ht hw ho hf
    exact ⟨_, (congrArg (ok s) (live_ready s hrd)).trans (ok_eq ..), hk.image, hk.count, hk.gen, hk.ports⟩
  · obtain ⟨hk, ⟨r', h1, h2, h3, h4⟩, hi⟩ := result_lost hr hp hq ht hw ho hf h2 hs hc
    exact ⟨_, r', (congrArg (ok s) (live_ready s hrd)).trans (ok_eq ..), h1, h2, h3, h4, hk.image, hk.count, hk.gen, hi⟩
  · obtain ⟨⟨r', h1, h2, h3⟩, hx, hcn, hn⟩ := result_applies hr hp hq ht hw ho hf h2 h8 hs hpt hc
    exact ⟨_, r', (congrArg (ok s) (live_ready s hrd)).trans (ok_eq ..), h1, h2, h3, hx, hcn, hn⟩
  · have he := calSwapBack_swaps hr hp hl hf ha
    obtain ⟨m1, m2⟩ := modRun_facet s r.target (fun f => pathFacet f (calKind r.proc r.target) none)
      { r with freeAt := some (s.tick + 1) }
    obtain ⟨k1, -⟩ := pathFacet_keeps (s.facet r.target) (calKind r.proc r.target) none
    exact ⟨_, (congrArg (ok s) ((live_ready s hrd).trans he)).trans (ok_eq ..), rfl, fun h => (congrArg _ m1).trans (k1 h), m2, rfl⟩

end Sys2Proof.Proofs
end

section
/-! PROPERTY. Reference scales, belt scales and restores (O50). -/

namespace Sys2Proof.Proofs

open Sys2Proof Sys2Proof.Machine Sys2Proof.Laws

-- one proof at a time: the text is compiled as a whole, and the proofs side by side would need too much memory
set_option Elab.async false

variable {s t u : State} {m : Master}

/-! ## The values of the image (R351, R377) -/

theorem dw_halves (v : DWord) : dw (lo16 v) (hi16 v) = v := by
  unfold dw lo16 hi16
  refine BitVec.eq_of_getLsbD_eq fun i hi => ?_
  rw [BitVec.getLsbD_append]
  by_cases h : i < 16
  · simp [h]
  · have h2 : i - 16 < 16 := by omega
    have h3 : 16 + (i - 16) = i := by omega
    simp [h, h2, h3, BitVec.getLsbD_ushiftRight]

/-- A value of the image is read as its two words stand there. -/
theorem img_of_image {v : DWord} {b : Nat} (h0 : Store.get none s.cal.image (b / 2) = some (lo16 v))
    (h1 : Store.get none s.cal.image (b / 2 + 1) = some (hi16 v)) : s.img b = v := by
  unfold State.img State.bodyWord
  rw [h0, h1]
  exact dw_halves v

theorem setImg_image (s : State) (b : Nat) (v : DWord) : (s.setImg b v).cal.image =
    Store.set none (Store.set none s.cal.image (b / 2) (some (lo16 v))) (b / 2 + 1) (some (hi16 v)) := by
  unfold State.setImg
  dsimp only
  split <;> rfl

theorem img_setImg_self (s : State) (b : Nat) (v : DWord) : (s.setImg b v).img b = v := by
  refine img_of_image ?_ ?_
  · rw [setImg_image, get_set_other _ _ _ _ (by omega), get_set_self]
  · rw [setImg_image, get_set_self]

theorem img_setImg_other (s : State) {b k : Nat} (v : DWord) (h : k / 2 ≠ b / 2 ∧ k / 2 ≠ b / 2 + 1 ∧ k / 2 + 1 ≠ b / 2) :
    (s.setImg b v).img k = s.img k := by
  obtain ⟨h1, h2, h3⟩ := h
  unfold State.img State.bodyWord
  rw [setImg_image, get_set_other _ _ _ _ h2, get_set_other _ _ _ _ h1, get_set_other _ _ _ _ (by omega),
    get_set_other _ _ _ _ h3]

/-- The image's values are those of its table. -/
theorem img_congr (h : u.cal.image = s.cal.image) (b : Nat) : u.img b = s.img b := by
  unfold State.img State.bodyWord
  rw [h]

/-! ## A target ends and no other is to come (R356) -/

/-- The run is over, with its reason, and CAL shows in IRQ_STAT1. -/
theorem target_over {r : CalRun} (hr : s.cal.run = some r) (ht : r.todo = []) (hf : r.firstFail = 0) (c : Nat) :
    (s.calEndTarget c).cal.run = none ∧ (s.calEndTarget c).cal.state = (if c = 0 then 3 else 4) ∧
      (s.calEndTarget c).cal.reason = c ∧ fld (s.calEndTarget c).ctl.irq1 10 1 = 1 := by
  have hc : firstReason r c = c := if_pos hf
  rw [calEndTarget_over hr (.inl ht)]
  refine ⟨rfl, ?_, hc, fld_or_bit _ _ (by decide)⟩
  show (if firstReason r c = 0 then 3 else 4) = _
  rw [hc]

/-- The end of a target leaves the NVM, the facets and IRQ_STAT0. -/
theorem target_rest (s : State) (c : Nat) : (s.calEndTarget c).nvm = s.nvm ∧ (s.calEndTarget c).ctl.irq0 = s.ctl.irq0 ∧
    (s.calEndTarget c).pending = s.pending ∧ (s.calEndTarget c).life = s.life := by
  rw [(calEndTarget_ends s c).eq]
  exact ⟨rfl, rfl, rfl, rfl⟩

/-! ## REF_SCALE and WAIT_NEXT (R364, R367) -/

/-- The state in which the scales are in force, before the run ends. -/
def scalesIn (s : State) (r : CalRun) : State :=
  (State.committed (State.committed ((s.writeImage r.result).calCount r) .mp (.refScale 0)) .mp (.refScale 1)).setRun
    { r with counted := true }

theorem refScaleStep_due {r : CalRun} (hr : s.cal.run = some r) (h2 : r.proc = 2) (hp : r.phase = 3) (hf : r.fail = 0)
    (hw : r.waitFrom + s.calSlow < s.tick) (ho : r.owed = 0) (hc : s.changesDone = true) :
    s.refScaleStep = (scalesIn s r).calEndTarget 0 := by
  have hn : ¬ (r.proc ≠ 2 ∨ r.phase ≠ 3 ∨ r.fail ≠ 0 ∨ s.tick ≤ r.waitFrom + s.calSlow ∨ r.owed ≠ 0 ∨ (!s.changesDone) = true) := by
    rw [h2, hp, hf, ho, hc]
    simp only [ne_eq, not_true_eq_false, false_or, Bool.not_true, Bool.false_eq_true, or_false]
    omega
  unfold State.refScaleStep
  rw [hr]
  exact if_neg hn

theorem scalesIn_facts {r : CalRun} {a b : DWord} (h2 : r.proc = 2) (hres : r.result = [(32, a), (36, b)]) :
    (scalesIn s r).img 32 = a ∧ (scalesIn s r).img 36 = b ∧ (scalesIn s r).cal.count = min 65535 (s.cal.count + 1) ∧
      (scalesIn s r).nvm.factoryImg = false := by
  have hcc : (s.writeImage r.result).calCount r = { s.writeImage r.result with cal := { (s.writeImage r.result).cal with
      count := min 65535 ((s.writeImage r.result).cal.count + 1), last := (s.writeImage r.result).seconds } } :=
    if_neg (by omega)
  have himg : (scalesIn s r).cal.image = (imagePut s r.result).cal.image := by
    unfold scalesIn
    rw [hcc, hres, writeImage_some rfl]
    rfl
  obtain ⟨hc, -, hn⟩ := writeImage_facts s r.result
  have h32 : (imagePut s r.result).img 32 = a := by
    rw [hres]
    exact (img_setImg_other (s.setImg 32 a) (b := 36) (k := 32) b (by decide)).trans (img_setImg_self s 32 a)
  have h36 : (imagePut s r.result).img 36 = b := by
    rw [hres]
    exact img_setImg_self (s.setImg 32 a) 36 b
  refine ⟨(img_congr himg 32).trans h32, (img_congr himg 36).trans h36, ?_, ?_⟩
  · unfold scalesIn
    rw [hcc, ← hc]
    rfl
  · unfold scalesIn
    rw [hcc]
    refine Eq.trans (hn : (s.writeImage r.result).nvm.factoryImg = _) ?_
    rw [hres]
    exact Bool.and_false _

/-! ## Belt-scale runs (R369, R370) -/

/-- The covered entries of a run that has one alone, of the revolution that ends. -/
theorem revMean_one {r : CalRun} {k : Nat} {len mass : Rat} (ha : r.acc = [(k, len, mass)]) (hk : k / 2 ^ 20 = r.revDone)
    (hl : 0 < len) : (r.revMean r.revDone).2 = (mass / len, [mass / len]) := by
  have he : (r.acc.filter fun e => e.1 / 2 ^ 20 == r.revDone && decide (0 < e.2.1)) = [(k, len, mass)] := by
    rw [ha, List.filter_cons_of_pos (by simp only [beq_iff_eq, Bool.and_eq_true, decide_eq_true_eq]; exact ⟨hk, hl⟩), List.filter_nil]
  have h0 : ¬ (0 + len = 0) := by
    rw [zero_add]
    exact hl.ne'
  unfold CalRun.revMean
  dsimp only
  rw [he, List.foldl_cons, List.foldl_nil, List.foldl_cons, List.foldl_nil, if_neg h0, zero_add, zero_add]
  rfl

/-- The entries of the belt are rough: one is far from the mean of its revolution. -/
def rough (s : State) (r : CalRun) (p : Nat) : Bool :=
  r.proc == 7 && (r.revMean r.revDone).2.2.any fun e =>
    decide (10 * ((s.port p).cfgA.emptyQ : Rat) / 1000 < rabs (e - (r.revMean r.revDone).2.1))

/-- The code that ends a belt-scale run at its revolution. -/
def revCode (s : State) (r : CalRun) (p : Nat) : Nat :=
  if rough s r p then 8 else if r.loaded then 9 else if r.faulted then 12 else 0

/-- The run at its next revolution. -/
def nextRev (r : CalRun) : CalRun := { r with revDone := r.revDone + 1, wrap := false, loaded := false, faulted := false }

theorem beltRevEnd_due {r : CalRun} {p : Nat} (hr : s.cal.run = some r) (h6 : r.phase = 6) (hw : r.wrap = true)
    (hp : calPort r.target = some p) : s.beltRevEnd = if revCode s r p ≠ 0 then s.calEndTarget (revCode s r p)
      else if r.revDone + 1 < r.revs then s.setRun (nextRev r) else s.calFinish (nextRev r) (s.beltResult p (nextRev r)) := by
  have hn : ¬ (r.phase ≠ 6 ∨ (!r.wrap) = true) := by
    rw [h6, hw]
    decide
  unfold State.beltRevEnd
  rw [hr]
  dsimp only
  rw [if_neg hn, hp]
  rfl

theorem rough_span {r : CalRun} (s : State) (p : Nat) (h : r.proc = 8) : rough s r p = false := by
  unfold rough
  rw [h]
  rfl

/-- One entry alone is its own mean. -/
theorem rough_one {r : CalRun} {k : Nat} {len mass : Rat} (s : State) (p : Nat) (ha : r.acc = [(k, len, mass)])
    (hk : k / 2 ^ 20 = r.revDone) (hl : 0 < len) : rough s r p = false := by
  have h0 : ¬ (10 * ((s.port p).cfgA.emptyQ : Rat) / 1000 < rabs (mass / len - mass / len)) := by
    have hz : rabs (mass / len - mass / len) = 0 := by
      rw [sub_self]
      rfl
    rw [hz, not_lt]
    positivity
  unfold rough
  rw [revMean_one ha hk hl, List.any_cons, List.any_nil, decide_eq_false h0]
  exact Bool.and_false _

theorem beltResult_zero {r : CalRun} {k p : Nat} {len mass : Rat} (h7 : r.proc = 7) (ha : r.acc = [(k, len, mass)]) (hl : 0 < len)
    (hz : rabs (mass / len) ≤ limZero r.limits) (hb : rabs (f32R (s.port p).zero + mass / len) ≤ 1000) :
    s.beltResult p r = (0, [(0, (s.port p).span), (1, f32OfRat (f32R (s.port p).zero + mass / len))]) := by
  have h0 : ¬ (0 + len = 0) := by
    rw [zero_add]
    exact hl.ne'
  unfold State.beltResult
  dsimp only
  rw [ha, List.foldl_cons, List.foldl_nil, List.foldl_cons, List.foldl_nil, if_neg h0, zero_add, zero_add, if_pos h7]
  unfold State.beltZeroResult
  dsimp only
  rw [decide_eq_false (not_lt.mpr hz), decide_eq_false (not_lt.mpr hb)]
  rfl

/-! ## Tables that are joined (R384) -/

section
variable {α : Type} {d : α}

theorem get_append_other {k : Nat} {l m : Store α} (h : ∀ e ∈ l, e.1 ≠ k) : Store.get d (l ++ m) k = Store.get d m k := by
  induction l with
  | nil => rfl
  | cons e l ih =>
    have he : ¬ k = e.1 := fun hk => h e List.mem_cons_self hk.symm
    exact (if_neg he).trans (ih fun x hx => h x (List.mem_cons_of_mem _ hx))

theorem get_append_unlisted {k : Nat} {l m : Store α} (h : Store.get d m k = d) : Store.get d (l ++ m) k = Store.get d l k := by
  induction l with
  | nil => exact h
  | cons e l ih =>
    by_cases he : k = e.1
    · exact (if_pos he).trans (if_pos he).symm
    · exact (if_neg he).trans (ih.trans (if_neg he).symm)

theorem get_kept {p : Nat → Bool} {k : Nat} (h : p k = true) : ∀ m : Store α, Store.get d (Store.keep p m) k = Store.get d m k
  | [] => rfl
  | e :: m => by
    by_cases he : k = e.1
    · have hp : p e.1 = true := he ▸ h
      rw [Store.keep, List.filter_cons_of_pos (p := fun e : Nat × α => p e.1) hp]
      exact (if_pos he).trans (if_pos he).symm
    · cases hp : p e.1 with
      | true =>
        rw [Store.keep, List.filter_cons_of_pos (p := fun e : Nat × α => p e.1) hp]
        exact (if_neg he).trans ((get_kept h m).trans (if_neg he).symm)
      | false =>
        rw [Store.keep, List.filter_cons_of_neg (p := fun e : Nat × α => p e.1) (by rw [hp]; exact Bool.false_ne_true)]
        exact (get_kept h m).trans (if_neg he).symm

theorem get_run (f : Nat → α) (k : Nat) : ∀ n a : Nat, Store.get d ((List.range' a n).map fun j => (j, f j)) k =
    if a ≤ k ∧ k < a + n then f k else d
  | 0, a => (if_neg (by omega)).symm
  | n + 1, a => by
    rw [List.range'_succ, List.map_cons]
    by_cases hk : k = a
    · subst hk
      exact (if_pos rfl).trans (if_pos (by omega)).symm
    · exact (if_neg hk).trans ((get_run f k n (a + 1)).trans (if_congr (by omega) rfl rfl))

/-- A table whose entries from `a` on are replaced by the run of `n` values. -/
def rerun (m : Store α) (f : Nat → α) (a n : Nat) : Store α :=
  Store.keep (fun k => decide (k < a)) m ++ (List.range n).map fun i => (i + a, f (i + a))

theorem range_run (f : Nat → α) (a n : Nat) : ((List.range n).map fun i => (i + a, f (i + a))) =
    (List.range' a n).map fun j => (j, f j) := by
  rw [List.range'_eq_map_range, List.map_map]
  exact List.map_congr_left fun i _ => by
    simp only [Function.comp]
    rw [Nat.add_comm]

theorem get_rerun (m : Store α) (f : Nat → α) (a n k : Nat) : Store.get d (rerun m f a n) k =
    if k < a then Store.get d m k else if k < a + n then f k else d := by
  unfold rerun
  rw [range_run]
  by_cases hk : k < a
  · rw [if_pos hk, get_append_unlisted (by rw [get_run, if_neg (by omega)]), get_kept (decide_eq_true hk)]
  · have hl : ∀ e ∈ Store.keep (fun k => decide (k < a)) m, e.1 ≠ k := by
      rintro e he rfl
      exact hk (of_decide_eq_true (List.mem_filter.mp he).2)
    rw [if_neg hk, get_append_other hl, get_run]
    exact if_congr (by omega) rfl rfl

end

/-! ## RESTORE (R383 to R385) -/

theorem restoreRemember_eq (s : State) (bs : List Nat) : s.restoreRemember bs = { s.cal with imgHist := (s.restoreRemember bs).imgHist } := by
  have h (l : List Nat) : ∀ c : CalSt, l.foldl (fun c b => c.remember s.tick b (s.img b)) c =
      { c with imgHist := (l.foldl (fun c b => c.remember s.tick b (s.img b)) c).imgHist } := by
    induction l with
    | nil => exact fun c => rfl
    | cons b l ih => exact fun c => ih (c.remember s.tick b (s.img b))
  exact h _ s.cal

/-- The image that holds the area from its body on. -/
def areaImage (s : State) : Store (Option Word) := rerun s.cal.image (fun k => some (s.restW k)) 16 20964

/-- The state that takes the whole area, and remembers the values `bs` of before. -/
def fullRestored (s : State) (bs : List Nat) : State := { s with cal := { s.restoreRemember bs with
  image := areaImage s, count := (s.restW 6).toNat, last := (s.restD 16).toNat } }

/-- One word of the image, written or dropped. -/
def putWord (s : State) (k : Nat) (v : Option Word) : State :=
  { s with cal := { s.cal with image := Store.set none s.cal.image k v } }

/-- The state that takes the constants of the slots alone. -/
def sysRestored (s : State) : State :=
  yrefWords.foldl (fun s k => putWord s k none) (sysWords.foldl (fun s k => putWord s k (some (s.restW k)))
    { s with cal := s.restoreRemember sysAddrs })

/-- The state in which the restore is in force, with its generation. -/
def restoreIn (s v : State) (r : CalRun) : State :=
  State.committed { v with
    cal := { v.cal with gen := (max s.cal.gen (s.restD 8).toNat + 1) % 2 ^ 32 }
    nvm := { v.nvm with factoryImg := false, cellsOnly := r.sysOnly } } .mp (.corr 0x1FFF)

section
variable {r : CalRun} (hr : s.cal.run = some r) (h10 : r.proc = 10) (hp : r.phase = 3) (ht : s.turn r.stamp = true)
  (hw : r.waitFrom + s.calSlow ≤ s.tick) (ho : r.owed = 0)
include hr h10 hp ht hw ho

theorem restoreApply_due : s.restoreApply = if s.conflicts .mp r.stamp (.corr 0x1FFF) then s.mpConflict.calEndTarget 15
    else (restoreIn s (if r.sysOnly then sysRestored s else fullRestored s (corrAddrs ++ slotAddrs)) r).calEndTarget 0 := by
  have hn : ¬ (r.proc ≠ 10 ∨ r.phase ≠ 3 ∨ (!s.turn r.stamp) = true ∨ s.tick < r.waitFrom + s.calSlow ∨ r.owed ≠ 0) := by
    rw [h10, hp, ht, ho]
    simp only [ne_eq, not_true_eq_false, false_or, Bool.not_true, Bool.false_eq_true, or_false]
    omega
  unfold State.restoreApply
  rw [hr]
  dsimp only
  rw [if_neg hn]
  rfl

end

theorem ImageOnly.keeps (h : ImageOnly s u) : u.cal.run = s.cal.run ∧ u.cal.count = s.cal.count ∧ u.cal.last = s.cal.last := by
  rw [h.eq]
  exact ⟨rfl, rfl, rfl⟩

theorem putWord_only (s : State) (k : Nat) (v : Option Word) : ImageOnly s (putWord s k v) := rfl

theorem sysRestored_only (s : State) : ImageOnly s (sysRestored s) := by
  have h0 : ImageOnly s { s with cal := s.restoreRemember sysAddrs } := by
    unfold ImageOnly
    dsimp only
    rw [restoreRemember_eq]
  have hf (l : List Nat) (t : State) (v : State → Nat → Option Word) : ImageOnly t (l.foldl (fun t k => putWord t k (v t k)) t) :=
    foldl_rel (f := fun t k => putWord t k (v t k)) ImageOnly.refl ImageOnly.trans (fun t k => putWord_only t k _) l t
  exact (h0.trans (hf sysWords _ fun t k => some (t.restW k))).trans (hf yrefWords _ fun _ _ => none)

theorem restoreRemember_run (s : State) (bs : List Nat) : (s.restoreRemember bs).run = s.cal.run := by rw [restoreRemember_eq]

theorem fullRestored_run (s : State) (bs : List Nat) : (fullRestored s bs).cal.run = s.cal.run := restoreRemember_run s bs

/-- The image that a whole restore leaves. -/
theorem areaImage_get (s : State) (k : Nat) : Store.get none (areaImage s) k =
    if k < 16 then Store.get none s.cal.image k else if k < 16 + 20964 then some (s.restW k) else none :=
  get_rerun ..

section
variable {r : CalRun} {v : State} (hv : v.cal.run = s.cal.run) (hr : s.cal.run = some r) (ht : r.todo = []) (hf : r.firstFail = 0)
include hv hr ht hf

/-- A restore that is in force ends the run. -/
theorem restoreIn_ends : ((restoreIn s v r).calEndTarget 0).cal.run = none ∧ ((restoreIn s v r).calEndTarget 0).cal.state = 3 ∧
    ((restoreIn s v r).calEndTarget 0).cal.count = v.cal.count ∧ ((restoreIn s v r).calEndTarget 0).cal.last = v.cal.last ∧
    ((restoreIn s v r).calEndTarget 0).cal.gen = (max s.cal.gen (s.restD 8).toNat + 1) % 2 ^ 32 ∧
    ((restoreIn s v r).calEndTarget 0).nvm.factoryImg = false ∧ ((restoreIn s v r).calEndTarget 0).nvm.cellsOnly = r.sysOnly ∧
    ((restoreIn s v r).calEndTarget 0).cal.image = v.cal.image := by
  have hrun : (restoreIn s v r).cal.run = some r := hv.trans hr
  obtain ⟨h1, h2, -, -⟩ := target_over hrun ht hf 0
  have hi := calEndTarget_image (restoreIn s v r) 0
  obtain ⟨hn, -⟩ := target_rest (restoreIn s v r) 0
  exact ⟨h1, h2, hi.count, hi.last, hi.gen, congrArg NvmSt.factoryImg hn, congrArg NvmSt.cellsOnly hn, hi.image⟩

end

/-- A calibration command whose effect is the end of a target, as a step. -/
theorem calEnd_next {f : State → State} {v : State} {c : Nat} (hr : s.ready = true) (hf : f s = v.calEndTarget c) :
    ok s (s.live f) = .next { v.calEndTarget c with pending := s.pending, life := s.life } :=
  (congrArg (ok s) ((live_ready s hr).trans hf)).trans (ok_eq ..)

/-- Settles O50: the values of the result are in force and the target ends; a restore's table holds the area from its body on. -/
theorem scalesAndRestores : Obligations.ScalesAndRestores := by
  unfold Obligations.ScalesAndRestores
  refine ⟨fun s r hrd hr htd hff ho => ⟨fun a b h2 hp hf hw hc hres => ?_, fun hp hw => ?_, fun hw => ?_⟩,
    fun s r p hrd hr h6 hw hp => ⟨fun h8 hl htd hff => ?_, fun h8 hl hf hd => ?_, fun k len mass h7 ha hk hlen hl hf hd hz hb => ?_⟩,
    fun s r hrd hr h10 hp ht htd hff hw ho => ⟨fun hc hs => ?_, fun hc hs => ?_, fun hc => ?_⟩⟩
  · have he := refScaleStep_due hr h2 hp hf hw ho hc
    have hrun : (scalesIn s r).cal.run = some { r with counted := true } := rfl
    obtain ⟨h1, h3, h4, h5⟩ := target_over hrun htd hff 0
    obtain ⟨k1, k2, k3, k4⟩ := scalesIn_facts (s := s) h2 hres
    have hi := calEndTarget_image (scalesIn s r) 0
    obtain ⟨hn, -⟩ := target_rest (scalesIn s r) 0
    exact ⟨_, calEnd_next hrd he, h1, h3, h4, (img_congr hi.image 32).trans k1, (img_congr hi.image 36).trans k2,
      hi.count.trans k3, (congrArg NvmSt.factoryImg hn).trans k4, h5⟩
  · have he : s.zCellTimeout = s.calEndTarget 13 := by
      unfold State.zCellTimeout
      rw [hr]
      exact if_pos ⟨hp, hw⟩
    obtain ⟨h1, h3, h4, h5⟩ := target_over hr htd hff 13
    exact ⟨_, calEnd_next hrd he, h1, h3, h4, (calEndTarget_image s 13).image, h5⟩
  · have he : s.zCellTimeout = s := by
      unfold State.zCellTimeout
      rw [hr]
      exact if_neg (by omega)
    exact (congrArg (ok s) ((live_ready s hrd).trans he)).trans (ok_next s _ rfl rfl)
  · have hcode : revCode s r p = 9 := by
      unfold revCode
      rw [rough_span s p h8, hl]
      rfl
    have he := beltRevEnd_due hr h6 hw hp
    rw [hcode, if_pos (by decide)] at he
    obtain ⟨h1, h3, h4, -⟩ := target_over hr htd hff 9
    exact ⟨_, calEnd_next hrd he, h1, h3, h4, (calEndTarget_image s 9).ports⟩
  · have hcode : revCode s r p = 0 := by
      unfold revCode
      rw [rough_span s p h8, hl, hf]
      rfl
    have he := beltRevEnd_due hr h6 hw hp
    rw [hcode, if_neg (by decide), if_pos hd] at he
    have hn : nextRev r = { r with revDone := r.revDone + 1, wrap := false } := by
      unfold nextRev
      rw [hl, hf]
    rw [hn] at he
    exact (congrArg (ok s) ((live_ready s hrd).trans he)).trans (ok_next s _ rfl rfl)
  · have hcode : revCode s r p = 0 := by
      unfold revCode
      rw [rough_one s p ha hk hlen, hl, hf]
      rfl
    have he := beltRevEnd_due hr h6 hw hp
    rw [hcode, if_neg (by decide), if_neg (by omega), beltResult_zero (r := nextRev r) h7 ha hlen hz hb, calFinish_eq] at he
    exact ⟨_, _, (congrArg (ok s) ((live_ready s hrd).trans he)).trans (ok_eq ..), rfl, rfl, rfl, rfl, rfl⟩
  · have he := restoreApply_due hr h10 hp ht hw ho
    rw [hc, if_neg Bool.false_ne_true, hs, if_neg Bool.false_ne_true] at he
    obtain ⟨h1, h2, h3, -, h5, h6, -, h8⟩ := restoreIn_ends (fullRestored_run s (corrAddrs ++ slotAddrs)) hr htd hff
    refine ⟨_, calEnd_next hrd he, h1, h2, h3, h5, h6, fun k hk hk2 => ?_, fun k hk => ?_⟩
    · refine (congrArg (fun m => Store.get none m k) h8).trans ((areaImage_get s k).trans ?_)
      rw [if_neg (by omega), if_pos (by omega)]
    · exact (congrArg (fun m => Store.get none m k) h8).trans ((areaImage_get s k).trans (if_pos hk))
  · have he := restoreApply_due hr h10 hp ht hw ho
    rw [hc, if_neg Bool.false_ne_true, hs, if_pos rfl] at he
    obtain ⟨hrun, hcount, hlast⟩ := (sysRestored_only s).keeps
    obtain ⟨h1, h2, h3, h4, h5, -, h7, -⟩ := restoreIn_ends hrun hr htd hff
    have k3 := h3.trans hcount
    have k4 := h4.trans hlast
    have k7 := h7.trans hs
    generalize restoreIn s (sysRestored s) r = v at he h1 h2 h5 k3 k4 k7
    exact ⟨_, calEnd_next hrd he, h1, h2, k3, k4, h5, k7⟩
  · have he := restoreApply_due hr h10 hp ht hw ho
    rw [hc, if_pos rfl] at he
    have hm := mpConflict_image s
    have hrun : s.mpConflict.cal.run = some r := by
      unfold State.mpConflict
      rw [logE_eq]
      exact hr
    obtain ⟨h1, h2, h3, -⟩ := target_over hrun htd hff 15
    have hi := hm.trans (calEndTarget_image s.mpConflict 15)
    obtain ⟨-, h0, -⟩ := target_rest s.mpConflict 15
    exact ⟨_, calEnd_next hrd he, h1, h2, h3, hi.image, hi.gen, (congrArg (fun w => fld w 8 1) h0).trans (mpConflict_shows s)⟩

end Sys2Proof.Proofs
end

section
/-! PROPERTY. Tick boundaries and the changes of the count (O31). -/

namespace Sys2Proof.Proofs

open Sys2Proof Sys2Proof.Machine Sys2Proof.Laws

-- one proof at a time: the text is compiled as a whole, and the proofs side by side would need too much memory
set_option Elab.async false

variable {s t u : State} {m : Master}

/-! ## What the work of a tick leaves (R11, R19) -/

/-- What neither the work at a tick boundary nor the MP's own work at a frame boundary changes. -/
structure Framed where
  time : TimeSt
  faultSum : Nat
  candev : CanDev
  exc : ExcSt
  usedLast : List Nat
  fabric : Nat
  frameAt : Option Nat
  frameStamp : Nat
  modePend : Option Nat
  modeSel : Nat
  modeRun : Bool

def framed (s : State) : Framed where
  time := s.time
  faultSum := s.faultSum
  candev := s.candev
  exc := s.exc
  usedLast := s.budget.usedLast
  fabric := s.budget.fabric
  frameAt := s.ctl.frameAt
  frameStamp := s.ctl.frameStamp
  modePend := s.ctl.modePend
  modeSel := s.ctl.modeSel
  modeRun := s.ctl.modeRun

/-- The framed part stands, and IRQ_STAT0.TB_STEP, once set, stays. -/
structure Beat (s u : State) : Prop where
  framed : framed u = framed s
  irq : fld s.ctl.irq0 3 1 = 1 → fld u.ctl.irq0 3 1 = 1

/-- The step of corridor time that waits for port `p`, taken. -/
def posStepped (s : State) (p : Nat) (e : Rat) : State :=
  let q := s.port p
  let (u, rev) := wrapU q.len (q.u - e) q.rev
  let s := s.setPort p { q with u, rev, stepPend := none, ahead := q.ahead + e }
  let s := s.modBeadPort p fun b => { b with stepAt := s.tick :: b.stepAt.filter fun t => decide (s.tick < t + 4400) }
  let s := s.flagBeads p 0x0100
  let s := if s.bead.tareState = 2 ∧ s.bead.tarePort = p then
      ({ s with bead := { s.bead with tareState := 4, tareCause := 4, tareAcc := [] } }).irq1 3
    else s
  s.calDisturb p 13

/-- The tick that ends, up to the counts of the rail and of the references. -/
def monitored (s : State) (k : Nat) (i : TickIn) : State :=
  let s := s.startWanted.trgEnd
  let s := (s.apertures k).sendGroups
  let s := s.payChecks.payCal.payMp
  let s := s.storeSigs i.lands
  (s.forFacets s.watched fun n t => t.judgeFacet n k).judgeDrivers k

/-- The boundary that comes, after the timebase's own part of it. -/
def begun (s : State) : State :=
  let s := s.forFacets (s.facets.map Prod.fst) fun n t => (t.rangeRelease n).swapTick n
  let s := s.spare.chks.foldl (fun t c => t.checkTick c) s
  let s := s.calTick
  let s := (List.range 4).foldl (fun s p => s.portTick p) s
  s.trgTick

namespace Beat

theorem refl (s : State) : Beat s s := ⟨rfl, id⟩

theorem trans (h1 : Beat s t) (h2 : Beat t u) : Beat s u := ⟨h2.framed.trans h1.framed, fun h => h2.irq (h1.irq h)⟩

/-- An update that touches neither. -/
theorem keep (h : Proofs.framed u = Proofs.framed s := by rfl) (hi : u.ctl.irq0 = s.ctl.irq0 := by rfl) : Beat s u :=
  ⟨h, fun hs => hi ▸ hs⟩

/-- Such an update, and then what follows it. -/
theorem after (h2 : Beat t u) (h : Proofs.framed t = Proofs.framed s := by rfl) (hi : t.ctl.irq0 = s.ctl.irq0 := by rfl) : Beat s u :=
  trans (keep h hi) h2

/-- Such an update at the end. -/
theorem upd (h1 : Beat s t) (h : Proofs.framed u = Proofs.framed t := by rfl) (hi : u.ctl.irq0 = t.ctl.irq0 := by rfl) : Beat s u :=
  h1.trans (keep h hi)

theorem time (h : Beat s u) : u.time = s.time := congrArg Framed.time h.framed
theorem modeRun (h : Beat s u) : u.ctl.modeRun = s.ctl.modeRun := congrArg Framed.modeRun h.framed

theorem ite {c : Prop} [Decidable c] (h1 : Beat s t) (h2 : Beat s u) : Beat s (if c then t else u) := by
  split <;> assumption

theorem fold {α : Type} {f : State → α → State} (h : ∀ t a, Beat t (f t a)) (l : List α) : Beat s (l.foldl f s) :=
  foldl_rel Beat.refl Beat.trans h l s

theorem spares (h : SparesOnly s u) : Beat s u := by rw [h.eq]; exact ⟨rfl, id⟩
theorem ends (h : EndsOnly s u) : Beat s u := by rw [h.eq]; exact ⟨rfl, id⟩
theorem beads (h : BeadsOnly s u) : Beat s u := by
  unfold BeadsOnly at h
  rw [h]
  exact ⟨rfl, id⟩

/-! ### The shared operations -/

theorem irq0 (b : Nat) : Beat s (s.irq0 b) := ⟨rfl, irq0_keeps _ b⟩

theorem irq1 (b : Nat) : Beat s (s.irq1 b) := keep
theorem setSpares (x : SpareUnit) : Beat s { s with spare := x } := keep
theorem setBead (x : BeadSt) : Beat s { s with bead := x } := keep
theorem setFacet (n : Nat) (f : FacetRT) : Beat s (s.setFacet n f) := keep
theorem modFacet (n : Nat) (f : FacetRT → FacetRT) : Beat s (s.modFacet n f) := keep
theorem setPort (p : Nat) (q : PosPort) : Beat s (s.setPort p q) := keep
theorem mark (p e n : Nat) (x : Int) : Beat s (s.mark p e n x) := keep
theorem dutyFrom (p : Nat) : Beat s (s.dutyFrom p) := keep
theorem posLost (p : Nat) : Beat s (s.posLost p) := keep

theorem logE (c n o : Nat) (d : BitVec 32) : Beat s (s.logE c n o d) := by rw [logE_eq]; exact ⟨rfl, id⟩

theorem flagBeads (p : Nat) (w : Word) : Beat s (s.flagBeads p w) := by rw [flagBeads_eq]; exact ⟨rfl, id⟩

theorem facetAlarm (n c d : Nat) : Beat s (s.facetAlarm n c d) := by rw [facetAlarm_eq]; exact ⟨rfl, id⟩

theorem lose (a b c d e f : Nat) : Beat s (s.lose a b c d e f) := .beads (lose_beadsOnly ..)

theorem spend {a n : Nat} (h : s.spend a n = some u) : Beat s u := by
  rw [spend_some h]
  unfold State.spend at h
  dsimp only at h
  split at h
  · cases h; exact keep
  · cases h

theorem stall (a : Nat) : Beat s (s.stall a) := .ite (.refl s) (.after (irq0 10))

theorem spendAll (a n : Nat) : Beat s (s.spendAll a n) := by
  unfold State.spendAll
  split
  · next h => exact spend h
  · exact stall a

theorem takeSpare (k i n st : Nat) : Beat s (s.takeSpare k i n st) :=
  trans (ite (t := s.endCheckOn k i) keep (.refl s))
    (trans (spares (setSpare_spares ..)) (spares (checkExhausted_spares ..)))

theorem leaveCauses (n k : Nat) : Beat s (s.leaveCauses n k) := by
  unfold State.leaveCauses
  extract_lets f now spans s1
  exact .ite (.refl s) (.ite (.after (facetAlarm ..)) keep)

theorem calEndTarget (c : Nat) : Beat s (s.calEndTarget c) := .ends (calEndTarget_ends s c)
theorem calDisturb (p c : Nat) : Beat s (s.calDisturb p c) := .ends (calDisturb_ends s p c)
theorem returnSpare (k i : Nat) : Beat s (s.returnSpare k i) := .spares (returnSpare_spares s k i)
theorem forceBeads (p c : Nat) : Beat s (s.forceBeads p c) := .beads (forceBeads_beadsOnly s p c)
theorem setSpare (k i : Nat) (v : SpareSt) : Beat s (s.setSpare k i v) := .spares (setSpare_spares s k i v)
theorem checkExhausted (k : Nat) : Beat s (s.checkExhausted k) := .spares (checkExhausted_spares s k)
theorem sparev (a b c d e : Nat) (x y : Bool) : Beat s (s.sparev a b c d e x y) := .spares (sparev_spares s a b c d e x y)
theorem slAppend (a b c d e : Nat) : Beat s (s.slAppend a b c d e) := .spares (slAppendAt_spares ..)

/-! ### The sequencer and captures (R258 to R267) -/

theorem emitHeader : Beat s s.emitHeader := keep

theorem stagePacket {a b : Nat} {l : Loss} {ws : List Word} (h : s.stagePacket a b l ws = some u) : Beat s u := by
  unfold State.stagePacket State.pushPacket at h
  split at h
  · dsimp only at h
    split at h
    · cases h; exact keep
    · cases h
  · cases h

theorem stageHeader : Beat s s.stageHeader := by
  unfold State.stageHeader
  refine .ite (.refl s) ?_
  split
  · next h => exact (stagePacket h).upd
  · exact .refl s

theorem trigger (a b c : Nat) : Beat s (s.trigger a b c) := by
  unfold State.trigger
  extract_lets t _ s1 _ s2 _ c preAct long inside flags s3 s4
  refine .ite ?_ ?_
  · exact .ite (.after (logE ..)) keep
  · have h : Beat s s4 := .after stageHeader
    exact .ite keep (.ite (h.trans emitHeader) h)

theorem trgAct (act a b c : Nat) : Beat s (s.trgAct act a b c) := by
  unfold State.trgAct
  split
  · exact trigger ..
  · exact keep
  · exact .refl s

theorem trgStep : Beat s s.trgStep := by
  unfold State.trgStep
  extract_lets st t0 hit cnt _ s1 s2 s3
  exact .ite (.refl s) (.ite (.after (trgAct ..)) (.ite (.after (trgAct ..)) keep))

theorem trgEnd : Beat s s.trgEnd := by
  refine upd (t := s.trgJudge) ?_
  unfold State.trgJudge
  refine .ite (.refl s) ?_
  extract_lets force _ s1
  have h : Beat s s1 := .after trgStep
  exact .ite (h.trans (trigger ..)) h

theorem abortEffect : Beat s s.abortEffect := by
  unfold State.abortEffect
  refine .ite (.refl s) ?_
  dsimp only
  split <;> exact keep

theorem trgTick : Beat s s.trgTick := .after abortEffect

theorem capStep (k y : Nat) : Beat s (s.capStep k y) := by
  unfold State.capStep
  split
  · exact .ite (.refl s) (.ite keep keep)
  · exact keep
  · exact keep
  · exact .refl s

/-! ### The tick that ends (R52, R56, R258, R394, R432) -/

theorem startTriggered (w : CheckReq) : Beat s (s.startTriggered w) := by
  unfold State.startTriggered
  refine .ite (.refl s) (.ite (setSpares _) ?_)
  split
  · exact .refl s
  · exact .ite ((takeSpare ..).trans (trans (setFacet w.facet _) (setSpares _)))
      ((takeSpare ..).trans (trans (modFacet w.facet _) (setSpares _)))

theorem startWanted : Beat s s.startWanted :=
  .after (.fold (f := State.startTriggered) (fun _ w => startTriggered w) _)

theorem countCal (n : Nat) : Beat s (s.countCal n) := by
  unfold State.countCal
  split
  · exact .ite keep (.refl s)
  · exact .refl s

theorem setFacets (x : Store FacetRT) : Beat s { s with facets := x } := keep

theorem apertures (k : Nat) : Beat s (s.apertures k) := by
  unfold State.apertures
  refine .ite (.refl s) ?_
  extract_lets s1
  have h1 : Beat s s1 := by
    dsimp only [s1]
    split
    · exact .ite (countCal _) (.refl s)
    · exact .refl s
  exact h1.trans (setFacets _)

theorem emit (ty : MsgType) (p n : Nat) (d : List Byte) (a b c e : Nat) : Beat s (s.emit ty p n d a b c e) := keep

theorem sendGroup (ap : Nat) (es : List TrecEntry) : Beat s (s.sendGroup ap es) := by
  unfold State.sendGroup
  extract_lets es1 fs unit
  exact fold (fun t x => .after (emit ..)) _

theorem sendGroups : Beat s s.sendGroups :=
  .after (.fold (f := fun s (x : Nat × Nat × List TrecEntry) => s.sendGroup x.1 x.2.2) (fun _ x => sendGroup x.1 x.2.2) _)

theorem payChecks : Beat s s.payChecks := by
  refine fold (fun t c => .ite (.refl t) ?_) _
  split
  · next h => exact spend h
  · exact (stall actScrub).upd

theorem payCal : Beat s s.payCal := by
  unfold State.payCal
  split
  · exact .refl s
  · extract_lets left take n s1
    have htake (n : Nat) : Beat s (take s n) := .ite ((spendAll ..).trans (stall _)) (spendAll ..)
    exact .ite (.ite (htake _).upd (htake _)) (.ite (htake _).upd (.refl s))

theorem payMp : Beat s s.payMp := .ite (.refl s) (.after (spendAll ..))

theorem storeSigs (l : List (Fin 512 × Analog)) : Beat s (s.storeSigs l) :=
  .fold (f := fun s x => s.modFacet x.1.val fun f => { f with sig := x.2 }) (fun _ _ => keep) l

theorem judgeFacets (l : List Nat) (k : Nat) : Beat s (s.forFacets l fun n t => t.judgeFacet n k) :=
  .fold (f := fun t n => t.judgeFacet n k) (fun _ _ => keep) l

/-! ### The tick that begins (R42, R193, R200, R247, R363, R393) -/

theorem switchRef (c : Nat) : Beat s (s.switchRef c) := .after (sparev ..)

theorem vrefExhausted : Beat s s.vrefExhausted := .ite (.refl s) (.after (sparev ..))

theorem rangeRelease (n : Nat) : Beat s (s.rangeRelease n) := by
  unfold State.rangeRelease
  split
  · split
    · exact .ite (returnSpare ..).upd (.refl s)
    · exact .refl s
  · exact .refl s

theorem swapTick (n : Nat) : Beat s (s.swapTick n) := by
  unfold State.swapTick
  extract_lets f
  split
  · exact .refl s
  · split
    · refine .ite (.refl s) (.ite (.after (returnSpare ..)) ?_)
      exact .after ((setSpare ..).trans ((slAppend ..).trans ((sparev ..).trans (checkExhausted ..))))
    · exact .ite (.refl s) (.ite keep (.ite (.ite keep keep) keep))

theorem checkTick (c : Check) : Beat s (s.checkTick c) := .ite keep (.refl s)

theorem calLetGo (r : CalRun) : Beat s (s.calLetGo r) := by
  unfold State.calLetGo
  split
  · refine trans ?_ (returnSpare ..)
    exact .ite keep (.refl s)
  · exact .refl s

theorem calev (a b c d : Nat) : Beat s (s.calev a b c d) := .after (emit ..)

theorem abortDone (r : CalRun) : Beat s (s.abortDone r) :=
  upd (t := s.calev 1 r.proc 0 (calObject r.proc r.target)) (calev ..)

theorem calAbortTick : Beat s s.calAbortTick := by
  unfold State.calAbortTick
  split
  · exact .refl s
  · refine .ite (.refl s) (.ite ((calLetGo _).trans (calEndTarget 16)) (.ite ?_ (.ite ?_ (calEndTarget 16))))
    · refine trans (ite (t := State.abortDone _ _) (abortDone _) (calEndTarget 16)) keep
    · exact (calEndTarget 16).upd

theorem calClose (r : CalRun) : Beat s (s.calClose r) := by
  unfold State.calClose
  extract_lets _ s1
  have h1 : Beat s s1 := .ite keep (calEndTarget _)
  exact .ite (h1.trans (.ite (.refl _) keep)) h1

theorem calFree : Beat s s.calFree := by
  unfold State.calFree
  split
  · refine .ite (.refl s) ?_
    split
    · refine trans ?_ (calClose _)
      split
      · exact returnSpare ..
      · exact .refl s
    · exact .refl s
  · exact .refl s

theorem calWatch : Beat s s.calWatch := by
  unfold State.calWatch
  split
  · exact .refl s
  · refine .ite ?_ (.ite keep (.refl s))
    split
    · exact .ite (calEndTarget 10) (.refl s)
    · exact .refl s

theorem calTick : Beat s s.calTick := calAbortTick.trans (calFree.trans calWatch)

theorem runsLosePort (p : Nat) : Beat s (s.runsLosePort p) := by
  unfold State.runsLosePort
  extract_lets _ s1
  have h1 : Beat s s1 := .ite keep (.refl s)
  exact h1.trans (calDisturb ..)

theorem enterPos (p : Nat) (st : PosState) (b : Bool) : Beat s (s.enterPos p st b) := by
  unfold State.enterPos
  extract_lets q was q1 q2 s1 s2 s3
  have h1 : Beat s s1 := setPort ..
  have h2 : Beat s s2 := h1.trans ((irq1 2).trans (mark ..))
  have h3 : Beat s s3 := h2.trans (.ite (.ite ((dutyFrom ..).trans (posLost ..)) (dutyFrom ..)) (.refl _))
  exact .ite (setPort ..) (.ite h1 (.ite (h3.trans ((forceBeads ..).trans (runsLosePort _))) h3))

theorem posStep (p : Nat) (e : Rat) : Beat s (posStepped s p e) := by
  unfold posStepped
  extract_lets q
  split
  extract_lets s1 s2 s3 _ s4
  have h3 : Beat s s3 := .after (flagBeads ..)
  have h4 : Beat s s4 := h3.trans (.ite keep (.refl _))
  exact h4.trans (calDisturb ..)

theorem posTick (p : Nat) : Beat s (s.posTick p) := by
  unfold State.posTick
  extract_lets q s1 s2 s3
  have h1 : Beat s s1 := by
    dsimp only [s1]
    split
    · exact .refl s
    · exact posStep p _
  have h2 : Beat s s2 := by
    refine h1.trans ?_
    dsimp only [s2]
    split
    · exact enterPos ..
    · exact .refl s1
  have h3 : Beat s s3 := h2.trans (.ite (.refl _) (flagBeads ..))
  exact .ite (.refl s) h3.upd

theorem touchEntry (e : Nat) : Beat s (s.touchEntry e) := keep

theorem formRecord (b : Bead) (c k : Nat) : Beat s (s.formRecord b c k) := by
  unfold State.formRecord
  extract_lets seq bytes slot n _ s1 s2 flags _ s3
  have h3 : Beat s s3 := keep
  exact .ite (h3.trans (emit ..)) h3

theorem beadRecord (b : Bead) (c : Nat) : Beat s (s.beadRecord b c) := by
  unfold State.beadRecord
  extract_lets len s1 s2
  have h1 : Beat s s1 := keep
  split
  · next h =>
    split at h
    · exact h1.trans ((spend h).trans (formRecord ..))
    · cases h
  · exact h1.trans (stall actBead).upd

theorem skipBeads (p : Nat) (u0 d : Rat) : Beat s (s.skipBeads p u0 d) := by
  unfold State.skipBeads
  dsimp only
  split
  · exact .refl s
  · refine .ite (.refl s) (upd (fold (fun t x => ?_) _))
    exact .ite (.refl t) (beadRecord ..)

theorem portTick (p : Nat) : Beat s (s.portTick p) := by
  unfold State.portTick
  extract_lets q
  refine (posTick p).trans ?_
  unfold State.stepBeads
  split
  · exact .ite (skipBeads ..) (.refl _)
  · exact .refl _

theorem announceRows : Beat s s.announceRows := by
  unfold State.announceRows
  have h1 : Beat s ((List.range s.spare.rowsNew).foldl (fun t i =>
      t.sparev 7 6 (t.spare.rowsUsed - t.spare.rowsNew + i) objDevice 4 true true) s) := fold (fun t i => sparev ..) _
  exact h1.trans (.after (checkExhausted 6))

theorem openAt (p k : Nat) (x : Rat) : Beat s (s.openAt p k x) := by
  unfold State.openAt
  extract_lets q s1 rev idx b
  have h1 : Beat s s1 := .ite (.refl s) keep
  exact .ite (.refl s) (.ite (.ite h1 h1.upd) (h1.upd))

theorem countWaiting (p k : Nat) (x : Rat) (a b : Nat) : Beat s (s.countWaiting p k x a b) := by
  refine (openAt p k x).trans ?_
  exact .ite (.refl _) keep

theorem updateBead (p k : Nat) (x : Rat) (f : Bead → Bead) : Beat s (s.updateBead p k x f) := by
  unfold State.updateBead
  extract_lets s1
  have h1 : Beat s s1 := openAt p k x
  refine .ite (.refl s) ?_
  split
  · exact h1
  · split
    · exact h1
    · exact h1.trans (.after (touchEntry _))

theorem voidTicks (k y : Nat) : Beat s (s.voidTicks k y) := by
  refine fold (fun t p => ?_) _
  extract_lets one t1
  have hone (v : State) (n a b : Nat) : Beat v (one v n a b) := by
    dsimp only [one]
    split
    · exact .ite (.refl v) ((countWaiting ..).trans (updateBead ..))
    · exact .refl v
  have h1 : Beat t t1 := by
    dsimp only [t1]
    split
    · exact hone ..
    · exact .refl t
  exact h1.trans (fold (fun v n => .ite (hone ..) (.refl v)) _)

/-! ### The tick as a whole -/

/-- What the tick that ends leaves. -/
theorem monitored (k : Nat) (i : TickIn) : Beat s (monitored s k i) := by
  unfold Proofs.monitored
  have h1 : Beat s s.startWanted.trgEnd := startWanted.trans trgEnd
  have h2 := h1.trans ((apertures k).trans sendGroups)
  have h3 := h2.trans (payChecks.trans (payCal.trans payMp))
  exact h3.trans ((storeSigs i.lands).trans (.upd (judgeFacets ..)))

/-- What a boundary does once its tick number stands, after the timebase's own part. -/
theorem begun : Beat s (begun s) := by
  unfold Proofs.begun
  extract_lets s1 s2 s3 s4
  have h1 : Beat s s1 := fold (fun t n => (rangeRelease n).trans (swapTick n)) _
  have h2 : Beat s s2 := h1.trans (fold (fun t c => checkTick c) _)
  have h3 : Beat s s3 := h2.trans calTick
  have h4 : Beat s s4 := h3.trans (fold (fun t p => portTick p) _)
  exact h4.trans trgTick

end Beat

/-! ## The timebase's part of a boundary (R12, R175, R176, R180) -/

/-- The count, the state and source of the timebase and what waits for a tick stand. -/
structure SameCount (a b : TimeSt) : Prop where
  tick : b.tick = a.tick
  state : b.state = a.state
  src : b.src = a.src
  cont : b.cont = a.cont
  step : b.step = a.step
  acquiring : b.acquiring = a.acquiring
  noRepeat : b.noRepeat = a.noRepeat

theorem SameCount.refl (a : TimeSt) : SameCount a a := ⟨rfl, rfl, rfl, rfl, rfl, rfl, rfl⟩

theorem SameCount.trans {a b c : TimeSt} (h1 : SameCount a b) (h2 : SameCount b c) : SameCount a c :=
  ⟨h2.tick.trans h1.tick, h2.state.trans h1.state, h2.src.trans h1.src, h2.cont.trans h1.cont, h2.step.trans h1.step,
    h2.acquiring.trans h1.acquiring, h2.noRepeat.trans h1.noRepeat⟩

/-- The count stands, with the mode's start, and IRQ_STAT0.TB_STEP once set. -/
structure Counted (s u : State) : Prop where
  time : SameCount s.time u.time
  modeRun : u.ctl.modeRun = s.ctl.modeRun
  irq : fld s.ctl.irq0 3 1 = 1 → fld u.ctl.irq0 3 1 = 1

theorem Counted.refl (s : State) : Counted s s := ⟨.refl _, rfl, id⟩

theorem Counted.trans (h1 : Counted s t) (h2 : Counted t u) : Counted s u :=
  ⟨h1.time.trans h2.time, h2.modeRun.trans h1.modeRun, fun h => h2.irq (h1.irq h)⟩

theorem Beat.counted (h : Beat s u) : Counted s u := ⟨h.time ▸ .refl _, h.modeRun, h.irq⟩

theorem slewTick_counted : Counted s s.slewTick := ⟨⟨rfl, rfl, rfl, rfl, rfl, rfl, rfl⟩, rfl, id⟩

theorem periodTick_counted : Counted s s.periodTick := by
  unfold State.periodTick
  split
  · split
    · exact ⟨⟨rfl, rfl, rfl, rfl, rfl, rfl, rfl⟩, rfl, id⟩
    · exact .refl s
  · exact .refl s

theorem passArmed_counted : Counted s s.passArmed := by
  unfold State.passArmed
  split
  · split
    · exact ⟨⟨rfl, rfl, rfl, rfl, rfl, rfl, rfl⟩, rfl, id⟩
    · exact .refl s
  · exact .refl s

theorem beginTick_counted : Counted s s.beginTick := by
  have h1 : Counted s s.slewTick.periodTick := (slewTick_counted (s := s)).trans periodTick_counted
  have h2 : Counted s (if s.slewTick.periodTick.spare.refSwitch then (s.slewTick.periodTick.switchRef 3).vrefExhausted
      else s.slewTick.periodTick) :=
    h1.trans (Beat.ite ((Beat.switchRef 3).trans .vrefExhausted) (.refl _)).counted
  exact h2.trans (passArmed_counted.trans Beat.begun.counted)

theorem judged_counted (s : State) (i : TickIn) : Counted s
    (let v := (s.judgeRail i.railMa i.exvdd).judgeRefs i.refDiff i.devA i.devB; { v with trg := { v.trg with level := i.trigIn } }) :=
  ⟨.refl _, rfl, id⟩

theorem endTick_counted (i : TickIn) : Counted s (s.endTick i) :=
  (Beat.monitored s.tick i).counted.trans (judged_counted (monitored s s.tick i) i)

/-- A tick boundary advances the count by one. -/
theorem tickBoundary_tick (i : TickIn) (h : s.changes = false) : (s.tickBoundary i).time.tick = s.time.tick + 1 := by
  unfold State.tickBoundary
  rw [if_neg (by simp [h])]
  extract_lets _ s1 _ s2
  have h1 : s1.time.tick = s.time.tick := by
    dsimp only [s1]
    split
    · exact (endTick_counted i).time.tick
    · rfl
  have h2 : s2.time.tick = s.time.tick + 1 := congrArg (· + 1) h1
  split
  · exact beginTick_counted.time.tick.trans h2
  · exact h2

/-! ## The count changes (R159, R160, R176) -/

theorem decideCont_waits {now src : Nat} {x : Int} {st : TbState} (hp : s.life.phase = .settled) (hc : s.time.cont = none) :
    s.decideCont now x src st = { s with time := { s.time with
      cont := some ((stepTarget now x).1, (stepTarget now x).2, st, src), contX := x, early := none } } := by
  unfold State.decideCont
  rw [if_neg (by simp [hc]), if_neg (by simp [hp])]

theorem stepTarget_frame (now : Nat) (x : Int) : (stepTarget now x).1 % 4 = 0 := Nat.mul_mod_left _ 4

/-- FREE is decided for the frame boundary at which it becomes corridor time. -/
theorem freeEntry_decides (hp : s.life.phase = .settled) (hu : s.time.state = .unset) (hf : fld s.time.ctl 2 1 = 1)
    (ht : s.time.unsetFrom + 40000 ≤ s.tick) (hc : s.time.cont = none) :
    ∃ t, exec .freeEntry s = .next t ∧ (∃ y k, t.time.cont = some (y, k, .free, 0) ∧ y % 4 = 0) ∧
      t = { s with time := t.time } := by
  have hr : s.ready = true := by simp [State.ready, hp]
  have he : s.live State.freeRun = s.decideCont (s.nowNs 0) 0 0 .free := (live_ready s hr).trans (if_pos ⟨hu, hf, ht⟩)
  rw [decideCont_waits hp hc] at he
  refine ⟨_, ok_next s _ (congrArg State.pending he :) (congrArg State.life he :), ?_⟩
  rw [he]
  exact ⟨⟨_, _, rfl, stepTarget_frame ..⟩, rfl⟩

/-- What the change of the count leaves: all of the timebase but its instants, and the tick, which is the new one. -/
theorem jump_counted (s : State) (y : Nat) (x : Int) :
    SameCount { s.time with tick := y } (s.jump y x).time ∧ (s.jump y x).ctl.modeRun = s.ctl.modeRun := by
  have h := endTick_counted (s := s) s.sameIn
  have ht := h.time
  unfold State.jump
  dsimp only
  generalize s.endTick s.sameIn = v at h ht
  exact ⟨⟨rfl, ht.state, ht.src, ht.cont, ht.step, ht.acquiring, ht.noRepeat⟩, h.modeRun⟩

theorem requestSync_counted (y k : Nat) : Counted s (s.requestSync y k) := by
  unfold State.requestSync
  split
  · exact .refl s
  · exact ⟨⟨rfl, rfl, rfl, rfl, rfl, rfl, rfl⟩, rfl, id⟩

/-- IRQ_STAT0.TB_STEP and the entry of a change of the count. -/
theorem tbStep_counted (o : Nat) (d : BitVec 32) : Counted s ((s.irq0 3).logE 6 noMaster o d) ∧
    fld ((s.irq0 3).logE 6 noMaster o d).ctl.irq0 3 1 = 1 := by
  have h : Beat (s.irq0 3) ((s.irq0 3).logE 6 noMaster o d) := .logE ..
  exact ⟨((Beat.irq0 3).trans h).counted, h.irq (irq0_set s (by decide))⟩

/-- The boundary at which the provisional count continues, before the rows used are announced and the boundary's own work. -/
def continued (s : State) (y src : Nat) (st : TbState) : State :=
  let s := { s with
    time := { s.time with cont := none, acquiring := true
                          tx := Store.build {} 2 fun p => { s.refTx p with quietFrom := y } }
    ctl := { s.ctl with modeRun := true } }
  let s := (s.setTb st src).requestSync y 4
  (s.irq0 3).logE 6 noMaster 0 (BitVec.ofInt 32 (satS 32 (-s.time.contX)))

theorem continued_facts (s : State) (y src : Nat) (st : TbState) :
    (continued s y src st).time.tick = s.time.tick ∧ (continued s y src st).time.state = st ∧
    (continued s y src st).time.src = src ∧ (continued s y src st).time.cont = none ∧
    (continued s y src st).time.acquiring = true ∧ (continued s y src st).ctl.modeRun = true ∧
    fld (continued s y src st).ctl.irq0 3 1 = 1 := by
  unfold continued
  extract_lets _ _ v w
  have hv := setTb_time v st src
  have hm : (v.setTb st src).ctl.modeRun = true := by rw [setTb_eq]
  have h1 : Counted (v.setTb st src) w := requestSync_counted y 4
  obtain ⟨h2, hi⟩ := tbStep_counted (s := w) 0 (BitVec.ofInt 32 (satS 32 (-w.time.contX)))
  obtain ⟨⟨htick, hstate, hsrc, hcont, -, hacq, -⟩, hmode, -⟩ := h1.trans h2
  rw [hv] at htick hstate hsrc hcont hacq
  exact ⟨htick, hstate, hsrc, hcont, hacq, hmode.trans hm, hi⟩

theorem continuation_facts {y k src : Nat} {st : TbState} (hr : s.ready = true) (hc : s.time.cont = some (y, k, st, src))
    (hk : s.tick = k) : s.continuation.time.tick = y ∧ s.continuation.time.state = st ∧ s.continuation.time.src = src ∧
      s.continuation.time.cont = none ∧ s.continuation.time.acquiring = true ∧ fld s.continuation.ctl.irq0 3 1 = 1 ∧
      s.continuation.ctl.modeRun = true := by
  have he : s.continuation = (continued (s.jump y s.time.contX) y src st).announceRows.beginTick := by
    unfold State.continuation
    rw [hc]
    exact if_neg (by simp [hr, hk])
  obtain ⟨htick, hstate, hsrc, hcont, hacq, hmode, hirq⟩ := continued_facts (s.jump y s.time.contX) y src st
  have hy := (jump_counted s y s.time.contX).1.tick
  rw [he]
  generalize s.jump y s.time.contX = v at *
  generalize continued v y src st = w at *
  obtain ⟨⟨t1, t2, t3, t4, -, t5, -⟩, t6, t7⟩ := Beat.announceRows.counted.trans (beginTick_counted (s := w.announceRows))
  exact ⟨t1.trans (htick.trans hy), t2.trans hstate, t3.trans hsrc, t4.trans hcont, t5.trans hacq, t7 hirq, t6.trans hmode⟩

/-! ### A step (R176) -/

/-- A step taken, up to what becomes of the armed target. -/
def steppedCount (s : State) (y k : Nat) : State :=
  let s := if k + 1 < y then s.lose 0 511 (k + 1) (y - 1 - k) 2 0
    else if y ≤ k then s.lose 0 511 y (k + 1 - y) 2 0 else s
  { s with time := { s.time with
    step := none, slew := 0, noRepeat := if y ≤ k then some (max k (s.time.noRepeat.getD 0)) else s.time.noRepeat } }

/-- The armed target that the step has passed is late. -/
def lateTarget (s : State) (y : Nat) : State :=
  match s.time.armed with
  | some a => if a ≤ y then
      let t := s.clearArmed
      { t with time := { t.time with syncLate := true } } else s
  | none => s

/-- What a step does before the work of its boundary. -/
def stepEnded (s : State) (k y : Nat) (x : Int) : State :=
  let s := ((s.capStep k y).voidTicks k y).stepSync y
  let size := satS 32 (-x)
  ((s.irq0 3).logE 6 noMaster 0 (BitVec.ofInt 32 size)).alarm 7 objDevice (s32 (max (-2147483647) size))

theorem timeStep_stages {y k : Nat} {x : Int} (hr : s.ready = true) (hs : s.time.step = some (y, k, x)) (hk : s.tick = k) :
    s.timeStep = (stepEnded (lateTarget (steppedCount (s.jump y x) y k) y) k y x).beginTick := by
  unfold State.timeStep
  rw [hs]
  exact if_neg (by simp [hr, hk])

/-- The timebase after a step from tick `k` to tick `y`: the tick's number apart. -/
def stepTaken (a : TimeSt) (y k : Nat) : TimeSt :=
  { a with step := none, slew := 0, noRepeat := if y ≤ k then some (max k (a.noRepeat.getD 0)) else a.noRepeat }

theorem steppedCount_time (s : State) (y k : Nat) : (steppedCount s y k).time = stepTaken s.time y k := by
  unfold steppedCount
  extract_lets v
  have hv : v.time = s.time := (Beat.ite (Beat.lose ..) (.ite (Beat.lose ..) (.refl s))).time
  exact congrArg (stepTaken · y k) hv

theorem lateTarget_counted (y : Nat) : Counted s (lateTarget s y) := by
  unfold lateTarget
  split
  · split
    · exact ⟨⟨rfl, rfl, rfl, rfl, rfl, rfl, rfl⟩, rfl, id⟩
    · exact .refl s
  · exact .refl s

theorem stepSync_counted (y : Nat) : Counted s (s.stepSync y) := ⟨⟨rfl, rfl, rfl, rfl, rfl, rfl, rfl⟩, rfl, id⟩

theorem alarm_counted (c o d : Nat) : Counted s (s.alarm c o d) := ⟨.refl _, rfl, id⟩

theorem stepEnded_counted (k y : Nat) (x : Int) : Counted s (stepEnded s k y x) ∧ fld (stepEnded s k y x).ctl.irq0 3 1 = 1 := by
  unfold stepEnded
  extract_lets v size
  have hv : Counted s v := ((Beat.capStep k y).trans (.voidTicks k y)).counted.trans (stepSync_counted y)
  obtain ⟨h2, hi⟩ := tbStep_counted (s := v) 0 (BitVec.ofInt 32 size)
  exact ⟨hv.trans (h2.trans (alarm_counted ..)), (alarm_counted ..).irq hi⟩

theorem timeStep_facts {y k : Nat} {x : Int} (hr : s.ready = true) (hs : s.time.step = some (y, k, x)) (hk : s.tick = k) :
    s.timeStep.time.tick = y ∧ s.timeStep.time.step = none ∧ fld s.timeStep.ctl.irq0 3 1 = 1 ∧
      s.timeStep.time.state = s.time.state ∧
      (y ≤ k → s.timeStep.time.noRepeat = some (max k (s.time.noRepeat.getD 0))) := by
  rw [timeStep_stages hr hs hk]
  obtain ⟨hj, -⟩ := jump_counted s y x
  generalize s.jump y x = v at *
  have h1 := steppedCount_time v y k
  generalize steppedCount v y k = w at *
  obtain ⟨h3, hi⟩ := stepEnded_counted (s := lateTarget w y) k y x
  have h2 : Counted w (lateTarget w y) := lateTarget_counted y
  generalize stepEnded (lateTarget w y) k y x = z at *
  have h4 : Counted z z.beginTick := beginTick_counted
  obtain ⟨⟨t1, t2, -, -, t3, -, t4⟩, -, -⟩ := h2.trans (h3.trans h4)
  rw [h1] at t1 t2 t3 t4
  refine ⟨t1.trans hj.tick, t3, h4.irq hi, t2.trans hj.state, fun hy => ?_⟩
  rw [t4]
  exact (if_pos hy).trans (by rw [hj.noRepeat])

/-- Settles O31: a continuation and a step take the new count after the tick that ends (`jump_counted`), and no work of the boundary
changes it (`beginTick_counted`). -/
theorem theCountChangesWhereDecided : Obligations.TheCountChangesWhereDecided := by
  unfold Obligations.TheCountChangesWhereDecided
  refine ⟨fun s => freeEntry_decides, fun s y k src st hr hc hk => ?_, fun s y k x hr hs hk => ?_⟩
  · exact ⟨_, ok_eq .., continuation_facts hr hc hk⟩
  · exact ⟨_, ok_eq .., timeStep_facts hr hs hk⟩

end Sys2Proof.Proofs
end

section
/-! PROPERTY. Frame boundaries (O22). -/

namespace Sys2Proof.Proofs

open Sys2Proof Sys2Proof.Machine Sys2Proof.Laws

-- one proof at a time: the text is compiled as a whole, and the proofs side by side would need too much memory
set_option Elab.async false

variable {s t u : State} {m : Master}

/-! ## What the work of a frame boundary leaves (R19, R283, R394, R397, R398, R436) -/

namespace Beat

theorem formClosing (l : List (Bead × Nat × Nat)) (s : State) : Beat s (s.formClosing l) := by
  induction l generalizing s with
  | nil => exact keep
  | cons e l ih =>
    obtain ⟨b, c, t⟩ := e
    unfold State.formClosing
    split
    · next h => exact (spend h).trans ((formRecord b c t).trans (ih _))
    · exact (stall actBead).trans (setBead _)

theorem scrubFrame : Beat s s.scrubFrame := by
  unfold State.scrubFrame
  refine .ite (.refl s) ?_
  dsimp only
  refine .ite keep ?_
  split
  · next h => exact .after ((spend h).trans (setSpares _))
  · exact .after (stall actScrub)

theorem trgStart : Beat s s.trgStart := .ite keep (.refl s)

theorem completeSubst (n k i c : Nat) : Beat s (s.completeSubst n k i c) := by
  unfold State.completeSubst
  extract_lets f old f1 s1 s2 _ s4 s5 s6
  have h1 : Beat s s1 := keep
  have h2 : Beat s1 s2 := by
    dsimp only [s2]
    cases old with
    | some j => exact .ite (.refl s1) (setSpare ..)
    | none => exact .refl s1
  have h5 : Beat s2 s5 := (setSpare ..).trans ((sparev ..).trans (irq0 7))
  have h6 : Beat s5 s6 := .ite (.refl s5) (leaveCauses ..)
  exact h1.trans (h2.trans (h5.trans (h6.trans (checkExhausted k))))

theorem substAtFrame (n : Nat) : Beat s (s.substAtFrame n) := by
  unfold State.substAtFrame
  dsimp only
  split
  · exact .ite (completeSubst ..) (.refl s)
  · exact .refl s

theorem autoSubst (n : Nat) : Beat s (s.autoSubst n) := by
  unfold State.autoSubst
  extract_lets f kinds
  refine .ite (.refl s) ?_
  split
  · exact (takeSpare ..).trans (modFacet ..)
  · exact .refl s

theorem leaveCheck (c : Check) : Beat s (s.leaveCheck c) := .ite (modFacet ..) (.ite (modFacet ..) (returnSpare ..))

theorem checksAtFrame : Beat s s.checksAtFrame := (setSpares _).trans (fold (fun _ c => leaveCheck c) _)

theorem frameWork : Beat s s.frameWork :=
  trgStart.trans (trans (fold (fun _ n => (substAtFrame n).trans (autoSubst n)) _) checksAtFrame)

/-! ### CANCLK at a frame boundary (R283) -/

theorem canEvent (p : Nat) (b : Bool) (d : Nat) : Beat s (s.canEvent p b d) := (irq0 6).trans (logE ..)

theorem modCanPort (p : Nat) (f : CanPort → CanPort) : Beat s (s.modCanPort p f) := keep

theorem hostDone (p i k : Nat) : Beat s (s.hostDone p i k) := keep

theorem leaveBus (p : Nat) : Beat s (s.leaveBus p) := by
  unfold State.leaveBus
  dsimp only
  split
  · exact .refl s
  · exact .after (.ite (.refl _) (.ite (hostDone ..) (modCanPort ..)))

end Beat

theorem modCanPort_sess (p : Nat) (f : CanPort → CanPort) : SessKept s (s.modCanPort p f) := rfl

/-- The framed part after CANCLK has been measured at `khz`. -/
def clocked (a : Framed) (khz : Nat) : Framed :=
  { a with candev := { a.candev with clkKhz := khz, clkOk := decide (20000 ≤ khz ∧ khz ≤ 80000) } }

theorem canclkLoss_framed (h : s.candev.clkOk = true) :
    framed s.canclkLoss = { framed s with candev := { s.candev with clkOk := false } } ∧ SessKept s s.canclkLoss := by
  unfold State.canclkLoss
  rw [if_neg (by simp [h])]
  extract_lets _ v w
  have h1 : Beat v w := .fold (fun t p => (Beat.leaveBus p).trans (Beat.modCanPort ..)) _
  have h2 : Beat w (w.runningPorts.foldl (fun s p => s.canEvent p false 0) w) := .fold (fun t p => Beat.canEvent ..) _
  have k1 : SessKept v w := sess_foldl (fun t p => (leaveBus_sess t p).trans (modCanPort_sess ..)) _ _
  have k2 : SessKept w (w.runningPorts.foldl (fun s p => s.canEvent p false 0) w) :=
    sess_foldl (fun t p => canEvent_sess ..) _ _
  exact ⟨(h1.trans h2).framed, (k1.trans k2)⟩

theorem canclkReturn_framed {khz : Nat} (h : s.candev.clkOk = false) (hl : 20000 ≤ khz) (hu : khz ≤ 80000) :
    framed (s.canclkReturn khz) = { framed s with candev := { s.candev with clkOk := true, clkKhz := khz } } ∧
    SessKept s (s.canclkReturn khz) := by
  unfold State.canclkReturn
  rw [if_neg (by simp [h]; omega)]
  extract_lets _ v
  have h1 : Beat v (v.runningPorts.foldl (fun s p =>
      (s.modCanPort p fun c => { c with st := if c.st.off then c.st else .integrating }).canEvent p false 0) v) :=
    .fold (fun t p => (Beat.modCanPort ..).trans (Beat.canEvent ..)) _
  have k1 : SessKept v (v.runningPorts.foldl (fun s p =>
      (s.modCanPort p fun c => { c with st := if c.st.off then c.st else .integrating }).canEvent p false 0) v) :=
    sess_foldl (fun t p => (modCanPort_sess ..).trans (canEvent_sess ..)) _ _
  exact ⟨h1.framed, k1⟩

theorem canclkFrame_framed (khz : Nat) : framed (s.canclkFrame khz) = clocked (framed s) khz ∧ SessKept s (s.canclkFrame khz) := by
  unfold State.canclkFrame
  extract_lets _ v
  by_cases hk : khz < 20000 ∨ 80000 < khz
  · rw [if_pos hk]
    have hd : decide (20000 ≤ khz ∧ khz ≤ 80000) = false := by simp; omega
    by_cases hv : v.candev.clkOk = true
    · obtain ⟨h1, h2⟩ := canclkLoss_framed hv
      exact ⟨h1.trans (by unfold clocked; rw [hd]; rfl), h2⟩
    · have he : v.canclkLoss = v := if_pos (by simpa using hv)
      have hf : v.candev.clkOk = false := by simpa using hv
      rw [he]
      refine ⟨?_, rfl⟩
      unfold clocked
      rw [hd, ← hf]
      rfl
  · rw [if_neg hk]
    have hd : decide (20000 ≤ khz ∧ khz ≤ 80000) = true := by simp; omega
    by_cases hv : v.candev.clkOk = true
    · have he : v.canclkReturn khz = v := if_pos (Or.inl hv)
      rw [he]
      refine ⟨?_, rfl⟩
      unfold clocked
      rw [hd, ← hv]
      rfl
    · obtain ⟨h1, h2⟩ := canclkReturn_framed (s := v) (khz := khz) (by simpa using hv) (by omega) (by omega)
      exact ⟨h1.trans (by unfold clocked; rw [hd]; rfl), h2⟩

/-! ### The requests that wait, and the direct writes (R19, R347, R433) -/

theorem serveWaiting_idle (p : Nat) (h : (s.session p).waiting = []) :
    s.serveWaiting p = s.modSession p fun x => { x with waiting := [] } := by
  unfold State.serveWaiting
  dsimp only
  rw [h]
  rfl

/-- No request waits at either port. -/
def NoneWaits (s : State) : Prop := ∀ p < 2, (s.session p).waiting = []

theorem serveRenewed_idle (h : NoneWaits s) : Beat s s.serveRenewed := by
  have hstep (t : State) (p : Nat) (ht : NoneWaits t) (hp : p < 2) :
      let u := if (t.session p).commitReq.isNone then t.serveWaiting p else t
      Beat t u ∧ NoneWaits u := by
    extract_lets u
    by_cases hc : (t.session p).commitReq.isNone = true
    · have hu : u = t.modSession p fun x => { x with waiting := [] } := (if_pos hc).trans (serveWaiting_idle p (ht p hp))
      clear_value u
      rw [hu]
      refine ⟨.keep, fun q hq => ?_⟩
      by_cases hqp : q = p
      · subst hqp; rw [session_modSession]
      · exact (congrArg Session.waiting (get_set_other _ _ _ _ hqp)).trans (ht q hq)
    · have hu : u = t := if_neg hc
      clear_value u
      rw [hu]
      exact ⟨.refl t, ht⟩
  obtain ⟨h0, k0⟩ := hstep s 0 h (by decide)
  exact h0.trans (hstep _ 1 k0 (by decide)).1

/-- The framed part, the budgets and the sessions stand. -/
structure Bounded (s u : State) : Prop where
  framed : framed u = framed s
  budget : u.budget = s.budget
  sess : u.sess = s.sess

theorem Bounded.refl (s : State) : Bounded s s := ⟨rfl, rfl, rfl⟩

theorem Bounded.trans (h1 : Bounded s t) (h2 : Bounded t u) : Bounded s u :=
  ⟨h2.framed.trans h1.framed, h2.budget.trans h1.budget, h2.sess.trans h1.sess⟩

theorem Aside.bounded (h : Aside s u) : Bounded s u := by rw [h.eq]; exact ⟨rfl, rfl, rfl⟩

theorem bezelEffect_bounded (a : Nat) (v : Word) (n : Master) : Bounded s (s.bezelEffect a v n) := by
  unfold State.bezelEffect
  split
  · have h : Aside s (s.logIgnored n 0x1007 a) := aside_logE ..
    exact h.bounded
  · exact ⟨rfl, rfl, rfl⟩

theorem aside_mark (p e n : Nat) (x : Int) : Aside s (s.mark p e n x) := rfl
theorem aside_dutyFrom (p : Nat) : Aside s (s.dutyFrom p) := rfl
theorem aside_posLost (p : Nat) : Aside s (s.posLost p) := rfl
theorem aside_irq1 (b : Nat) : Aside s (s.irq1 b) := rfl
theorem aside_setPort (p : Nat) (q : PosPort) : Aside s (s.setPort p q) := rfl
theorem aside_setBead (x : BeadSt) : Aside s { s with bead := x } := rfl

theorem aside_runsLosePort (p : Nat) : Aside s (s.runsLosePort p) := by
  unfold State.runsLosePort
  extract_lets _ s1
  have h1 : Aside s s1 := aside_ite _ ((aside_setBead _).trans (aside_irq1 3)) (.refl s)
  exact h1.trans (aside_calDisturb ..)

theorem aside_enterPos (p : Nat) (st : PosState) (b : Bool) : Aside s (s.enterPos p st b) := by
  unfold State.enterPos
  extract_lets q was q1 q2 s1 s2 s3
  have h1 : Aside s s1 := aside_setPort ..
  have h2 : Aside s s2 := h1.trans ((aside_irq1 2).trans (aside_mark ..))
  have h3 : Aside s s3 := h2.trans (aside_ite _ (aside_ite _ ((aside_dutyFrom ..).trans (aside_posLost ..)) (aside_dutyFrom ..)) (.refl _))
  exact aside_ite _ (aside_setPort ..) (aside_ite _ h1 (aside_ite _ (h3.trans ((aside_forceBeads ..).trans (aside_runsLosePort _))) h3))

theorem aside_posCfgEffect (p : Nat) : Aside s (s.posCfgEffect p) := by
  unfold State.posCfgEffect
  extract_lets q keep s1
  have h1 : Aside s s1 := aside_setPort ..
  exact aside_ite _ (.refl s) (aside_ite _ (h1.trans (aside_enterPos ..)) (aside_ite _ (h1.trans (aside_enterPos ..)) h1))

theorem aside_beadPortsEffect : Aside s s.beadPortsEffect := by
  unfold State.beadPortsEffect
  extract_lets new old _ s1
  refine aside_ite _ (.refl s) ((aside_setBead _).trans (aside_foldl _ _ (fun t p => ?_) _))
  exact aside_ite _ (.refl t) (aside_ite _ (aside_dutyFrom ..) ((aside_forceBeads ..).trans (aside_modBeadPort ..)))

/-- The framed part once the written mode policy has been taken. -/
def policyTaken (a : Framed) : Framed := { a with modeSel := a.modePend.getD a.modeSel, modePend := none }

theorem directEffects_facts (s : State) : framed s.directEffects = policyTaken (framed s) ∧
    s.directEffects.budget = s.budget ∧ s.directEffects.sess = s.sess := by
  unfold State.directEffects
  extract_lets v _ w z
  have h1 : Bounded s v := foldl_rel Bounded.refl Bounded.trans (f := fun t (x : Nat × Word × Master) => t.bezelEffect x.1 x.2.1 x.2.2)
    (fun t x => bezelEffect_bounded x.1 x.2.1 x.2.2) _ s
  have h2 : framed w = policyTaken (framed v) := rfl
  have h3 : Aside w z := aside_foldl _ _ (fun t p =>
    ((aside_posCfgEffect p).trans (aside_modPort _ p _)).trans (aside_scaleEffect _ p)) _
  have h4 := (h3.trans aside_beadPortsEffect).bounded
  exact ⟨h4.framed.trans (h2.trans (congrArg policyTaken h1.framed)), h4.budget.trans h1.budget, h4.sess.trans h1.sess⟩

/-! ### The frame boundary (R11, R52, R58, R216, R436) -/

/-- The framed part with the measures of the frame that has ended. -/
def measured (s : State) : Framed := { framed s with
  exc := { s.exc with railMa := if s.exc.railFrame = [] then s.exc.railMa else s.exc.railFrame.foldl (· + ·) 0 / s.exc.railFrame.length
                      railFrame := [] }
  faultSum := s.faultCount }

theorem frameMeasures_facts (s : State) : framed s.frameMeasures = measured s ∧
    s.frameMeasures.budget = s.budget ∧ s.frameMeasures.sess = s.sess := by
  unfold State.frameMeasures
  extract_lets r _ v
  have h := (aside_foldl v (fun t p => t.modPort p PosPort.frameSpeed) (fun t p => aside_modPort ..) (List.range 4)).bounded
  exact ⟨h.framed, h.budget, h.sess⟩

/-- The framed part with the use of the frame that has ended and the fabric's measurement. -/
def renewed (s : State) (fabric : Nat) : Framed := { framed s with usedLast := s.budget.used, fabric := fabric }

theorem setTrace_bounded (x : List FrameTrace) : Bounded s { s with trace := x } := ⟨rfl, rfl, rfl⟩

theorem fabricFrame_facts (s : State) (fabric first : Nat) :
    framed (s.fabricFrame fabric first) = renewed s fabric ∧ (s.fabricFrame fabric first).sess = s.sess := by
  unfold State.fabricFrame
  extract_lets was v _ w z
  have hv : Bounded s v := setTrace_bounded _
  clear_value v
  have hw : Bounded v w := by
    dsimp only [w]
    split
    · exact ⟨rfl, rfl, rfl⟩
    · exact .refl v
  obtain ⟨hf, hb, hs⟩ := hv.trans hw
  clear_value w
  have hz : framed z = { framed w with usedLast := w.budget.used, fabric := fabric } := rfl
  have h := (aside_fabricEdge z was).bounded
  refine ⟨h.framed.trans (hz.trans ?_), h.sess.trans hs⟩
  rw [hf, hb]
  rfl

/-- The state once the frame's number stands. -/
def framedAt (s : State) : State := { s with ctl := { s.ctl with
  frameStamp := s.ctl.stamp, frameAt := some s.tick, loadFrames := if s.ready then s.ctl.loadFrames + 1 else 0 } }

theorem framedAt_ready (hr : s.ready = true) : (framedAt s).ready = true := hr

/-- What follows at a frame boundary once the direct writes have taken effect. -/
def boundaryWork (s : State) (fabric canclk first : Nat) : State :=
  let s := (s.fabricFrame fabric first).canclkFrame canclk
  let s := if s.ready then s.serveRenewed else s
  let s := s.formClosing s.bead.closing
  if s.ready then s.scrubFrame.frameWork else s

theorem boundaryWork_framed {fabric canclk first : Nat} (hw : NoneWaits s) :
    framed (boundaryWork s fabric canclk first) = clocked (renewed s fabric) canclk := by
  unfold boundaryWork
  extract_lets s2 s3 s4
  obtain ⟨d1, d2⟩ := fabricFrame_facts s fabric first
  obtain ⟨e1, e2⟩ := canclkFrame_framed (s := s.fabricFrame fabric first) canclk
  have hs2 : s2.sess = s.sess := Eq.trans e2 d2
  have hf2 : framed s2 = clocked (renewed s fabric) canclk := e1.trans (congrArg (clocked · canclk) d1)
  clear_value s2
  have hw2 : NoneWaits s2 := fun p hp => (congrArg (fun x => (Store.get {} x p).waiting) hs2).trans (hw p hp)
  have h3 : Beat s2 s3 := .ite (serveRenewed_idle hw2) (.refl s2)
  have h5 : Beat s3 s4 := .formClosing _ s3
  have h6 : Beat s4 (if s4.ready then s4.scrubFrame.frameWork else s4) := .ite (Beat.scrubFrame.trans Beat.frameWork) (.refl s4)
  exact (h3.trans (h5.trans h6)).framed.trans hf2

/-- A frame boundary at a running device, as the framed part shows it. -/
theorem frameBoundary_framed {fabric canclk : Nat} (hr : s.ready = true) (hf : s.isFrame = true) (ha : s.ctl.frameAt ≠ some s.tick)
    (hw : NoneWaits s) : framed (s.frameBoundary fabric canclk) =
      clocked { policyTaken (measured (framedAt s)) with usedLast := s.budget.used, fabric := fabric } canclk := by
  have he : s.frameBoundary fabric canclk = boundaryWork (framedAt s).frameMeasures.directEffects.tallyJudge
      fabric canclk (s.ctl.frameAt.getD (s.tick - 4)) := by
    unfold State.frameBoundary
    rw [if_neg (by simp [hf, ha])]
    exact congrArg (boundaryWork · fabric canclk (s.ctl.frameAt.getD (s.tick - 4))) (if_pos (framedAt_ready hr))
  obtain ⟨a1, a2, a3⟩ := frameMeasures_facts (framedAt s)
  obtain ⟨b1, b2, b3⟩ := directEffects_facts (framedAt s).frameMeasures
  have c := (aside_tallyJudge (framedAt s).frameMeasures.directEffects).bounded
  have hs1 := c.sess.trans (b3.trans a3)
  have hb1 := c.budget.trans (b2.trans a2)
  have hf1 := c.framed.trans (b1.trans (congrArg policyTaken a1))
  rw [he]
  generalize (framedAt s).frameMeasures.directEffects.tallyJudge = s1 at hs1 hb1 hf1 ⊢
  have hw1 : NoneWaits s1 := fun p hp => (congrArg (fun x => (Store.get {} x p).waiting) hs1).trans (hw p hp)
  rw [boundaryWork_framed hw1]
  unfold renewed
  rw [hf1, hb1]
  rfl

theorem frameBoundary_idle {fabric canclk : Nat} (h : s.isFrame = false ∨ s.ctl.frameAt = some s.tick) :
    s.frameBoundary fabric canclk = s := if_pos (by simpa using h)

theorem tickBoundary_asleep (i : TickIn) (h : s.ready = false) : s.tickBoundary i = { s with
    time := { s.time with tick := s.time.tick + 1 }, exc := { s.exc with exvdd := i.exvdd } } := by
  have hc : ¬ s.changes = true := by simp [State.changes, h]
  have hn : ¬ s.ready = true := by simp [h]
  unfold State.tickBoundary
  rw [if_neg hc, if_neg hn]
  exact if_neg hn

/-- Settles O22: the work of a tick keeps the count (`tickBoundary_tick`), and that of a frame boundary what the boundary has taken over
(`frameBoundary_framed`). -/
theorem ticksAndFrames : Obligations.TicksAndFrames := by
  unfold Obligations.TicksAndFrames
  refine ⟨fun i s => ⟨fun hc => ⟨_, ok_eq .., tickBoundary_tick i hc⟩, fun hr => ?_, fun hc => ?_⟩,
    fun fabric canclk s => ⟨fun hr hf ha hw => ?_, fun h => ?_⟩⟩
  · have h := tickBoundary_asleep i hr
    exact (ok_next s _ (congrArg State.pending h :) (congrArg State.life h :)).trans (congrArg _ h)
  · have h : s.tickBoundary i = s := if_pos hc
    exact (ok_next s _ (congrArg State.pending h) (congrArg State.life h)).trans (congrArg _ h)
  · have h := frameBoundary_framed (fabric := fabric) (canclk := canclk) hr hf ha hw
    refine ⟨_, ok_eq .., ?_⟩
    generalize s.frameBoundary fabric canclk = t at h
    have hexc : t.exc = (measured (framedAt s)).exc := congrArg Framed.exc h
    refine ⟨congrArg Framed.frameAt h, congrArg Framed.frameStamp h, congrArg Framed.modePend h, congrArg Framed.modeSel h,
      congrArg Framed.faultSum h, congrArg Framed.usedLast h, congrArg Framed.fabric h,
      congrArg (fun a => a.candev.clkKhz) h, congrArg (fun a => a.candev.clkOk) h, congrArg ExcSt.railFrame hexc, fun hn => ?_⟩
    rw [List.sum_eq_foldl]
    exact (congrArg ExcSt.railMa hexc).trans (if_neg hn)
  · have h := frameBoundary_idle (fabric := fabric) (canclk := canclk) h
    exact (ok_next s _ (congrArg State.pending h) (congrArg State.life h)).trans (congrArg _ h)

end Sys2Proof.Proofs
end

section
/-! PROPERTY. Outputs are formed, wait or are lost; scheduled operation (O23). -/

namespace Sys2Proof.Proofs

open Sys2Proof Sys2Proof.Machine Sys2Proof.Laws

-- one proof at a time: the text is compiled as a whole, and the proofs side by side would need too much memory
set_option Elab.async false

variable {s t u : State} {m : Master}

/-! ## What the consumers of an output leave (R16, R231 to R235, R259) -/

/-- Each loss still stands, over at least as many ticks. -/
def LossesGrow (a b : List Loss) : Prop :=
  ∀ l ∈ a, ∃ r ∈ b, r.first = l.first ∧ r.last = l.last ∧ r.cause = l.cause ∧ r.start = l.start ∧ l.len ≤ r.len

theorem LossesGrow.refl (a : List Loss) : LossesGrow a a := fun l hl => ⟨l, hl, rfl, rfl, rfl, rfl, le_rfl⟩

theorem LossesGrow.trans {a b c : List Loss} (h1 : LossesGrow a b) (h2 : LossesGrow b c) : LossesGrow a c := by
  intro l hl
  obtain ⟨r, hr, r1, r2, r3, r4, r5⟩ := h1 l hl
  obtain ⟨x, hx, x1, x2, x3, x4, x5⟩ := h2 r hr
  exact ⟨x, hx, x1.trans r1, x2.trans r2, x3.trans r3, x4.trans r4, r5.trans x5⟩

/-- The facets, the timebase, the position ports and the parameters in force stand, and no loss goes. -/
structure Fed (s u : State) : Prop where
  facets : u.facets = s.facets
  time : u.time = s.time
  ports : u.ports = s.ports
  fpActive : u.fpActive = s.fpActive
  losses : LossesGrow s.msg.losses u.msg.losses

namespace Fed

theorem refl (s : State) : Fed s s := ⟨rfl, rfl, rfl, rfl, .refl _⟩

theorem trans (h1 : Fed s t) (h2 : Fed t u) : Fed s u :=
  ⟨h2.facets.trans h1.facets, h2.time.trans h1.time, h2.ports.trans h1.ports, h2.fpActive.trans h1.fpActive,
    h1.losses.trans h2.losses⟩

theorem ite {c : Prop} [Decidable c] (h1 : Fed s t) (h2 : Fed s u) : Fed s (if c then t else u) := by
  split <;> assumption

theorem fold {α : Type} {f : State → α → State} (h : ∀ t a, Fed t (f t a)) (l : List α) : Fed s (l.foldl f s) :=
  foldl_rel Fed.refl Fed.trans h l s

theorem facet (h : Fed s u) (n : Nat) : u.facet n = s.facet n := by
  unfold State.facet
  rw [h.facets]

/-! ### Single fields -/

theorem bead (x : BeadSt) : Fed s { s with bead := x } := ⟨rfl, rfl, rfl, rfl, .refl _⟩
theorem cal (x : CalSt) : Fed s { s with cal := x } := ⟨rfl, rfl, rfl, rfl, .refl _⟩
theorem cap (x : CapSt) : Fed s { s with cap := x } := ⟨rfl, rfl, rfl, rfl, .refl _⟩
theorem trg (x : TrgSt) : Fed s { s with trg := x } := ⟨rfl, rfl, rfl, rfl, .refl _⟩
theorem budget (x : BudgetSt) : Fed s { s with budget := x } := ⟨rfl, rfl, rfl, rfl, .refl _⟩
theorem group (x : List (Nat × Nat × List TrecEntry)) : Fed s { s with msg := { s.msg with group := x } } :=
  ⟨rfl, rfl, rfl, rfl, .refl _⟩
theorem irq0 (b : Nat) : Fed s (s.irq0 b) := ⟨rfl, rfl, rfl, rfl, .refl _⟩
theorem irq1 (b : Nat) : Fed s (s.irq1 b) := ⟨rfl, rfl, rfl, rfl, .refl _⟩

theorem beadOnly (h : BeadOnly s u) : Fed s u := by rw [h.eq]; exact bead _

theorem logE (c n o : Nat) (d : BitVec 32) : Fed s (s.logE c n o d) := by
  rw [logE_eq]; exact ⟨rfl, rfl, rfl, rfl, .refl _⟩

theorem spend {a n : Nat} (h : s.spend a n = some u) : Fed s u := by rw [spend_some h]; exact budget _

theorem stall (a : Nat) : Fed s (s.stall a) := .ite (.refl s) ((budget _).trans (irq0 10))

theorem lose (a b c n d e : Nat) : Fed s (s.lose a b c n d e) := by
  unfold State.lose
  refine .ite (.refl s) ⟨rfl, rfl, rfl, rfl, ?_⟩
  dsimp only
  split
  · intro l hl
    refine ⟨_, List.mem_map.mpr ⟨l, hl, rfl⟩, ?_⟩
    split
    · exact ⟨rfl, rfl, rfl, rfl, Nat.le_max_left ..⟩
    · exact ⟨rfl, rfl, rfl, rfl, le_rfl⟩
  · intro l hl
    exact ⟨l, List.mem_append_left _ hl, rfl, rfl, rfl, rfl, le_rfl⟩

/-! ### The bead engine (R224, R228, R231 to R239, R246) -/

theorem modBeadPort (p : Nat) (f : BeadPort → BeadPort) : Fed s (s.modBeadPort p f) := bead _

theorem setRun (r : CalRun) : Fed s (s.setRun r) := cal _

theorem openAt (p k : Nat) (x : Rat) : Fed s (s.openAt p k x) := .beadOnly (openAt_bead ..)

theorem updateBead (p k : Nat) (x : Rat) (f : Bead → Bead) : Fed s (s.updateBead p k x f) := .beadOnly (updateBead_bead ..)

theorem countWaiting (p k : Nat) (x : Rat) (a b : Nat) : Fed s (s.countWaiting p k x a b) :=
  (openAt p k x).trans (.ite (.refl _) (modBeadPort ..))

theorem scaleSegment (p : Nat) (a b : Placed) : Fed s (s.scaleSegment p a b) := by
  unfold State.scaleSegment
  dsimp only
  refine fold (fun t x => ?_) _
  have h : Fed t (t.openAt p b.aperture x.1) := openAt ..
  exact h.trans (trans (.ite (.refl _) (modBeadPort ..)) (updateBead ..))

theorem midTicks (p : Nat) (a b : Placed) : Fed s (s.midTicks p a b) := by
  unfold State.midTicks
  dsimp only
  exact (bead _).trans (fold (fun t e => bead _) _)

theorem stretch (p role : Nat) (a b : Placed) : Fed s (s.stretch p role a b) :=
  fold (fun _ _ => updateBead ..) _

theorem calWitness (p : Nat) (a b : Bool) : Fed s (s.calWitness p a b) := by
  unfold State.calWitness
  split
  · exact .refl s
  · exact .ite (.refl s) (setRun _)

theorem airSample (p : Nat) (b : Placed) : Fed s (s.airSample p b) := by
  unfold State.airSample
  split
  · exact .ite (setRun _) (.refl s)
  · exact .refl s

theorem calSample (p : Nat) (a b : Placed) : Fed s (s.calSample p a b) := by
  unfold State.calSample
  split
  · exact .refl s
  · dsimp only
    exact .ite (.ite (setRun _) (.refl s)) (setRun _)

theorem learnSegment (p : Nat) (a b : Placed) (x0 : Option Rat) : Fed s (s.learnSegment p a b x0) := by
  have h : LearnedOnly s (s.learnSegment p a b x0) := learnSegment_learned ..
  unfold LearnedOnly at h
  rw [h]
  exact bead _

theorem learnSample (p : Nat) (a b : Placed) : Fed s (s.learnSample p a b) := by
  unfold State.learnSample
  extract_lets len crossed s1 _ _ s2 s3
  have h1 : Fed s s1 := learnSegment ..
  have h2 : Fed s s2 := .ite (.ite (h1.trans (bead _)) h1) (.ite (bead _) (.refl s))
  have h3 : Fed s s3 := h2.trans (calSample ..)
  exact .ite (h3.trans (modBeadPort ..)) h3

theorem scaleSample (p k : Nat) (items : List (Nat × DWord × Word × Nat)) : Fed s (s.scaleSample p k items) := by
  unfold State.scaleSample
  extract_lets q cat flags live place set w ql at_ prev act
  clear_value place prev at_ ql
  split
  · exact modBeadPort ..
  · extract_lets t b s1 s2 s3 s4 s5
    have h2 : Fed s s2 := (modBeadPort ..).trans (airSample ..)
    have h3 : Fed s2 s3 := by
      dsimp only [s3]
      split
      · exact learnSample ..
      · exact .refl s2
    have h5 : Fed s3 s5 := (countWaiting ..).trans (updateBead ..)
    have h6 : Fed s s5 := h2.trans (h3.trans h5)
    refine .ite (h2.trans h3) ?_
    split
    · exact .ite (h6.trans ((scaleSegment ..).trans (midTicks ..))) h6
    · exact h6

theorem gatherLoad (p n k : Nat) (eng : DWord) (flags : Word) (cat : Nat) : Fed s (s.gatherLoad p n k eng flags cat) := by
  unfold State.gatherLoad
  extract_lets old items before s1 s2
  have h2 : Fed s s2 := (modBeadPort ..).trans (fold (fun t e => scaleSample ..) _)
  exact .ite (modBeadPort ..) (h2.trans (scaleSample ..))

theorem deliverX (p n k : Nat) (x odo : Rat) : Fed s (s.deliverX p n k x odo) := by
  unfold State.deliverX
  extract_lets len b back y reach s1
  have h1 : Fed s s1 := bead _
  exact .ite (h1.trans ((bead _).trans (logE ..))) h1

theorem tareFail (c : Nat) : Fed s (s.tareFail c) := (bead _).trans (irq1 3)

theorem fixStart (p : Nat) : Fed s (s.fixStart p) := .ite (.refl s) (modBeadPort ..)

/-- The intake of an output by the bead engine. -/
theorem beadIntake (n k w : Nat) (eng : DWord) (flags : Word) (lost tsub : Bool) :
    Fed s (s.beadIntake n k w eng flags lost tsub) := by
  unfold State.beadIntake
  extract_lets blk p role on
  refine .ite (.refl s) ?_
  have hx : Fed s (if (!on || lost) = true then (s, lost) else
      match s.spend actBead 1 with
      | some t => (t, lost)
      | none => ((s.stall actBead).lose n n (k + 1 - w) w 5 4, true)).1 := by
    split
    · exact .refl s
    · split
      · next h => exact spend h
      · exact (stall _).trans (lose ..)
  revert hx
  generalize (if (!on || lost) = true then (s, lost) else
      match s.spend actBead 1 with
      | some t => (t, lost)
      | none => ((s.stall actBead).lose n n (k + 1 - w) w 5 4, true)) = x
  intro hx
  split
  rename_i s1 lost1
  extract_lets cat s2 s3 s4
  have h3 : Fed s s3 := hx.trans ((Fed.ite (tareFail 5) (.refl _)).trans (calWitness ..))
  split
  · have h4 : Fed s s4 := h3.trans (modBeadPort ..)
    exact .ite (h4.trans (modBeadPort ..)) h4
  · extract_lets s5 b prev s6 s7 s8
    have h5 : Fed s s5 := h3.trans (.ite ((fixStart p).trans (deliverX ..)) (.refl _))
    have h6 : Fed s s6 := h5.trans (modBeadPort ..)
    have h8 : Fed s s8 := h6.trans (trans (.ite (countWaiting ..) (.refl _)) (updateBead ..))
    refine .ite (h5.trans (gatherLoad ..)) (.ite h5 ?_)
    clear_value prev
    split
    · exact .ite (h8.trans (stretch ..)) h8
    · exact h8

theorem dropLine (t c : Nat) : Fed s (s.dropLine t c) := .ite (.refl s) ((cap _).trans (lose ..))

theorem captureWords (n t : Nat) (ws : List DWord) : Fed s (s.captureWords n t ws) := by
  unfold State.captureWords
  extract_lets c runs j
  refine .ite (.refl s) ?_
  split
  extract_lets _ ps
  refine .ite (dropLine ..) ?_
  split
  · exact (stall _).trans (dropLine ..)
  · next h => exact (spend h).trans (cap _)

theorem hsWords (n t : Nat) (ws : List DWord) : Fed s (s.hsWords n t ws) := by
  unfold State.hsWords
  dsimp only
  exact .ite (.refl s) (cap _)

theorem freshOut (n a : Nat) (v : DWord) (b : Bool) (w : Option DWord) (d : Nat) : Fed s (s.freshOut n a v b w d) :=
  .ite (trg _) (.refl s)

theorem withhold (n k : Nat) (live : Bool) : Fed s (s.withhold n k live) := .ite (beadIntake ..) (.refl s)

end Fed

/-! ## An output reaches its consumers (R16, R80, R134) -/

/-- The facet once an output has been formed. -/
def outPublished (f : FacetRT) (x : Formed) : FacetRT :=
  { f with
    prev := f.last, older := (f.prev :: f.older).take olderKept, gapEdge := false
    last := { i := x.i, q := x.q, eng := x.eng, aperture := x.aperture, formTick := x.formTick, valid := true } }

/-- Publishing an output makes it the facet's last, and its consumers leave the facets. -/
theorem publish_fed (s : State) (n : Nat) (x : Formed) (live : Bool) :
    Fed (s.setFacet n (outPublished (s.facet n) x)) (s.publish n x live) ∧
    (live = false → s.publish n x live = s.setFacet n (outPublished (s.facet n) x)) := by
  unfold State.publish
  extract_lets f s1 e _ s2 s3 s4 prev
  refine ⟨.ite (.refl _) ?_, fun h => if_pos (by simp [h])⟩
  have h2 : Fed s1 s2 := .ite (.group _) (.refl _)
  have h3 : Fed s2 s3 := (Fed.captureWords ..).trans (.hsWords ..)
  exact h2.trans (h3.trans ((Fed.beadIntake ..).trans (.freshOut ..)))

/-- What an output of facet `n` leaves: the other facets, the timebase, the ports and the parameters. -/
structure OutputOf (n : Nat) (s u : State) : Prop where
  others : ∀ j, j ≠ n → u.facet j = s.facet j
  fpActive : u.fpActive = s.fpActive
  time : u.time = s.time
  ports : u.ports = s.ports

theorem Fed.outputOf (h : Fed s u) (n : Nat) : OutputOf n s u := ⟨fun j _ => h.facet j, h.fpActive, h.time, h.ports⟩

theorem OutputOf.trans {n : Nat} (h1 : OutputOf n s t) (h2 : OutputOf n t u) : OutputOf n s u :=
  ⟨fun j hj => (h2.others j hj).trans (h1.others j hj), h2.fpActive.trans h1.fpActive, h2.time.trans h1.time,
    h2.ports.trans h1.ports⟩

theorem setFacet_outputOf (s : State) (n : Nat) (f : FacetRT) : OutputOf n s (s.setFacet n f) :=
  ⟨fun _ hj => facet_setFacet_other s f hj, rfl, rfl, rfl⟩

theorem publish_output (s : State) (n : Nat) (x : Formed) (live : Bool) :
    OutputOf n s (s.publish n x live) ∧ (s.publish n x live).facet n = outPublished (s.facet n) x ∧
    (live = false → (s.publish n x live).budget = s.budget) := by
  obtain ⟨h1, h2⟩ := publish_fed s n x live
  exact ⟨(setFacet_outputOf ..).trans (h1.outputOf n), (h1.facet n).trans (facet_setFacet ..),
    fun h => (congrArg State.budget (h2 h) :)⟩

/-- The facet of an output that has been formed, by its facet before. -/
structure Published (f g : FacetRT) (aperture : Nat) : Prop where
  pend : g.pend = f.pend
  valid : g.last.valid = true
  aperture : g.last.aperture = aperture
  prev : g.prev = f.last
  gapEdge : g.gapEdge = false

theorem outPublished_published {f g : FacetRT} {x : Formed} (hp : f.pend = g.pend) (hl : f.last = g.last) :
    Published g (outPublished f x) x.aperture := ⟨hp, rfl, rfl, hl, rfl⟩

/-- A facet whose results have been entered is published. -/
theorem published_output {n : Nat} {f : FacetRT → FacetRT} (x : Formed) (live : Bool)
    (hp : (f (s.facet n)).pend = (s.facet n).pend) (hl : (f (s.facet n)).last = (s.facet n).last) :
    let t := (s.modFacet n f).publish n x live
    OutputOf n s t ∧ Published (s.facet n) (t.facet n) x.aperture ∧ (live = false → t.budget = s.budget) := by
  obtain ⟨h1, h2, h3⟩ := publish_output (s.modFacet n f) n x live
  refine ⟨(setFacet_outputOf ..).trans h1, ?_, h3⟩
  rw [h2, facet_modFacet]
  exact outPublished_published hp hl

/-- The oldest output of a facet, formed. -/
theorem formCont_output (s : State) (n : Nat) (p : PendOut) (o : OutIn) :
    OutputOf n s (s.formCont n p o) ∧ Published (s.facet n) ((s.formCont n p o).facet n) p.aperture ∧
    (p.live = false → (s.formCont n p o).budget = s.budget) := by
  unfold State.formCont
  extract_lets form
  split
  · split
    split
    extract_lets flags x
    split
    exact published_output _ _ rfl rfl
  · split
    extract_lets flags
    split
    exact published_output _ _ rfl rfl

/-- The transfer of a tick word leaves the facet's last output. -/
theorem formTickWord_output (s : State) (n : Nat) (p : TickPend) (c : Nat) (o : OutIn) :
    OutputOf n s (s.formTickWord n p c o) ∧ ((s.formTickWord n p c o).facet n).tickPend = (s.facet n).tickPend ∧
    ((s.formTickWord n p c o).facet n).last = (s.facet n).last := by
  unfold State.formTickWord
  extract_lets f k key a
  split
  split
  extract_lets flags a1 ws v
  have h1 : OutputOf n s v := setFacet_outputOf ..
  have h2 : Fed v (if p.live then (v.captureWords n k ws).hsWords n k ws else v) :=
    .ite ((Fed.captureWords ..).trans (.hsWords ..)) (.refl v)
  have hv : v.facet n = { f with acc := Store.set {} f.acc key a1, tickEdge := f.tickEdge && !p.live } := facet_setFacet ..
  refine ⟨h1.trans (h2.outputOf n), ?_, ?_⟩
  · rw [h2.facet n, hv]
  · rw [h2.facet n, hv]

/-! ### OUTPUT_FORMATION (R80 to R83, R134, R434, R438) -/

section
variable {n : Nat} {o : OutIn} {p : PendOut} {rest : List PendOut}

/-- An output whose transfer has not waited for a frame is completed within it. -/
theorem getD_within {f : Option Nat} {a t : Nat} {b : Prop} [Decidable b] (hf : ∀ c, f = some c → t ≤ c + 4) (hb : ¬ b → t ≤ a + 4) :
    ¬ f.getD (if b then t else a) + 4 < t := by
  cases f with
  | some c => exact Nat.not_lt.mpr (hf c rfl)
  | none =>
    rw [Option.getD_none]
    split
    · exact Nat.not_lt.mpr (Nat.le_add_right ..)
    · next h => exact Nat.not_lt.mpr (hb h)

theorem completed_late (hc : ∀ c, p.formed = some c → s.tick ≤ c + 4) : ¬ s.completed p + 4 < s.tick := by
  unfold State.completed
  refine getD_within hc fun h => ?_
  rw [Bool.or_eq_true, not_or, decide_eq_true_eq] at h
  exact Nat.not_lt.mp h.2

/-- What becomes of the oldest output of facet `n` that is due. -/
def outputStep (s : State) (n : Nat) (o : OutIn) (p : PendOut) (rest : List PendOut) : State :=
  if p.withheld then (s.modFacet n fun f => { f with pend := rest }).withhold n p.aperture p.live
  else if s.sourceDue n ∨ (s.formedAt p = s.tick ∧ s.boundaryOpen = true) then s
  else
    match s.spend actAcq (outTransfers n) with
    | none => (s.stall actAcq).modFacet n fun f => { f with pend := { p with formed := some (s.completed p) } :: rest }
    | some s => (s.modFacet n fun f => { f with pend := rest }).formCont n p o

theorem outputFormation_front (hr : s.ready = true) (hp : (s.facet n).pend = p :: rest) (hf : p.formTick ≤ s.tick)
    (hc : ∀ c, p.formed = some c → s.tick ≤ c + 4) : s.outputFormation n o = outputStep s n o p rest := by
  have hn : ¬ (!s.chainsRun) = true := by simp [State.chainsRun, hr]
  have hl : ¬ (s.tick < p.formTick ∨ s.completed p + 4 < s.tick) := not_or.mpr ⟨Nat.not_lt.mpr hf, completed_late hc⟩
  unfold State.outputFormation
  rw [if_neg hn, hp]
  exact if_neg hl

theorem outputStep_formed (hw : p.withheld = false) (hsd : s.sourceDue n = false)
    (hb : s.formedAt p ≠ s.tick ∨ s.boundaryOpen = false) (hu : s.spend actAcq (outTransfers n) = some u) :
    outputStep s n o p rest = (u.modFacet n fun f => { f with pend := rest }).formCont n p o := by
  have h2 : ¬ (s.sourceDue n = true ∨ (s.formedAt p = s.tick ∧ s.boundaryOpen = true)) := by
    rcases hb with hb | hb <;> simp [hsd, hb]
  unfold outputStep
  rw [if_neg (by simp [hw]), if_neg h2, hu]

theorem outputStep_waits (hw : p.withheld = false) (hsd : s.sourceDue n = false)
    (hb : s.formedAt p ≠ s.tick ∨ s.boundaryOpen = false) (hu : s.spend actAcq (outTransfers n) = none) :
    outputStep s n o p rest =
      (s.stall actAcq).modFacet n fun f => { f with pend := { p with formed := some (s.completed p) } :: rest } := by
  have h2 : ¬ (s.sourceDue n = true ∨ (s.formedAt p = s.tick ∧ s.boundaryOpen = true)) := by
    rcases hb with hb | hb <;> simp [hsd, hb]
  unfold outputStep
  rw [if_neg (by simp [hw]), if_neg h2, hu]

/-- The output formed leaves what waits behind it, and becomes the facet's last. -/
theorem outputFormed_facts (hu : s.spend actAcq (outTransfers n) = some u) :
    let t := (u.modFacet n fun f => { f with pend := rest }).formCont n p o
    OutputOf n s t ∧ Published { s.facet n with pend := rest } (t.facet n) p.aperture ∧ (p.live = false → t.budget = u.budget) := by
  have hs : Fed s u := .spend hu
  obtain ⟨h1, h2, h3⟩ := formCont_output (u.modFacet n fun f => { f with pend := rest }) n p o
  rw [facet_modFacet, hs.facet n] at h2
  exact ⟨(hs.outputOf n).trans ((setFacet_outputOf ..).trans h1), h2, h3⟩

/-- With the budget spent, the facet takes what waits and nothing else of it changes. -/
theorem stalled_facts (f : FacetRT → FacetRT) :
    let t := (s.stall actAcq).modFacet n f
    t.facet n = f (s.facet n) ∧ (∀ j, j ≠ n → t.facet j = s.facet j) ∧
      t = { s with budget := t.budget, ctl := t.ctl, facets := t.facets } := by
  have hs : Fed s (s.stall actAcq) := .stall _
  refine ⟨?_, fun j hj => ?_, ?_⟩
  · rw [facet_modFacet, hs.facet n]
  · exact (facet_setFacet_other _ _ hj).trans (hs.facet j)
  · rw [stall_eq]
    rfl

/-- A withheld output leaves the queue and reaches no consumer. -/
theorem withheld_facts (live : Bool) (k : Nat) :
    let t := (s.modFacet n fun f => { f with pend := rest }).withhold n k live
    (t.facet n).pend = rest ∧ (t.facet n).last = (s.facet n).last ∧ ∀ j, j ≠ n → t.facet j = s.facet j := by
  have h : Fed (s.modFacet n fun f => { f with pend := rest }) ((s.modFacet n fun f => { f with pend := rest }).withhold n k live) :=
    .withhold ..
  refine ⟨?_, ?_, fun j hj => (h.facet j).trans (facet_setFacet_other _ _ hj)⟩
  · rw [h.facet n, facet_modFacet]
  · rw [h.facet n, facet_modFacet]

end

/-! ### Tick words (R81 to R83, R434) -/

section
variable {n : Nat} {o : OutIn} {p : TickPend} {rest : List TickPend}

/-- The tick at which a tick word counts as completed. -/
def wordAt (s : State) (p : TickPend) : Nat := p.formed.getD (if p.formTick + 4 < s.tick then s.tick else p.formTick)

/-- What becomes of the oldest tick word of facet `n` that is due. -/
def wordStep (s : State) (n : Nat) (o : OutIn) (p : TickPend) (rest : List TickPend) : State :=
  match s.spend actAcq (outTransfers n) with
  | none => (s.stall actAcq).modFacet n fun f => { f with tickPend := { p with formed := some (wordAt s p) } :: rest }
  | some v => (v.modFacet n fun f => { f with tickPend := rest }).formTickWord n p (wordAt s p) o

theorem outputFormation_word (hr : s.ready = true) (hq : (s.facet n).pend = []) (hp : (s.facet n).tickPend = p :: rest)
    (hf : p.formTick ≤ s.tick) (hc : ∀ c, p.formed = some c → s.tick ≤ c + 4) :
    s.outputFormation n o = wordStep s n o p rest := by
  have hn : ¬ (!s.chainsRun) = true := by simp [State.chainsRun, hr]
  have hw : ¬ wordAt s p + 4 < s.tick := getD_within hc Nat.not_lt.mp
  unfold State.outputFormation
  rw [if_neg hn, hq]
  dsimp only
  unfold State.tickFormation
  rw [hp]
  exact if_neg (not_or.mpr ⟨Nat.not_lt.mpr hf, hw⟩)

theorem wordStep_formed (hu : s.spend actAcq (outTransfers n) = some u) :
    wordStep s n o p rest = (u.modFacet n fun f => { f with tickPend := rest }).formTickWord n p (wordAt s p) o := by
  unfold wordStep
  rw [hu]

theorem wordStep_waits (hu : s.spend actAcq (outTransfers n) = none) :
    wordStep s n o p rest =
      (s.stall actAcq).modFacet n fun f => { f with tickPend := { p with formed := some (wordAt s p) } :: rest } := by
  unfold wordStep
  rw [hu]

theorem wordFormed_facts (c : Nat) (hu : s.spend actAcq (outTransfers n) = some u) :
    let t := (u.modFacet n fun f => { f with tickPend := rest }).formTickWord n p c o
    OutputOf n s t ∧ (t.facet n).tickPend = rest ∧ (t.facet n).last = (s.facet n).last := by
  have hs : Fed s u := .spend hu
  obtain ⟨h1, h2, h3⟩ := formTickWord_output (u.modFacet n fun f => { f with tickPend := rest }) n p c o
  rw [facet_modFacet] at h2 h3
  exact ⟨(hs.outputOf n).trans ((setFacet_outputOf ..).trans h1), h2, h3.trans (congrArg FacetRT.last (hs.facet n) :)⟩

end

/-! ### ACQ_OUTPUT_LOST (R276, R438) -/

/-- A loss of ticks `a` to `a + len - 1` at facet `n`, with cause ACQ, stands among the losses. -/
def LostAt (s : State) (n a len : Nat) : Prop :=
  ∃ l ∈ s.msg.losses, l.first = n ∧ l.last = n ∧ l.cause = 1 ∧ l.start ≤ a ∧ a + len ≤ l.start + l.len

theorem LostAt.fed {n a len : Nat} (h : LostAt s n a len) (hf : Fed s u) : LostAt u n a len := by
  obtain ⟨l, hl, h1, h2, h3, h4, h5⟩ := h
  obtain ⟨r, hr, r1, r2, r3, r4, r5⟩ := hf.losses l hl
  exact ⟨r, hr, r1.trans h1, r2.trans h2, r3.trans h3, r4 ▸ h4, by omega⟩

/-- What is lost in corridor time is recorded, by itself or with the loss that it continues. -/
theorem lose_lost (n a : Nat) {len cons : Nat} (hl : len ≠ 0) (hu : s.unset = false) : LostAt (s.lose n n a len 1 cons) n a len := by
  unfold State.lose
  rw [if_neg (by simp [hl, hu])]
  extract_lets by_ same ext ls
  show ∃ l ∈ ls, _
  dsimp only [ls]
  split
  · next h =>
    obtain ⟨l, hm, hs⟩ := List.any_eq_true.mp h
    have hs' := hs
    simp only [same, Bool.and_eq_true, beq_iff_eq, decide_eq_true_eq] at hs'
    obtain ⟨⟨⟨⟨⟨h1, h2⟩, h3⟩, -⟩, -⟩, h4, -⟩ := hs'
    refine ⟨ext l, List.mem_map.mpr ⟨l, hm, if_pos hs⟩, h1, h2, h3, h4, ?_⟩
    show a + len ≤ l.start + max l.len (a + len - l.start)
    omega
  · exact ⟨_, List.mem_append_right _ (List.mem_singleton.mpr rfl), rfl, rfl, rfl, le_rfl, le_rfl⟩

theorem acqLost_word {n : Nat} {p : TickPend} {rest : List TickPend} (hu : s.unset = false) (hq : (s.facet n).pend = [])
    (hp : (s.facet n).tickPend = p :: rest) (ht : p.formed.getD p.formTick + 4 ≤ s.tick) (hl : p.live = true) :
    ((s.acqLost n).facet n).tickPend = rest ∧ ((s.acqLost n).facet n).tickEdge = true ∧ LostAt (s.acqLost n) n p.aperture 1 := by
  have he : s.acqLost n =
      (s.modFacet n fun f => { f with tickPend := rest, tickEdge := f.tickEdge || p.live }).lose n n p.aperture 1 1 0 := by
    unfold State.acqLost
    rw [hq]
    dsimp only
    unfold State.tickWordLost
    rw [hp]
    exact (if_neg (Nat.not_lt.mpr ht)).trans (if_pos hl)
  rw [he]
  have h1 := (Fed.lose (s := s.modFacet n fun f => { f with tickPend := rest, tickEdge := f.tickEdge || p.live })
    n n p.aperture 1 1 0).facet n
  rw [facet_modFacet] at h1
  refine ⟨by rw [h1], ?_, lose_lost n p.aperture Nat.one_ne_zero hu⟩
  rw [h1, hl]
  exact Bool.or_true _

theorem acqLost_output {n : Nat} {p : PendOut} {rest : List PendOut} (hu : s.unset = false)
    (hp : (s.facet n).pend = p :: rest) (ht : p.formed.getD p.formTick + 4 ≤ s.tick) (hw : p.withheld = false)
    (hl : p.live = true) (hn : 0 < p.nout) :
    ((s.acqLost n).facet n).gapEdge = true ∧ ((s.acqLost n).facet n).pend = rest ∧
      LostAt (s.acqLost n) n (p.aperture + 1 - p.nout) p.nout := by
  have he : s.acqLost n = (((s.modFacet n fun f => { f with pend := rest, gapEdge := f.gapEdge || (p.live && !p.withheld) }).lose
      n n (p.aperture + 1 - p.nout) p.nout 1 0).beadIntake n p.aperture p.nout qnan 0 true false) := by
    unfold State.acqLost
    rw [hp]
    exact (if_neg (Nat.not_lt.mpr ht)).trans ((if_neg (by simp [hw])).trans (if_neg (by simp [hl])))
  rw [he]
  generalize hv : (s.modFacet n fun f => { f with pend := rest, gapEdge := f.gapEdge || (p.live && !p.withheld) }) = v
  have hvu : v.unset = false := hv ▸ hu
  have hvf : v.facet n = { s.facet n with pend := rest, gapEdge := (s.facet n).gapEdge || (p.live && !p.withheld) } := by
    rw [← hv, facet_modFacet]
  have h1 : Fed v (v.lose n n (p.aperture + 1 - p.nout) p.nout 1 0) := .lose ..
  have h2 : Fed (v.lose n n (p.aperture + 1 - p.nout) p.nout 1 0) _ := .beadIntake n p.aperture p.nout qnan 0 true false
  have h3 := ((h1.trans h2).facet n).trans hvf
  refine ⟨?_, by rw [h3], (lose_lost n _ (Nat.pos_iff_ne_zero.mp hn) hvu).fed h2⟩
  rw [h3, hl, hw]
  exact Bool.or_true _

/-! ### Scheduled operation (R81 to R84) -/

/-- The slot of the schedule runs from the first tick of its dwell. -/
theorem slotSwitch_scheduled {n : Nat} (hs : scheduled n (s.blkA n) = true) (ha : (s.facet n).anchor ≤ s.tick) :
    s.slotSwitch n =
      if (slotAt (s.blkA n) ((s.tick - (s.facet n).anchor) % max 1 (cycleLen (s.blkA n)))).2 = 0 then
        s.setFacet n { s.facet n with
          slot := (slotAt (s.blkA n) ((s.tick - (s.facet n).anchor) % max 1 (cycleLen (s.blkA n)))).1
          slotFrom := s.tick }
      else s := by
  unfold State.slotSwitch
  exact if_neg (by simp [hs]; omega)

theorem le_foldl_add {f : Nat → Nat} (l : List Nat) (a : Nat) : a ≤ l.foldl (fun x j => x + f j) a := by
  induction l generalizing a with
  | nil => exact le_rfl
  | cons j l ih => exact (Nat.le_add_right ..).trans (ih (a + f j))

theorem cycleLen_pos {b : Blk} (h : activeSlots b ≠ []) : 0 < cycleLen b := by
  obtain ⟨j, l, hl⟩ := List.exists_cons_of_ne_nil h
  have hj : j ∈ activeSlots b := hl ▸ List.mem_cons_self
  have hz : b.zDwell j ≠ 0 := by simpa using (List.mem_filter.mp hj).2
  unfold cycleLen
  rw [hl, List.foldl_cons, Nat.zero_add]
  exact (Nat.pos_of_ne_zero hz).trans_le (le_foldl_add l _)

theorem activeSlots_of_scheduled {n : Nat} {b : Blk} (h : scheduled n b = true) : activeSlots b ≠ [] := by
  intro he
  simp [scheduled, he] at h

/-- The cycle that ends at the tick is the one whose output is due. -/
theorem cycleDue_ends {n k : Nat} (hr : s.ready = true) (hs : scheduled n (s.blkA n) = true)
    (ht : s.tick = (s.facet n).anchor + k * cycleLen (s.blkA n)) (hk : (s.facet n).cycles + 1 = k)
    (hp : ∀ p ∈ (s.facet n).tickPend, p.aperture < (s.facet n).anchor ∨ s.tick ≤ p.aperture) (hsd : s.sourceDue n = false)
    (hb : s.boundaryOpen = false) : s.cycleDue n = some k := by
  have hc := cycleLen_pos (activeSlots_of_scheduled hs)
  have h1 : max 1 (cycleLen (s.blkA n)) = cycleLen (s.blkA n) := Nat.max_eq_right hc
  have h2 : max ((s.facet n).cycles + 1)
      ((s.tick - 4 - (s.facet n).anchor + (cycleLen (s.blkA n) - 1)) / cycleLen (s.blkA n)) = k := by
    rw [hk]
    refine Nat.max_eq_left (Nat.lt_succ_iff.mp (Nat.div_lt_of_lt_mul ?_))
    rw [ht, Nat.mul_succ, Nat.mul_comm]
    omega
  unfold State.cycleDue
  rw [if_neg (by simp [hs, State.chainsRun, hr])]
  dsimp only
  rw [h1, h2, ← ht]
  refine if_pos ⟨le_rfl, List.all_eq_true.mpr fun p hm => decide_eq_true (hp p hm), by simp [hsd], by simp [hb]⟩

/-- The output of cycle `cyc`, as CYCLE_OUTPUT forms it. -/
def cycleStep (s : State) (n cyc : Nat) (sense : List Rat) : State :=
  let b := s.blkA n
  let f := s.facet n
  let c := cycleLen b
  let start := f.anchor + (cyc - 1) * c
  let ap := start + c / 2
  let mark := (f.cycMarks.find? fun m => m.cyc == cyc).getD { cyc }
  let xs := s.slotResults n cyc mark.settle sense
  let s := s.setFacet n { f with
    acc := Store.keep (fun k => decide (accKey cyc 0 ≤ k)) f.acc, cycles := cyc
    cycMarks := f.cycMarks.filter fun m => decide (cyc < m.cyc) }
  if s.repeated ap then s
  else if mark.withheld then s.withhold n ap s.time.acquiring
  else
    let (m, os) := s.moisture n xs (f.faultIn start (start + c - 1)) ap (start + c)
    let s := s.zResult n ap m xs os
    match xs with
    | [] => s
    | x :: _ =>
      s.publish n { aperture := ap, unit := c, i := sampleWord x.i x.flags, q := sampleWord x.q x.flags, eng := m.eng
                    flags := m.flags, words := [], formTick := start + c, trec := mark.trec
                    tsub := bits m.zstat.toNat 1 1 == 1 } s.time.acquiring

theorem cycleOutput_due {n k : Nat} (x : List Rat) (h : s.cycleDue n = some k) : s.cycleOutput n x = cycleStep s n k x := by
  unfold State.cycleOutput
  rw [h]
  rfl

/-- The facet once cycle `k` has been output: its sums and its marks are closed. -/
structure CycleClosed (k : Nat) (f g : FacetRT) : Prop where
  cycles : g.cycles = k
  acc : g.acc = Store.keep (fun i => decide (accKey k 0 ≤ i)) f.acc
  anchor : g.anchor = f.anchor

theorem slotResults_nonempty {n k : Nat} (b : Bool) (x : List Rat) (h : activeSlots (s.blkA n) ≠ []) :
    s.slotResults n k b x ≠ [] := by
  unfold State.slotResults
  simpa using h

theorem mark_live {l : List CycMark} {k : Nat} (h : ∀ m ∈ l, m.cyc = k → m.withheld = false) :
    ((l.find? fun m => m.cyc == k).getD { cyc := k }).withheld = false := by
  cases hf : l.find? fun m => m.cyc == k with
  | none => rfl
  | some m =>
    have hm := List.find?_some hf
    exact h m (List.mem_of_find?_eq_some hf) (by simpa using hm)

theorem zResult_facet (s : State) (n a : Nat) (m : Moist) (xs : List SlotIn) (os : List SlotOut) :
    ∃ z r, (s.zResult n a m xs os).facet n = { s.facet n with zStat := z, zres := r } := ⟨_, _, facet_modFacet ..⟩

theorem zResult_output (s : State) (n a : Nat) (m : Moist) (xs : List SlotIn) (os : List SlotOut) :
    OutputOf n s (s.zResult n a m xs os) := setFacet_outputOf ..

theorem cycleStep_facts {n k : Nat} (x : List Rat) (hs : activeSlots (s.blkA n) ≠ []) :
    let t := cycleStep s n k x
    let start := (s.facet n).anchor + (k - 1) * cycleLen (s.blkA n)
    CycleClosed k (s.facet n) (t.facet n) ∧ t.fpActive = s.fpActive ∧ t.time = s.time ∧
      (s.time.noRepeat = none → (∀ m ∈ (s.facet n).cycMarks, m.cyc = k → m.withheld = false) →
        (t.facet n).last.valid = true ∧ (t.facet n).last.formTick = start + cycleLen (s.blkA n) ∧
        (t.facet n).last.aperture = start + cycleLen (s.blkA n) / 2) := by
  extract_lets t start
  dsimp only [t]
  unfold cycleStep
  extract_lets b f c start1 ap mark xs v
  have hv : OutputOf n s v := setFacet_outputOf ..
  have hf : CycleClosed k f (v.facet n) := by
    rw [facet_setFacet]
    exact ⟨rfl, rfl, rfl⟩
  clear_value v
  split
  · next hrep =>
    refine ⟨hf, hv.fpActive, hv.time, fun hno => ?_⟩
    have : v.repeated ap = false := by unfold State.repeated; rw [hv.time, hno]
    exact absurd hrep (by simp [this])
  · split
    · next hwh =>
      have hw : Fed v (v.withhold n ap v.time.acquiring) := .withhold ..
      refine ⟨(hw.facet n).symm ▸ hf, hw.fpActive.trans hv.fpActive, hw.time.trans hv.time, fun _ hm => ?_⟩
      exact absurd (hwh.symm.trans (mark_live hm)) (by decide)
    · split
      extract_lets w
      have hne : xs ≠ [] := slotResults_nonempty _ x hs
      clear_value xs
      split
      · exact absurd rfl hne
      · have hw : OutputOf n v w := zResult_output ..
        have hwf : CycleClosed k f (w.facet n) := by
          obtain ⟨z, r, he⟩ := zResult_facet v n ap _ _ _
          refine (congrArg (CycleClosed k f) he).mpr ?_
          exact ⟨hf.cycles, hf.acc, hf.anchor⟩
        obtain ⟨h1, h2, -⟩ := publish_output w n _ w.time.acquiring
        refine ⟨?_, (hv.trans (hw.trans h1)).fpActive, (hv.trans (hw.trans h1)).time, fun _ _ => ?_⟩
        · rw [h2]
          exact ⟨hwf.cycles, hwf.acc, hwf.anchor⟩
        · rw [h2]
          exact ⟨rfl, rfl, rfl⟩

/-! ### The obligation -/

section
variable {n : Fin 512} {o : OutIn}

theorem output_formed {p : PendOut} {rest : List PendOut} (hr : s.ready = true) (hp : (s.facet n.val).pend = p :: rest)
    (hf : p.formTick ≤ s.tick) (hc : ∀ c, p.formed = some c → s.tick ≤ c + 4) (hw : p.withheld = false)
    (hsd : s.sourceDue n.val = false) (hb : s.formedAt p ≠ s.tick ∨ s.boundaryOpen = false)
    (hu : s.spend actAcq (outTransfers n.val) = some u) :
    ∃ t, exec (.outputFormation n o) s = .next t ∧ (t.facet n.val).pend = rest ∧ (t.facet n.val).last.valid = true ∧
      (t.facet n.val).last.aperture = p.aperture ∧
      (t.facet n.val).prev = (s.facet n.val).last ∧ (t.facet n.val).gapEdge = false ∧
      (∀ j, j ≠ n.val → t.facet j = s.facet j) ∧ (p.live = false → t.budget = u.budget) ∧
      t.fpActive = s.fpActive ∧ t.time = s.time ∧ t.ports = s.ports := by
  have he : s.outputFormation n.val o = _ := (outputFormation_front hr hp hf hc).trans (outputStep_formed hw hsd hb hu)
  obtain ⟨h1, h2, h3⟩ := outputFormed_facts (n := n.val) (o := o) (p := p) (rest := rest) hu
  rw [← he] at h1 h2 h3
  exact ⟨_, ok_eq .., h2.pend, h2.valid, h2.aperture, h2.prev, h2.gapEdge, h1.others, h3, h1.fpActive, h1.time, h1.ports⟩

theorem output_waits {p : PendOut} {rest : List PendOut} (hr : s.ready = true) (hp : (s.facet n.val).pend = p :: rest)
    (hf : p.formTick ≤ s.tick) (hc : ∀ c, p.formed = some c → s.tick ≤ c + 4) (hw : p.withheld = false)
    (hsd : s.sourceDue n.val = false) (hb : s.formedAt p ≠ s.tick ∨ s.boundaryOpen = false)
    (hu : s.spend actAcq (outTransfers n.val) = none) :
    ∃ t, exec (.outputFormation n o) s = .next t ∧
      (t.facet n.val).pend = { p with formed := some (s.completed p) } :: rest ∧
      (t.facet n.val).last = (s.facet n.val).last ∧ (∀ j, j ≠ n.val → t.facet j = s.facet j) ∧
      t = { s with budget := t.budget, ctl := t.ctl, facets := t.facets } := by
  have he : s.outputFormation n.val o = _ := (outputFormation_front hr hp hf hc).trans (outputStep_waits hw hsd hb hu)
  obtain ⟨h1, h2, h3⟩ := stalled_facts (s := s) (n := n.val)
    fun f => { f with pend := { p with formed := some (s.completed p) } :: rest }
  rw [← he] at h1 h2 h3
  exact ⟨_, ok_next s _ (congrArg State.pending h3 :) (congrArg State.life h3 :), by rw [h1], by rw [h1], h2, h3⟩

theorem word_formed {p : TickPend} {rest : List TickPend} (hr : s.ready = true) (hq : (s.facet n.val).pend = [])
    (hp : (s.facet n.val).tickPend = p :: rest) (hf : p.formTick ≤ s.tick) (hc : ∀ c, p.formed = some c → s.tick ≤ c + 4)
    (hu : s.spend actAcq (outTransfers n.val) = some u) :
    ∃ t, exec (.outputFormation n o) s = .next t ∧ (t.facet n.val).tickPend = rest ∧
      (t.facet n.val).last = (s.facet n.val).last ∧ (∀ j, j ≠ n.val → t.facet j = s.facet j) ∧
      t.fpActive = s.fpActive ∧ t.time = s.time ∧ t.ports = s.ports := by
  have he : s.outputFormation n.val o = _ := (outputFormation_word hr hq hp hf hc).trans (wordStep_formed hu)
  obtain ⟨h1, h2, h3⟩ := wordFormed_facts (n := n.val) (o := o) (p := p) (rest := rest) (wordAt s p) hu
  rw [← he] at h1 h2 h3
  exact ⟨_, ok_eq .., h2, h3, h1.others, h1.fpActive, h1.time, h1.ports⟩

theorem word_waits {p : TickPend} {rest : List TickPend} (hr : s.ready = true) (hq : (s.facet n.val).pend = [])
    (hp : (s.facet n.val).tickPend = p :: rest) (hf : p.formTick ≤ s.tick) (hc : ∀ c, p.formed = some c → s.tick ≤ c + 4)
    (hu : s.spend actAcq (outTransfers n.val) = none) :
    ∃ t, exec (.outputFormation n o) s = .next t ∧ (∃ q, (t.facet n.val).tickPend = q :: rest ∧ q.aperture = p.aperture) ∧
      t = { s with budget := t.budget, ctl := t.ctl, facets := t.facets } := by
  have he : s.outputFormation n.val o = _ := (outputFormation_word hr hq hp hf hc).trans (wordStep_waits hu)
  obtain ⟨h1, -, h3⟩ := stalled_facts (s := s) (n := n.val)
    fun f => { f with tickPend := { p with formed := some (wordAt s p) } :: rest }
  rw [← he] at h1 h3
  exact ⟨_, ok_next s _ (congrArg State.pending h3 :) (congrArg State.life h3 :), ⟨{ p with formed := some (wordAt s p) }, by rw [h1], rfl⟩, h3⟩

theorem output_withheld {p : PendOut} {rest : List PendOut} (hr : s.ready = true) (hp : (s.facet n.val).pend = p :: rest)
    (hf : p.formTick ≤ s.tick) (hc : ∀ c, p.formed = some c → s.tick ≤ c + 4) (hw : p.withheld = true) :
    ∃ t, exec (.outputFormation n o) s = .next t ∧ (t.facet n.val).pend = rest ∧
      (t.facet n.val).last = (s.facet n.val).last ∧ ∀ j, j ≠ n.val → t.facet j = s.facet j := by
  have he : s.outputFormation n.val o = _ := (outputFormation_front hr hp hf hc).trans (if_pos hw)
  have h := withheld_facts (s := s) (n := n.val) (rest := rest) p.live p.aperture
  dsimp only at h
  rw [← he] at h
  exact ⟨_, ok_eq .., h⟩

end

/-- Settles O23: an output formed changes its own facet alone (`formCont_output`), its consumers keep every facet and every loss
(`Fed.beadIntake`), and the cycle that ends at the tick is the one that is due (`cycleDue_ends`). -/
theorem outputsFormWaitOrAreLost : Obligations.OutputsFormWaitOrAreLost := by
  unfold Obligations.OutputsFormWaitOrAreLost
  refine ⟨fun n o s p rest hr hp hf hc hw hsd hb => ⟨fun u hu => output_formed hr hp hf hc hw hsd hb hu,
      output_waits hr hp hf hc hw hsd hb⟩,
    ⟨fun n o s p rest hr hq hp hf hc => ⟨fun u hu => word_formed hr hq hp hf hc hu, word_waits hr hq hp hf hc⟩,
      fun n o s p rest => output_withheld⟩,
    ⟨fun n s p rest hr hu hq hp ht hl => ?_, fun n s p rest hr hu hp ht hw hl hn => ?_⟩,
    fun n s hr hs ha => ?_, fun n x s k hr hs ht hk hp hsd hb => ?_⟩
  · have h := acqLost_word hu hq hp ht hl
    rw [← live_ready (f := fun t => t.acqLost n.val) s hr] at h
    exact ⟨_, ok_eq .., h⟩
  · obtain ⟨h1, h2, l, hl, l1, l2, l3, l4, l5⟩ := acqLost_output hu hp ht hw hl hn
    rw [← live_ready (f := fun t => t.acqLost n.val) s hr] at h1 h2 hl
    exact ⟨_, ok_eq .., h1, h2, l, hl, l1, l2, l3, l4, by omega⟩
  · have h := (live_ready (f := fun t => t.slotSwitch n.val) s hr).trans (slotSwitch_scheduled hs ha)
    refine Eq.trans (ok_next s _ ?_ ?_) (congrArg _ h)
    · rw [h]; split <;> rfl
    · rw [h]; split <;> rfl
  · have he := (live_ready (f := fun t => t.cycleOutput n.val x) s hr).trans (cycleOutput_due x (cycleDue_ends hr hs ht hk hp hsd hb))
    obtain ⟨⟨h1, h2, h3⟩, h4, h5, h6⟩ := cycleStep_facts (s := s) (n := n.val) (k := k) x (activeSlots_of_scheduled hs)
    rw [← he] at h1 h2 h3 h4 h5 h6
    refine ⟨_, ok_eq .., h1, h2, h3, h4, h5, fun hno hm => ?_⟩
    obtain ⟨g1, g2, g3⟩ := h6 hno hm
    refine ⟨g1, g2.trans ?_, g3⟩
    rw [ht, Nat.add_assoc, ← Nat.succ_mul, ← hk]
    rfl

end Sys2Proof.Proofs
end
